-- ==== Sys2Proof/Word.lean ====
section
/-!
DEFINITION. The 18-bit word of the device (a 2-bit tag and a 16-bit payload), bytes, and the sparse table that holds
every kind of keyed storage.
-/
namespace Sys2Proof

/-- One byte. -/
abbrev Byte := BitVec 8

/-- A string of bytes, the byte at the lowest address first. -/
abbrev Bytes := List (BitVec 8)

/-- The tag of a word, in the order of its two bits (00_scope.md, table before R3). -/
inductive Tag where
  | data
  | code
  | cap
  | secret
  deriving DecidableEq, Repr

/-- The native word: a 2-bit tag followed by a 16-bit payload (00_scope.md, before R3). -/
structure Word where
  tag : Tag
  val : BitVec 16
  deriving DecidableEq, Repr

/-- A sparse table: key and value pairs in one canonical form, keys strictly rising and no pair equal to what an
unlisted key reads as. The operations over it stand in Machine/Ops.lean. -/
abbrev Tbl (α : Type) := List (Nat × α)

end Sys2Proof
end

