-- ==== Sys2Proof/Syntax.lean ====
section
/-!
DEFINITION. The commands of the KT6512: one constructor of `Instr` for each row of spec/opcode_table.json, with the
operands that say what the outside world (or the moment in the device) supplies with it. The rows give no bits, so an
operand is written with the type that says what it is.
-/
namespace Sys2Proof

/-- A PCIe port: the host port (master 577) or the auxiliary port (master 578); R22, R36. -/
inductive PciePort where
  | host
  | aux
  deriving DecidableEq, Repr

/-- A pail of the Parlour, 0-63 (R39). -/
abbrev Pail := Fin 64
/-- A logical vat number, 0-33 (R26). -/
abbrev VatId := Fin 34
/-- A cell of a vat, 0-15 (R16). -/
abbrev CellIx := Fin 16
/-- A core by its master identifier: cells 0-511 and the supervisor, 512 (R36). -/
abbrev Core := Fin 513
/-- A 10-bit master identifier (R36). -/
abbrev Master := BitVec 10
/-- A mesh router, y x 6 + x (R33). -/
abbrev Router := Fin 36
/-- A DMA channel (R33). -/
abbrev DmaCh := Fin 64
/-- A flash bank (R16). -/
abbrev Bank := Fin 8
/-- A flash-guard port (R33). -/
abbrev GuardPort := Fin 32
/-- A device port (R33). -/
abbrev DevPort := Fin 48
/-- A control port (R33). -/
abbrev CtlPort := Fin 32
/-- A card slot (R33). -/
abbrev Slot := Fin 16

/-- The resource whose arbiter grant a requester holds too long (R210). -/
inductive ArbUnit where
  | memory
  | churn
  | mac
  deriving DecidableEq, Repr

/-- The health test of R282 that failed. -/
inductive HealthTest where
  | repetition
  | proportion
  deriving DecidableEq, Repr

/-- How a page load or the pulses and verify of a flash command end: as intended, not readable or not verified, or with a
link transfer that failed twice (R404, R411, R414). -/
inductive FlashOutcome where
  | done
  | failed
  | link
  deriving DecidableEq, Repr

/-- What a BOOT finds of a staging slot: whether every page of it can be read, and whether its copy into banks 0 and 1 verifies
(R162). -/
structure SlotChecks where
  readable : Bool
  copied : Bool
  deriving DecidableEq, Repr

/-- What the outside decides of a BOOT: whether the self-tests of step 3 pass (R158), and what is found of the slot that step 4
judges (R162) and of the one that step 5 restores from (R163). -/
structure BootChecks where
  selfTest : Bool
  install : SlotChecks
  restore : SlotChecks
  deriving DecidableEq, Repr

/-- A pail whose command is served, and whether the two runs of its MAC work differ (R273). -/
structure CheckedPail where
  pail : Pail
  mismatch : Bool
  deriving DecidableEq, Repr

/-- What the compares of a command that uses both engines find: the runs agree, those of the churn differ (R241, R242), or those of
the MAC unit do (R273). -/
inductive Compare where
  | agree
  | churn
  | mac
  deriving DecidableEq, Repr

/-- What reaches the JTAG port (R67, R556). -/
inductive JtagOp where
  | idcode
  | bypass
  | samplePreload
  | extest (pins : Nat)
  /-- A debug read of one word. -/
  | debugRead (waddr : BitVec 32)
  /-- A debug write of one word. -/
  | debugWrite (waddr : BitVec 32) (word : Word)
  deriving DecidableEq, Repr

/-- A host write to a port's configuration space or MSI-X table (R77, R79, R94, R560). -/
inductive CfgOp where
  | busMaster (v : Bool)
  | msixEnable (v : Bool)
  | functionMask (v : Bool)
  | vectorMask (vector : Fin 65) (v : Bool)
  | bar (second : Bool) (addr : BitVec 64)
  | aspmL1 (v : Bool)
  | vectorMessage (vector : Fin 65) (addr : BitVec 64) (data : BitVec 32)
  deriving DecidableEq, Repr

/-- The operands of a Gen2 Select (R476). -/
structure SelectArgs where
  target  : Fin 8
  action  : Fin 8
  bank    : Fin 4
  pointer : Nat
  mask    : List Bool
  truncate : Bool
  deriving DecidableEq, Repr

/-- The operands of a Gen2 Query (R476). -/
structure QueryArgs where
  sel     : Fin 4
  session : Fin 4
  target  : Bool
  q       : Fin 16
  deriving DecidableEq, Repr

/-- The commands. Each constructor cites the rule its row of the table cites. -/
inductive Instr where
  /-- R528: Once every main rail has been above its release level for 2 ms with SYS_RESET_N high, the power-on reset runs and main power is present. -/
  | powerOnRelease
  /-- R50: A filtered low pulse on SYS_RESET_N resets the logic, scrubs the memories and leads to BOOT. -/
  | pinReset (lowNs : Nat)
  /-- R53: A write of 0xC1A5 to PWR_RESET starts a firmware reset to BOOT; later writes are ignored until it takes effect. -/
  | firmwareReset
  /-- R53: A write of 0xC1A6 to PWR_RESET starts a firmware reset that ends BOOT in RECOVERY with reason OWNER_REQUEST. -/
  | recoveryRequestReset
  /-- R96: PERST0_N or PERST1_N resets that port's link and configuration; on the ring port RING_EN is cleared and held entries are discarded. -/
  | pcieFundamentalReset (port : PciePort)
  /-- R96: An FLR of a port has the effect of a PCIe fundamental reset of that port. -/
  | functionLevelReset (port : PciePort)
  /-- R550: The end of a fundamental reset or FLR of either port raises event source 611. -/
  | pcieResetEnd (port : PciePort)
  /-- R51: Scrubbing of every memory finishes after a reset and the boot ROM begins BOOT step 1. -/
  | scrubComplete (selfTest : Bool) (install restore : SlotChecks)
  /-- R158: Once vats are loaded and platform measurement is done, firmware builds the Herd Book entry and submits its signing. -/
  | entryBuild
  /-- R451: A release-order step's wait for time or for a STAT level ends or times out, and the next step of the release order is carried out. -/
  | releaseWaitEnd (met : Bool)
  /-- R530: The brown-out detector asserts or a main rail falls below its hold level, blocking or ending programming pulses and holding glitch detections. -/
  | dipBegin (rail : Fin 9)
  /-- R531: A dip ends within 20 µs; held supply-glitch detections are judged and fire their sources. -/
  | dipEnd
  /-- R530: A dip still in progress 20 µs after it began means main power is lost; the main domain resets and the device enters VIGIL, FIELD or the unpowered state. -/
  | mainPowerLoss
  /-- R532: VBAT falls below 2.00 V while main power is absent, losing the battery domain with its key share and latch. -/
  | vbatLoss
  /-- R562: An OTP programming pulse of 200 µs ends with its read-back, and an unprogrammed bit is pulsed again. -/
  | otpPulseEnd (took : Bool)
  /-- R550: An OTP_ program operation ends and raises event source 616. -/
  | otpProgramEnd
  /-- R82: A memory write TLP to BAR2 is applied whole to the pail area, merging bytes into DATA words or being discarded as a bus fault for a response area. -/
  | hostPailWrite (port : PciePort) (off : Nat) (bytes : Bytes)
  /-- R79: An access of the wrong size or alignment to BAR0 registers is completed and ignored and recorded as a bus fault. -/
  | bar0BadAccess (port : PciePort) (off : Nat) (isWrite : Bool)
  /-- R85: A write to PRL_DOORBELL(p) assigns a sequence number or overflows, and either completes at once with BUSY or BAD_LENGTH or raises the pail's event. -/
  | doorbell (port : PciePort) (p : Pail) (value : BitVec 32)
  /-- R86: Firmware takes a pail's event, copies the request, clears REQ_HELD and checks it in the order of R86 before carrying it out. -/
  | pailEventTake (p : Pail)
  /-- R88: A ready completion whose earlier sequence numbers are delivered and whose pail has RESP_VALID 0 is copied into the response area and queues a ring entry. -/
  | responseDelivery (p : Pail)
  /-- R90: When the ring has space and bus mastering is enabled, the device writes a held or new ring entry in two TLPs and signals the pail's MSI-X vector. -/
  | ringEntryWrite
  /-- R92: A ring write ending in a link error sets RING_ERR, clears RING_EN, discards held entries and makes a fault record. -/
  | ringWriteError
  /-- R87: Writing 1 to RESP_DONE in PRL_PAIL_ACK releases the pail's response area and raises event 609. -/
  | respDone (p : Pail)
  /-- R85: Writing 1 to CLR_OVERFLOW in PRL_PAIL_ACK clears the pail's DB_OVERFLOW bit. -/
  | clrOverflow (p : Pail)
  /-- R92: Writing RING_EN enables the ring, resetting head, tail and INDEX, or disables it, discarding held entries. -/
  | ringEn (value : Bool)
  /-- R95: Setting STATUS_INT_EN while any PRL_EVENT bit is 1 signals vector 64 on both ports. -/
  | statusIntEn (value : Bool)
  /-- R90: Host software writes the new tail, freeing ring space for held entries and raising event 610 while entries are held. -/
  | prlRingTail (value : BitVec 32)
  /-- R560: Unmasking a vector or function with its pending bit set sends one MSI-X message. -/
  | msixUnmask (port : PciePort) (vector : Option (Fin 65))
  /-- R550: A BMC write to the I3C sideband target completes and raises event source 614. -/
  | bmcSidebandWrite
  /-- R550: A byte received on the service UART raises event source 615. -/
  | uartReceive (byte : Byte)
  /-- R112: Returns the device information body and issues a new challenge from the central queue. -/
  | devInfo (p : Pail)
  /-- R112: Returns serial, boot number, Herd Book head hash, configuration digest and nonce signed by the identity key. -/
  | devAttest (p : Pail) (mismatch : Bool)
  /-- R113: Completes and schedules a firmware reset, to BOOT or with recovery request, 1 ms after delivery. -/
  | devReset (p : Pail)
  /-- R113: 1 ms after the DEV.RESET completion is delivered, the firmware reset is performed. -/
  | devResetDelay
  /-- R114: Raises read-out protection, or starts a lowering from Closed to Open by setting LOWER_PENDING. -/
  | devSetProtection (p : Pail)
  /-- R70: After the lowering completion is delivered, the share is cleared, banks 0–7 are erased, the Open record written and a firmware reset performed. -/
  | lowering
  /-- R115: Clears the share, sets the spend latch and programs the SPENT fuse before completing. -/
  | devSpend (p : Pail)
  /-- R73: After delivery of DEV.SPEND or on a SPEND response, the remaining steps of R73 erase the device and reset it into SPENT. -/
  | decommissioning
  /-- R63: Generates the Herd Book key, draws a share, sets protection Closed, programs an owner slot, completes and performs a firmware reset. -/
  | ownClaim (p : Pail) (genOk : Bool)
  /-- R65: Passes the device to a new owner, destroying keys and resetting bank 3 except kept records, then programs the next owner slot and resets. -/
  | ownTransfer (p : Pail) (genOk : Bool)
  /-- R62: Generates a new Herd Book key and battery share, empties the key slots and performs a firmware reset. -/
  | ownRekey (p : Pail) (genOk : Bool)
  /-- R120: Creates a partition with its quotas and returns its key encrypted under the owner key. -/
  | partCreate (p : Pail)
  /-- R121: Empties a partition's key slots, releases its counters and discards its annotations. -/
  | partDelete (p : Pail)
  /-- R120: Sets a partition's quotas, refusing totals that would be exceeded, and returns the PART.STATUS body. -/
  | partSetQuota (p : Pail)
  /-- R121: Returns a partition's credential generation, quota use and OVER bits. -/
  | partStatus (p : Pail)
  /-- R120: Generates a new partition key, increments CRED_GEN and returns the key. -/
  | partNewCredential (p : Pail)
  /-- R124: Generates a key into a slot, completing with PENDING for RSA types while generation continues in its own ticket. -/
  | keyGenerate (p : Pail) (compare : Compare)
  /-- R125: A generation ticket that has not reached DONE 10 s after the slot was taken is cancelled and its slot set FAILED. -/
  | keyGenerationTimeout (slot : BitVec 16)
  /-- R125: Imports a wrapped key block or a public key into a slot. -/
  | keyImport (p : CheckedPail)
  /-- R125: Returns an exportable key wrapped under a WRAP key. -/
  | keyExport (p : CheckedPail)
  /-- R126: Empties a key slot, abandoning a generation in progress. -/
  | keyDelete (p : Pail)
  /-- R125: Returns a slot's state, type, partition, usage, counter and KCV. -/
  | keyInfo (p : Pail)
  /-- R125: Returns the public modulus or point of a key slot. -/
  | keyPublic (p : Pail)
  /-- R127: Allocates the lowest-numbered free hardware counter and returns its value. -/
  | ctrAllocate (p : Pail)
  /-- R127: Returns the value of a counter. -/
  | ctrRead (p : Pail)
  /-- R128: Increments a counter by AMOUNT, refusing with COUNTER_EXHAUSTED past 2^48 − 1. -/
  | ctrIncrement (p : Pail)
  /-- R127: Releases a counter not bound to any key, keeping its value. -/
  | ctrRelease (p : Pail)
  /-- R129: Signs a message or digest with a private key slot, releasing the signature only after repeat-and-compare. -/
  | sigSign (p : Pail) (mismatch : Bool)
  /-- R130: Verifies a signature under a slot or inline key and returns VALID. -/
  | sigVerify (p : Pail)
  /-- R132: Agrees a shared secret with a peer point and stores a derived output key in a slot. -/
  | kaEcdh (p : Pail) (compare : Compare)
  /-- R133: Checks and loads a curve into every active churn and stores it in bank 3. -/
  | curveLoad (p : Pail)
  /-- R135: Computes a keyed check value over inline or DMA data. -/
  | macGenerate (p : Pail) (mismatch : Bool)
  /-- R135: Computes a check value and compares it in constant time with the expected value. -/
  | macVerify (p : Pail) (mismatch : Bool)
  /-- R136: Decrypts a PIN block under one key and re-encrypts it in another format under another. -/
  | pinTranslate (p : CheckedPail)
  /-- R137: Re-wraps a key blob from one key-encryption key and format to another without storing it. -/
  | keyTranslate (p : CheckedPail)
  /-- R138: Returns random bytes read from the central queue above SOFT_FLOOR. -/
  | rngGet (p : Pail)
  /-- R139: Stores a new custodian policy and ends every open session. -/
  | cusPolicy (p : Pail)
  /-- R139: Opens a quorum session for authorisation or import and returns its challenge and ephemeral point. -/
  | cusBegin (p : Pail)
  /-- R140: Exchanges with a custodian card and counts its contribution, issuing a ticket or storing a key when M is reached. -/
  | cusCard (p : Pail) (mismatch : Bool)
  /-- R140: Returns a session's purpose, contributions and remaining time. -/
  | cusStatus (p : Pail)
  /-- R139: Ends a session, discarding components and releasing any held slot. -/
  | cusEnd (p : Pail)
  /-- R139: A custodian session ends 30 minutes after its CUS.BEGIN. -/
  | sessionTimeout (session : BitVec 32)
  /-- R141: Returns a configuration record. -/
  | cfgGet (p : Pail)
  /-- R141: Checks and stores a configuration record in bank 3, applying it at completion or at the next BOOT. -/
  | cfgSet (p : Pail)
  /-- R142: Returns the factory, offset, bound and effective values of a calibration item. -/
  | calGet (p : Pail)
  /-- R142: Stores a calibration offset within its bound and applies it. -/
  | calSet (p : Pail)
  /-- R143: Returns a logical vat's state, position, measured frequency, ticket counts and faults. -/
  | vatStatus (p : Pail) (khz : BitVec 32)
  /-- R212: Clears ADMIT, drains unpinned tickets to other vats and waits for the vat to drain. -/
  | vatQuiesce (p : Pail)
  /-- R212: DRAINED goes to 1; firmware clears CELL_RUN and the vat is QUIESCED. -/
  | drained (vat : VatId)
  /-- R144: A vat still QUIESCING 50 ms after VAT.QUIESCE makes the command complete with PARTIAL. -/
  | quiesceTimeout (vat : VatId)
  /-- R215: Loads a verified image into a QUIESCED vat and compares the load digest. -/
  | vatReload (p : Pail)
  /-- R214: Holds the boundary, stops the clock, writes a new trim code, restarts the clock and measures the frequency. -/
  | vatTrim (p : Pail)
  /-- R214: The 100 µs frequency measurement ends; the boundary reopens or the previous trim is restored. -/
  | trimMeasurementEnd (vat : VatId) (khz : BitVec 32)
  /-- R214: Transfers waiting at a vat boundary in HOLD for more than 2 ms complete as bus faults. -/
  | boundaryHoldTimeout (vat : VatId)
  /-- R216: Binds a spare to the logical vat, powering down and retiring the old position. -/
  | vatRetire (p : Pail) (katOk : Bool)
  /-- R143: Returns a QUIESCED vat to ACTIVE. -/
  | vatResume (p : Pail)
  /-- R147: Returns the first-error record, its flags, the reject counts and the total. -/
  | fltRead (p : Pail)
  /-- R147: Releases the first-error record whose 48-bit time-stamp matches. -/
  | fltAck (p : Pail)
  /-- R147: Returns state, response, evidence and disagreement counts for each tamper source. -/
  | tmpStatus (p : Pail)
  /-- R178: Returns the head boot number, its state, hash and ring occupancy. -/
  | hbHead (p : Pail)
  /-- R179: Returns the entry of a boot number from the ring or held in SRAM. -/
  | hbRead (p : Pail)
  /-- R180: Acknowledges persisted entries up to UP_TO and writes a held entry if its slot is freed. -/
  | hbAck (p : Pail) (first second : BitVec 4)
  /-- R181: Adds a pending annotation for the partition's next entry. -/
  | hbAnnotate (p : Pail)
  /-- R182: Returns the Herd Book public key, its certificate, KEY_FROM and the identity key record. -/
  | hbPubkey (p : Pail)
  /-- R154: Erases a staging slot, writes RECEIVING and opens an update session. -/
  | updBegin (p : Pail)
  /-- R155: Programs one page of the staging slot from the block data. -/
  | updBlock (p : Pail) (code : BitVec 4)
  /-- R156: Returns a staging slot's state, outcome, SVN, lengths and digest. -/
  | updStatus (p : Pail)
  /-- R156: Hashes the received package, writes STAGED, ends the session and returns the digest. -/
  | updCommit (p : Pail) (readable : Bool)
  /-- R157: Ends any session on a slot and erases it to EMPTY. -/
  | updAbort (p : Pail)
  /-- R168: At least every 10 s in SERVICE firmware writes its fault and disagreement tally to bank 3. -/
  | tallyWrite
  /-- R491: When time base bits [47:32] change in SERVICE or RECOVERY, firmware writes one TEMP_LOG entry. -/
  | tempLogEntry (hottest : BitVec 16) (coldest : BitVec 16)
  /-- R195: A write to VAT_DQ_PUSH puts a ticket at the head of a cell's deque and repeats TAKE for waiting cells. -/
  | push (vat : VatId) (value : BitVec 16)
  /-- R195: A write to VAT_DQ_DRAIN removes the oldest unpinned ticket of a deque into VAT_DQ_RESULT. -/
  | drain (vat : VatId) (value : BitVec 16)
  /-- R195: A read of VAT_CQ_POP returns and removes the oldest completion of the vat's completion queue. -/
  | vatCqPop (vat : VatId)
  /-- R201: When every running cell of an admitting vat waits, the vat sends a skim request to its neighbours in turn. -/
  | skimRequest (vat : VatId)
  /-- R202: A neighbour receiving a skim request gives its oldest unpinned ticket from its fullest deque, or replies empty. -/
  | skimServe (vat : VatId)
  /-- R202: A skim reply arrives; a copied ticket goes to the longest-waiting cell, or the next neighbour is tried. -/
  | skimReply (vat : VatId)
  /-- R203: After a dry round the vat's BACKOFF wait ends and it may send again. -/
  | skimBackoffEnd (vat : VatId)
  /-- R210: A requester holding one arbiter grant past HOLD_LIMIT × 4096 ic sets VAT_WDOG_UNIT and raises WATCHDOG. -/
  | holdLimitBite (vat : VatId) (unit : ArbUnit) (cell : CellIx)
  /-- R210: A cell running one ticket past TICKET_LIMIT × 65,536 ic sets its VAT_WDOG_CELL bit and raises WATCHDOG. -/
  | ticketLimitBite (vat : VatId) (cell : CellIx)
  /-- R211: Firmware clears a halted cell's CELL_RUN, completes its ticket with INTERNAL and redistributes its deque. -/
  | cellHaltHandling (vat : VatId) (cell : CellIx)
  /-- R187: A write of GO to VAT_SWAP exchanges the physical positions of two logical vats, or is refused. -/
  | vatSwap (value : BitVec 16)
  /-- R188: A swap takes effect at every egress checker and BUSY clears. -/
  | swapComplete
  /-- R191: A write of GO to VAT_LOAD_CTRL starts the loader on a vat, or sets ERR. -/
  | vatLoad (vat : VatId) (value : BitVec 16)
  /-- R191: The loader finishes all 16 cells, scrubs shared memory, presents the digest and sets DONE. -/
  | loadComplete (vat : VatId)
  /-- R186: A write to VAT_CTRL sets ADMIT, BOUNDARY, CLK_RUN and POWER subject to their conditions. -/
  | vatCtrlWrite (vat : VatId) (value : BitVec 16)
  /-- R325: A write to VAT_CELL_RUN stops cells at their next stopping point or lets them resume. -/
  | vatCellRun (vat : VatId) (value : BitVec 16)
  /-- R247: A churn job reaches a yield point; the arbiter grants a waiting context and cancelled jobs are abandoned. -/
  | yieldPoint (vat : VatId)
  /-- R227: A churn job's last pass and compare complete and results, CYCLES, DETAIL and STATUS are written, or the result is withheld. -/
  | churnJobEnd (vat : VatId) (mismatch : Bool)
  /-- R249: A write to CHN_CANCEL abandons the named cells' churn jobs at once or at their next yield point. -/
  | chnCancel (vat : VatId) (value : BitVec 16)
  /-- R253: A write of GO to CHN_KAT with no jobs starts the churn's known-answer tests. -/
  | chnKat (vat : VatId) (value : BitVec 16)
  /-- R253: The churn's known-answer tests end, setting PASS or FAIL. -/
  | churnKatEnd (vat : VatId) (pass : Bool)
  /-- R209: A MAC job processes 1 KiB of data and the MAC arbiter grants the datapath again. -/
  | macGrantPoint (vat : VatId)
  /-- R266: A MAC job's last block is processed and OUT, CTR_VALUE, DETAIL and STATUS are written. -/
  | macJobEnd (vat : VatId)
  /-- R276: A write to MAC_CANCEL abandons the named cells' MAC jobs at the next grant point. -/
  | macCancel (vat : VatId) (value : BitVec 16)
  /-- R278: A write of GO to MAC_KAT with no jobs starts the MAC unit's known-answer tests. -/
  | macKat (vat : VatId) (value : BitVec 16)
  /-- R278: The MAC unit's known-answer tests end, setting PASS or FAIL. -/
  | macKatEnd (vat : VatId) (pass : Bool)
  /-- R274: CMD READ of MAC_CTR_CMD reads the selected counter into MAC_CTR_VAL. -/
  | macCtrRead (vat : VatId)
  /-- R274: CMD INCREMENT of MAC_CTR_CMD increments the selected counter by the argument or refuses it. -/
  | macCtrIncrement (vat : VatId)
  /-- R275: CMD RAISE of MAC_CTR_CMD sets the selected counter to the larger of its value and the argument. -/
  | raise (vat : VatId)
  /-- R283: An adaptive-proportion window of 1024 raw bits completes without failure and the pending bits are released to the vat queue. -/
  | aptWindowComplete (vat : VatId) (rctRun : BitVec 6) (aptCount : BitVec 10)
  /-- R285: A repetition or proportion count reaches its cutoff; the source discards its pending bits, stops and raises tamper source 556. -/
  | healthTestFailure (vat : VatId) (test : HealthTest)
  /-- R284: A source's start-up test of 20,480 ic ends and the source runs. -/
  | startupTestEnd (vat : VatId)
  /-- R290: The central queue, having room, takes a 256-bit unit from the next vat queue above RESERVE over the mesh. -/
  | centralQueueRefill
  /-- R289: An internal draw waiting for bits is served whole from the vat or central queue, or ends with RNG_STOPPED. -/
  | internalDraw (vat : VatId)
  /-- R291: A read of RNG_CQ_DATA removes 16 bits from the central queue, or returns 0 and sets UNDERRUN at SOFT_FLOOR. -/
  | rngCqData
  /-- R308: Adds two registers and writes all flags. -/
  | add (core : Core)
  /-- R308: Adds two registers and the carry. -/
  | adc (core : Core)
  /-- R308: Subtracts two registers. -/
  | sub (core : Core)
  /-- R308: Subtracts with borrow. -/
  | sbc (core : Core)
  /-- R308: Bitwise AND of two registers. -/
  | and (core : Core)
  /-- R308: Bitwise OR of two registers. -/
  | or (core : Core)
  /-- R308: Bitwise XOR of two registers. -/
  | xor (core : Core)
  /-- R308: AND with the complement of the second register. -/
  | andn (core : Core)
  /-- R308: Shifts left by a register amount. -/
  | shl (core : Core)
  /-- R308: Logical right shift by a register amount. -/
  | shr (core : Core)
  /-- R308: Arithmetic right shift by a register amount. -/
  | sar (core : Core)
  /-- R308: Rotates left by a register amount. -/
  | rol (core : Core)
  /-- R308: Low 16 bits of an unsigned product. -/
  | mul (core : Core)
  /-- R308: High 16 bits of an unsigned product. -/
  | mulh (core : Core)
  /-- R308: Selects one of two registers on a condition in constant time. -/
  | csel (core : Core)
  /-- R308: Copies a register with its tag. -/
  | mov (core : Core)
  /-- R308: Adds an immediate. -/
  | addi (core : Core)
  /-- R308: ANDs an immediate. -/
  | andi (core : Core)
  /-- R308: ORs an immediate. -/
  | ori (core : Core)
  /-- R308: XORs an immediate. -/
  | xori (core : Core)
  /-- R308: Shifts left by an immediate. -/
  | shli (core : Core)
  /-- R308: Logical right shift by an immediate. -/
  | shri (core : Core)
  /-- R308: Arithmetic right shift by an immediate. -/
  | sari (core : Core)
  /-- R308: Rotates left by an immediate. -/
  | roli (core : Core)
  /-- R308: Loads an immediate as DATA. -/
  | movi (core : Core)
  /-- R309: Sets flags from a subtraction of two DATA registers. -/
  | cmp (core : Core)
  /-- R309: Sets flags from an AND of two DATA registers. -/
  | tst (core : Core)
  /-- R309: Sets flags from a subtraction of an immediate. -/
  | cmpi (core : Core)
  /-- R309: Sets flags from an AND with an immediate. -/
  | tsti (core : Core)
  /-- R311: Loads a word through a capability at an immediate offset. -/
  | ld (core : Core)
  /-- R311: Stores a word through a capability at an immediate offset, posted where enabled. -/
  | st (core : Core)
  /-- R311: Loads a word at an indexed offset. -/
  | ldx (core : Core)
  /-- R311: Stores a word at an indexed offset. -/
  | stx (core : Core)
  /-- R313: Loads a capability of four words into a c register. -/
  | cld (core : Core)
  /-- R313: Stores a c register's four fragments with their tags. -/
  | cst (core : Core)
  /-- R313: Copies a capability register. -/
  | cmov (core : Core)
  /-- R313: Narrows a capability's base and length. -/
  | cbound (core : Core)
  /-- R313: Removes permissions from a capability. -/
  | cperm (core : Core)
  /-- R313: Advances a capability's base and shortens its length. -/
  | cinc (core : Core)
  /-- R313: Reads a field of a capability into a g register. -/
  | cget (core : Core)
  /-- R313: Makes a capability register invalid. -/
  | cclr (core : Core)
  /-- R334: Supervisor-only creation of a capability from g registers. -/
  | cmake (core : Core)
  /-- R315: Conditional relative branch. -/
  | b (core : Core)
  /-- R315: Branch to a register target. -/
  | br (core : Core)
  /-- R315: Call saving the return index in lk. -/
  | callL (core : Core)
  /-- R315: Return to the index in lk. -/
  | retL (core : Core)
  /-- R316: Call that saves named registers in a DS frame below g15. -/
  | callm (core : Core)
  /-- R317: Return that restores registers from the DS frame. -/
  | retm (core : Core)
  /-- R352: Supervisor jump to another page. -/
  | far (core : Core)
  /-- R318: Resumable block copy of words between two capabilities. -/
  | bmov (core : Core)
  /-- R318: Resumable block fill with a register value. -/
  | bfill (core : Core)
  /-- R318: Resumable block XOR of a source region into a destination region. -/
  | mfeed (core : Core)
  /-- R321: Submits a churn job descriptor, reporting SUBMITTED or BUSY. -/
  | csub (core : Core)
  /-- R321: Cancels the cell's churn job. -/
  | csubC (core : Core)
  /-- R321: Returns the STATUS of the cell's churn job without waiting. -/
  | cwait (core : Core)
  /-- R321: Waits until the cell's churn job ends and returns its STATUS. -/
  | cwaitW (core : Core)
  /-- R321: Submits a MAC job descriptor. -/
  | msub (core : Core)
  /-- R321: Cancels the cell's MAC job. -/
  | msubC (core : Core)
  /-- R321: Returns the STATUS of the cell's MAC job without waiting. -/
  | mwait (core : Core)
  /-- R321: Waits until the cell's MAC job ends and returns its STATUS. -/
  | mwaitW (core : Core)
  /-- R196: Takes a ticket from the cell's deque or steals one, returning 0xFFFF when none is found. -/
  | take (core : Core)
  /-- R198: Takes a ticket or waits in VAT_CELL_IDLE until one is committed. -/
  | takeW (core : Core)
  /-- R195: Appends a ticket to the vat's completion queue and raises COMPLETION, waiting while the queue is full. -/
  | done (core : Core)
  /-- R321: Draws 16 random bits as a priority-3 draw, as DATA or SECRET. -/
  | rdraw (core : Core)
  /-- R322: Does nothing. -/
  | nop (core : Core)
  /-- R322: Halts the cell and raises CELL_HALT. -/
  | halt (core : Core)
  /-- R345: Returns from an exception, reducing any main-bank capability that grants more than its snapshot. -/
  | retx (core : Core)
  /-- R305: Waits until every posted store is acknowledged and reports refusals in V. -/
  | fence (core : Core)
  /-- R299: Reads a special register, latching CYCLE_HI on a read of CYCLE_LO. -/
  | mfsr (core : Core)
  /-- R299: Writes a special register or exception state. -/
  | mtsr (core : Core)
  /-- R341: A pending cause is taken at an allowed point; snapshots are made and execution switches to the shadow-bank handler. -/
  | exceptionEntry (core : Core)
  /-- R360: A request transfer reaches its destination, which checks the integrity code and performs the read or write or sends an error reply. -/
  | meshRequest (xfer : Nat) (atEgress : Bool) (hdrErr : BitVec 62) (wordErr : List (BitVec 25))
  /-- R360: A reply reaches its requester, which checks it and completes the waiting access. -/
  | meshReply (xfer : Nat) (hdrErr : BitVec 62) (wordErr : List (BitVec 25))
  /-- R375: A posted write is refused after the cell went on; it is discarded and recorded imprecisely with the POSTED flag. -/
  | postedWriteRefusal (xfer : Nat)
  /-- R362: No reply within MSH_REPLY_LIMIT completes the access as a BUS fault and raises the mesh event. -/
  | replyTimeout (xfer : Nat)
  /-- R383: A transfer holds a router output past LIMIT; the output's watchdog bit is set and a fault record made. -/
  | linkWatchdogBite (router : Router) (output : Fin 6) (master : Master)
  /-- R384: Writing 1 to an output's bit discards the transfer held there with a BUS fault to its master. -/
  | mshRtrAbort (router : Router) (value : BitVec 16)
  /-- R385: LIMIT ms pass without a kick, or the supervisor halts, setting BITE or HALT_SEEN and making a fault record. -/
  | supervisorWatchdogBite
  /-- R385: A write of 0x6D6B restarts the supervisor watchdog count. -/
  | mshSwdogKick (value : BitVec 16)
  /-- R371: APPLY in ACT_CTRL copies the shadow table into all 36 checkers and computes overlaps. -/
  | apply
  /-- R371: WRITE in ACT_CTRL copies the staged entry into shadow entry ACT_SEL, or is refused. -/
  | actWrite
  /-- R371: LOAD in ACT_CTRL copies shadow entry ACT_SEL into the staging words. -/
  | actLoad
  /-- R372: CLEAR_PART in ACT_CTRL clears ENABLE in the unlocked shadow entries of a partition. -/
  | clearPart (part : Fin 16)
  /-- R394: START in DMA_CH_CTRL makes an idle or halted channel fetch its descriptor and run. -/
  | dmaStart (ch : DmaCh)
  /-- R399: ABORT in DMA_CH_CTRL stops a running channel from issuing new bursts. -/
  | dmaAbort (ch : DmaCh)
  /-- R394: A descriptor read completes and is checked, or the channel stops on OWN 0 or BAD_DESC. -/
  | descriptorFetch (ch : DmaCh) (hostBytes : Option Bytes) (mismatch : Bool)
  /-- R395: A burst is read whole from the source and written in ascending order, or the channel stops on a failure. -/
  | burst (ch : DmaCh) (hostBytes : Option Bytes) (mismatch : Option Bool)
  /-- R397: Once every write of a descriptor is acknowledged, STATUS, RESIDUE and then CONTROL with OWN cleared are written back. -/
  | descriptorWriteBack (ch : DmaCh) (hostOk : Bool) (mismatch : Bool)
  /-- R398: A host read with no completion within 50 ms stops the channel with code HOST. -/
  | hostCompletionTimeout (ch : DmaCh)
  /-- R405: The die-to-die link comes up after main power rises and LINK_UP reads 1. -/
  | linkUp
  /-- R409: A flash-window read is served from a page buffer or starts a page load, or faults for a busy bank or protection. -/
  | flashWindowRead (master : Master) (waddr : BitVec 32)
  /-- R410: A page load and decode, with any retries, completes and the waiting read is answered or refused as uncorrectable. -/
  | pageLoadEnd (bank : Bank) (retries : Fin 8) (corrections : Fin 41) (outcome : FlashOutcome)
  /-- R414: OP PROGRAM of FLC_CMD checks, reads the source, pulses and verifies one page. -/
  | program (bank : Bank)
  /-- R415: OP ERASE of FLC_CMD starts erase pulses on a block. -/
  | erase (bank : Bank)
  /-- R415: An erase pulse and its verify end; the erase completes, fails after 12 pulses or continues. -/
  | erasePulseEnd (bank : Bank) (verified : Bool)
  /-- R416: OP BLANK_CHECK of FLC_CMD reports whether a page is blank. -/
  | blankCheck (bank : Bank)
  /-- R418: OP RETIRE of FLC_CMD moves a block to RETIRED with reason FIRMWARE. -/
  | retire (bank : Bank)
  /-- R418: OP REPLACE of FLC_CMD erases and maps a free spare to a RETIRED block. -/
  | replace (bank : Bank)
  /-- R413: A flash command's last phase, including any table commit, ends and FLC_RESULT and DONE are written. -/
  | flashCommandEnd (bank : Bank) (outcome : FlashOutcome)
  /-- R424: A write to FLC_PROT.LEVEL takes effect only if it raises the level, or replaces UNSET. -/
  | flcProt (value : BitVec 16)
  /-- R438: GO in FGP_CTRL in HOLD starts measurement of the port's flash ranges. -/
  | measure (port : GuardPort)
  /-- R438: A flash-guard measurement ends with its digest and RESULT and the port returns to HOLD. -/
  | measurementEnd (port : GuardPort) (data : Option Bytes)
  /-- R438: TIME_LIMIT passes before a measurement ends; RESULT 3 is set and the port returns to HOLD. -/
  | measureTimeLimit (port : GuardPort)
  /-- R435: A write of MODE takes effect when upstream CS# is high, or waits as PENDING. -/
  | fgpModeWrite (port : GuardPort) (value : BitVec 16)
  /-- R435: The upstream CS# rises and a pending mode change takes effect. -/
  | upstreamCsRise (port : GuardPort)
  /-- R440: A flash command from the master in GUARD is decoded and passed or refused, counted and logged. -/
  | guardCommand (port : GuardPort) (opcode : Byte) (addr : BitVec 32)
  /-- R444: SEND in DVP_CTRL sends the transmit buffer as an MCTP message and awaits the reply. -/
  | send (port : DevPort)
  /-- R446: ADDRESS in DVP_CTRL assigns the responder's dynamic address. -/
  | address (port : DevPort) (acked : Bool)
  /-- R444: A reply message is reassembled into the receive buffer and RX_DONE is set. -/
  | dvpReply (port : DevPort) (bytes : Bytes) (err : Bool)
  /-- R444: A reply limit passes without a reply, setting LAST to time-out. -/
  | dvpReplyTimeout (port : DevPort)
  /-- R448: An in-band interrupt outside an exchange is counted with IBI_EN or refused with NACK. -/
  | ibi (port : DevPort)
  /-- R432: Writing 1 to CTP_GATE.OPEN lets control ports drive their outputs and flash-guard ports leave HOLD. -/
  | ctpGate (value : BitVec 16)
  /-- R449: A write to CTP_OUT changes the port's RST_N, PWR_EN and AUX outputs while OPEN is 1. -/
  | ctpOut (port : CtlPort) (value : BitVec 16)
  /-- R449: A selected edge on CTPn_STAT sets STAT_EDGE and raises event 612. -/
  | statEdge (port : CtlPort) (level : Bool)
  /-- R453: A rising edge on TREF_PPS advances or breaks lock and slews the time base while locked. -/
  | ppsEdge (atUs : Nat)
  /-- R453: No PPS edge within 1,000,050 µs of the last loses lock and adds 1 to MISSED. -/
  | ppsTimeout
  /-- R453: A change of XTAL_OK raises event source 613. -/
  | xtalStatusChange (ok : Bool)
  /-- R461: ACTIVATE in CSL_CTRL powers and resets the card class by class and expects its ATR. -/
  | activate (slot : Slot)
  /-- R462: The answer to reset is complete and parsed, and parameter selection follows to READY. -/
  | atrComplete (slot : Slot) (atr : Bytes) (intact : Bool) (ppsEcho : Bool) (ifsOk : Bool)
  /-- R461: No first ATR character arrives within 40,000 clocks; the class fails and the next is tried. -/
  | noAtr (slot : Slot)
  /-- R465: EXCHANGE in CSL_CTRL sends the command APDU under T=0 or T=1. -/
  | exchange (slot : Slot)
  /-- R465: The card's response completes the exchange into CSL_RX with SW1 SW2. -/
  | cardResponse (slot : Slot) (bytes : Bytes) (parity : Nat) (fatal : Bool) (blocks : Nat)
  /-- R464: A work, character or block waiting time passes, ending the exchange or starting T=1 recovery. -/
  | cardWaitingTimeout (slot : Slot)
  /-- R468: DEACTIVATE in CSL_CTRL runs the deactivation sequence, held until a running exchange ends. -/
  | deactivate (slot : Slot)
  /-- R460: The presence input reads present without a break for 50 ms and INSERTED is set. -/
  | cardInsertion (slot : Slot)
  /-- R469: Two absent samples judge the card removed; it is deactivated and the exchange ends by R469. -/
  | cardRemoval (slot : Slot) (before : Bool)
  /-- R459: Card current above its limit for 5 µs deactivates the card and ends the operation with OVERCURRENT. -/
  | overcurrent (slot : Slot)
  /-- R467: 1,860 clocks after an exchange the card clock is stopped where the ATR allows it. -/
  | clockStop (slot : Slot)
  /-- R494: Field power is detected at the antenna and the ear tag becomes ready to answer. -/
  | fieldOn
  /-- R483: The UHF field collapses, ending the session and tearing any field write at its current step. -/
  | fieldLoss
  /-- R476: Gen2 Select sets inventory flags of matching tags. -/
  | select (sel : SelectArgs)
  /-- R476: Gen2 Query starts an inventory round. -/
  | query (q : QueryArgs)
  /-- R476: Gen2 QueryAdjust changes the slot count of the round. -/
  | queryAdjust (session : Fin 4) (upDn : BitVec 3)
  /-- R476: Gen2 QueryRep advances the slot counter. -/
  | queryRep (session : Fin 4)
  /-- R476: Gen2 ACK acknowledges the tag, which backscatters its EPC. -/
  | ack (rn : BitVec 16)
  /-- R476: Gen2 NAK returns the tag to Arbitrate. -/
  | nak
  /-- R476: Gen2 Req_RN moves the tag towards Open or Secured and returns a handle. -/
  | reqRn (rn : BitVec 16)
  /-- R493: Gen2 Access presents the access password. -/
  | access (halfXor : BitVec 16) (rn : BitVec 16)
  /-- R481: Gen2 Read returns words from the selected copy of a record. -/
  | read (bank : Fin 4) (ptr : Nat) (count : Nat) (rn : BitVec 16)
  /-- R486: Gen2 Write replaces one word of F0–F3 through the two-copy write sequence. -/
  | write (bank : Fin 4) (ptr : Nat) (dataXor : BitVec 16) (rn : BitVec 16)
  /-- R486: Gen2 BlockWrite replaces 1 to 8 words of one of F0–F3. -/
  | blockWrite (bank : Fin 4) (ptr : Nat) (words : List (BitVec 16)) (rn : BitVec 16)
  /-- R487: Gen2 Lock in Secured sets the User-bank lock bits in LOCKS. -/
  | lock (mask : BitVec 10) (action : BitVec 10) (rn : BitVec 16)
  /-- R477: Gen2 Kill is answered with Other error and changes nothing. -/
  | kill (halfXor : BitVec 16) (rn : BitVec 16)
  /-- R497: OP READ of TAG_CMD reads the selected copy of a record into TAG_BUF. -/
  | tagRead (value : BitVec 16)
  /-- R482: OP WRITE of TAG_CMD starts the two-copy write of TAG_BUF into a record, or refuses it. -/
  | tagWrite (value : BitVec 16)
  /-- R482: Programming of one copy or one SEQ of a tag record ends and the write proceeds to its next step or completes. -/
  | tagProgramEnd (field : Bool)
  /-- R484: The tag controller rewrites the unselected copy of a record whose copies differ, at power-up or between field commands. -/
  | tagRepair (record : Fin 12)
  /-- R502: A source fires; evidence is queued and the union of response sets is carried out in fixed order. -/
  | tamperEpisodeStart (sources : List (Fin 48)) (detA : Bool) (detB : Bool)
  /-- R499: Both detectors of a firing source read quiet for 1 ms and the episode ends. -/
  | tamperEpisodeEnd (source : Fin 48)
  /-- R500: One detector detects without the other within 10 µs; DISAGREES is counted and the event raised. -/
  | disagreement (source : Fin 48)
  /-- R503: Every source that set HOLD or STALL has been quiet for its QUIET period and the response is released. -/
  | quietPeriodEnd (source : Fin 48)
  /-- R507: An evidence bit's 200 µs programming ends and the next queued increment begins. -/
  | evidenceProgramEnd (took : Bool)
  /-- R510: A write of 0xD5 to TMP_FUSE programs a source's disable fuse, or sets FUSE_REFUSED. -/
  | tmpFuse (value : BitVec 16)
  /-- R519: A write to FLT_ACK with the latched time-stamp bits releases the first-error record. -/
  | fltAckRegister (value : BitVec 16)
  /-- R519: No record for QUIET ms ends a storm, clears STORM and adds to FLT_RECOVERIES. -/
  | stormEnd
  /-- R521: A write of CAL_OFFSET is clamped to BOUND and applied, with the detector settling. -/
  | calOffset (value : BitVec 16)
  /-- R523: A detector's settling time after a new threshold ends and its output is used again. -/
  | settlingEnd (item : BitVec 16)
  /-- R6: A read returns and clears the count of discarded ring entries. -/
  | prlRingDropped (port : PciePort)
  /-- R6: A read returns and clears the skim counts. -/
  | vatSkimCount (master : Master) (vat : VatId)
  /-- R6: A read returns and clears the churn compare failure count. -/
  | chnMismatch (master : Master) (vat : VatId)
  /-- R6: A read returns and clears the count of churn jobs ended OK. -/
  | chnOps (master : Master) (vat : VatId)
  /-- R6: A read returns and clears the churn context-switch count. -/
  | chnSwitches (master : Master) (vat : VatId)
  /-- R6: A read returns and clears the reseed count. -/
  | macReseeds (master : Master) (vat : VatId)
  /-- R6: A read returns and clears the longest repetition run. -/
  | rngRctPeak (master : Master) (vat : VatId)
  /-- R6: A read returns and clears the highest adaptive-proportion count. -/
  | rngAptPeak (master : Master) (vat : VatId)
  /-- R6: A read returns and clears the count of internal draws served centrally. -/
  | rngFallback (master : Master) (vat : VatId)
  /-- R6: A read returns and clears the integrity mismatch count. -/
  | mshBicCount (master : Master)
  /-- R6: A read returns and clears the late-reply count. -/
  | mshLate (master : Master)
  /-- R6: A read returns and clears the greatest AGE granted at the router. -/
  | mshRtrAgeMax (master : Master) (router : Router)
  /-- R6: A read returns and clears an output's REQUEST grant count. -/
  | mshRtrGrants (master : Master) (router : Router) (output : Fin 6)
  /-- R6: A read returns and clears the access refusal count. -/
  | actViolCount (master : Master)
  /-- R6: A read returns and clears the count of descriptors written back OK. -/
  | dmaChCount (master : Master) (ch : DmaCh)
  /-- R6: A read returns and clears the count of link transfers that failed twice. -/
  | flcLinkErrs (master : Master)
  /-- R6: A read returns and clears a bank's read-retry count. -/
  | flcRetryCount (master : Master) (bank : Bank)
  /-- R6: A read returns and clears a bank's highest correction count. -/
  | flcCorrMax (master : Master) (bank : Bank)
  /-- R6: A read returns and clears a bank's busy-read count. -/
  | flcBusyReads (master : Master) (bank : Bank)
  /-- R6: A read returns and clears a flash-guard port's refusal count. -/
  | fgpBlocked (master : Master) (port : GuardPort)
  /-- R6: A read returns and clears a device port's interrupt count. -/
  | dvpIbiCount (master : Master) (port : DevPort)
  /-- R6: A read returns the reference status and clears MISSED. -/
  | clkTrefStatus (master : Master)
  /-- R455: A read of the low time-base word latches the upper words. -/
  | clkTb (master : Master)
  /-- R6: A read returns and clears a slot's parity and block error counts. -/
  | cslErrs (master : Master) (slot : Slot)
  /-- R6: A read returns and clears the count of refused field commands. -/
  | tagRefusals (master : Master)
  /-- R6: A read returns and clears a source's episode and disagreement counts. -/
  | tmpSrcCount (master : Master) (source : Fin 48)
  /-- R6: A read returns and clears the count of ended storms. -/
  | fltRecoveries (master : Master)
  /-- R6: A read returns and clears a class's record count. -/
  | fltClassCount (master : Master) (cls : Fin 4)
  /-- R6: A write to a register with no row of its own sets, clears or ignores its fields by their types, or is a tag fault. -/
  | registerWrite (master : Master) (waddr : BitVec 32) (word : Word)
  /-- R67: An instruction or debug access arriving on the JTAG port is served as the read-out protection level and mode allow. -/
  | jtagInstruction (op : JtagOp)
  /-- R560: A host write to a port's configuration space sets or clears Bus Master Enable or MSI-X Enable, releasing or holding ring entries and MSI-X messages. -/
  | configurationSpaceWrite (port : PciePort) (op : CfgOp)
  /-- R462: During the answer to reset, more than 9,600 etu pass between characters or 19,200 etu after TS, failing the ATR. -/
  | atrCharacterTimeout (slot : Slot)
  /-- R476: The persistence time of a Gen2 session or SL flag runs out and the flag returns to its default value. -/
  | flagPersistenceExpiry (flag : Fin 5)
  deriving DecidableEq, Repr

end Sys2Proof
end

