-- ==== Sys2Proof/Config.lean ====
section
/-!
DEFINITION. What the spec leaves free: opaque constants with no body, so that nothing can be proved of their values.
-/
namespace Sys2Proof.Config

/-- The n-th 16 random bits the device draws (R280, R288): noise, so no value is fixed. Log entry 3. -/
opaque random : Nat → BitVec 16

/-- The PUF response after correction (R59): per device. Log entry 4. -/
opaque pufResponse : BitVec 256

/-- The hidden OTP seed the factory programmed (R56, R558): per device. Log entry 4. -/
opaque otpSeed : BitVec 256

/-- The index of a command in the job table of a cell program (R194): the spec gives the table no contents. Log entry 109. -/
opaque jobIndex : Nat → BitVec 16

/-- The payloads of the boot ROM, CODE words (R28): the spec gives no contents. Log entry 5. -/
opaque bootRom : Nat → BitVec 16

/-- The JTAG identification code (R67): the spec gives no value. Log entry 6. -/
opaque idcode : BitVec 32

/-- The n-th reading of an island-cycle count or elapsed-time value that the spec gives only as typical (R251, R299).
Log entry 7. -/
opaque elapsed : Nat → BitVec 32

/-- The signature of the device identity key over a digest with a salt (R112, R116): the private key follows from the
identity root, and the spec gives no derivation of it. Log entry 21. -/
opaque identitySign : BitVec 256 → BitVec 256 → BitVec 3072

/-- Clenkotric's mask-designer number in the TID bank (R478): the spec gives no value. Log entry 23. -/
opaque maskDesigner : BitVec 12

/-- The Vendor ID of both PCIe functions: the spec gives no number for Clenkotric's assigned identifier (R77). -/
opaque vendorId : BitVec 16

/-- The hash of Clenkotric's firmware-signing key, held in the boot ROM (R150): the spec gives no value. Log entry 5. -/
opaque firmwareKeyHash : BitVec 256

end Sys2Proof.Config
end

