-- ==== Sys2Proof/Machine/State.lean ====
section
/-!
DEFINITION. The state of the device as plain data, the ways a step can stop, and the state right after reset.
-/
namespace Sys2Proof.Machine

/-! ### Cells and the supervisor (R298, R299, R340) -/

/-- A capability register or four capability words: the four payloads, fragment 3 highest, and whether all four
fragments are tagged CAP (valid) or all DATA (invalid); R296, R330. -/
structure CReg where
  valid : Bool
  frags : BitVec 64
  deriving DecidableEq, Repr

/-- The flags Z, N, C, V and their flag tag FT (R297). -/
structure Flags where
  z : Bool
  n : Bool
  c : Bool
  v : Bool
  ft : Bool
  deriving DecidableEq, Repr

/-- One register bank of a core: g0-g15, c0-c7, pc and the flags (R298). The pc is 12 bits in a cell and 20 in the
supervisor (R352). -/
structure RegBank where
  g : Tbl Word
  c : Tbl CReg
  pc : BitVec 20
  flags : Flags
  deriving DecidableEq, Repr

/-- The synchronous causes of R337. -/
inductive Cause where
  | illegal
  | fetch
  | tag
  | cap
  | access
  | bus
  deriving DecidableEq, Repr

/-- A synchronous fault found and not yet taken: its cause and the faulting waddr, where the cause has one (R340, R350). -/
structure SyncFault where
  cause : Cause
  waddr : Option (BitVec 32)
  deriving DecidableEq, Repr

/-- What a memory instruction does when its reply arrives; a block instruction (R318, R319) goes on with its word: it has the source
word, or for MFEED the destination's too, or has written it. -/
inductive MemOp where
  | loadG (r : Nat)
  | storeG
  | loadC (r : Nat)
  | storeC
  | blockSrc
  | blockDst (x : Word)
  | blockWrite
  deriving DecidableEq, Repr

/-- A memory instruction whose transfers cross the mesh: the parts not yet answered, the words read so far with their
offset in the access, and the first fault found. -/
structure MemWait where
  op : MemOp
  parts : Nat
  data : List (Nat × Word)
  fault : Option SyncFault
  deriving DecidableEq, Repr

/-- What a core waits for: nothing, one of the waiting instructions of R323, or the replies of a memory access. -/
inductive WaitState where
  | none
  | takeW
  | cwaitW
  | mwaitW
  | doneFull
  | rdraw
  | fence
  | mem (w : MemWait)
  deriving DecidableEq, Repr

/-- The state of one core: a cell or the supervisor. -/
structure Cell where
  main : RegBank
  shadow : RegBank
  lk : BitVec 16
  evb : BitVec 16
  cycleHi : BitVec 16
  inShadow : Bool
  mask : Bool
  async : Bool
  cdoneEn : Bool
  mdoneEn : Bool
  cause : BitVec 6
  xpc : BitVec 20
  xaddr : BitVec 32
  xcsel : BitVec 8
  xgsel : BitVec 4
  snap : Tbl CReg
  wrote : BitVec 8
  g7 : Bool
  pend : Option SyncFault
  pendC : Bool
  pendM : Bool
  hold : Bool
  wait : WaitState
  posted : Nat
  postRefused : Bool
  halted : Bool
  ticket : Option Nat
  churnStatus : BitVec 16
  macStatus : BitVec 16
  deriving DecidableEq, Repr

/-! ### Mesh and access table (R359, R364, R377) -/

/-- One entry of the access table (R364). -/
structure ActEntry where
  base : BitVec 32
  limit : BitVec 32
  form : BitVec 2
  msetA : BitVec 10
  msetB : BitVec 10
  enable : Bool
  lock : Bool
  owner : BitVec 4
  secretOk : Bool
  fetch : Bool
  write : Bool
  read : Bool
  p : BitVec 5
  offLo : BitVec 16
  offHi : BitVec 16
  deriving DecidableEq, Repr

/-- The access table: the shadow copy firmware edits, the applied copy the checkers use, the lowest overlapping
pair of the applied copy, and an APPLY that waits for a VAT_SWAP requested before it (R371, R373, R386). -/
structure AccessTable where
  shadow : Tbl ActEntry
  applied : Tbl ActEntry
  overlap : Option (Nat × Nat)
  applying : Bool
  deriving DecidableEq, Repr

/-- Where a transfer is: on its way as a request, waiting at the flash controller for a page load, or answered and on its way back with its outcome. -/
inductive XferPhase where
  | request
  | reply (ty : BitVec 4)
  | atFlash
  | lost
  deriving DecidableEq, Repr

/-- A transfer in flight: one part of an access, with its header (R359), its words, the core key that waits for it,
the offset of its first word in the access, the fault an error reply brings its core (BUS at ADDR where none is said), whether its
master has stopped waiting for it (R362), the physical position its address was decoded to when it left (R188), how many router
outputs of its route there, or once it is answered back, it has passed (R377), and whether the egress check has let it go (R375). -/
structure Transfer where
  addr : BitVec 32
  master : BitVec 10
  ty : BitVec 4
  words : List Word
  len : Nat
  age : BitVec 8
  phase : XferPhase
  core : Nat
  offset : Nat
  cause : Option SyncFault
  abandoned : Bool
  pos : Option Nat
  hop : Nat
  judged : Bool
  deriving DecidableEq, Repr

/-- An arbiter: its grant counter g and the RANK and WAIT of each requester (R377). The slot table and N of arbiter
INDEX stand in `Mesh.slots` and `Mesh.interval`. -/
structure Arbiter where
  g : BitVec 16
  rank : Tbl (BitVec 4)
  wait : Tbl (BitVec 8)
  deriving DecidableEq, Repr

/-- The mesh: transfers in flight, the next transfer number, slot tables (key INDEX x 64 + s), reservation intervals
(key INDEX), arbiters (key INDEX x 8 + output), outputs held by a transfer (key router x 8 + output, value the
master + 1), and the numbers of the answered transfers, in the order in which they came to the outputs where they are (R355). -/
structure Mesh where
  xfers : Tbl (Option Transfer)
  nextXfer : Nat
  slots : Tbl (BitVec 16)
  interval : Tbl (BitVec 7)
  arbs : Tbl Arbiter
  held : Tbl Nat
  replies : List Nat
  deriving DecidableEq, Repr

/-! ### Events, faults, tamper, calibration (R515, R498, R511, R520) -/

/-- The access types a fault record names (R515). -/
inductive AccessType where
  | read
  | write
  | fetch
  | tag
  | dma
  | posted
  | none
  deriving DecidableEq, Repr

/-- A fault record (R515): its class, source, access type, master, POSTED flag and address words. -/
structure FaultRec where
  cls : Nat
  source : Nat
  posted : Bool
  access : AccessType
  master : BitVec 10
  addr : BitVec 32
  stamp : BitVec 48
  deriving DecidableEq, Repr

/-- The fault collector (R515, R518, R519). -/
structure FaultCollector where
  first : Option FaultRec
  overflow : Bool
  escalated : Bool
  storm : Bool
  overflowCount : Nat
  total : Nat
  tick : BitVec 48
  inTick : Nat
  deriving DecidableEq, Repr

/-- The event controller: the 640 pending bits and the 64 pail pending bits (R551, R553). Routes are registers. -/
structure EventCtl where
  pend : BitVec 640
  pails : BitVec 64
  deriving DecidableEq, Repr

/-- One tamper source while main power is present: firing, detectors, the response set its episode started with,
whether it owns a HOLD or STALL in force, whether a QUIET count is running, and a settling detector. -/
structure TamperSrc where
  firing : Bool
  detA : Bool
  detB : Bool
  episodeSet : BitVec 7
  ownsHold : Bool
  ownsStall : Bool
  settling : Bool
  deferred : Nat
  deriving DecidableEq, Repr

/-- The tamper block (R498 to R510): sources, the evidence queue (oldest first), HOLD and STALL, and the `fuseJob` is a disable fuse waiting for its source's increments. -/
structure Tamper where
  src : Tbl TamperSrc
  queue : List Nat
  hold : Bool
  stall : Bool
  fuseJobs : List Nat
  shareRefused : Bool
  deriving DecidableEq, Repr

/-- The latch of one source in the battery domain (R511). -/
structure Latch where
  fired : Bool
  evidence : Nat
  disagree : Nat
  responses : BitVec 7
  deriving DecidableEq, Repr

/-- The battery domain (R44). Keys of `mirror` are 2i for TMP_SRC_CFG(i) and 2i + 1 for TMP_SRC_QUIET(i). -/
structure Battery where
  share : BitVec 256
  shareCheck : BitVec 16
  shareValid : Bool
  bootCounter : BitVec 48
  latch : Tbl Latch
  mirror : Tbl (BitVec 16)
  spendLatch : Bool
  lowerPending : Bool
  timeBase : BitVec 48
  monitors : Tbl (BitVec 16)
  firing : BitVec 48
  lost : Bool
  deriving DecidableEq, Repr

/-! ### Vats (R186 to R221), churn (R222 to R254), MAC unit (R255 to R279), noise source (R280 to R294) -/

/-- The parameters of a curve (R238). -/
structure Curve where
  bytes : Nat
  p : Nat
  a : Nat
  b : Nat
  gx : Nat
  gy : Nat
  n : Nat
  h : Nat
  deriving DecidableEq, Repr

/-- An accepted churn job: the copy of its descriptor and its operands (R225); whether it has had its first grant; the draws it has
still to make in the grant it is in or the next, and those of its later passes (R241, R245); the primes of an RSA_KEYGEN, once
found (R231); and the KEY and OUT words once the churn has begun to write results, which then wait at a boundary (R214, R249). -/
structure ChurnJob where
  op : Nat
  curve : Nat
  size : Nat
  rep : Bool
  descr : BitVec 32
  keyCap : CReg
  outCap : CReg
  key : List Word
  input : List Word
  cancel : Bool
  begun : Bool
  owed : List Nat
  later : List Nat
  pair : Option (Nat × Nat)
  results : Option (List Word × List Word)
  deriving DecidableEq, Repr

/-- One churn: its 16 contexts, the cell that holds or last held the multiplier, the loaded and reserved curve entries
4-15, the known-answer test state and the fixed-KAT outcome (R222, R223, R237, R253). -/
structure Churn where
  jobs : Tbl (Option ChurnJob)
  holder : Nat
  busy : Bool
  curves : Tbl (Option Curve)
  reserved : BitVec 16
  kat : Bool
  katPass : Bool
  katFail : Bool
  deriving DecidableEq, Repr

/-- An accepted MAC job: the copy of its descriptor words 0-17, its address, what it has read so far (R265), and its OUT words and
DETAIL once the unit has begun to write results, which then wait at a boundary (R214, R266). -/
structure MacJob where
  op : Nat
  ksrc : Nat
  root : Nat
  ktype : Nat
  mode : BitVec 16
  ctr : BitVec 16
  length : Nat
  descr : BitVec 32
  keyCap : CReg
  inCap : CReg
  outCap : CReg
  keyWords : List Word
  keyBytes : Option Bytes
  input : List Word
  expected : Bytes
  ctrValue : Option (BitVec 48)
  cancel : Bool
  results : Option (List Word × Nat)
  deriving DecidableEq, Repr

/-- One MAC unit: loaded flags of its root registers, 16 contexts, holder, blocks since the last reseed, a pending
failed reseed, known-answer test state and 64 counters (R255, R264, R271, R274). -/
structure MacUnit where
  identityRoot : Bool
  ownerRoot : Bool
  sessionRoot : Bool
  jobs : Tbl (Option MacJob)
  holder : Nat
  busy : Bool
  sinceReseed : Nat
  dry : Bool
  kat : Bool
  katPass : Bool
  katFail : Bool
  counters : Tbl (BitVec 48)
  deriving DecidableEq, Repr

/-- One noise source and its vat queue: STATE, CAUSE, AT_STARTUP and the level in bits (R285, R288); what it keeps between windows of the
proportion test, at whose ends this model sees it: the sampler's last raw bit, the run of that bit the repetition test has counted, and
the conditioner's register (R280 to R282). The bits themselves are free values (log entry 3). -/
structure Noise where
  state : BitVec 2
  cause : BitVec 2
  atStartup : Bool
  bits : Nat
  sampler : Bool
  run : BitVec 6
  conditioner : BitVec 256
  deriving DecidableEq, Repr

/-- A skim request in progress: the direction tried (0-3), the ticket index it names, and the reply if one has come:
`some none` empty, `some (some words)` a ticket (R201, R202). -/
structure Skim where
  dir : Nat
  ticket : Nat
  reply : Option (Option (List Word))
  deriving DecidableEq, Repr

/-- One physical vat. Deques are lists with the head (newest) first; the completion queue has its oldest entry first;
`waiters` are the waiting cells, longest first; `wants` the priorities of R288 above the cells' own whose draws wait for bits: 1 a reseed,
2 the churn. -/
structure Vat where
  deques : Tbl (List Nat)
  cq : List Nat
  waiters : List Nat
  skim : Option Skim
  backoff : Bool
  loading : Option (BitVec 32)
  loadErr : Bool
  loadDone : Bool
  drainedSeen : Bool
  clkStable : Bool
  trim : BitVec 10
  wants : List Nat
  churn : Churn
  mac : MacUnit
  noise : Noise
  deriving DecidableEq, Repr

/-- The central random queue: level in bits and the next vat in round-robin order (R290). -/
structure CentralQueue where
  bits : Nat
  next : Nat
  deriving DecidableEq, Repr
/-! ### Flash (R403 to R429) and DMA (R388 to R402) -/

/-- A logical block's entry in the tables of R417 to R419: STATE and REASON as FLC_MAP codes them, and its spare. -/
structure FlashBlock where
  state : BitVec 2
  reason : BitVec 3
  spare : Option Nat
  deriving DecidableEq, Repr

/-- Who waits for a page load: a mesh transfer, or a master whose read came by another way. -/
inductive FlashWaiter where
  | xfer (n : Nat)
  | bus (master : BitVec 10) (waddr : BitVec 32)
  deriving DecidableEq, Repr

/-- A page load in progress: the page (block x 64 + page in the bank) and the reads that wait for it; none of them for a
read-ahead (R409). -/
structure PageLoad where
  page : Nat
  waiters : List FlashWaiter
  deriving DecidableEq, Repr

/-- A flash command (R413): its target, its PHASE (1 checks, 2 pulses, 3 verify), the CODE it will end with once that is
decided, erase pulses so far, the spare being erased, and the data to program. -/
structure FlashJob where
  op : Nat
  block : Nat
  page : Nat
  phase : BitVec 2
  code : Option Nat
  pulses : Nat
  spare : Option Nat
  data : List (BitVec 16)
  deriving DecidableEq, Repr

/-- One bank: the pages its two buffers hold, most recent first, page loads in progress, and its command. -/
structure FlashBank where
  buffers : List Nat
  loads : List PageLoad
  job : Option FlashJob
  deriving DecidableEq, Repr

/-- The flash die and its controller. `pages` holds the words of each programmed physical page (physical block x 64 +
page; blocks 512 up are spares), an unlisted page is erased. `linkKey` and `linkSeq` are the key of the link and the number of its last
transfer (R404), `tableSeq` the sequence number of the grown-bad table (R419). -/
structure Flash where
  linkUp : Bool
  linkKey : BitVec 128
  linkSeq : BitVec 64
  tableSeq : Nat
  pages : Tbl (List (BitVec 16))
  blocks : Tbl FlashBlock
  badSpares : List Nat
  banks : Tbl FlashBank
  deriving DecidableEq, Repr

/-- One end of a stream: space, and elements as (address, bytes) (R389, R392). -/
structure DmaSide where
  space : Nat
  elems : List (BitVec 64 × Nat)
  deriving DecidableEq, Repr

/-- The copy of a descriptor a channel works from (R394) and the bytes written so far. -/
structure DmaDesc where
  control : BitVec 32
  src : DmaSide
  dst : DmaSide
  next : BitVec 64
  total : Nat
  moved : Nat
  deriving DecidableEq, Repr

/-- What a channel does: nothing; fetch a descriptor; move bursts; write the descriptor back with a STATUS, after which it
goes on, halts or has aborted (R394 to R399). -/
inductive DmaPhase where
  | idle
  | fetch
  | move
  | writeBack (status : BitVec 32) (residue : BitVec 32)
  deriving DecidableEq, Repr

/-- One DMA channel; `status` is the last STATUS word it made (R397), written back or, where it could not be, kept. -/
structure Dma where
  phase : DmaPhase
  halted : Bool
  stopping : Bool
  lastCode : BitVec 4
  desc : Option DmaDesc
  status : BitVec 32
  deriving DecidableEq, Repr

/-- The PPS input (R453): the time of its last edge and how many edges in a row have been in the window; and the slew of the
time base still to be made, in µs, with the ticks since its last step. -/
structure Pps where
  last : Option Nat
  run : Nat
  slew : Int
  since : Nat
  deriving DecidableEq, Repr

/-! ### Card slots (R456 to R474) and the ear tag (R475 to R497) -/

/-- What a card slot's engine holds beside its registers: the command being exchanged, the response data gathered so far,
the turns of R465 taken, the recovery attempts of R466, whether T=0 or T=1 recovery runs, the clock-stop indicator X, the command
data that waits for a procedure byte (R465), and n of the card clock 80 MHz / n (R458). -/
structure CardSlot where
  cmd : Bytes
  gathered : Bytes
  turns : Nat
  retries : Nat
  clockStop : BitVec 2
  unsent : Bytes
  clkDiv : Nat
  deriving DecidableEq, Repr

/-- One copy of a tag record: its words and its SEQ, `none` where the SEQ's check fails (R480). -/
structure TagCopy where
  words : List (BitVec 16)
  seq : Option (BitVec 24)
  deriving DecidableEq, Repr

/-- A tag record (R480). -/
structure TagRecord where
  primary : TagCopy
  backup : TagCopy
  deriving DecidableEq, Repr

/-- What a programming job of the tag controller is for: a supervisor write, a field write or Lock, or a repair. -/
inductive TagJobKind where
  | supervisor
  | field
  | repair
  deriving DecidableEq, Repr

/-- A programming step of a record (R482, R484): which copy, and whether its words or its SEQ. -/
structure TagStep where
  backup : Bool
  isSeq : Bool
  seq : BitVec 24
  words : List (BitVec 16)
  deriving DecidableEq, Repr

/-- A write or repair in progress: its record and the steps that are left, the one in progress first. -/
structure TagJob where
  kind : TagJobKind
  record : Nat
  steps : List TagStep
  deriving DecidableEq, Repr

/-- The Gen2 side of the tag while it is powered (R476): STATE as TAG_STATUS codes it, the slot counter and Q, the session
of the round, the RN16 or handle last sent, the random cover word of Req_RN, and the inventoried flags of S0-S3 (true B)
with SL in bit 4; whether the first half of an
access password has been accepted. -/
structure TagAir where
  state : Nat
  q : Nat
  slot : Nat
  session : Nat
  rn : BitVec 16
  handle : BitVec 16
  cover : BitVec 16
  half : Bool
  truncate : Option Nat
  deriving DecidableEq, Repr

/-- The ear tag. `job` is the supervisor's write or a repair, `fieldJob` a field write; `repairs` are the records still to
be repaired since main power rose; `flags` holds the inventoried flags of S0 to S3 (true B) and SL in bit 4; `crc` is
StoredCRC. -/
structure EarTag where
  records : Tbl TagRecord
  job : Option TagJob
  fieldJob : Option TagJob
  repairs : List Nat
  air : TagAir
  flags : BitVec 5
  crc : BitVec 16
  deriving DecidableEq, Repr

/-! ### The Parlour (R77 to R100, R559, R560) -/

/-- What a request proved to check 7 of R86: nothing, an owner signature (its MODULUS and challenge), a partition credential
(its COUNTER), or a quorum ticket. -/
inductive Authority where
  | none
  | owner (modulus challenge : Bytes)
  | credential (counter : Nat)
  | ticket (id : Nat)
  deriving DecidableEq, Repr

/-- A request firmware has taken and accepted (R83, R86); `copy` holds its bytes as they were read. -/
structure Request where
  command : Nat
  flags : BitVec 16
  part : Nat
  body : Bytes
  auth : Authority
  copy : Bytes := []
  deriving DecidableEq, Repr

/-- What follows the delivery of a response: nothing; the reset of DEV.RESET 1 ms later (R113); the firmware reset that ends
an OWN command (R117); the rest of a lowering (R114) or of a decommissioning (R115). -/
inductive After where
  | none
  | devReset (recovery : Bool)
  | reset
  | lowering
  | spend
  deriving DecidableEq, Repr

/-- A response (R84). -/
structure Response where
  status : BitVec 16
  command : BitVec 16
  detail : BitVec 32
  body : Bytes
  after : After
  deriving DecidableEq, Repr

/-- How far a doorbell has got: rung, taken and being carried out, its ticket done by the cell that ran it and in a completion
queue (R206), its completion ready. -/
inductive DbPhase where
  | rung
  | taken (r : Request)
  | done (r : Request) (resp : Response)
  | ready (r : Response)
  deriving DecidableEq, Repr

/-- A key slot (R122): STATE as KEY.INFO codes it, attributes, and the key-store record wrapped under the owner root
(R261), or the public key of a public type. -/
structure KeySlot where
  state : Nat
  type : Nat
  curve : Nat
  part : Nat
  usage : BitVec 16
  counter : BitVec 16
  kcv : Bytes
  record : Bytes
  pub : Bytes
  deriving DecidableEq, Repr

/-- How far a CUS.CARD has got (R140): not begun, its card being activated, its application being selected, its answer awaited. -/
inductive CardStage where
  | start
  | activate
  | select
  | answer
  deriving DecidableEq, Repr

/-- A doorbell accepted and not yet delivered (R85). `part` is the partition it is charged to once it passed check 9,
`order` counts the requests firmware had taken before it, `buf` is the buffer in global SRAM of its request copy once its job ticket
has been pushed into a vat (R194, R205), `keys` the key slots it names as they were then (R126), `heldFor` the logical vat whose return
its pinned ticket awaits (R211, R212), `since` the time base at which its Herd Book key generation began (R117), `dma` the channel that reads its
data (R400), and `card` how far a CUS.CARD has got with its card (R140). -/
structure Doorbell where
  seq : BitVec 16
  tag : BitVec 16
  aux : Bool
  length : Nat
  phase : DbPhase
  part : Option Nat
  buf : Option Nat
  keys : List (Nat × Option KeySlot)
  order : Nat
  heldFor : Option Nat
  since : Option Nat
  dma : Option Nat
  card : CardStage
  deriving DecidableEq, Repr

/-- One pail; `queue` has its oldest doorbell first, and OUTSTANDING is its length. -/
structure PailState where
  nextSeq : BitVec 16
  respValid : Bool
  reqHeld : Bool
  writerAux : Bool
  writerHost : Bool
  overflow : Bool
  lastAux : Bool
  queue : List Doorbell
  cfg : BitVec 8
  deriving DecidableEq, Repr

/-- What a host can write of one port's configuration space (R77, R94, R560): the command and MSI-X enables, the addresses of BAR0 and
BAR2, ASPM L1, and the MSI-X table with its pending-bit array (R79), bit v or key v for vector v; `inReset` while a fundamental
reset or FLR of the port lasts. -/
structure PortCfg where
  bar0 : BitVec 64
  bar2 : BitVec 64
  aspmL1 : Bool
  message : Tbl (BitVec 64 × BitVec 32)
  busMaster : Bool
  msixEnable : Bool
  functionMask : Bool
  inReset : Bool
  masked : BitVec 65
  pend : BitVec 65
  deriving DecidableEq, Repr

/-- A completion ring entry that is queued and not yet written (R89). -/
structure RingEntry where
  pail : Nat
  seq : BitVec 16
  status : BitVec 16
  respLength : Nat
  tag : BitVec 16
  aux : Bool
  deriving DecidableEq, Repr

/-- The Parlour. `ports` has key 0 for the host port and 1 for the auxiliary port. -/
structure Parlour where
  pails : Tbl PailState
  ringEn : Bool
  statusIntEn : Bool
  ringErr : Bool
  events : BitVec 5
  base : BitVec 64
  ringAux : Bool
  sizeLog2 : Nat
  head : Nat
  tail : Nat
  index : BitVec 16
  dropped : BitVec 16
  held : List RingEntry
  ports : Tbl PortCfg
  deriving DecidableEq, Repr

/-! ### What Nelgal firmware and the boot ROM keep (R108 to R185) -/

/-- A partition (R118): its key, credential generation and quotas. -/
structure Partition where
  key : Bytes
  gen : Nat
  keys : Nat
  counters : Nat
  annotations : Nat
  pails : Nat
  share : Nat
  deriving DecidableEq, Repr

/-- The custodian policy (CUS.POLICY): M, AID, the answer command, the codes that accept tickets, the custodians' records
(ID, X, Y), its body as CONFIG_DIGEST takes it, and the modulus of the owner who signed it. -/
structure Policy where
  m : Nat
  aid : Bytes
  cla : Byte
  ins : Byte
  codes : List Nat
  custodians : List (Bytes × Bytes)
  body : Bytes
  modulus : Bytes
  deriving DecidableEq, Repr

/-- A quorum session (CUS.BEGIN): its end is a time of the time base; `got` holds the contributors' IDs and, for an import,
their components. -/
structure Quorum where
  id : Nat
  part : Nat
  purpose : Nat
  type : Nat
  usage : BitVec 16
  slot : BitVec 16
  target : Bytes
  challenge : Bytes
  priv : Nat
  point : Bytes
  ends : Nat
  got : List (Bytes × Bytes)
  deriving DecidableEq, Repr

/-- A quorum ticket (R111). -/
structure QTicket where
  id : Nat
  digest : Bytes
  ends : Nat
  deriving DecidableEq, Repr

/-- The Herd Book key in bank 3: modulus, certificate, KEY_FROM, and the private key wrapped under the owner root. -/
structure HbKey where
  modulus : Bytes
  cert : Bytes
  keyFrom : Nat
  wrapped : Bytes
  deriving DecidableEq, Repr

/-- A staging slot's control block (R152): STATE in R152 order from 0, and the fields of its last page; `pages` counts the
state pages written since the block was erased (R563). -/
structure Staging where
  state : Nat
  total : Nat
  digest : Bytes
  installSeq : Nat
  outcome : Nat
  pages : Nat
  deriving DecidableEq, Repr

/-- The tally of faults and disagreements firmware keeps in bank 3 (R168). -/
structure Tally where
  faults : Nat
  disagree : Nat
  first : List (BitVec 16)
  deriving DecidableEq, Repr

/-- The records of bank 3, the key slots of bank 2, the staging control blocks and the acknowledgement record, held by
meaning: the spec gives their contents and no page layout. `lastEvents` is TAMPER_EVENTS of the last entry made (R490). -/
structure Store where
  level : Option Nat
  parts : Tbl (Option Partition)
  counters : Tbl (Option Nat)
  reserves : Tbl Nat
  keys : Tbl (Option KeySlot)
  curves : Tbl (Option Curve)
  policy : Option Policy
  configs : Tbl (Option Bytes)
  cal : Tbl (Option (BitVec 16))
  hbKey : Option HbKey
  annotations : List (Nat × Bytes)
  snapshot : Tbl Nat
  lastEvents : Nat
  tally : Tally
  staging : Tbl Staging
  deriving DecidableEq, Repr

/-- What follows an OTP program (R63, R65, R69, R73); the pail is the one that asked. -/
inductive OtpThen where
  | none
  | owner (pail : Nat) (slot : Nat) (body : Bytes)
  | seal (pail : Nat)
  | spent (pail : Nat)
  /-- The steps of R73 that follow a lifecycle fuse or the seed. -/
  | decom
  deriving DecidableEq, Repr

/-- An OTP program in progress (R562): the bits left as (word, bit), the one being pulsed first; words from 4096 on are those of
the hidden seed. `repeated` tells that the first bit is having its repeat. -/
structure OtpJob where
  bits : List (Nat × Nat)
  repeated : Bool
  next : OtpThen
  deriving DecidableEq, Repr

/-- A cell record of the entry (R169), with LENGTH of its component entry (R189). -/
structure CellRec where
  image : Nat
  status : Nat
  digest : Bytes
  len : Nat
  deriving DecidableEq, Repr

/-- A VAT.TRIM in progress (R214). -/
structure Trim where
  pail : Nat
  vat : Nat
  mhz : Nat
  old : BitVec 10
  deriving DecidableEq, Repr

/-- The write of an entry into the ring (R175): its slot, the failures of the first kind so far, and whether the program has been
given to the flash controller and its end not seen. -/
structure RingWrite where
  slot : Nat
  fails : Nat
  begun : Bool
  deriving DecidableEq, Repr

/-- What firmware holds in memory that a reset clears. `creds` has the highest COUNTER accepted of a partition and the
accepted ones within the window (R110); vat tables are by logical number: STATE as VAT.STATUS codes it, image, faults since
the last resume, and loads whose digest did not match (R215). `resetDue` is a firmware reset that ends a command (R63, R113):
whether it is a recovery request;
`lowerDue` and `spendDue` tell that the completion after which R70 or R73 goes on has been delivered; `disagree` has the
detector disagreements firmware has counted of each source; `quiesce` and `reload` have the pails (first) whose VAT.QUIESCE
or VAT.RELOAD of a logical vat (second) goes on; `dvp` has the STATUS and digest of the device ports measured (R447),
`dvpStep` the step of R446 whose reply a port awaits; `rootDue` tells that a new session root waits for bits (R501); `hbPolicy` is the
Herd Book policy the last BOOT put in force (R141, R183). `taken` counts the requests taken; `round` has the admissions of each
partition in the round of R207 and `turn` the partition that last had one left over; `gens` has the buffer of each slot's generation
ticket that has been pushed, `gensHeld` the vat a held one waits for, and `voided` the tickets (position, index) of cancelled generations
that cells still hold (R125, R211); `snapNow` the evidence counts of the entry being made (R168); `calDue` the vats whose oscillator offset CAL.SET has changed (R142); `fuseWait` the pails whose CFG.SET waits for the disable fuse of a
source (R506); `ring` is the write of `held` into the ring that goes on, and `tallied` the first-error record the tally has taken
(R168). -/
structure Firmware where
  challenges : List Bytes
  creds : Tbl (Nat × List Nat)
  quorums : List Quorum
  qtickets : List QTicket
  nextId : Nat
  upd : Option (Nat × Nat)
  vatState : Tbl Nat
  vatImage : Tbl Nat
  vatFaults : Tbl Nat
  vatBad : List Nat
  katWait : List Nat
  katFailed : List Nat
  trims : List Trim
  loadWait : List Nat
  bootNumber : Nat
  monitor : Bool
  supDigest : Bytes
  configDigest : Bytes
  version : Bytes
  svn : Nat
  cells : List CellRec
  updSlot : Nat
  updOutcome : Nat
  updDigest : Bytes
  failReason : Nat
  entry : Option Bytes
  signVat : Option Nat
  attempts : Nat
  tagTries : Nat
  held : Option Bytes
  release : List (Nat × Nat × Nat)
  otpJob : Option OtpJob
  resetDue : Option Bool
  devResetDue : Option Bool
  lowerDue : Bool
  spendDue : Bool
  disagree : Tbl Nat
  quiesce : List (Nat × Nat)
  reload : List (Nat × Nat)
  dvp : Tbl (Option (Nat × Bytes))
  dvpStep : Tbl Nat
  rootDue : Bool
  hbPolicy : Bytes
  taken : Nat
  round : Tbl Nat
  turn : Nat
  gens : List (Nat × Nat)
  gensHeld : List (Nat × Nat)
  voided : List (Nat × Nat)
  snapNow : Tbl Nat
  calDue : List Nat
  fuseWait : List (Nat × Nat)
  ring : Option RingWrite
  tallied : Option FaultRec
  deriving DecidableEq, Repr


/-! ### Boot progress, OTP programming, inputs -/

/-- How far BOOT has got (R158), and what is pending around a reset (R53, R54, R73). The steps are the numbers of R158;
0 is scrubbing, 13 means BOOT has ended. `checks` are the outcomes of step 3 and of the flash operations of steps 4 and 5, kept while
BOOT waits in step 3 or 6. -/
structure Boot where
  step : Nat
  recoveryRequest : Bool
  resetPending : Bool
  spendPending : Bool
  reason : BitVec 5
  checks : BootChecks
  deriving DecidableEq, Repr

/-- The pins and supplies of the outside world as the device last saw them: main power, VBAT above its threshold, a UHF
field, a dip in progress (its rail) with the supply-glitch detections (source and detectors) and disagreements held, the crystal, cards present, STAT and AUX inputs of the
control ports. -/
structure Ext where
  mainPower : Bool
  vbat : Bool
  field : Bool
  dip : Option Nat
  dipHeld : List (Nat × Bool × Bool)
  dipDisagree : List Nat
  xtalOk : Bool
  cards : BitVec 16
  ctpStat : BitVec 32
  ctpAux : BitVec 32
  deriving DecidableEq, Repr

/-! ### Ways a step can stop -/

/-- Reasons a step stops with a fault. -/
inductive Fault where
  /-- Raised by no command: every meaning of this model answers a next state or a refusal. Safe. -/
  | none
  deriving DecidableEq, Repr

/-- Reasons a step answers no meaning. -/
inductive Refusal where
  /-- An arm of exec whose meaning is not written yet (mnemonic). Safe: nothing is claimed of it. -/
  | notModelled (mnemonic : String)
  deriving DecidableEq, Repr

/-! ### The whole state -/

/-- The command a master or engine carries out is recorded here: what the device sends out of its pins and links, oldest
last. -/
inductive Sent where
  /-- A memory write TLP to host memory: port, byte address, bytes. -/
  | hostWrite (port : PciePort) (addr : BitVec 64) (bytes : Bytes)
  /-- An MSI-X message: port, vector, and the address and data its table entry holds. -/
  | msix (port : PciePort) (vector : Nat) (addr : BitVec 64) (data : BitVec 32)
  /-- Bytes returned to a field reader by backscatter. -/
  | backscatter (bits : List Bool)
  /-- Bytes sent on a device port, a flash-guard port, a card slot or the JTAG port, named by the string. -/
  | port (kind : String) (index : Nat) (bytes : Bytes)
  deriving DecidableEq, Repr

/-- The device. -/
structure State where
  /-- Commands waiting, first in first out. -/
  pending : List Instr
  /-- Internal RAM and pail areas, by physical waddr (a vat window by its position); unlisted words are 0x0000 DATA (R51). -/
  mem : Tbl Word
  /-- The stored part of every internal register, by waddr of the physical instance. -/
  regs : Tbl (BitVec 16)
  /-- Logical vat to physical position (R26); the identity where unlisted. -/
  remap : Tbl Nat
  /-- A swap in progress: the two logical numbers (R188). -/
  swap : Option (Nat × Nat)
  cells : Tbl Cell
  vats : Tbl Vat
  central : CentralQueue
  mesh : Mesh
  act : AccessTable
  evc : EventCtl
  flt : FaultCollector
  tmp : Tamper
  bat : Battery
  /-- The readable OTP array (R55); an unlisted word is unprogrammed. -/
  otp : Tbl (BitVec 16)
  /-- The bits of the hidden seed that a decommissioning has programmed to 1 (R73 step 3). -/
  seedSet : BitVec 256
  /-- The identity, owner and session roots as the key-derivation block last loaded them into the MAC units (R59, R255). -/
  identityRoot : BitVec 256
  ownerRoot : BitVec 256
  sessionRoot : BitVec 256
  /-- Offsets written through CAL_OFFSET, by item code (R521). -/
  calOffsets : Tbl (BitVec 16)
  flash : Flash
  dma : Tbl Dma
  pps : Pps
  cards : Tbl CardSlot
  tag : EarTag
  parlour : Parlour
  /-- What firmware holds in memory, cleared by a reset. -/
  fw : Firmware
  /-- What firmware holds in flash banks 2 and 3 and in control blocks. -/
  store : Store
  /-- REJECTS of FLT.READ, cleared only at power-on (R147); key c is check c + 1 of R86. -/
  rejects : Tbl Nat
  boot : Boot
  ext : Ext
  /-- Free values drawn so far (the model's own; log entry 1). -/
  fresh : Nat
  /-- The word the last register or tag read returned. -/
  lastRead : Word
  sent : List Sent
  deriving DecidableEq, Repr

/-- A power-on tag is in READY with nothing selected. -/
def airReset : TagAir :=
  { state := 0, q := 0, slot := 0, session := 0, rn := 0, handle := 0, cover := 0, half := false, truncate := none }
/-- The Parlour after a power-on reset (R96). -/
def parlourReset : Parlour :=
  { pails := [], ringEn := false, statusIntEn := false, ringErr := false, events := 0x10, base := 0, ringAux := false,
    sizeLog2 := 4, head := 0, tail := 0, index := 0, dropped := 0, held := [], ports := [] }
/-- What firmware holds at a reset. -/
def firmwareNone : Firmware :=
  { challenges := [], creds := [], quorums := [], qtickets := [], nextId := 1, upd := none, vatState := [], vatImage := [],
    vatFaults := [], vatBad := [], katWait := [], katFailed := [], trims := [], loadWait := [], bootNumber := 0,
    monitor := false, supDigest := [], configDigest := [], version := [], svn := 0, cells := [], updSlot := 0,
    updOutcome := 0, updDigest := [], failReason := 0, entry := none, signVat := none, attempts := 0, tagTries := 0,
    held := none, release := [], otpJob := none, resetDue := none, devResetDue := none, lowerDue := false, spendDue := false,
    disagree := [], quiesce := [], reload := [], dvp := [], dvpStep := [], rootDue := false, hbPolicy := [0xFF, 0, 64, 0, 0, 0, 0, 0],
    taken := 0, round := [], turn := 0, gens := [], gensHeld := [], voided := [], snapNow := [], calDue := [], fuseWait := [], ring := none, tallied := none }
/-- The records of a device never claimed. -/
def storeNone : Store :=
  { level := none, parts := [], counters := [], reserves := [], keys := [], curves := [], policy := none, configs := [],
    cal := [], hbKey := none, annotations := [], snapshot := [], lastEvents := 0, tally := { faults := 0, disagree := 0, first := [] },
    staging := [] }

/-- The device right after a power-on reset of a shipped, unclaimed part, before scrubbing ends (R50, R51): mode BOOT,
POR set, every table at what its unlisted keys read as. The OTP lists TEST_EXIT (R558), the CRC of calibration values
of 0 (log entry 14), and PART and SIREV of the certificate (R564). -/
def State.reset : State :=
  { pending := [], mem := [], regs := [(0x30000011, 1)], remap := [], swap := none, cells := [], vats := [],
    central := { bits := 0, next := 0 },
    mesh := { xfers := [], nextXfer := 0, slots := [], interval := [], arbs := [], held := [], replies := [] },
    act := { shadow := [], applied := [], overlap := none, applying := false },
    evc := { pend := 0, pails := 0 },
    flt := { first := none, overflow := false, escalated := false, storm := false, overflowCount := 0, total := 0,
             tick := 0, inTick := 0 },
    tmp := { src := [], queue := [], hold := false, stall := false, fuseJobs := [],
             shareRefused := false },
    bat := { share := 0, shareCheck := 0, shareValid := false, bootCounter := 0, latch := [], mirror := [],
             spendLatch := false, lowerPending := false, timeBase := 0, monitors := [], firing := 0, lost := false },
    otp := [(0x10, 0x00FF), (0xFF, 0x592D), (0x4C4, 0x1265), (0x4C5, 0x00B0)], seedSet := 0, identityRoot := 0, ownerRoot := 0, sessionRoot := 0, calOffsets := [],
    boot := { step := 0, recoveryRequest := false, resetPending := false, spendPending := false, reason := 0,
              checks := ⟨false, ⟨false, false⟩, ⟨false, false⟩⟩ },
    ext := { mainPower := true, vbat := true, field := false, dip := none, dipHeld := [], dipDisagree := [], xtalOk := true, cards := 0,
             ctpStat := 0, ctpAux := 0 },
    flash := { linkUp := false, linkKey := 0, linkSeq := 0, tableSeq := 0, pages := [], blocks := [], badSpares := [], banks := [] }, dma := [],
    pps := { last := none, run := 0, slew := 0, since := 0 }, cards := [],
    tag := { records := [], job := none, fieldJob := none, repairs := [], air := airReset, flags := 0, crc := 0 },
    parlour := parlourReset, fw := firmwareNone, store := storeNone, rejects := [],
    fresh := 0, lastRead := ⟨.data, 0⟩, sent := [] }

end Sys2Proof.Machine
end

