-- ==== Sys2Proof/Machine/RegMap.lean ====
section
/-!
DEFINITION. The register map: where each internal register lies (R33, R34), the type of each of its bits (R6) and its
reset value, as the register tables of the chapters give them. Registers of the Parlour are 32 bits wide and stand in
Machine/Parlour.lean.
-/
namespace Sys2Proof.Machine

/-- One row of the register map: offset in its block (or instance), how many registers and how far apart, the masks of
its RO, RW, W1C, RC and RWL bits (WO and reserved bits are in none), and the reset value. -/
structure RegSpec where
  off : Nat
  count : Nat
  step : Nat
  ro : BitVec 16
  rw : BitVec 16
  w1c : BitVec 16
  rc : BitVec 16
  rwl : BitVec 16
  rst : BitVec 16
  deriving DecidableEq, Repr

/-- PWR_MODE. -/
def R.PWR_MODE : Nat := 0x30000010
/-- PWR_RSTCAUSE. -/
def R.PWR_RSTCAUSE : Nat := 0x30000011
/-- PWR_RESET. -/
def R.PWR_RESET : Nat := 0x30000012
/-- VAT_REMAP, register j. -/
def R.VAT_REMAP (j : Nat) : Nat := 0x31200000 + j
/-- VAT_SWAP. -/
def R.VAT_SWAP : Nat := 0x31200040
/-- VAT_SWAP_STATUS. -/
def R.VAT_SWAP_STATUS : Nat := 0x31200041
/-- VAT_CTRL: instance i. -/
def R.VAT_CTRL (i : Nat) : Nat := 0x31201000 + i * 0x1000
/-- VAT_STATUS: instance i. -/
def R.VAT_STATUS (i : Nat) : Nat := 0x31201001 + i * 0x1000
/-- VAT_CELL_RUN: instance i. -/
def R.VAT_CELL_RUN (i : Nat) : Nat := 0x31201002 + i * 0x1000
/-- VAT_CELL_HALTED: instance i. -/
def R.VAT_CELL_HALTED (i : Nat) : Nat := 0x31201003 + i * 0x1000
/-- VAT_CELL_IDLE: instance i. -/
def R.VAT_CELL_IDLE (i : Nat) : Nat := 0x31201004 + i * 0x1000
/-- VAT_DQ_PUSH: instance i. -/
def R.VAT_DQ_PUSH (i : Nat) : Nat := 0x31201010 + i * 0x1000
/-- VAT_DQ_DRAIN: instance i. -/
def R.VAT_DQ_DRAIN (i : Nat) : Nat := 0x31201011 + i * 0x1000
/-- VAT_DQ_RESULT: instance i. -/
def R.VAT_DQ_RESULT (i : Nat) : Nat := 0x31201012 + i * 0x1000
/-- VAT_CQ_POP: instance i. -/
def R.VAT_CQ_POP (i : Nat) : Nat := 0x31201013 + i * 0x1000
/-- VAT_TAIL_AGE: instance i. -/
def R.VAT_TAIL_AGE (i : Nat) : Nat := 0x31201014 + i * 0x1000
/-- VAT_SKIM_CFG: instance i. -/
def R.VAT_SKIM_CFG (i : Nat) : Nat := 0x31201015 + i * 0x1000
/-- VAT_SKIM_COUNT: instance i. -/
def R.VAT_SKIM_COUNT (i : Nat) : Nat := 0x31201016 + i * 0x1000
/-- VAT_DQ_DEPTH: instance i, register j. -/
def R.VAT_DQ_DEPTH (i : Nat) (j : Nat) : Nat := 0x31201020 + i * 0x1000 + j
/-- VAT_WDOG_CFG: instance i. -/
def R.VAT_WDOG_CFG (i : Nat) : Nat := 0x31201030 + i * 0x1000
/-- VAT_WDOG_CELL: instance i. -/
def R.VAT_WDOG_CELL (i : Nat) : Nat := 0x31201031 + i * 0x1000
/-- VAT_WDOG_UNIT: instance i. -/
def R.VAT_WDOG_UNIT (i : Nat) : Nat := 0x31201032 + i * 0x1000
/-- VAT_LOAD_ADDR_LO: instance i. -/
def R.VAT_LOAD_ADDR_LO (i : Nat) : Nat := 0x31201040 + i * 0x1000
/-- VAT_LOAD_ADDR_HI: instance i. -/
def R.VAT_LOAD_ADDR_HI (i : Nat) : Nat := 0x31201041 + i * 0x1000
/-- VAT_LOAD_CTRL: instance i. -/
def R.VAT_LOAD_CTRL (i : Nat) : Nat := 0x31201042 + i * 0x1000
/-- VAT_LOAD_DIGEST: instance i, register j. -/
def R.VAT_LOAD_DIGEST (i : Nat) (j : Nat) : Nat := 0x31201050 + i * 0x1000 + j
/-- CHN_STATUS: instance i. -/
def R.CHN_STATUS (i : Nat) : Nat := 0x30201000 + i * 0x1000
/-- CHN_JOBS: instance i. -/
def R.CHN_JOBS (i : Nat) : Nat := 0x30201001 + i * 0x1000
/-- CHN_CANCEL: instance i. -/
def R.CHN_CANCEL (i : Nat) : Nat := 0x30201002 + i * 0x1000
/-- CHN_EVENT: instance i. -/
def R.CHN_EVENT (i : Nat) : Nat := 0x30201003 + i * 0x1000
/-- CHN_MISMATCH: instance i. -/
def R.CHN_MISMATCH (i : Nat) : Nat := 0x30201004 + i * 0x1000
/-- CHN_LAST_MISMATCH: instance i. -/
def R.CHN_LAST_MISMATCH (i : Nat) : Nat := 0x30201005 + i * 0x1000
/-- CHN_CURVES: instance i. -/
def R.CHN_CURVES (i : Nat) : Nat := 0x30201006 + i * 0x1000
/-- CHN_KAT: instance i. -/
def R.CHN_KAT (i : Nat) : Nat := 0x30201007 + i * 0x1000
/-- CHN_OPS: instance i. -/
def R.CHN_OPS (i : Nat) : Nat := 0x30201008 + i * 0x1000
/-- CHN_SWITCHES: instance i. -/
def R.CHN_SWITCHES (i : Nat) : Nat := 0x30201009 + i * 0x1000
/-- MAC_ROOTS. -/
def R.MAC_ROOTS : Nat := 0x30300000
/-- MAC_STATUS: instance i. -/
def R.MAC_STATUS (i : Nat) : Nat := 0x30301000 + i * 0x1000
/-- MAC_JOBS: instance i. -/
def R.MAC_JOBS (i : Nat) : Nat := 0x30301001 + i * 0x1000
/-- MAC_CANCEL: instance i. -/
def R.MAC_CANCEL (i : Nat) : Nat := 0x30301002 + i * 0x1000
/-- MAC_EVENT: instance i. -/
def R.MAC_EVENT (i : Nat) : Nat := 0x30301003 + i * 0x1000
/-- MAC_CFG: instance i. -/
def R.MAC_CFG (i : Nat) : Nat := 0x30301004 + i * 0x1000
/-- MAC_RESEEDS: instance i. -/
def R.MAC_RESEEDS (i : Nat) : Nat := 0x30301005 + i * 0x1000
/-- MAC_KAT: instance i. -/
def R.MAC_KAT (i : Nat) : Nat := 0x30301006 + i * 0x1000
/-- MAC_CTR_SEL: instance i. -/
def R.MAC_CTR_SEL (i : Nat) : Nat := 0x30301010 + i * 0x1000
/-- MAC_CTR_CMD: instance i. -/
def R.MAC_CTR_CMD (i : Nat) : Nat := 0x30301011 + i * 0x1000
/-- MAC_CTR_ARG: instance i, register j. -/
def R.MAC_CTR_ARG (i : Nat) (j : Nat) : Nat := 0x30301012 + i * 0x1000 + j
/-- MAC_CTR_VAL: instance i, register j. -/
def R.MAC_CTR_VAL (i : Nat) (j : Nat) : Nat := 0x30301015 + i * 0x1000 + j
/-- MAC_CTR_STATUS: instance i. -/
def R.MAC_CTR_STATUS (i : Nat) : Nat := 0x30301018 + i * 0x1000
/-- RNG_CQ_STATUS. -/
def R.RNG_CQ_STATUS : Nat := 0x30400000
/-- RNG_CQ_DATA. -/
def R.RNG_CQ_DATA : Nat := 0x30400001
/-- RNG_CQ_CFG. -/
def R.RNG_CQ_CFG : Nat := 0x30400002
/-- RNG_STOPPED, register j. -/
def R.RNG_STOPPED (j : Nat) : Nat := 0x30400004 + j
/-- RNG_SRC_STATUS: instance i. -/
def R.RNG_SRC_STATUS (i : Nat) : Nat := 0x30401000 + i * 0x1000
/-- RNG_SRC_CFG: instance i. -/
def R.RNG_SRC_CFG (i : Nat) : Nat := 0x30401001 + i * 0x1000
/-- RNG_RCT_PEAK: instance i. -/
def R.RNG_RCT_PEAK (i : Nat) : Nat := 0x30401002 + i * 0x1000
/-- RNG_APT_PEAK: instance i. -/
def R.RNG_APT_PEAK (i : Nat) : Nat := 0x30401003 + i * 0x1000
/-- RNG_FALLBACK: instance i. -/
def R.RNG_FALLBACK (i : Nat) : Nat := 0x30401004 + i * 0x1000
/-- MSH_REPLY_LIMIT. -/
def R.MSH_REPLY_LIMIT : Nat := 0x30500000
/-- MSH_POST_EN, register j. -/
def R.MSH_POST_EN (j : Nat) : Nat := 0x30500004 + j
/-- MSH_BIC_COUNT. -/
def R.MSH_BIC_COUNT : Nat := 0x30500008
/-- MSH_BIC_LAST. -/
def R.MSH_BIC_LAST : Nat := 0x30500009
/-- MSH_LATE. -/
def R.MSH_LATE : Nat := 0x3050000B
/-- MSH_ARB_SEL. -/
def R.MSH_ARB_SEL : Nat := 0x30500010
/-- MSH_ARB_CFG. -/
def R.MSH_ARB_CFG : Nat := 0x30500011
/-- MSH_ARB_STATUS. -/
def R.MSH_ARB_STATUS : Nat := 0x30500012
/-- MSH_ARB_SLOT, register j. -/
def R.MSH_ARB_SLOT (j : Nat) : Nat := 0x30500040 + j
/-- MSH_SWDOG_CFG. -/
def R.MSH_SWDOG_CFG : Nat := 0x30500080
/-- MSH_SWDOG_KICK. -/
def R.MSH_SWDOG_KICK : Nat := 0x30500081
/-- MSH_SWDOG_STATUS. -/
def R.MSH_SWDOG_STATUS : Nat := 0x30500082
/-- MSH_WDOG_SUM, register j. -/
def R.MSH_WDOG_SUM (j : Nat) : Nat := 0x30500084 + j
/-- MSH_RTR_STATUS: instance i. -/
def R.MSH_RTR_STATUS (i : Nat) : Nat := 0x30501000 + i * 0x1000
/-- MSH_RTR_WDOG_CFG: instance i. -/
def R.MSH_RTR_WDOG_CFG (i : Nat) : Nat := 0x30501001 + i * 0x1000
/-- MSH_RTR_WDOG: instance i. -/
def R.MSH_RTR_WDOG (i : Nat) : Nat := 0x30501002 + i * 0x1000
/-- MSH_RTR_ABORT: instance i. -/
def R.MSH_RTR_ABORT (i : Nat) : Nat := 0x30501003 + i * 0x1000
/-- MSH_RTR_AGE_MAX: instance i. -/
def R.MSH_RTR_AGE_MAX (i : Nat) : Nat := 0x30501004 + i * 0x1000
/-- MSH_RTR_GRANTS: instance i, register j. -/
def R.MSH_RTR_GRANTS (i : Nat) (j : Nat) : Nat := 0x30501010 + i * 0x1000 + j
/-- ACT_CTRL. -/
def R.ACT_CTRL : Nat := 0x30600000
/-- ACT_STATUS. -/
def R.ACT_STATUS : Nat := 0x30600001
/-- ACT_SEL. -/
def R.ACT_SEL : Nat := 0x30600002
/-- ACT_OVL_A. -/
def R.ACT_OVL_A : Nat := 0x30600003
/-- ACT_OVL_B. -/
def R.ACT_OVL_B : Nat := 0x30600004
/-- ACT_ENTRY, register j. -/
def R.ACT_ENTRY (j : Nat) : Nat := 0x30600010 + j
/-- ACT_VIOL_COUNT. -/
def R.ACT_VIOL_COUNT : Nat := 0x30600020
/-- ACT_LAST. -/
def R.ACT_LAST : Nat := 0x30600021
/-- DMA_ACTIVE, register j. -/
def R.DMA_ACTIVE (j : Nat) : Nat := 0x30700000 + j
/-- DMA_HALTED, register j. -/
def R.DMA_HALTED (j : Nat) : Nat := 0x30700004 + j
/-- DMA_CH_CTRL: instance i. -/
def R.DMA_CH_CTRL (i : Nat) : Nat := 0x30701000 + i * 0x1000
/-- DMA_CH_CFG: instance i. -/
def R.DMA_CH_CFG (i : Nat) : Nat := 0x30701001 + i * 0x1000
/-- DMA_CH_STATUS: instance i. -/
def R.DMA_CH_STATUS (i : Nat) : Nat := 0x30701002 + i * 0x1000
/-- DMA_CH_DESC: instance i, register j. -/
def R.DMA_CH_DESC (i : Nat) (j : Nat) : Nat := 0x30701004 + i * 0x1000 + j
/-- DMA_CH_CUR: instance i, register j. -/
def R.DMA_CH_CUR (i : Nat) (j : Nat) : Nat := 0x30701008 + i * 0x1000 + j
/-- DMA_CH_RESIDUE: instance i, register j. -/
def R.DMA_CH_RESIDUE (i : Nat) (j : Nat) : Nat := 0x3070100C + i * 0x1000 + j
/-- DMA_CH_EVENT: instance i. -/
def R.DMA_CH_EVENT (i : Nat) : Nat := 0x30701010 + i * 0x1000
/-- DMA_CH_COUNT: instance i. -/
def R.DMA_CH_COUNT (i : Nat) : Nat := 0x30701011 + i * 0x1000
/-- FLC_STATUS. -/
def R.FLC_STATUS : Nat := 0x30800000
/-- FLC_PROT. -/
def R.FLC_PROT : Nat := 0x30800001
/-- FLC_COM_EVENT. -/
def R.FLC_COM_EVENT : Nat := 0x30800002
/-- FLC_CFG. -/
def R.FLC_CFG : Nat := 0x30800003
/-- FLC_LINK_ERRS. -/
def R.FLC_LINK_ERRS : Nat := 0x30800004
/-- FLC_MAP_SEL. -/
def R.FLC_MAP_SEL : Nat := 0x30800010
/-- FLC_MAP. -/
def R.FLC_MAP : Nat := 0x30800011
/-- FLC_GROWN_COUNT. -/
def R.FLC_GROWN_COUNT : Nat := 0x30800012
/-- FLC_CMD: instance i. -/
def R.FLC_CMD (i : Nat) : Nat := 0x30801000 + i * 0x1000
/-- FLC_ADDR: instance i. -/
def R.FLC_ADDR (i : Nat) : Nat := 0x30801001 + i * 0x1000
/-- FLC_SRC_LO: instance i. -/
def R.FLC_SRC_LO (i : Nat) : Nat := 0x30801002 + i * 0x1000
/-- FLC_SRC_HI: instance i. -/
def R.FLC_SRC_HI (i : Nat) : Nat := 0x30801003 + i * 0x1000
/-- FLC_BANK_STATUS: instance i. -/
def R.FLC_BANK_STATUS (i : Nat) : Nat := 0x30801004 + i * 0x1000
/-- FLC_RESULT: instance i. -/
def R.FLC_RESULT (i : Nat) : Nat := 0x30801005 + i * 0x1000
/-- FLC_EVENT: instance i. -/
def R.FLC_EVENT (i : Nat) : Nat := 0x30801006 + i * 0x1000
/-- FLC_RETRY_COUNT: instance i. -/
def R.FLC_RETRY_COUNT (i : Nat) : Nat := 0x30801007 + i * 0x1000
/-- FLC_RETRY_LAST: instance i. -/
def R.FLC_RETRY_LAST (i : Nat) : Nat := 0x30801008 + i * 0x1000
/-- FLC_UNCORR_LAST: instance i. -/
def R.FLC_UNCORR_LAST (i : Nat) : Nat := 0x30801009 + i * 0x1000
/-- FLC_CORR_MAX: instance i. -/
def R.FLC_CORR_MAX (i : Nat) : Nat := 0x3080100A + i * 0x1000
/-- FLC_BUSY_READS: instance i. -/
def R.FLC_BUSY_READS (i : Nat) : Nat := 0x3080100B + i * 0x1000
/-- FGP_LOCK. -/
def R.FGP_LOCK : Nat := 0x30900000
/-- FGP_MEASURING, register j. -/
def R.FGP_MEASURING (j : Nat) : Nat := 0x30900001 + j
/-- FGP_CTRL: instance i. -/
def R.FGP_CTRL (i : Nat) : Nat := 0x30901000 + i * 0x1000
/-- FGP_STATUS: instance i. -/
def R.FGP_STATUS (i : Nat) : Nat := 0x30901001 + i * 0x1000
/-- FGP_MCFG: instance i. -/
def R.FGP_MCFG (i : Nat) : Nat := 0x30901002 + i * 0x1000
/-- FGP_MREAD: instance i. -/
def R.FGP_MREAD (i : Nat) : Nat := 0x30901003 + i * 0x1000
/-- FGP_MLIMIT: instance i. -/
def R.FGP_MLIMIT (i : Nat) : Nat := 0x30901004 + i * 0x1000
/-- FGP_GCFG: instance i. -/
def R.FGP_GCFG (i : Nat) : Nat := 0x30901005 + i * 0x1000
/-- FGP_EVENT: instance i. -/
def R.FGP_EVENT (i : Nat) : Nat := 0x30901006 + i * 0x1000
/-- FGP_BLOCKED: instance i. -/
def R.FGP_BLOCKED (i : Nat) : Nat := 0x30901007 + i * 0x1000
/-- FGP_LOG_HEAD: instance i. -/
def R.FGP_LOG_HEAD (i : Nat) : Nat := 0x30901008 + i * 0x1000
/-- FGP_RANGE: instance i, register j. -/
def R.FGP_RANGE (i : Nat) (j : Nat) : Nat := 0x30901010 + i * 0x1000 + j
/-- FGP_DIGEST: instance i, register j. -/
def R.FGP_DIGEST (i : Nat) (j : Nat) : Nat := 0x30901020 + i * 0x1000 + j
/-- FGP_WIN: instance i, register j. -/
def R.FGP_WIN (i : Nat) (j : Nat) : Nat := 0x30901030 + i * 0x1000 + j
/-- FGP_XOP: instance i, register j. -/
def R.FGP_XOP (i : Nat) (j : Nat) : Nat := 0x30901040 + i * 0x1000 + j
/-- FGP_LOG: instance i, register j. -/
def R.FGP_LOG (i : Nat) (j : Nat) : Nat := 0x30901080 + i * 0x1000 + j
/-- DVP_CTRL: instance i. -/
def R.DVP_CTRL (i : Nat) : Nat := 0x30A01000 + i * 0x1000
/-- DVP_CFG: instance i. -/
def R.DVP_CFG (i : Nat) : Nat := 0x30A01001 + i * 0x1000
/-- DVP_EID: instance i. -/
def R.DVP_EID (i : Nat) : Nat := 0x30A01002 + i * 0x1000
/-- DVP_STATUS: instance i. -/
def R.DVP_STATUS (i : Nat) : Nat := 0x30A01003 + i * 0x1000
/-- DVP_TX_ADDR: instance i, register j. -/
def R.DVP_TX_ADDR (i : Nat) (j : Nat) : Nat := 0x30A01004 + i * 0x1000 + j
/-- DVP_RX_ADDR: instance i, register j. -/
def R.DVP_RX_ADDR (i : Nat) (j : Nat) : Nat := 0x30A01008 + i * 0x1000 + j
/-- DVP_TX_LEN: instance i. -/
def R.DVP_TX_LEN (i : Nat) : Nat := 0x30A01006 + i * 0x1000
/-- DVP_RX_LEN: instance i. -/
def R.DVP_RX_LEN (i : Nat) : Nat := 0x30A0100A + i * 0x1000
/-- DVP_TIMEOUT: instance i. -/
def R.DVP_TIMEOUT (i : Nat) : Nat := 0x30A0100B + i * 0x1000
/-- DVP_EVENT: instance i. -/
def R.DVP_EVENT (i : Nat) : Nat := 0x30A0100C + i * 0x1000
/-- DVP_IBI_COUNT: instance i. -/
def R.DVP_IBI_COUNT (i : Nat) : Nat := 0x30A0100D + i * 0x1000
/-- CTP_GATE. -/
def R.CTP_GATE : Nat := 0x30B00000
/-- CTP_STAT_SUM, register j. -/
def R.CTP_STAT_SUM (j : Nat) : Nat := 0x30B00002 + j
/-- CTP_OUT: instance i. -/
def R.CTP_OUT (i : Nat) : Nat := 0x30B01000 + i * 0x1000
/-- CTP_CFG: instance i. -/
def R.CTP_CFG (i : Nat) : Nat := 0x30B01001 + i * 0x1000
/-- CTP_IN: instance i. -/
def R.CTP_IN (i : Nat) : Nat := 0x30B01002 + i * 0x1000
/-- CTP_EVENT: instance i. -/
def R.CTP_EVENT (i : Nat) : Nat := 0x30B01003 + i * 0x1000
/-- CLK_TB, register j. -/
def R.CLK_TB (j : Nat) : Nat := 0x31100000 + j
/-- CLK_TREF_STATUS. -/
def R.CLK_TREF_STATUS : Nat := 0x31100003
/-- CSL_PRESENT. -/
def R.CSL_PRESENT : Nat := 0x30C00000
/-- CSL_ACTIVE. -/
def R.CSL_ACTIVE : Nat := 0x30C00001
/-- CSL_CTRL: instance i. -/
def R.CSL_CTRL (i : Nat) : Nat := 0x30C01000 + i * 0x1000
/-- CSL_CFG: instance i. -/
def R.CSL_CFG (i : Nat) : Nat := 0x30C01001 + i * 0x1000
/-- CSL_MAXDIV: instance i. -/
def R.CSL_MAXDIV (i : Nat) : Nat := 0x30C01002 + i * 0x1000
/-- CSL_STATUS: instance i. -/
def R.CSL_STATUS (i : Nat) : Nat := 0x30C01003 + i * 0x1000
/-- CSL_PARAMS: instance i. -/
def R.CSL_PARAMS (i : Nat) : Nat := 0x30C01004 + i * 0x1000
/-- CSL_PROT: instance i. -/
def R.CSL_PROT (i : Nat) : Nat := 0x30C01005 + i * 0x1000
/-- CSL_PROT2: instance i. -/
def R.CSL_PROT2 (i : Nat) : Nat := 0x30C01006 + i * 0x1000
/-- CSL_RESULT: instance i. -/
def R.CSL_RESULT (i : Nat) : Nat := 0x30C01007 + i * 0x1000
/-- CSL_TX_LEN: instance i. -/
def R.CSL_TX_LEN (i : Nat) : Nat := 0x30C01008 + i * 0x1000
/-- CSL_ATR_LEN: instance i. -/
def R.CSL_ATR_LEN (i : Nat) : Nat := 0x30C01009 + i * 0x1000
/-- CSL_EVENT: instance i. -/
def R.CSL_EVENT (i : Nat) : Nat := 0x30C0100A + i * 0x1000
/-- CSL_ERRS: instance i. -/
def R.CSL_ERRS (i : Nat) : Nat := 0x30C0100B + i * 0x1000
/-- CSL_ATR: instance i, register j. -/
def R.CSL_ATR (i : Nat) (j : Nat) : Nat := 0x30C01010 + i * 0x1000 + j
/-- CSL_TX: instance i, register j. -/
def R.CSL_TX (i : Nat) (j : Nat) : Nat := 0x30C01100 + i * 0x1000 + j
/-- CSL_RX: instance i, register j. -/
def R.CSL_RX (i : Nat) (j : Nat) : Nat := 0x30C01200 + i * 0x1000 + j
/-- TAG_STATUS. -/
def R.TAG_STATUS : Nat := 0x30D00000
/-- TAG_CMD. -/
def R.TAG_CMD : Nat := 0x30D00001
/-- TAG_RESULT. -/
def R.TAG_RESULT : Nat := 0x30D00002
/-- TAG_SEQ, register j. -/
def R.TAG_SEQ (j : Nat) : Nat := 0x30D00003 + j
/-- TAG_EVENT. -/
def R.TAG_EVENT : Nat := 0x30D00005
/-- TAG_REFUSALS. -/
def R.TAG_REFUSALS : Nat := 0x30D00006
/-- TAG_BUF, register j. -/
def R.TAG_BUF (j : Nat) : Nat := 0x30D00010 + j
/-- TMP_ACTIVE. -/
def R.TMP_ACTIVE : Nat := 0x30E00000
/-- TMP_FIRING, register j. -/
def R.TMP_FIRING (j : Nat) : Nat := 0x30E00001 + j
/-- TMP_FUSED, register j. -/
def R.TMP_FUSED (j : Nat) : Nat := 0x30E00004 + j
/-- TMP_OTP_STATUS. -/
def R.TMP_OTP_STATUS : Nat := 0x30E00007
/-- TMP_FUSE. -/
def R.TMP_FUSE : Nat := 0x30E00008
/-- TMP_SRC_CFG, register j. -/
def R.TMP_SRC_CFG (j : Nat) : Nat := 0x30E00100 + 4 * j
/-- TMP_SRC_QUIET, register j. -/
def R.TMP_SRC_QUIET (j : Nat) : Nat := 0x30E00101 + 4 * j
/-- TMP_SRC_STATUS, register j. -/
def R.TMP_SRC_STATUS (j : Nat) : Nat := 0x30E00102 + 4 * j
/-- TMP_SRC_COUNT, register j. -/
def R.TMP_SRC_COUNT (j : Nat) : Nat := 0x30E00103 + 4 * j
/-- FLT_FIRST, register j. -/
def R.FLT_FIRST (j : Nat) : Nat := 0x30F00000 + j
/-- FLT_STATUS. -/
def R.FLT_STATUS : Nat := 0x30F00008
/-- FLT_ACK. -/
def R.FLT_ACK : Nat := 0x30F00009
/-- FLT_TOTAL, register j. -/
def R.FLT_TOTAL (j : Nat) : Nat := 0x30F0000A + j
/-- FLT_STORM_CFG. -/
def R.FLT_STORM_CFG : Nat := 0x30F0000C
/-- FLT_RECOVERIES. -/
def R.FLT_RECOVERIES : Nat := 0x30F0000D
/-- FLT_CLASS_COUNT, register j. -/
def R.FLT_CLASS_COUNT (j : Nat) : Nat := 0x30F00011 + j
/-- CAL_ITEM. -/
def R.CAL_ITEM : Nat := 0x31400000
/-- CAL_FACTORY. -/
def R.CAL_FACTORY : Nat := 0x31400001
/-- CAL_OFFSET. -/
def R.CAL_OFFSET : Nat := 0x31400002
/-- CAL_BOUND. -/
def R.CAL_BOUND : Nat := 0x31400003
/-- CAL_EFFECTIVE. -/
def R.CAL_EFFECTIVE : Nat := 0x31400004
/-- CAL_STATUS. -/
def R.CAL_STATUS : Nat := 0x31400005
/-- EVC_STATUS. -/
def R.EVC_STATUS : Nat := 0x31000000
/-- EVC_LINE_PEND, register j. -/
def R.EVC_LINE_PEND (j : Nat) : Nat := 0x31000001 + j
/-- EVC_NEXT, register j. -/
def R.EVC_NEXT (j : Nat) : Nat := 0x31000010 + j
/-- EVC_PEND, register j. -/
def R.EVC_PEND (j : Nat) : Nat := 0x31000040 + j
/-- EVC_PAIL_PENDING, register j. -/
def R.EVC_PAIL_PENDING (j : Nat) : Nat := 0x31000070 + j
/-- EVC_ROUTE, register j. -/
def R.EVC_ROUTE (j : Nat) : Nat := 0x31000400 + j

/-- The common registers of the PWR_ block. -/
def regs_pwrCommon : List RegSpec :=
  [ ⟨0x10, 1, 1, 0x1FFF, 0x0000, 0x0000, 0x0000, 0x0000, 0x0003⟩,  -- PWR_MODE
    ⟨0x11, 1, 1, 0x0000, 0x0000, 0x007F, 0x0000, 0x0000, 0x0000⟩,  -- PWR_RSTCAUSE
    ⟨0x12, 1, 1, 0x0000, 0x0000, 0x0000, 0x0000, 0x0000, 0x0000⟩ ]  -- PWR_RESET

/-- The instance registers of the CHN_ block. -/
def regs_chnInst : List RegSpec :=
  [ ⟨0x0, 1, 1, 0x8F1F, 0x0000, 0x0000, 0x0000, 0x0000, 0x0000⟩,  -- CHN_STATUS
    ⟨0x1, 1, 1, 0xFFFF, 0x0000, 0x0000, 0x0000, 0x0000, 0x0000⟩,  -- CHN_JOBS
    ⟨0x2, 1, 1, 0x0000, 0x0000, 0x0000, 0x0000, 0x0000, 0x0000⟩,  -- CHN_CANCEL
    ⟨0x3, 1, 1, 0x0000, 0x0000, 0x003F, 0x0000, 0x0000, 0x0000⟩,  -- CHN_EVENT
    ⟨0x4, 1, 1, 0x0000, 0x0000, 0x0000, 0xFFFF, 0x0000, 0x0000⟩,  -- CHN_MISMATCH
    ⟨0x5, 1, 1, 0xF0FF, 0x0000, 0x0000, 0x0000, 0x0000, 0x0000⟩,  -- CHN_LAST_MISMATCH
    ⟨0x6, 1, 1, 0xFFFF, 0x0000, 0x0000, 0x0000, 0x0000, 0x000E⟩,  -- CHN_CURVES
    ⟨0x7, 1, 1, 0x7000, 0x0000, 0x0000, 0x0000, 0x0000, 0x0000⟩,  -- CHN_KAT
    ⟨0x8, 1, 1, 0x0000, 0x0000, 0x0000, 0xFFFF, 0x0000, 0x0000⟩,  -- CHN_OPS
    ⟨0x9, 1, 1, 0x0000, 0x0000, 0x0000, 0xFFFF, 0x0000, 0x0000⟩ ]  -- CHN_SWITCHES

/-- The common registers of the MAC_ block. -/
def regs_macCommon : List RegSpec :=
  [ ⟨0x0, 1, 1, 0x0007, 0x0000, 0x0000, 0x0000, 0x0000, 0x0000⟩ ]  -- MAC_ROOTS

/-- The instance registers of the MAC_ block. -/
def regs_macInst : List RegSpec :=
  [ ⟨0x0, 1, 1, 0x8FFF, 0x0000, 0x0000, 0x0000, 0x0000, 0x0000⟩,  -- MAC_STATUS
    ⟨0x1, 1, 1, 0xFFFF, 0x0000, 0x0000, 0x0000, 0x0000, 0x0000⟩,  -- MAC_JOBS
    ⟨0x2, 1, 1, 0x0000, 0x0000, 0x0000, 0x0000, 0x0000, 0x0000⟩,  -- MAC_CANCEL
    ⟨0x3, 1, 1, 0x0000, 0x0000, 0x003F, 0x0000, 0x0000, 0x0000⟩,  -- MAC_EVENT
    ⟨0x4, 1, 1, 0x0000, 0x8000, 0x0000, 0x0000, 0x0001, 0x0000⟩,  -- MAC_CFG
    ⟨0x5, 1, 1, 0x0000, 0x0000, 0x0000, 0xFFFF, 0x0000, 0x0000⟩,  -- MAC_RESEEDS
    ⟨0x6, 1, 1, 0x7000, 0x0000, 0x0000, 0x0000, 0x0000, 0x0000⟩,  -- MAC_KAT
    ⟨0x10, 1, 1, 0x0000, 0x003F, 0x0000, 0x0000, 0x0000, 0x0000⟩,  -- MAC_CTR_SEL
    ⟨0x11, 1, 1, 0x0000, 0x0000, 0x0000, 0x0000, 0x0000, 0x0000⟩,  -- MAC_CTR_CMD
    ⟨0x12, 3, 1, 0x0000, 0xFFFF, 0x0000, 0x0000, 0x0000, 0x0000⟩,  -- MAC_CTR_ARG
    ⟨0x15, 3, 1, 0xFFFF, 0x0000, 0x0000, 0x0000, 0x0000, 0x0000⟩,  -- MAC_CTR_VAL
    ⟨0x18, 1, 1, 0x0003, 0x0000, 0x0000, 0x0000, 0x0000, 0x0000⟩ ]  -- MAC_CTR_STATUS

/-- The common registers of the RNG_ block. -/
def regs_rngCommon : List RegSpec :=
  [ ⟨0x0, 1, 1, 0x8FFF, 0x0000, 0x4000, 0x0000, 0x0000, 0x0000⟩,  -- RNG_CQ_STATUS
    ⟨0x1, 1, 1, 0x0000, 0x0000, 0x0000, 0xFFFF, 0x0000, 0x0000⟩,  -- RNG_CQ_DATA
    ⟨0x2, 1, 1, 0x0000, 0x0FFF, 0x0000, 0x0000, 0x0000, 0x0100⟩,  -- RNG_CQ_CFG
    ⟨0x4, 3, 1, 0xFFFF, 0x0000, 0x0000, 0x0000, 0x0000, 0x0000⟩ ]  -- RNG_STOPPED

/-- The instance registers of the RNG_ block. -/
def regs_rngInst : List RegSpec :=
  [ ⟨0x0, 1, 1, 0xF8FF, 0x0000, 0x0000, 0x0000, 0x0000, 0x4000⟩,  -- RNG_SRC_STATUS
    ⟨0x1, 1, 1, 0x0000, 0x00FF, 0x0000, 0x0000, 0x0000, 0x0020⟩,  -- RNG_SRC_CFG
    ⟨0x2, 1, 1, 0x0000, 0x0000, 0x0000, 0x003F, 0x0000, 0x0000⟩,  -- RNG_RCT_PEAK
    ⟨0x3, 1, 1, 0x0000, 0x0000, 0x0000, 0x03FF, 0x0000, 0x0000⟩,  -- RNG_APT_PEAK
    ⟨0x4, 1, 1, 0x0000, 0x0000, 0x0000, 0xFFFF, 0x0000, 0x0000⟩ ]  -- RNG_FALLBACK

/-- The common registers of the MSH_ block. -/
def regs_mshCommon : List RegSpec :=
  [ ⟨0x0, 1, 1, 0x0000, 0x00FF, 0x0000, 0x0000, 0x0000, 0x00FA⟩,  -- MSH_REPLY_LIMIT
    ⟨0x4, 3, 1, 0x0000, 0xFFFF, 0x0000, 0x0000, 0x0000, 0xFFFF⟩,  -- MSH_POST_EN
    ⟨0x8, 1, 1, 0x0000, 0x0000, 0x0000, 0xFFFF, 0x0000, 0x0000⟩,  -- MSH_BIC_COUNT
    ⟨0x9, 1, 1, 0xE3FF, 0x0000, 0x0000, 0x0000, 0x0000, 0x0000⟩,  -- MSH_BIC_LAST
    ⟨0xB, 1, 1, 0x0000, 0x0000, 0x0000, 0xFFFF, 0x0000, 0x0000⟩,  -- MSH_LATE
    ⟨0x10, 1, 1, 0x0000, 0x00FF, 0x0000, 0x0000, 0x0000, 0x0000⟩,  -- MSH_ARB_SEL
    ⟨0x11, 1, 1, 0x0000, 0x007F, 0x0000, 0x0000, 0x0000, 0x0010⟩,  -- MSH_ARB_CFG
    ⟨0x12, 1, 1, 0x003F, 0x0000, 0x0000, 0x0000, 0x0000, 0x0000⟩,  -- MSH_ARB_STATUS
    ⟨0x40, 64, 1, 0x0000, 0x801F, 0x0000, 0x0000, 0x0000, 0x0000⟩,  -- MSH_ARB_SLOT
    ⟨0x80, 1, 1, 0x0000, 0xFFFF, 0x0000, 0x0000, 0x0000, 0x0000⟩,  -- MSH_SWDOG_CFG
    ⟨0x81, 1, 1, 0x0000, 0x0000, 0x0000, 0x0000, 0x0000, 0x0000⟩,  -- MSH_SWDOG_KICK
    ⟨0x82, 1, 1, 0x0000, 0x0000, 0x0003, 0x0000, 0x0000, 0x0000⟩,  -- MSH_SWDOG_STATUS
    ⟨0x84, 3, 1, 0xFFFF, 0x0000, 0x0000, 0x0000, 0x0000, 0x0000⟩ ]  -- MSH_WDOG_SUM

/-- The instance registers of the MSH_ block. -/
def regs_mshInst : List RegSpec :=
  [ ⟨0x0, 1, 1, 0x3F3F, 0x0000, 0x0000, 0x0000, 0x0000, 0x0000⟩,  -- MSH_RTR_STATUS
    ⟨0x1, 1, 1, 0x0000, 0x00FF, 0x0000, 0x0000, 0x0000, 0x0014⟩,  -- MSH_RTR_WDOG_CFG
    ⟨0x2, 1, 1, 0x0000, 0x0000, 0x003F, 0x0000, 0x0000, 0x0000⟩,  -- MSH_RTR_WDOG
    ⟨0x3, 1, 1, 0x0000, 0x0000, 0x0000, 0x0000, 0x0000, 0x0000⟩,  -- MSH_RTR_ABORT
    ⟨0x4, 1, 1, 0x0000, 0x0000, 0x0000, 0x00FF, 0x0000, 0x0000⟩,  -- MSH_RTR_AGE_MAX
    ⟨0x10, 6, 1, 0x0000, 0x0000, 0x0000, 0xFFFF, 0x0000, 0x0000⟩ ]  -- MSH_RTR_GRANTS

/-- The common registers of the ACT_ block. -/
def regs_actCommon : List RegSpec :=
  [ ⟨0x0, 1, 1, 0x0000, 0x0000, 0x0000, 0x0000, 0x0000, 0x0000⟩,  -- ACT_CTRL
    ⟨0x1, 1, 1, 0xD7FF, 0x0000, 0x2000, 0x0000, 0x0000, 0x0000⟩,  -- ACT_STATUS
    ⟨0x2, 1, 1, 0x0000, 0x03FF, 0x0000, 0x0000, 0x0000, 0x0000⟩,  -- ACT_SEL
    ⟨0x3, 1, 1, 0x83FF, 0x0000, 0x0000, 0x0000, 0x0000, 0x0000⟩,  -- ACT_OVL_A
    ⟨0x4, 1, 1, 0x83FF, 0x0000, 0x0000, 0x0000, 0x0000, 0x0000⟩,  -- ACT_OVL_B
    ⟨0x10, 10, 1, 0x0000, 0xFFFF, 0x0000, 0x0000, 0x0000, 0x0000⟩,  -- ACT_ENTRY
    ⟨0x20, 1, 1, 0x0000, 0x0000, 0x0000, 0xFFFF, 0x0000, 0x0000⟩,  -- ACT_VIOL_COUNT
    ⟨0x21, 1, 1, 0xE7FF, 0x0000, 0x0000, 0x0000, 0x0000, 0x0000⟩ ]  -- ACT_LAST

/-- The common registers of the DMA_ block. -/
def regs_dmaCommon : List RegSpec :=
  [ ⟨0x0, 4, 1, 0xFFFF, 0x0000, 0x0000, 0x0000, 0x0000, 0x0000⟩,  -- DMA_ACTIVE
    ⟨0x4, 4, 1, 0xFFFF, 0x0000, 0x0000, 0x0000, 0x0000, 0x0000⟩ ]  -- DMA_HALTED

/-- The instance registers of the DMA_ block. -/
def regs_dmaInst : List RegSpec :=
  [ ⟨0x0, 1, 1, 0x0000, 0x0000, 0x0000, 0x0000, 0x0000, 0x0000⟩,  -- DMA_CH_CTRL
    ⟨0x1, 1, 1, 0x0000, 0x000F, 0x0000, 0x0000, 0x0000, 0x0002⟩,  -- DMA_CH_CFG
    ⟨0x2, 1, 1, 0xFC00, 0x0000, 0x0000, 0x0000, 0x0000, 0x0000⟩,  -- DMA_CH_STATUS
    ⟨0x4, 4, 1, 0x0000, 0xFFFF, 0x0000, 0x0000, 0x0000, 0x0000⟩,  -- DMA_CH_DESC
    ⟨0x8, 4, 1, 0xFFFF, 0x0000, 0x0000, 0x0000, 0x0000, 0x0000⟩,  -- DMA_CH_CUR
    ⟨0xC, 2, 1, 0xFFFF, 0x0000, 0x0000, 0x0000, 0x0000, 0x0000⟩,  -- DMA_CH_RESIDUE
    ⟨0x10, 1, 1, 0x0000, 0x0000, 0x003F, 0x0000, 0x0000, 0x0000⟩,  -- DMA_CH_EVENT
    ⟨0x11, 1, 1, 0x0000, 0x0000, 0x0000, 0xFFFF, 0x0000, 0x0000⟩ ]  -- DMA_CH_COUNT

/-- The common registers of the FLC_ block. -/
def regs_flcCommon : List RegSpec :=
  [ ⟨0x0, 1, 1, 0xC0FF, 0x0000, 0x0000, 0x0000, 0x0000, 0x0000⟩,  -- FLC_STATUS
    ⟨0x1, 1, 1, 0x0000, 0x0003, 0x0000, 0x0000, 0x0000, 0x0003⟩,  -- FLC_PROT
    ⟨0x2, 1, 1, 0x0000, 0x0000, 0x0007, 0x0000, 0x0000, 0x0000⟩,  -- FLC_COM_EVENT
    ⟨0x3, 1, 1, 0x0000, 0xF03F, 0x0000, 0x0000, 0x0000, 0x6018⟩,  -- FLC_CFG
    ⟨0x4, 1, 1, 0x0000, 0x0000, 0x0000, 0xFFFF, 0x0000, 0x0000⟩,  -- FLC_LINK_ERRS
    ⟨0x10, 1, 1, 0x0000, 0x01FF, 0x0000, 0x0000, 0x0000, 0x0000⟩,  -- FLC_MAP_SEL
    ⟨0x11, 1, 1, 0xF8FF, 0x0000, 0x0000, 0x0000, 0x0000, 0x0000⟩,  -- FLC_MAP
    ⟨0x12, 1, 1, 0x03FF, 0x0000, 0x0000, 0x0000, 0x0000, 0x0000⟩ ]  -- FLC_GROWN_COUNT

/-- The instance registers of the FLC_ block. -/
def regs_flcInst : List RegSpec :=
  [ ⟨0x0, 1, 1, 0x0000, 0x0000, 0x0000, 0x0000, 0x0000, 0x0000⟩,  -- FLC_CMD
    ⟨0x1, 1, 1, 0x0000, 0x0FFF, 0x0000, 0x0000, 0x0000, 0x0000⟩,  -- FLC_ADDR
    ⟨0x2, 1, 1, 0x0000, 0xFFFF, 0x0000, 0x0000, 0x0000, 0x0000⟩,  -- FLC_SRC_LO
    ⟨0x3, 1, 1, 0x0000, 0xFFFF, 0x0000, 0x0000, 0x0000, 0x0000⟩,  -- FLC_SRC_HI
    ⟨0x4, 1, 1, 0xB000, 0x0000, 0x4000, 0x0000, 0x0000, 0x0000⟩,  -- FLC_BANK_STATUS
    ⟨0x5, 1, 1, 0xFF00, 0x0000, 0x0000, 0x0000, 0x0000, 0x0000⟩,  -- FLC_RESULT
    ⟨0x6, 1, 1, 0x0000, 0x0000, 0x003F, 0x0000, 0x0000, 0x0000⟩,  -- FLC_EVENT
    ⟨0x7, 1, 1, 0x0000, 0x0000, 0x0000, 0xFFFF, 0x0000, 0x0000⟩,  -- FLC_RETRY_COUNT
    ⟨0x8, 1, 1, 0x7FFF, 0x0000, 0x0000, 0x0000, 0x0000, 0x0000⟩,  -- FLC_RETRY_LAST
    ⟨0x9, 1, 1, 0x0FFF, 0x0000, 0x8000, 0x0000, 0x0000, 0x0000⟩,  -- FLC_UNCORR_LAST
    ⟨0xA, 1, 1, 0x0000, 0x0000, 0x0000, 0x003F, 0x0000, 0x0000⟩,  -- FLC_CORR_MAX
    ⟨0xB, 1, 1, 0x0000, 0x0000, 0x0000, 0xFFFF, 0x0000, 0x0000⟩ ]  -- FLC_BUSY_READS

/-- The common registers of the FGP_ block. -/
def regs_fgpCommon : List RegSpec :=
  [ ⟨0x0, 1, 1, 0x0000, 0x0001, 0x0000, 0x0000, 0x0000, 0x0000⟩,  -- FGP_LOCK
    ⟨0x1, 2, 1, 0xFFFF, 0x0000, 0x0000, 0x0000, 0x0000, 0x0000⟩ ]  -- FGP_MEASURING

/-- The instance registers of the FGP_ block. -/
def regs_fgpInst : List RegSpec :=
  [ ⟨0x0, 1, 1, 0x0000, 0x0003, 0x0000, 0x0000, 0x0000, 0x0000⟩,  -- FGP_CTRL
    ⟨0x1, 1, 1, 0xF00F, 0x0000, 0x0000, 0x0000, 0x0000, 0x0000⟩,  -- FGP_STATUS
    ⟨0x2, 1, 1, 0x0000, 0xFFE0, 0x0000, 0x0000, 0x0000, 0x3200⟩,  -- FGP_MCFG
    ⟨0x3, 1, 1, 0x0000, 0xFF3F, 0x0000, 0x0000, 0x0000, 0x0300⟩,  -- FGP_MREAD
    ⟨0x4, 1, 1, 0x0000, 0xFFFF, 0x0000, 0x0000, 0x0000, 0x03E8⟩,  -- FGP_MLIMIT
    ⟨0x5, 1, 1, 0x0000, 0x0000, 0x0000, 0x0000, 0x3E00, 0x0000⟩,  -- FGP_GCFG
    ⟨0x6, 1, 1, 0x0000, 0x0000, 0x0007, 0x0000, 0x0000, 0x0000⟩,  -- FGP_EVENT
    ⟨0x7, 1, 1, 0x0000, 0x0000, 0x0000, 0xFFFF, 0x0000, 0x0000⟩,  -- FGP_BLOCKED
    ⟨0x8, 1, 1, 0x800F, 0x0000, 0x0000, 0x0000, 0x0000, 0x0000⟩,  -- FGP_LOG_HEAD
    ⟨0x10, 16, 1, 0x0000, 0xFFFF, 0x0000, 0x0000, 0x0000, 0x0000⟩,  -- FGP_RANGE
    ⟨0x20, 16, 1, 0xFFFF, 0x0000, 0x0000, 0x0000, 0x0000, 0x0000⟩,  -- FGP_DIGEST
    ⟨0x30, 16, 1, 0x0000, 0x0000, 0x0000, 0x0000, 0xFFFF, 0x0000⟩,  -- FGP_WIN
    ⟨0x40, 4, 1, 0x0000, 0x0000, 0x0000, 0x0000, 0xFFFF, 0x0000⟩,  -- FGP_XOP
    ⟨0x80, 64, 1, 0xFFFF, 0x0000, 0x0000, 0x0000, 0x0000, 0x0000⟩ ]  -- FGP_LOG

/-- The instance registers of the DVP_ block. -/
def regs_dvpInst : List RegSpec :=
  [ ⟨0x0, 1, 1, 0x0000, 0x0000, 0x0000, 0x0000, 0x0000, 0x0000⟩,  -- DVP_CTRL
    ⟨0x1, 1, 1, 0x0000, 0xF87F, 0x0000, 0x0000, 0x0000, 0x0000⟩,  -- DVP_CFG
    ⟨0x2, 1, 1, 0x0000, 0x00FF, 0x0000, 0x0000, 0x0000, 0x0000⟩,  -- DVP_EID
    ⟨0x3, 1, 1, 0xF000, 0x0000, 0x0000, 0x0000, 0x0000, 0x0000⟩,  -- DVP_STATUS
    ⟨0x4, 2, 1, 0x0000, 0xFFFF, 0x0000, 0x0000, 0x0000, 0x0000⟩,  -- DVP_TX_ADDR
    ⟨0x8, 2, 1, 0x0000, 0xFFFF, 0x0000, 0x0000, 0x0000, 0x0000⟩,  -- DVP_RX_ADDR
    ⟨0x6, 1, 1, 0x0000, 0x3FFF, 0x0000, 0x0000, 0x0000, 0x0000⟩,  -- DVP_TX_LEN
    ⟨0xA, 1, 1, 0x3FFF, 0x0000, 0x0000, 0x0000, 0x0000, 0x0000⟩,  -- DVP_RX_LEN
    ⟨0xB, 1, 1, 0x0000, 0xFFFF, 0x0000, 0x0000, 0x0000, 0x0064⟩,  -- DVP_TIMEOUT
    ⟨0xC, 1, 1, 0x0000, 0x0000, 0x000F, 0x0000, 0x0000, 0x0000⟩,  -- DVP_EVENT
    ⟨0xD, 1, 1, 0x0000, 0x0000, 0x0000, 0xFFFF, 0x0000, 0x0000⟩ ]  -- DVP_IBI_COUNT

/-- The common registers of the CTP_ block. -/
def regs_ctpCommon : List RegSpec :=
  [ ⟨0x0, 1, 1, 0x0000, 0x0001, 0x0000, 0x0000, 0x0000, 0x0000⟩,  -- CTP_GATE
    ⟨0x2, 2, 1, 0xFFFF, 0x0000, 0x0000, 0x0000, 0x0000, 0x0000⟩ ]  -- CTP_STAT_SUM

/-- The instance registers of the CTP_ block. -/
def regs_ctpInst : List RegSpec :=
  [ ⟨0x0, 1, 1, 0x0000, 0x0007, 0x0000, 0x0000, 0x0000, 0x0000⟩,  -- CTP_OUT
    ⟨0x1, 1, 1, 0x0000, 0x0007, 0x0000, 0x0000, 0x0000, 0x0000⟩,  -- CTP_CFG
    ⟨0x2, 1, 1, 0x000F, 0x0000, 0x0000, 0x0000, 0x0000, 0x0000⟩,  -- CTP_IN
    ⟨0x3, 1, 1, 0x0000, 0x0000, 0x0001, 0x0000, 0x0000, 0x0000⟩ ]  -- CTP_EVENT

/-- The common registers of the CSL_ block. -/
def regs_cslCommon : List RegSpec :=
  [ ⟨0x0, 1, 1, 0xFFFF, 0x0000, 0x0000, 0x0000, 0x0000, 0x0000⟩,  -- CSL_PRESENT
    ⟨0x1, 1, 1, 0xFFFF, 0x0000, 0x0000, 0x0000, 0x0000, 0x0000⟩ ]  -- CSL_ACTIVE

/-- The instance registers of the CSL_ block. -/
def regs_cslInst : List RegSpec :=
  [ ⟨0x0, 1, 1, 0x0000, 0x0000, 0x0000, 0x0000, 0x0000, 0x0000⟩,  -- CSL_CTRL
    ⟨0x1, 1, 1, 0x0000, 0xF87F, 0x0000, 0x0000, 0x0000, 0xE014⟩,  -- CSL_CFG
    ⟨0x2, 1, 1, 0x0000, 0x007F, 0x0000, 0x0000, 0x0000, 0x0004⟩,  -- CSL_MAXDIV
    ⟨0x3, 1, 1, 0xFF00, 0x0000, 0x0000, 0x0000, 0x0000, 0x0000⟩,  -- CSL_STATUS
    ⟨0x4, 1, 1, 0xFFFF, 0x0000, 0x0000, 0x0000, 0x0000, 0x1100⟩,  -- CSL_PARAMS
    ⟨0x5, 1, 1, 0xFFFF, 0x0000, 0x0000, 0x0000, 0x0000, 0x204C⟩,  -- CSL_PROT
    ⟨0x6, 1, 1, 0x0001, 0x0000, 0x0000, 0x0000, 0x0000, 0x0001⟩,  -- CSL_PROT2
    ⟨0x7, 1, 1, 0xF1FF, 0x0000, 0x0000, 0x0000, 0x0000, 0x0000⟩,  -- CSL_RESULT
    ⟨0x8, 1, 1, 0x0000, 0x01FF, 0x0000, 0x0000, 0x0000, 0x0000⟩,  -- CSL_TX_LEN
    ⟨0x9, 1, 1, 0x003F, 0x0000, 0x0000, 0x0000, 0x0000, 0x0000⟩,  -- CSL_ATR_LEN
    ⟨0xA, 1, 1, 0x0000, 0x0000, 0x003F, 0x0000, 0x0000, 0x0000⟩,  -- CSL_EVENT
    ⟨0xB, 1, 1, 0x0000, 0x0000, 0x0000, 0xFFFF, 0x0000, 0x0000⟩,  -- CSL_ERRS
    ⟨0x10, 17, 1, 0xFFFF, 0x0000, 0x0000, 0x0000, 0x0000, 0x0000⟩,  -- CSL_ATR
    ⟨0x100, 131, 1, 0x0000, 0xFFFF, 0x0000, 0x0000, 0x0000, 0x0000⟩,  -- CSL_TX
    ⟨0x200, 129, 1, 0xFFFF, 0x0000, 0x0000, 0x0000, 0x0000, 0x0000⟩ ]  -- CSL_RX

/-- The common registers of the TAG_ block. -/
def regs_tagCommon : List RegSpec :=
  [ ⟨0x0, 1, 1, 0xFF00, 0x0000, 0x0000, 0x0000, 0x0000, 0x0000⟩,  -- TAG_STATUS
    ⟨0x1, 1, 1, 0x0000, 0x0000, 0x0000, 0x0000, 0x0000, 0x0000⟩,  -- TAG_CMD
    ⟨0x2, 1, 1, 0xF800, 0x0000, 0x0000, 0x0000, 0x0000, 0x0000⟩,  -- TAG_RESULT
    ⟨0x3, 2, 1, 0xFFFF, 0x0000, 0x0000, 0x0000, 0x0000, 0x0000⟩,  -- TAG_SEQ
    ⟨0x5, 1, 1, 0x0000, 0x0000, 0x00FF, 0x0000, 0x0000, 0x0000⟩,  -- TAG_EVENT
    ⟨0x6, 1, 1, 0x0000, 0x0000, 0x0000, 0xFFFF, 0x0000, 0x0000⟩,  -- TAG_REFUSALS
    ⟨0x10, 34, 1, 0x0000, 0xFFFF, 0x0000, 0x0000, 0x0000, 0x0000⟩ ]  -- TAG_BUF

/-- The common registers of the TMP_ block. -/
def regs_tmpCommon : List RegSpec :=
  [ ⟨0x0, 1, 1, 0x0003, 0x0000, 0x0004, 0x0000, 0x0000, 0x0000⟩,  -- TMP_ACTIVE
    ⟨0x1, 3, 1, 0xFFFF, 0x0000, 0x0000, 0x0000, 0x0000, 0x0000⟩,  -- TMP_FIRING
    ⟨0x4, 3, 1, 0xFFFF, 0x0000, 0x0000, 0x0000, 0x0000, 0x0000⟩,  -- TMP_FUSED
    ⟨0x7, 1, 1, 0xC0FF, 0x0000, 0x0000, 0x0000, 0x0000, 0x0000⟩,  -- TMP_OTP_STATUS
    ⟨0x8, 1, 1, 0x0000, 0x0000, 0x0000, 0x0000, 0x0000, 0x0000⟩,  -- TMP_FUSE
    ⟨0x100, 48, 4, 0x0000, 0x037F, 0x0000, 0x0000, 0x0000, 0x0001⟩,  -- TMP_SRC_CFG
    ⟨0x101, 48, 4, 0x0000, 0xFFFF, 0x0000, 0x0000, 0x0000, 0x0000⟩,  -- TMP_SRC_QUIET
    ⟨0x102, 48, 4, 0xF300, 0x0000, 0x0C00, 0x0000, 0x0000, 0x0000⟩,  -- TMP_SRC_STATUS
    ⟨0x103, 48, 4, 0x0000, 0x0000, 0x0000, 0xFFFF, 0x0000, 0x0000⟩ ]  -- TMP_SRC_COUNT

/-- The common registers of the FLT_ block. -/
def regs_fltCommon : List RegSpec :=
  [ ⟨0x0, 8, 1, 0xFFFF, 0x0000, 0x0000, 0x0000, 0x0000, 0x0000⟩,  -- FLT_FIRST
    ⟨0x8, 1, 1, 0xF000, 0x0000, 0x0000, 0x0000, 0x0000, 0x0000⟩,  -- FLT_STATUS
    ⟨0x9, 1, 1, 0x0000, 0x0000, 0x0000, 0x0000, 0x0000, 0x0000⟩,  -- FLT_ACK
    ⟨0xA, 2, 1, 0xFFFF, 0x0000, 0x0000, 0x0000, 0x0000, 0x0000⟩,  -- FLT_TOTAL
    ⟨0xC, 1, 1, 0x0000, 0xFFFF, 0x0000, 0x0000, 0x0000, 0x0A20⟩,  -- FLT_STORM_CFG
    ⟨0xD, 1, 1, 0x0000, 0x0000, 0x0000, 0xFFFF, 0x0000, 0x0000⟩,  -- FLT_RECOVERIES
    ⟨0x11, 4, 1, 0x0000, 0x0000, 0x0000, 0xFFFF, 0x0000, 0x0000⟩ ]  -- FLT_CLASS_COUNT

/-- The common registers of the EVC_ block. -/
def regs_evcCommon : List RegSpec :=
  [ ⟨0x0, 1, 1, 0x801F, 0x0000, 0x0000, 0x0000, 0x0000, 0x0000⟩,  -- EVC_STATUS
    ⟨0x1, 2, 1, 0xFFFF, 0x0000, 0x0000, 0x0000, 0x0000, 0x0000⟩,  -- EVC_LINE_PEND
    ⟨0x10, 32, 1, 0x83FF, 0x0000, 0x0000, 0x0000, 0x0000, 0x0000⟩,  -- EVC_NEXT
    ⟨0x40, 40, 1, 0x0000, 0x0000, 0xFFFF, 0x0000, 0x0000, 0x0000⟩,  -- EVC_PEND
    ⟨0x70, 4, 1, 0x0000, 0x0000, 0xFFFF, 0x0000, 0x0000, 0x0000⟩,  -- EVC_PAIL_PENDING
    ⟨0x400, 640, 1, 0x0000, 0x801F, 0x0000, 0x0000, 0x0000, 0x0000⟩ ]  -- EVC_ROUTE

/-- The common registers of the CLK_ block. -/
def regs_clkCommon : List RegSpec :=
  [ ⟨0x0, 3, 1, 0xFFFF, 0x0000, 0x0000, 0x0000, 0x0000, 0x0000⟩,  -- CLK_TB
    ⟨0x3, 1, 1, 0xC000, 0x0000, 0x0000, 0x00FF, 0x0000, 0x0000⟩ ]  -- CLK_TREF_STATUS

/-- The common registers of the VAT_ block. -/
def regs_vatCommon : List RegSpec :=
  [ ⟨0x0, 34, 1, 0x003F, 0x0000, 0x0000, 0x0000, 0x0000, 0x0000⟩,  -- VAT_REMAP
    ⟨0x40, 1, 1, 0x0000, 0x0000, 0x0000, 0x0000, 0x0000, 0x0000⟩,  -- VAT_SWAP
    ⟨0x41, 1, 1, 0x0001, 0x0000, 0x0002, 0x0000, 0x0000, 0x0000⟩ ]  -- VAT_SWAP_STATUS

/-- The instance registers of the VAT_ block. -/
def regs_vatInst : List RegSpec :=
  [ ⟨0x0, 1, 1, 0x0000, 0x001F, 0x0000, 0x0000, 0x0000, 0x0001⟩,  -- VAT_CTRL
    ⟨0x1, 1, 1, 0xFFFF, 0x0000, 0x0000, 0x0000, 0x0000, 0x0000⟩,  -- VAT_STATUS
    ⟨0x2, 1, 1, 0x0000, 0xFFFF, 0x0000, 0x0000, 0x0000, 0x0000⟩,  -- VAT_CELL_RUN
    ⟨0x3, 1, 1, 0x0000, 0x0000, 0xFFFF, 0x0000, 0x0000, 0x0000⟩,  -- VAT_CELL_HALTED
    ⟨0x4, 1, 1, 0xFFFF, 0x0000, 0x0000, 0x0000, 0x0000, 0x0000⟩,  -- VAT_CELL_IDLE
    ⟨0x10, 1, 1, 0x0000, 0x0000, 0x0000, 0x0000, 0x0000, 0x0000⟩,  -- VAT_DQ_PUSH
    ⟨0x11, 1, 1, 0x0000, 0x0000, 0x0000, 0x0000, 0x0000, 0x0000⟩,  -- VAT_DQ_DRAIN
    ⟨0x12, 1, 1, 0xC3FF, 0x0000, 0x0000, 0x0000, 0x0000, 0x0000⟩,  -- VAT_DQ_RESULT
    ⟨0x13, 1, 1, 0x0000, 0x0000, 0x0000, 0x83FF, 0x0000, 0x0000⟩,  -- VAT_CQ_POP
    ⟨0x14, 1, 1, 0x0000, 0xFFFF, 0x0000, 0x0000, 0x0000, 0x00C8⟩,  -- VAT_TAIL_AGE
    ⟨0x15, 1, 1, 0x0000, 0x8FFF, 0x0000, 0x0000, 0x0000, 0x8008⟩,  -- VAT_SKIM_CFG
    ⟨0x16, 1, 1, 0x0000, 0x0000, 0x0000, 0xFFFF, 0x0000, 0x0000⟩,  -- VAT_SKIM_COUNT
    ⟨0x20, 16, 1, 0x7F7F, 0x0000, 0x0000, 0x0000, 0x0000, 0x0000⟩,  -- VAT_DQ_DEPTH
    ⟨0x30, 1, 1, 0x0000, 0xFFFF, 0x0000, 0x0000, 0x0000, 0x40C8⟩,  -- VAT_WDOG_CFG
    ⟨0x31, 1, 1, 0x0000, 0x0000, 0xFFFF, 0x0000, 0x0000, 0x0000⟩,  -- VAT_WDOG_CELL
    ⟨0x32, 1, 1, 0x00F0, 0x0000, 0x0007, 0x0000, 0x0000, 0x0000⟩,  -- VAT_WDOG_UNIT
    ⟨0x40, 1, 1, 0x0000, 0xFFFF, 0x0000, 0x0000, 0x0000, 0x0000⟩,  -- VAT_LOAD_ADDR_LO
    ⟨0x41, 1, 1, 0x0000, 0xFFFF, 0x0000, 0x0000, 0x0000, 0x0000⟩,  -- VAT_LOAD_ADDR_HI
    ⟨0x42, 1, 1, 0x8000, 0x0000, 0x6000, 0x0000, 0x0000, 0x0000⟩,  -- VAT_LOAD_CTRL
    ⟨0x50, 16, 1, 0xFFFF, 0x0000, 0x0000, 0x0000, 0x0000, 0x0000⟩ ]  -- VAT_LOAD_DIGEST

/-- The common registers of the CAL_ block. -/
def regs_calCommon : List RegSpec :=
  [ ⟨0x0, 1, 1, 0x0000, 0xFFFF, 0x0000, 0x0000, 0x0000, 0x0100⟩,  -- CAL_ITEM
    ⟨0x1, 1, 1, 0xFFFF, 0x0000, 0x0000, 0x0000, 0x0000, 0x0000⟩,  -- CAL_FACTORY
    ⟨0x2, 1, 1, 0x0000, 0xFFFF, 0x0000, 0x0000, 0x0000, 0x0000⟩,  -- CAL_OFFSET
    ⟨0x3, 1, 1, 0xFFFF, 0x0000, 0x0000, 0x0000, 0x0000, 0x0000⟩,  -- CAL_BOUND
    ⟨0x4, 1, 1, 0xFFFF, 0x0000, 0x0000, 0x0000, 0x0000, 0x0000⟩,  -- CAL_EFFECTIVE
    ⟨0x5, 1, 1, 0x6000, 0x0000, 0x9000, 0x0000, 0x0000, 0x0000⟩ ]  -- CAL_STATUS

/-- How many instances each register block has (R33); 0 for a block without instances. -/
def blockInstances : Nat → Nat
  | 2 => 34  -- CHN
  | 3 => 34  -- MAC
  | 4 => 34  -- RNG
  | 5 => 36  -- MSH
  | 7 => 64  -- DMA
  | 8 => 8  -- FLC
  | 9 => 32  -- FGP
  | 10 => 48  -- DVP
  | 11 => 32  -- CTP
  | 12 => 16  -- CSL
  | 18 => 34  -- VAT
  | _ => 0

/-- The rows of a block's common registers. -/
def blockCommon : Nat → List RegSpec
  | 0 => regs_pwrCommon
  | 3 => regs_macCommon
  | 4 => regs_rngCommon
  | 5 => regs_mshCommon
  | 6 => regs_actCommon
  | 7 => regs_dmaCommon
  | 8 => regs_flcCommon
  | 9 => regs_fgpCommon
  | 11 => regs_ctpCommon
  | 12 => regs_cslCommon
  | 13 => regs_tagCommon
  | 14 => regs_tmpCommon
  | 15 => regs_fltCommon
  | 16 => regs_evcCommon
  | 17 => regs_clkCommon
  | 18 => regs_vatCommon
  | 20 => regs_calCommon
  | _ => []

/-- The rows of a block's instance registers. -/
def blockInst : Nat → List RegSpec
  | 2 => regs_chnInst
  | 3 => regs_macInst
  | 4 => regs_rngInst
  | 5 => regs_mshInst
  | 7 => regs_dmaInst
  | 8 => regs_flcInst
  | 9 => regs_fgpInst
  | 10 => regs_dvpInst
  | 11 => regs_ctpInst
  | 12 => regs_cslInst
  | 18 => regs_vatInst
  | _ => []

/-- The row that holds offset `o`, if one does. -/
def findSpec (o : Nat) : List RegSpec → Option RegSpec
  | [] => none
  | r :: rest =>
    if r.off ≤ o ∧ (o - r.off) % r.step = 0 ∧ (o - r.off) / r.step < r.count then some r else findSpec o rest

/-- The block of a register waddr (R33). -/
def regBlock (w : Nat) : Nat := (w - 0x30000000) / 0x100000
/-- The offset of a register waddr in its block. -/
def regOff (w : Nat) : Nat := (w - 0x30000000) % 0x100000
/-- The instance of a register waddr in an instanced block (R34); meaningful where `regOff w` is at least 0x1000. -/
def regInst (w : Nat) : Nat := (regOff w - 0x1000) / 0x1000

/-- The register at a waddr of the register space, if one is listed there (R27: anything else is reserved). -/
def regSpec (w : Nat) : Option RegSpec :=
  if w < 0x30000000 then none
  else if regOff w < 0x1000 then findSpec (regOff w) (blockCommon (regBlock w))
  else if regInst w < blockInstances (regBlock w) then
    findSpec ((regOff w - 0x1000) % 0x1000) (blockInst (regBlock w))
  else none

/-- The reset value of the stored part of a register. VAT_CTRL of physical positions 32 and 33 and MSH_POST_EN(2) differ
from their row (R221, R387); the reset of a device then adjusts VAT_CTRL to the remap (`resetVats`). -/
def regReset (w : Nat) : BitVec 16 :=
  if w = R.VAT_CTRL 32 ∨ w = R.VAT_CTRL 33 then 0x0008
  else if 0x31201000 ≤ w ∧ w < 0x31221000 ∧ w % 0x1000 = 0 then 0x0003
  else if w = R.MSH_POST_EN 2 then 0x0000
  else match regSpec w with
    | some r => r.rst
    | none => 0

end Sys2Proof.Machine
end

