-- ==== Sys2Proof/Machine/Ops.lean ====
section
/-!
DEFINITION. The named operations every command is written over: sparse tables, memory words, registers, the state of
cells and vats, events, fault records, random draws.
-/
namespace Sys2Proof.Machine

/-! ### Sparse tables -/

/-- What a table holds under a key: its pair, or what an unlisted key reads as. -/
def tget {α : Type} (d : Nat → α) : Tbl α → Nat → α
  | [], k => d k
  | (j, v) :: rest, k => if j = k then v else tget d rest k

/-- A table without the pairs of a key. -/
def tdel {α : Type} (m : Tbl α) (k : Nat) : Tbl α := m.filter (fun p => p.1 != k)

/-- Put a pair in front of the first larger key. -/
def tins {α : Type} (k : Nat) (v : α) : Tbl α → Tbl α
  | [] => [(k, v)]
  | (j, w) :: rest => if j < k then (j, w) :: tins k v rest else (k, v) :: (j, w) :: rest

/-- Write a value under a key, keeping the canonical form. -/
def tset {α : Type} [DecidableEq α] (d : Nat → α) (m : Tbl α) (k : Nat) (v : α) : Tbl α :=
  if v = d k then tdel m k else tins k v (tdel m k)

/-- The canonical form: keys strictly rising, no pair equal to what an unlisted key reads as. -/
def tcanon {α : Type} [DecidableEq α] (d : Nat → α) : Tbl α → Bool
  | [] => true
  | (k, v) :: rest => decide (v ≠ d k) && rest.all (fun p => decide (k < p.1)) && tcanon d rest

/-- Remove the keys of a range. -/
def tclear {α : Type} (m : Tbl α) (lo hi : Nat) : Tbl α := m.filter (fun p => !(decide (lo ≤ p.1) && decide (p.1 < hi)))

/-! ### Words, bytes and bit fields (R3, R4) -/

/-- A DATA word. -/
def dataWord (v : BitVec 16) : Word := ⟨.data, v⟩
/-- The scrubbed word of R51. -/
def zeroWord : Word := ⟨.data, 0⟩
/-- A DATA word from a number, modulo 2^16. -/
def dataNat (n : Nat) : Word := ⟨.data, BitVec.ofNat 16 n⟩
/-- Field `hi:lo` of a 16-bit value as a number (R3). -/
def fld (v : BitVec 16) (hi lo : Nat) : Nat := v.toNat / 2 ^ lo % 2 ^ (hi - lo + 1)
/-- One bit of a 16-bit value. -/
def bit (v : BitVec 16) (i : Nat) : Bool := v.getLsbD i
/-- A Bool as the number 0 or 1. -/
def b2n (b : Bool) : Nat := if b then 1 else 0
/-- The 16-bit value with field `hi:lo` replaced. -/
def putFld (v : BitVec 16) (hi lo n : Nat) : BitVec 16 :=
  let m : BitVec 16 := BitVec.ofNat 16 ((2 ^ (hi - lo + 1) - 1) * 2 ^ lo)
  (v &&& ~~~m) ||| (BitVec.ofNat 16 (n * 2 ^ lo) &&& m)
/-- Bits of a list, bit 0 first, as a 16-bit value. -/
def bitsToVal (l : List Bool) : BitVec 16 := BitVec.ofNat 16 (l.foldr (fun b n => b2n b + 2 * n) 0)
/-- The two bytes of a payload, the low byte first (R4). -/
def wordBytes (v : BitVec 16) : Bytes := [v.setWidth 8, (v >>> 8).setWidth 8]
/-- The payload of two bytes (R4). -/
def bytesWord (lo hi : Byte) : BitVec 16 := lo.setWidth 16 ||| (hi.setWidth 16 <<< 8)
/-- Pack bytes into payloads, two to a word; an odd last byte leaves the high byte 0. -/
def packWords : Bytes → List (BitVec 16)
  | [] => []
  | [b] => [bytesWord b 0]
  | b :: c :: rest => bytesWord b c :: packWords rest
/-- The bytes of a list of words (R4). -/
def unpackWords (ws : List Word) : Bytes := ws.flatMap (fun w => wordBytes w.val)
/-- Bytes most significant first as a number (R101). -/
def beNat (bs : Bytes) : Nat := bs.foldl (fun n b => n * 256 + b.toNat) 0
/-- Bytes least significant first as a number. -/
def leNat (bs : Bytes) : Nat := bs.foldr (fun b n => b.toNat + 256 * n) 0
/-- A number as `k` bytes, least significant first. -/
def leBytes : Nat → Nat → Bytes
  | 0, _ => []
  | k + 1, n => BitVec.ofNat 8 n :: leBytes k (n / 256)
/-- A number as `k` bytes, most significant first (R101). -/
def beBytes (k n : Nat) : Bytes := (leBytes k n).reverse
/-- `k` zero bytes. -/
def zeros (k : Nat) : Bytes := List.replicate k 0
/-- Bytes `off` to `off + len - 1`; bytes past the end read 0. -/
def slice (bs : Bytes) (off len : Nat) : Bytes :=
  let t := (bs.drop off).take len
  t ++ zeros (len - t.length)
/-- A little-endian integer field of a byte string. -/
def leAt (bs : Bytes) (off len : Nat) : Nat := leNat (slice bs off len)
/-- Payloads least significant first as a number (07_churn.md, before R228). -/
def wordsNat (ws : List Word) : Nat := ws.foldr (fun w n => w.val.toNat + 65536 * n) 0
/-- A number as `k` payloads with one tag, least significant first. -/
def natWords (t : Tag) : Nat → Nat → List Word
  | 0, _ => []
  | k + 1, n => ⟨t, BitVec.ofNat 16 n⟩ :: natWords t k (n / 65536)
/-- ASCII text as bytes. -/
def ascii (t : String) : Bytes := t.toList.map (fun c => BitVec.ofNat 8 c.toNat)
/-- The numbers 0 to n - 1 for which a test holds. -/
def those (n : Nat) (f : Nat → Bool) : List Nat := (List.range n).filter f
/-- The 16 bits of a summary register: bit k is the test at `base + k`. -/
def summary (base : Nat) (f : Nat → Bool) : BitVec 16 := bitsToVal ((List.range 16).map (fun k => f (base + k)))

/-! ### Registers -/

/-- The stored part of a register. -/
def getReg (s : State) (w : Nat) : BitVec 16 := tget regReset s.regs w
/-- Set the stored part of a register. -/
def setReg (s : State) (w : Nat) (v : BitVec 16) : State := { s with regs := tset regReset s.regs w v }
/-- A field of a register. -/
def getFld (s : State) (w hi lo : Nat) : Nat := fld (getReg s w) hi lo
/-- One bit of a register. -/
def getBit (s : State) (w i : Nat) : Bool := bit (getReg s w) i
/-- Set a field of a register. -/
def setFld (s : State) (w hi lo n : Nat) : State := setReg s w (putFld (getReg s w) hi lo n)
/-- Set or clear one bit of a register. -/
def setBit (s : State) (w i : Nat) (b : Bool) : State := setFld s w i i (b2n b)
/-- Add to a counter register, saturating at `top`. -/
def countReg (s : State) (w top : Nat) : State := setReg s w (BitVec.ofNat 16 (min top ((getReg s w).toNat + 1)))
/-- Add 1 to a counter in field `hi:lo`, saturating at its largest value. -/
def countFld (s : State) (w hi lo : Nat) : State := setFld s w hi lo (min (2 ^ (hi - lo + 1) - 1) (getFld s w hi lo + 1))
/-- A 32-bit address held in two registers, the low half first. -/
def regPair (s : State) (lo hi : Nat) : BitVec 32 := (getReg s hi).setWidth 32 <<< 16 ||| (getReg s lo).setWidth 32

/-! ### Modes (R42) -/

/-- The mode code of PWR_MODE. -/
def mode (s : State) : Nat := getFld s R.PWR_MODE 3 0
def mTEST : Nat := 1
def mUNCLAIMED : Nat := 2
def mBOOT : Nat := 3
def mSERVICE : Nat := 4
def mRECOVERY : Nat := 5
def mVIGIL : Nat := 6
def mFIELD : Nat := 7
def mSPENT : Nat := 8

/-! ### Memory words -/

/-- What an unlisted word of RAM reads as (R51). -/
def memDefault (_ : Nat) : Word := zeroWord
/-- A word of RAM, by physical waddr. -/
def readMem (s : State) (a : Nat) : Word := tget memDefault s.mem a
/-- Write a word of RAM; the check bits stored with it are those of the word (R360). -/
def writeMem (s : State) (a : Nat) (w : Word) : State := { s with mem := tset memDefault s.mem a w }
/-- Write consecutive words. -/
def writeMems (s : State) (a : Nat) : List Word → State
  | [] => s
  | w :: ws => writeMems (writeMem s a w) (a + 1) ws
/-- Read consecutive words. -/
def readMems (s : State) (a n : Nat) : List Word := (List.range n).map (fun i => readMem s (a + i))
/-- Scrub a range of RAM (R51). -/
def scrub (s : State) (lo hi : Nat) : State := { s with mem := tclear s.mem lo hi }

/-! ### Where things are -/

/-- The physical position a logical vat number names (R26), always one of the 34. -/
def phys (s : State) (n : Nat) : Nat := tget (fun k => k) s.remap n % 34
/-- The logical vat that names a physical position (R187: the table is a permutation). -/
def logicalOf (s : State) (p : Nat) : Nat := ((List.range 34).find? (fun n => phys s n == p)).getD 34

/-- The base of a vat window by position or logical number (R24). -/
def windowBase (n : Nat) : Nat := 0x02000000 + n * 0x100000
/-- The base of the shared memory of the vat at a position (R25). -/
def sharedBase (p : Nat) : Nat := windowBase p + 0xC0000
/-- A cell's instruction store (R25). -/
def istoreBase (p k : Nat) : Nat := windowBase p + k * 0x2000
/-- A cell's data store (R25). -/
def dstoreBase (p k : Nat) : Nat := windowBase p + 0x20000 + k * 0x2000
/-- A ticket in the pool of the vat at a position (R193). -/
def ticketBase (p t : Nat) : Nat := sharedBase p + t * 32

/-- The address XADDR holds of a fault: 0 where it has none (R340). -/
def SyncFault.addr (f : SyncFault) : BitVec 32 := f.waddr.getD 0
/-- The logical vat in whose window a waddr lies, and its offset there, reserved offsets included (R24, R25). -/
def windowOf (a : Nat) : Option (Nat × Nat) :=
  if 0x02000000 ≤ a ∧ a < 0x02000000 + 34 * 0x100000 then some ((a - 0x02000000) / 0x100000, (a - 0x02000000) % 0x100000) else none
/-- What lies at a waddr (R24, R25, R33, R80). -/
inductive Region where
  | supervisor
  | bootRom
  | vat (n : Nat) (off : Nat)
  | sram
  | flash (bank : Nat) (off : Nat)
  | pailArea
  | register
  | otp (off : Nat)
  | reserved
  deriving DecidableEq, Repr

/-- The region of a waddr (R24, R25). -/
def region (a : Nat) : Region :=
  if a < 0x100000 then .supervisor
  else if a < 0x108000 then .bootRom
  else if 0x02000000 ≤ a ∧ a < 0x02000000 + 34 * 0x100000 then
    let n := (a - 0x02000000) / 0x100000
    let off := (a - 0x02000000) % 0x100000
    if 0x40000 ≤ off ∧ off < 0xC0000 then .reserved else .vat n off
  else if 0x10000000 ≤ a ∧ a < 0x10400000 then .sram
  else if 0x20000000 ≤ a ∧ a < 0x24000000 then .flash ((a - 0x20000000) / 0x800000) ((a - 0x20000000) % 0x800000)
  else if 0x30180000 ≤ a ∧ a < 0x30200000 then .pailArea
  else if 0x30000000 ≤ a ∧ a < 0x3F000000 then .register
  else if 0x3F000000 ≤ a ∧ a < 0x3F001000 then .otp (a - 0x3F000000)
  else .reserved

/-- The physical waddr of a waddr: a vat window is moved to the position its logical number names (R26). -/
def physAddr (s : State) (a : Nat) : Nat :=
  match region a with
  | .vat n off => windowBase (phys s n) + off
  | _ => a

/-! ### Cells and vats -/

/-- An invalid capability with payloads 0 (R296, R313). -/
def nullCap : CReg := ⟨false, 0⟩
/-- Flags all 0. -/
def zeroFlags : Flags := ⟨false, false, false, false, false⟩
/-- A register bank with everything 0. -/
def zeroBank : RegBank := ⟨[], [], 0, zeroFlags⟩
/-- A core after a reset, before its first load. -/
def cellReset : Cell :=
  { main := zeroBank, shadow := zeroBank, lk := 0, evb := 0, cycleHi := 0, inShadow := false, mask := false,
    async := false, cdoneEn := false, mdoneEn := false, cause := 0, xpc := 0, xaddr := 0, xcsel := 0, xgsel := 0,
    snap := [], wrote := 0, g7 := false, pend := none, pendC := false, pendM := false, hold := false, wait := .none,
    posted := 0, postRefused := false, halted := false, ticket := none, churnStatus := 0xFFFF, macStatus := 0xFFFF }
/-- The key of the supervisor in the table of cores; a cell's key is 16 x position + cell. -/
def supKey : Nat := 1000
/-- The boot ROM's first instruction: waddr 0x0010_0000 is instruction 0x8_0000 (R24, R352). DEDUCED, log entry 9. -/
def supReset : Cell := { cellReset with main := { zeroBank with pc := 0x80000 } }
/-- A core by its key before anything has run. -/
def coreDefault (k : Nat) : Cell := if k = supKey then supReset else cellReset
/-- A core's state. -/
def getCell (s : State) (k : Nat) : Cell := tget coreDefault s.cells k
/-- Set a core's state. -/
def setCell (s : State) (k : Nat) (c : Cell) : State := { s with cells := tset coreDefault s.cells k c }
/-- Change a core's state. -/
def modCell (s : State) (k : Nat) (f : Cell → Cell) : State := setCell s k (f (getCell s k))
/-- The key of a core named by its master identifier (R36, R37). -/
def coreKey (s : State) (core : Core) : Nat :=
  if core.val = 512 then supKey else phys s (core.val / 16) * 16 + core.val % 16
/-- The master identifier of a core's key (R36). -/
def masterOfKey (s : State) (k : Nat) : BitVec 10 :=
  if k = supKey then 512 else BitVec.ofNat 10 (logicalOf s (k / 16) * 16 + k % 16)

/-- The churn after reset (R223, R236). -/
def churnReset : Churn :=
  { jobs := [], holder := 0, busy := false, curves := [], reserved := 0, kat := false, katPass := false, katFail := false }
/-- The MAC unit after reset (R255, R275). -/
def macReset : MacUnit :=
  { identityRoot := false, ownerRoot := false, sessionRoot := false, jobs := [], holder := 0, busy := false,
    sinceReseed := 0, dry := false, kat := false, katPass := false, katFail := false, counters := [] }
/-- A vat after reset; positions 32 and 33 are unpowered spares (R221, R284, R294). -/
def vatReset (p : Nat) : Vat :=
  { deques := [], cq := [], waiters := [], skim := none, backoff := false, loading := none, loadErr := false,
    loadDone := false, drainedSeen := false, clkStable := false,
    trim := 0, wants := [], churn := churnReset, mac := macReset,
    noise := { state := if p < 32 then 1 else 0, cause := 0, atStartup := false, bits := 0, sampler := false, run := 0, conditioner := 0 } }
/-- The vat at a physical position. -/
def getVat (s : State) (p : Nat) : Vat := tget vatReset s.vats p
/-- Set the vat at a physical position. -/
def setVat (s : State) (p : Nat) (v : Vat) : State := { s with vats := tset vatReset s.vats p v }
/-- Change the vat at a physical position. -/
def modVat (s : State) (p : Nat) (f : Vat → Vat) : State := setVat s p (f (getVat s p))
/-- The word the deque engine keeps at an offset of a vat's window (R193): of cell k's ring the tickets it holds, the oldest first from
slot 0 on, and of its two further words the number held and 0. Which word of a pair is the head's, and where in its ring a deque
begins, the spec does not say: DESIGN CHOICE, log entry 112. -/
def dequeWord (v : Vat) (off : Nat) : Option Word :=
  if 0xC8000 ≤ off ∧ off < 0xC8400 then
    some ⟨.data, BitVec.ofNat 16 ((tget (fun _ => []) v.deques ((off - 0xC8000) / 64)).reverse.getD ((off - 0xC8000) % 64) 0)⟩
  else if 0xC8400 ≤ off ∧ off < 0xC8420 then
    some ⟨.data, BitVec.ofNat 16 (if off % 2 = 0 then (tget (fun _ => []) v.deques ((off - 0xC8400) / 2)).length else 0)⟩
  else none
/-- What a read of a word of RAM gives, by physical waddr: the word stored there, or what the deque engine keeps there. -/
def ramWord (s : State) (a : Nat) : Word :=
  let p := (a - 0x02000000) / 0x100000
  if a < 0x02000000 ∨ 34 ≤ p then readMem s a else (dequeWord (getVat s p) (a % 0x100000)).getD (readMem s a)
/-- Change a vat's churn. -/
def modChurn (s : State) (p : Nat) (f : Churn → Churn) : State := modVat s p (fun v => { v with churn := f v.churn })
/-- Change a vat's MAC unit. -/
def modMac (s : State) (p : Nat) (f : MacUnit → MacUnit) : State := modVat s p (fun v => { v with mac := f v.mac })
/-- Change a vat's noise source. -/
def modNoise (s : State) (p : Nat) (f : Noise → Noise) : State := modVat s p (fun v => { v with noise := f v.noise })

/-- Whether the vat at a position is powered (VAT_CTRL.POWER, R221). -/
def powered (s : State) (p : Nat) : Bool := getBit s (R.VAT_CTRL p) 0
/-- A vat's BOUNDARY (R186): 0 OPEN, 1 HOLD, 2 CLOSED. -/
def boundary (s : State) (p : Nat) : Nat := getFld s (R.VAT_CTRL p) 3 2
/-- A vat's ADMIT bit. -/
def admits (s : State) (p : Nat) : Bool := getBit s (R.VAT_CTRL p) 4
/-- Whether CELL_RUN lets a cell of the vat at a position run. -/
def cellRun (s : State) (p k : Nat) : Bool := getBit s (R.VAT_CELL_RUN p) k

/-! ### Events (R551, R553) -/

/-- Raise an event source: its pending bit is set (R551). -/
def raise (s : State) (n : Nat) : State :=
  { s with evc := { s.evc with pend := s.evc.pend ||| (1 <<< n : BitVec 640) } }
/-- Raise event k of the vat at a position; logical 32 and 33 have none (R220). -/
def raiseVat (s : State) (p k : Nat) : State :=
  let n := logicalOf s p
  if n < 32 then raise s (8 * n + k) else s
/-- Set a bit of an event register and raise a source if the bit goes from 0 to 1. -/
def eventBit (s : State) (w i src : Nat) : State :=
  if getBit s w i then s else raise (setBit s w i true) src
/-- Set a bit of a vat unit's event register and raise the vat's event k if the bit goes from 0 to 1 (R254, R279). -/
def eventVat (s : State) (w i p k : Nat) : State :=
  if getBit s w i then s else raiseVat (setBit s w i true) p k
/-- A pail raises its event: its bit is set, and source 608 is raised if it was 0 (R553). -/
def raisePail (s : State) (p : Nat) : State :=
  if s.evc.pails.getLsbD p then s
  else raise { s with evc := { s.evc with pails := s.evc.pails ||| (1 <<< p : BitVec 64) } } 608
/-- Firmware clears a pail's bit (R553). -/
def clearPail (s : State) (p : Nat) : State :=
  { s with evc := { s.evc with pails := s.evc.pails &&& ~~~(1 <<< p : BitVec 64) } }

/-! ### Fault records (R515 to R519) -/

/-- The 1 ms tick of the time base in which records are counted (R519). -/
def msTick (s : State) : BitVec 48 := BitVec.ofNat 48 (s.bat.timeBase.toNat / 1000)
/-- Latch or count a record (R518). -/
def latchFault (s : State) (r : FaultRec) : State :=
  let f := s.flt
  let s := countReg s (R.FLT_CLASS_COUNT (r.cls - 1)) 0xFFFF
  let total := min 0xFFFFFFFF (f.total + 1)
  match f.first with
  | none => raise { s with flt := { f with first := some r, total := total } } 576
  | some r0 =>
    let esc := decide (r0.cls < r.cls) && !f.escalated
    let s := { s with flt := { f with overflow := true, overflowCount := min 0xFFFF (f.overflowCount + 1), total := total,
                                       escalated := f.escalated || decide (r0.cls < r.cls) } }
    if esc then raise s 576 else s
/-- Count a record towards a storm (R519): a storm begins when more than LIMIT records arrive in one tick. -/
def stormCount (s : State) : State :=
  let n := if s.flt.tick = msTick s then s.flt.inTick + 1 else 1
  let s := { s with flt := { s.flt with tick := msTick s, inTick := n } }
  if getFld s R.FLT_STORM_CFG 7 0 < n ∧ s.flt.storm = false then
    raise { s with flt := { s.flt with storm := true } } 576
  else s
/-- FAULTS of VAT.STATUS: firmware counts the records of a logical vat, by their source or the master of an instruction or
access fault (log entry 26). -/
def countVatFault (s : State) (source : Nat) (master : BitVec 10) : State :=
  let n := if source < 256 then source / 8 else if 577 ≤ source ∧ source ≤ 579 ∧ master.toNat < 512 then master.toNat / 16 else 34
  if n < 34 then
    { s with fw := { s.fw with vatFaults := tset (fun _ => (0 : Nat)) s.fw.vatFaults n (tget (fun _ => (0 : Nat)) s.fw.vatFaults n + 1) } }
  else s
/-- Make a fault record (R515): sources 577 to 579 raise their event too, but not during a storm (R516, R519). -/
def fault (s : State) (cls source : Nat) (acc : AccessType) (master : BitVec 10) (addr : BitVec 32)
    (posted : Bool := false) : State :=
  let r : FaultRec := { cls := cls, source := source, posted := posted, access := acc, master := master, addr := addr,
                        stamp := s.bat.timeBase }
  let s := countVatFault (stormCount (latchFault s r)) source master
  if 577 ≤ source ∧ source ≤ 579 ∧ s.flt.storm = false then raise s source else s
/-- A bus fault found by address decode (R27, R516). -/
def busFault (s : State) (acc : AccessType) (master : BitVec 10) (addr : Nat) : State :=
  fault s 1 578 acc master (BitVec.ofNat 32 addr)
/-- The source number of event k of the vat at a position, for a fault record. -/
def vatSource (s : State) (p k : Nat) : Nat := 8 * logicalOf s p + k

/-! ### Random bits (R280): free values, log entry 3 -/

/-- Draw 16 random bits. -/
def draw16 (s : State) : BitVec 16 × State := (Config.random s.fresh, { s with fresh := s.fresh + 1 })
/-- The number whose 16-bit digits are draws `i` to `i + n - 1`, the first lowest. -/
def randomAt (i : Nat) : Nat → Nat
  | 0 => 0
  | n + 1 => (Config.random i).toNat + 65536 * randomAt (i + 1) n
/-- Draw a number of the given width in bits. -/
def drawBits (s : State) (bits : Nat) : Nat × State :=
  let n := (bits + 15) / 16
  (randomAt s.fresh n % 2 ^ bits, { s with fresh := s.fresh + n })
/-- Draw bytes. -/
def drawBytes (s : State) (n : Nat) : Bytes × State :=
  let (v, s) := drawBits s (8 * n)
  (leBytes n v, s)
/-- A free reading of an elapsed count (R251, R299), log entry 7. -/
def elapsed (s : State) : BitVec 32 × State := (Config.elapsed s.fresh, { s with fresh := s.fresh + 1 })

/-- Record something the device sends. -/
def send (s : State) (m : Sent) : State := { s with sent := s.sent ++ [m] }

end Sys2Proof.Machine
end

