-- ==== Sys2Proof/Machine/Stores.lean ====
section
/-!
DEFINITION. What stands outside RAM: the words of OTP (R55) and the pages of the flash die (R406, R408, R417), and what a
torn flash operation leaves (R423).
-/
namespace Sys2Proof.Machine

/-- A word of the readable OTP array (R55). -/
def otpWord (s : State) (o : Nat) : BitVec 16 := tget (fun _ => 0) s.otp o

/-- The entry of a logical block, bank x 64 + block (R417). -/
def flashBlock (s : State) (n : Nat) : FlashBlock := tget (fun _ => ⟨0, 0, none⟩) s.flash.blocks n
/-- Set a logical block's entry. -/
def setFlashBlock (s : State) (n : Nat) (b : FlashBlock) : State :=
  { s with flash := { s.flash with blocks := tset (fun _ => ⟨0, 0, none⟩) s.flash.blocks n b } }
/-- The physical block a logical block reads from: the spare that is mapped to it, if one is (R417). -/
def physBlock (s : State) (n : Nat) : Nat :=
  match (flashBlock s n).spare with
  | some x => 512 + x
  | none => n
/-- Whether a spare is taken by a REPLACE that is still erasing it (R418). -/
def spareTaken (s : State) (x : Nat) : Bool :=
  s.flash.banks.any (fun q => match q.2.job with
    | some j => decide (j.spare = some x)
    | none => false)
/-- The free spares, ascending (R418). -/
def freeSpares (s : State) : List Nat :=
  those 128 (fun x => !(s.flash.blocks.any (fun q => decide (q.2.spare = some x))) && !spareTaken s x && decide (x ∉ s.flash.badSpares))
/-- Both copies of the grown-bad table have been written: its sequence number goes up (R419). -/
def tableWritten (s : State) : State := { s with flash := { s.flash with tableSeq := s.flash.tableSeq + 1 } }
/-- A block goes into the grown-bad table as RETIRED with a reason (R414, R415, R418, R419). -/
def retireBlock (s : State) (n : Nat) (reason : BitVec 3) : State :=
  tableWritten (setFlashBlock s n { flashBlock s n with state := 2, reason := reason })
/-- A spare becomes unusable (R418). -/
def spoilSpare (s : State) (x : Nat) : State := { s with flash := { s.flash with badSpares := x :: s.flash.badSpares } }
/-- A spare is erased and mapped to a RETIRED block (R418); a spare mapped before is not used again. -/
def mapSpare (s : State) (n x : Nat) : State :=
  let b := flashBlock s n
  let s := match b.spare with
    | some y => spoilSpare s y
    | none => s
  let s := { s with flash := { s.flash with pages := tclear s.flash.pages ((512 + x) * 64) ((512 + x) * 64 + 64) } }
  tableWritten (setFlashBlock s n { b with state := 3, spare := some x })
/-- Whether PROGRAM and ERASE are allowed on a block (R417). -/
def blockUsable (s : State) (n : Nat) : Bool := decide ((flashBlock s n).state ≠ 2)
/-- The key of a page, by its number in the bank (block x 64 + page). -/
def pageKey (s : State) (bank page : Nat) : Nat := physBlock s (bank * 64 + page / 64) * 64 + page % 64
/-- The words of a physical page; none where it is erased. -/
def pageWords (s : State) (k : Nat) : List (BitVec 16) := tget (fun _ => []) s.flash.pages k
/-- Whether a page is blank (R408). -/
def pageBlank (s : State) (bank page : Nat) : Bool := decide (pageWords s (pageKey s bank page) = [])
/-- Word w of a page: 0xFFFF where it is erased (R408). -/
def pageWord (s : State) (bank page w : Nat) : BitVec 16 := (pageWords s (pageKey s bank page)).getD w 0xFFFF
/-- The bytes of a page (R406). -/
def pageBytes (s : State) (bank page : Nat) : Bytes :=
  match pageWords s (pageKey s bank page) with
  | [] => List.replicate 4096 0xFF
  | ws => ws.flatMap wordBytes
/-- Give a physical page its words. -/
def setPage (s : State) (k : Nat) (ws : List (BitVec 16)) : State :=
  { s with flash := { s.flash with pages := tset (fun _ => []) s.flash.pages k ws } }
/-- Erase a physical block. -/
def erasePhys (s : State) (b : Nat) : State :=
  { s with flash := { s.flash with pages := tclear s.flash.pages (b * 64) (b * 64 + 64) } }
/-- Program a page with bytes; the rest of the page stays 1 (R174: the bytes after LENGTH are left erased). Nothing without the die
link (R405). -/
def programBytes (s : State) (bank page : Nat) (bs : Bytes) : State :=
  if !s.flash.linkUp then s else setPage s (pageKey s bank page) (packWords (bs ++ List.replicate (4096 - bs.length) 0xFF))
/-- Erase a logical block, if it may be erased (R417) and the die link is up (R405). -/
def eraseBlock (s : State) (n : Nat) : State := if blockUsable s n && s.flash.linkUp then erasePhys s (physBlock s n) else s
/-- Erase the blocks `lo` to `hi - 1` of a bank. -/
def eraseBlocks (s : State) (bank lo hi : Nat) : State :=
  (List.range (hi - lo)).foldl (fun s i => eraseBlock s (bank * 64 + lo + i)) s
/-- Erase a bank. -/
def eraseBank (s : State) (bank : Nat) : State := eraseBlocks s bank 0 64
/-- Bytes of a bank from a byte offset on. -/
def bankBytes (s : State) (bank off n : Nat) : Bytes :=
  let first := off / 4096
  let pages := (off + n + 4095) / 4096 - first
  slice ((List.range pages).flatMap (fun i => pageBytes s bank (first + i))) (off - first * 4096) n

/-! ### Torn operations (R423) -/

/-- A torn page reads erased or as the other contents it may hold, as a free bit decides; where it is uncorrectable the
page load that finds it so says it (log entry 19). -/
def tornPage (s : State) (k : Nat) (alt : List (BitVec 16)) : State :=
  let (r, s) := draw16 s
  if r.getLsbD 0 then setPage s k [] else setPage s k alt
/-- A torn slot of the ring is blank, whole, or reads as an invalid entry (R185): what an uncorrectable page holds is kept as contents that
begin no entry (log entry 19). -/
def tornSlot (s : State) (k : Nat) (ws : List (BitVec 16)) : State :=
  let (r, s) := draw16 s
  if r.getLsbD 1 then setPage s k (0xFFFF :: ws.drop 1) else tornPage s k ws
/-- A command's pulses or verify are torn. -/
def tearJob (s : State) (bank : Nat) (j : FlashJob) : State :=
  if j.phase = 0 ∨ j.phase = 1 then s
  else if j.op = 1 ∧ bank = 7 ∧ s.fw.ring.isSome = true then tornSlot s (pageKey s bank (j.block * 64 + j.page)) j.data
  else if j.op = 1 then tornPage s (pageKey s bank (j.block * 64 + j.page)) j.data
  else if j.op = 2 then
    let b := physBlock s (bank * 64 + j.block)
    (List.range 64).foldl (fun s i => tornPage s (b * 64 + i) (pageWords s (b * 64 + i))) s
  else s
/-- What a CODE does to the tables before it is written (R414, R415, R418): 0 is OK, 2 PROGRAM_FAIL, 3 ERASE_FAIL. -/
def tableChange (s : State) (bank : Nat) (j : FlashJob) (code : Nat) : State :=
  let n := bank * 64 + j.block
  if code = 0 ∧ j.op = 4 then retireBlock s n 4
  else if code = 0 ∧ j.op = 5 then
    match j.spare with
    | some x => mapSpare s n x
    | none => s
  else if code = 3 then retireBlock s n 2
  else if code = 2 then retireBlock s n 3
  else s
/-- A table write cut off leaves the old table or the new one (R419, R423): a free bit. -/
def tearTable (s : State) (bank : Nat) (j : FlashJob) : State :=
  match j.code with
  | none => s
  | some c =>
    let (r, t) := draw16 s
    if r.getLsbD 0 then tableChange t bank j c else t
/-- Every command in progress is torn, and buffers and loads are gone (R423). -/
def tearAll (s : State) : State :=
  let t := s.flash.banks.foldl (fun s q => match q.2.job with
    | some j => tearTable (tearJob s q.1 j) q.1 j
    | none => s) s
  { t with flash := { t.flash with banks := [] } }

/-- Whether a master may read the flash window (R425): levels 1 to 3 shut out all but 512 and 579. -/
def flashOpen (s : State) (m : BitVec 10) : Bool :=
  decide (getFld s R.FLC_PROT 1 0 = 0) || decide (m = 512) || decide (m = 579)
/-- Write FLC_PROT.LEVEL (R424): a value that does not raise the level is ignored, and 3 is no level. -/
def writeProt (s : State) (v : Nat) : State :=
  let old := getFld s R.FLC_PROT 1 0
  if old = 3 ∨ (old < v ∧ v < 3) then setFld s R.FLC_PROT 1 0 v else s
/-- A bank's state. -/
def getBank (s : State) (b : Nat) : FlashBank := tget (fun _ => ⟨[], [], none⟩) s.flash.banks b
/-- Set a bank's state. -/
def setBank (s : State) (b : Nat) (v : FlashBank) : State :=
  { s with flash := { s.flash with banks := tset (fun _ => ⟨[], [], none⟩) s.flash.banks b v } }
/-- Whether a window read of a bank is answered (R405, R412, R425). -/
def flashReadable (s : State) (m : BitVec 10) (b : Nat) : Bool :=
  s.flash.linkUp && flashOpen s m && decide ((getBank s b).job = none)

end Sys2Proof.Machine
end

