-- ==== Sys2Proof/Machine/Access.lean ====
section
/-!
DEFINITION. The access table and its checks (R363 to R374), the bus integrity code (R358, R359), the common arbiter
(R377) and the mesh's routes (R20, R356).
-/
namespace Sys2Proof.Machine

/-! ### The access table -/

/-- An entry that is all zero (R371). -/
def zeroEntry : ActEntry :=
  { base := 0, limit := 0, form := 0, msetA := 0, msetB := 0, enable := false, lock := false, owner := 0,
    secretOk := false, fetch := false, write := false, read := false, p := 0, offLo := 0, offHi := 0 }
/-- An applied entry. -/
def appliedEntry (s : State) (i : Nat) : ActEntry := tget (fun _ => zeroEntry) s.act.applied i
/-- A shadow entry. -/
def shadowEntry (s : State) (i : Nat) : ActEntry := tget (fun _ => zeroEntry) s.act.shadow i
/-- Set a shadow entry. -/
def setShadow (s : State) (i : Nat) (e : ActEntry) : State :=
  { s with act := { s.act with shadow := tset (fun _ => zeroEntry) s.act.shadow i e } }

/-- An entry from its ten words (R364). -/
def entryOfWords (w : Nat → BitVec 16) : ActEntry :=
  { base := (w 1).setWidth 32 <<< 16 ||| (w 0).setWidth 32, limit := (w 3).setWidth 32 <<< 16 ||| (w 2).setWidth 32,
    form := BitVec.ofNat 2 (fld (w 4) 15 14), msetA := (w 4).setWidth 10, msetB := (w 5).setWidth 10,
    enable := bit (w 6) 15, lock := bit (w 6) 14, owner := BitVec.ofNat 4 (fld (w 6) 13 10),
    secretOk := bit (w 6) 3, fetch := bit (w 6) 2, write := bit (w 6) 1, read := bit (w 6) 0,
    p := (w 7).setWidth 5, offLo := w 8, offHi := w 9 }
/-- The ten words of an entry (R364). -/
def wordsOfEntry (e : ActEntry) : List (BitVec 16) :=
  [e.base.setWidth 16, (e.base >>> 16).setWidth 16, e.limit.setWidth 16, (e.limit >>> 16).setWidth 16,
   e.form.setWidth 16 <<< 14 ||| e.msetA.setWidth 16, e.msetB.setWidth 16,
   BitVec.ofNat 16 (b2n e.enable * 0x8000 + b2n e.lock * 0x4000 + e.owner.toNat * 0x400 + b2n e.secretOk * 8
     + b2n e.fetch * 4 + b2n e.write * 2 + b2n e.read),
   e.p.setWidth 16, e.offLo, e.offHi]

/-- An entry that covers nothing (R365). -/
def ActEntry.empty (e : ActEntry) : Bool :=
  decide (e.limit.toNat < e.base.toNat) || (decide (e.p ≠ 0) && (decide (e.p.toNat < 4) || decide (16 < e.p.toNat)))
    || decide (2 ^ e.p.toNat ≤ e.offHi.toNat) || decide (e.offHi.toNat < e.offLo.toNat)
/-- Whether an enabled entry covers a waddr (R365). -/
def ActEntry.covers (e : ActEntry) (a : Nat) : Bool :=
  e.enable && !e.empty && decide (e.base.toNat ≤ a) && decide (a ≤ e.limit.toNat)
    && (decide (e.p = 0) || (decide (e.offLo.toNat ≤ a % 2 ^ e.p.toNat) && decide (a % 2 ^ e.p.toNat ≤ e.offHi.toNat)))

/-- Forms 2 and 3 of R366: the master's own cell or vat by the window the waddr lies in; both match master 512. -/
def ownMatch (cellForm : Bool) (m : Nat) (a : Nat) : Bool :=
  decide (m = 512) || (match windowOf a with
  | some (n, off) =>
    if cellForm then decide (off < 0x40000) && decide (m = 16 * n + off / 0x2000 % 16)
    else decide (n ≤ 31) && decide (16 * n ≤ m) && decide (m ≤ 16 * n + 15)
  | none => false)

/-- Whether an entry matches a master at a waddr (R366). -/
def ActEntry.matches (e : ActEntry) (m : BitVec 10) (a : Nat) : Bool :=
  if e.form = 0 then decide (e.msetA.toNat ≤ m.toNat) && decide (m.toNat ≤ e.msetB.toNat)
  else if e.form = 1 then decide (m &&& e.msetB = e.msetA &&& e.msetB)
  else ownMatch (decide (e.form = 2)) m.toNat a

/-- The permissions of R364. -/
inductive Perm where
  | read
  | write
  | fetch
  | secret
  deriving DecidableEq, Repr

/-- Whether an entry grants a permission to a master that it matches; master 512 gets all but FETCH from forms 2 and 3
(R366). -/
def ActEntry.grants (e : ActEntry) (m : BitVec 10) (p : Perm) : Bool :=
  let own := decide (2 ≤ e.form.toNat) && decide (m = 512)
  match p with
  | .read => e.read || own
  | .write => e.write || own
  | .fetch => e.fetch && !own
  | .secret => e.secretOk || own

/-- The causes ACT_LAST names (R387). -/
inductive Refuse where
  | noRegion
  | notInSet
  | perm
  | secret
  | overlap
  | reservedMaster
  deriving DecidableEq, Repr

/-- The number of an access-table cause. -/
def Refuse.code : Refuse → Nat
  | .noRegion => 1
  | .notInSet => 2
  | .perm => 3
  | .secret => 4
  | .overlap => 5
  | .reservedMaster => 6

/-- The numbers of the entries that cover a waddr, lowest first. -/
def covering (s : State) (a : Nat) : List Nat :=
  (s.act.applied.filter (fun p => decide (p.1 < 1024) && p.2.covers a)).map (·.1)

/-- The ACT_ block is written by master 512 alone (R370). -/
def actShut (m : BitVec 10) (a : Nat) : Bool := decide (region a = .register) && decide (regBlock a = 6) && decide (m ≠ 512)
/-- The judgement of R367 on one word: `none` if allowed, or the cause and the lowest refusing entry. `secretStore` says
that a SECRET word is to be stored. A reserved master is refused first (R38), then a write of the ACT_ block that R370 shuts out
(log entry 39). -/
def checkWord (s : State) (m : BitVec 10) (a : Nat) (need : Perm) (secretStore : Bool) : Option (Refuse × Option Nat) :=
  if 582 ≤ m.toNat then some (.reservedMaster, none)
  else if need = .write ∧ actShut m a = true then some (.notInSet, none)
  else
    let es := covering s a
    match es with
    | [] => if m = 512 then none else some (.noRegion, none)
    | e0 :: rest =>
      if rest ≠ [] ∧ (mode s = mSERVICE ∨ mode s = mUNCLAIMED) then some (.overlap, some e0)
      else
        match es.find? (fun i => !((appliedEntry s i).matches m a && (appliedEntry s i).grants m need)) with
        | some i => some (if (appliedEntry s i).matches m a then .perm else .notInSet, some i)
        | none =>
          if secretStore then
            match es.find? (fun i => !((appliedEntry s i).grants m .secret)) with
            | some i => some (.secret, some i)
            | none => none
          else none

/-- The judgement on a TYPE 4 loader write: only enabled entries with LOCK take part (R369). -/
def checkLoader (s : State) (a : Nat) : Option (Refuse × Option Nat) :=
  match (covering s a).find? (fun i => (appliedEntry s i).lock
      && !((appliedEntry s i).matches 512 a && (appliedEntry s i).grants 512 .write)) with
  | some i => some (if (appliedEntry s i).matches 512 a then .perm else .notInSet, some i)
  | none => none

/-- Whether every word of a region may be read by a master, and the first that may not. -/
def checkRange (s : State) (m : BitVec 10) (a n : Nat) (need : Perm) (secretStore : Bool) :
    Option (Nat × Refuse × Option Nat) :=
  (List.range n).findSome? (fun i => (checkWord s m (a + i) need secretStore).map (fun r => (a + i, r.1, r.2)))

/-- The first SECRET word of a store that the table keeps out of its region, every word being allowed otherwise (R303 check 6, R367). -/
def secretRefused (s : State) (m : BitVec 10) (a : Nat) (ws : List Word) : Option (Nat × Refuse × Option Nat) :=
  (List.range ws.length).findSome? (fun i =>
    (checkWord s m (a + i) .write (decide ((ws.getD i zeroWord).tag = .secret))).map (fun r => (a + i, r.1, r.2)))

/-- Record a refusal in ACT_LAST and ACT_VIOL_COUNT (R374). A reserved master also raises the logic-integrity tamper
event (R38): the caller does that. -/
def noteRefusal (s : State) (r : Refuse) (entry : Option Nat) : State :=
  let v := BitVec.ofNat 16 (r.code * 0x2000 + (match entry with
    | some i => i
    | none => 0x400))
  countReg (setReg s R.ACT_LAST v) R.ACT_VIOL_COUNT 0xFFFF

/-- A refusal of a non-posted access by a master that is no core (R374, R516): recorded under source 578. -/
def refusal (s : State) (r : Refuse) (entry : Option Nat) (acc : AccessType) (m : BitVec 10) (a : Nat) : State :=
  fault (noteRefusal s r entry) 1 578 acc m (BitVec.ofNat 32 a)

/-! ### APPLY and overlaps (R371, R373) -/

/-- The least waddr at or above `a` that an entry's window admits, bounds aside (R365). -/
def ActEntry.nextIn (e : ActEntry) (a : Nat) : Nat :=
  if e.p = 0 then a
  else
    let q := 2 ^ e.p.toNat
    let o := a % q
    if o < e.offLo.toNat then a - o + e.offLo.toNat
    else if o ≤ e.offHi.toNat then a
    else a - o + q + e.offLo.toNat

/-- Whether two entries cover a common word, searched from `a` upwards: each round moves to the next word both windows
may admits. A window lasts 2^16 words at most, so 2^13 rounds meet every start of one. -/
def commonFrom (e f : ActEntry) (top : Nat) : Nat → Nat → Bool
  | 0, _ => false
  | fuel + 1, a =>
    let b := f.nextIn (e.nextIn a)
    if top < b then false
    else if e.covers b && f.covers b then true
    else commonFrom e f top fuel b

/-- Whether two enabled entries overlap (R373). -/
def overlaps (e f : ActEntry) : Bool :=
  e.enable && f.enable && !e.empty && !f.empty
    && commonFrom e f (min e.limit.toNat f.limit.toNat) 16384 (max e.base.toNat f.base.toNat)

/-- The lowest-numbered pair of overlapping entries (R373). -/
def firstOverlap : Tbl ActEntry → Option (Nat × Nat)
  | [] => none
  | (i, e) :: rest =>
    match rest.find? (fun p => overlaps e p.2) with
    | some (j, _) => some (i, j)
    | none => firstOverlap rest

/-- APPLY: the shadow table becomes the table of every checker, and overlaps are found (R371, R373). -/
def applyTable (s : State) : State :=
  { s with act := { s.act with applied := s.act.shadow, overlap := firstOverlap s.act.shadow, applying := false } }
/-- APPLY as it is requested: it follows a VAT_SWAP that is in progress, BUSY reading 1 until then (R371, R386), and is ignored while
BUSY is 1. -/
def requestApply (s : State) : State :=
  if s.act.applying then s else if s.swap.isSome then { s with act := { s.act with applying := true } } else applyTable s

/-- WRITE: the staged entry into shadow entry ACT_SEL, or REFUSED (R365, R371). -/
def actWrite (s : State) : State :=
  let i := (getReg s R.ACT_SEL).toNat
  let e := entryOfWords (fun j => getReg s (R.ACT_ENTRY j))
  if e.empty || (appliedEntry s i).lock then setBit s R.ACT_STATUS 13 true else setShadow s i e

/-- Set registers to consecutive words. -/
def setRegs (s : State) (w : Nat) : List (BitVec 16) → State
  | [] => s
  | v :: vs => setRegs (setReg s w v) (w + 1) vs

/-- LOAD: shadow entry ACT_SEL into the staging words (R371). -/
def actLoad (s : State) : State :=
  setRegs s (R.ACT_ENTRY 0) (wordsOfEntry (shadowEntry s (getReg s R.ACT_SEL).toNat))

/-- ENABLE cleared in one shadow entry, if the partition owns it and its applied LOCK is 0 (R372). -/
def clearEntry (part : Nat) (s : State) (i : Nat) : State :=
  let e := shadowEntry s i
  if e.owner.toNat = part ∧ (appliedEntry s i).lock = false then setShadow s i { e with enable := false } else s
/-- CLEAR_PART: ENABLE cleared in the partition's unlocked shadow entries (R372). -/
def clearPart (s : State) (part : Nat) : State := (s.act.shadow.map (·.1)).foldl (clearEntry part) s

/-! ### The bus integrity code (R358, R359) -/

/-- The column values of R358. -/
def checkColumns : List (BitVec 7) :=
  [0x07, 0x0B, 0x0D, 0x0E, 0x13, 0x15, 0x16, 0x19, 0x1A, 0x1C, 0x23, 0x25, 0x26, 0x29, 0x2A, 0x2C, 0x31, 0x32]

/-- The tag as its two bits. -/
def tagBits : Tag → BitVec 2
  | .data => 0
  | .code => 1
  | .cap => 2
  | .secret => 3
/-- The tag of two bits. -/
def tagOfBits (b : BitVec 2) : Tag :=
  if b = 0 then .data else if b = 1 then .code else if b = 2 then .cap else .secret

/-- A word as its 18 bits: tag [17:16], payload [15:0]. -/
def wordBits (w : Word) : BitVec 18 := (tagBits w.tag).setWidth 18 <<< 16 ||| w.val.setWidth 18
/-- The word of 18 bits. -/
def wordOfBits (b : BitVec 18) : Word := ⟨tagOfBits ((b >>> 16).setWidth 2), b.setWidth 16⟩

/-- The exclusive-OR of the columns of the bits that are 1, starting at bit i. -/
def columnSum (b : BitVec 18) : Nat → List (BitVec 7) → BitVec 7
  | _, [] => 0
  | i, c :: cs => (if b.getLsbD i then c else 0) ^^^ columnSum b (i + 1) cs

/-- The 7 check bits of a word (R358). -/
def checkBits (w : Word) : BitVec 7 := columnSum (wordBits w) 0 checkColumns ^^^ 0x55

/-- A word with its check bits, the word in the low 18 bits. -/
def codeWord (w : Word) : BitVec 25 := (checkBits w).setWidth 25 <<< 18 ||| (wordBits w).setWidth 25

/-- What a receiver makes of 25 received bits: the word, if its check bits match. -/
def receiveWord (r : BitVec 25) : Option Word :=
  let w := wordOfBits (r.setWidth 18)
  if checkBits w = (r >>> 18).setWidth 7 then some w else none

/-- One step of the CRC-12 of R359: polynomial x^12 + x^11 + x^3 + x^2 + x + 1. -/
def crc12Step (c : BitVec 12) (b : Bool) : BitVec 12 :=
  let out := c.getLsbD 11 != b
  let c := c <<< 1
  if out then c ^^^ 0x80F else c

/-- The 50 header bits a code is computed over: ADDR, MASTER, TYPE, LEN from the top (R359). -/
def headerBits (addr : BitVec 32) (master : BitVec 10) (ty len : BitVec 4) : BitVec 50 :=
  addr.setWidth 50 <<< 18 ||| master.setWidth 50 <<< 8 ||| ty.setWidth 50 <<< 4 ||| len.setWidth 50

/-- The header code: most significant bit first, initial value 0xFFF (R359). -/
def headerCode (h : BitVec 50) : BitVec 12 :=
  (List.range 50).foldl (fun c i => crc12Step c (h.getLsbD (49 - i))) 0xFFF

/-- The header and its code as 62 bits, the code in the low 12. -/
def codeHeader (h : BitVec 50) : BitVec 62 := h.setWidth 62 <<< 12 ||| (headerCode h).setWidth 62
/-- What a receiver makes of 62 received bits: the header, if its code matches and its TYPE is not reserved (R359). -/
def receiveHeader (r : BitVec 62) : Option (BitVec 50) :=
  let h : BitVec 50 := (r >>> 12).setWidth 50
  let ty := (h >>> 4).setWidth 4
  if headerCode h = r.setWidth 12 ∧ ty.toNat ≤ 10 ∧ ty ≠ 7 then some h else none

/-! ### Arbiters (R377) -/

/-- An arbiter after reset. -/
def arbReset : Arbiter := { g := 0, rank := [], wait := [] }
/-- The arbiter with INDEX i, output o (R378); o is 0 but for a router. -/
def getArb (s : State) (i o : Nat) : Arbiter := tget (fun _ => arbReset) s.mesh.arbs (i * 8 + o)
/-- Set an arbiter. -/
def setArb (s : State) (i o : Nat) (a : Arbiter) : State :=
  { s with mesh := { s.mesh with arbs := tset (fun _ => arbReset) s.mesh.arbs (i * 8 + o) a } }
/-- The slot s of arbiter INDEX i: [15] USED, [4:0] REQ. -/
def arbSlot (s : State) (i k : Nat) : BitVec 16 := tget (fun _ => 0) s.mesh.slots (i * 64 + k)
/-- The reservation interval N of arbiter INDEX i; 16 at reset (R208, R387). -/
def arbN (s : State) (i : Nat) : Nat := (tget (fun _ => (16 : BitVec 7)) s.mesh.interval i).toNat

/-- The requester with the greatest value, the lowest number on a tie. -/
def greatest (f : Nat → Nat) : List Nat → Option Nat
  | [] => none
  | r :: rest =>
    match greatest f rest with
    | none => some r
    | some q => if f r < f q then some q else some r

/-- Whom the arbiter grants among the requesters (in ascending order), by the three steps of R377. -/
def arbChoose (s : State) (i : Nat) (a : Arbiter) (reqs : List Nat) : Option Nat :=
  let rank := fun r => (tget (fun _ => (0 : BitVec 4)) a.rank r).toNat
  let wait := fun r => (tget (fun _ => (0 : BitVec 8)) a.wait r).toNat
  let slot := arbSlot s i (a.g.toNat % 64)
  if (a.g.toNat + 1) % arbN s i = 0 then greatest wait reqs
  else if bit slot 15 ∧ fld slot 4 0 ∈ reqs then some (fld slot 4 0)
  else greatest rank reqs

/-- The arbiter after it granted `win` among `reqs`, of `n` requesters (R377). -/
def arbAfter (a : Arbiter) (n win : Nat) (reqs : List Nat) : Arbiter :=
  let bump4 := fun (t : Tbl (BitVec 4)) r =>
    tset (fun _ => 0) t r (if r = win then 0 else BitVec.ofNat 4 (min 15 ((tget (fun _ => (0 : BitVec 4)) t r).toNat + 1)))
  let bump8 := fun (t : Tbl (BitVec 8)) r =>
    if r ∈ reqs ∧ r ≠ win then
      tset (fun _ => 0) t r (BitVec.ofNat 8 (min 255 ((tget (fun _ => (0 : BitVec 8)) t r).toNat + 1)))
    else tset (fun _ => 0) t r 0
  { g := a.g + 1, rank := reqs.foldl bump4 a.rank, wait := (List.range n).foldl bump8 a.wait }

/-- One grant of arbiter INDEX i among requesters 0-15: who is granted and the state after it. -/
def arbGrant (s : State) (i : Nat) (reqs : List Nat) : Option Nat × State :=
  let a := getArb s i 0
  match arbChoose s i a reqs with
  | none => (none, s)
  | some w => (some w, setArb s i 0 (arbAfter a 16 w reqs))

/-! ### The grid (R20, R356) -/

/-- The router of a physical vat position (R20): routers 14 and 21 are the hubs S and F. -/
def routerOfPos (p : Nat) : Nat := if p < 14 then p else if p < 20 then p + 1 else p + 2
/-- The position carried by a router, if it is no hub. -/
def posOfRouter (r : Nat) : Option Nat :=
  if r = 14 ∨ r = 21 ∨ 36 ≤ r then none else some (if r < 14 then r else if r < 21 then r - 1 else r - 2)
/-- The router and local output (4 A, 5 B) that serve a waddr (R356): registers other than the flash controller's and
the I/O blocks' answer at hub S, local A. DEDUCED, log entry 10. -/
def endpointOf (s : State) (a : Nat) : Nat × Nat :=
  match region a with
  | .vat n _ => (routerOfPos (phys s n), 4)
  | .sram => (14, 5)
  | .flash _ _ => (21, 4)
  | .pailArea => (21, 5)
  | .register =>
    if a / 0x100000 % 0x1000 ∈ [0x301, 0x307, 0x309, 0x30A, 0x30B, 0x30C, 0x30D] then (21, 5)
    else if a / 0x100000 % 0x1000 = 0x308 then (21, 4)
    else if a / 0x100000 % 0x1000 ∈ [0x302, 0x303, 0x304, 0x312] ∧ 0x1000 ≤ regOff a
      then (routerOfPos (phys s (regInst a)), 4)
    else (14, 4)
  | _ => (14, 4)

/-- The outputs a transfer takes from router `r` to router `d` with dimension-ordered routing, x first (R20). The
numbers are 0 east, 1 south, 2 west, 3 north (R356). -/
def routeFrom (d last : Nat) : Nat → Nat → List (Nat × Nat)
  | 0, r => [(r, last)]
  | fuel + 1, r =>
    if r % 6 < d % 6 then (r, 0) :: routeFrom d last fuel (r + 1)
    else if d % 6 < r % 6 then (r, 2) :: routeFrom d last fuel (r - 1)
    else if r / 6 < d / 6 then (r, 1) :: routeFrom d last fuel (r + 6)
    else if d / 6 < r / 6 then (r, 3) :: routeFrom d last fuel (r - 6)
    else [(r, last)]

/-- Which outputs a router has (R356). -/
def outputExists (r o : Nat) : Bool :=
  if o = 0 then decide (r % 6 < 5) else if o = 1 then decide (r / 6 < 5) else if o = 2 then decide (0 < r % 6)
  else if o = 3 then decide (0 < r / 6) else if o = 4 then true else if o = 5 then decide (r = 14 ∨ r = 21) else false

/-- The input by which a transfer comes to a router after it left the last one by an output (R356). -/
def inputAfter (o : Nat) : Nat := (o + 2) % 4
/-- Whether the output of a router is held by a transfer of another master (R383). -/
def outputHeld (s : State) (m : BitVec 10) (r o : Nat) : Bool :=
  let h := tget (fun _ => (0 : Nat)) s.mesh.held (r * 8 + o)
  decide (h ≠ 0) && decide (h ≠ m.toNat + 1)
/-- One grant of a router output (R377, R380) among the heads of its inputs, as (input, AGE), ascending: the input granted and the
state after it. WAIT is the AGE of the head. MSH_RTR_GRANTS and MSH_RTR_AGE_MAX follow (R387). -/
def outputGrant (s : State) (r o : Nat) (heads : List (Nat × Nat)) : Option Nat × State :=
  let a := { getArb s (102 + r) o with wait := heads.foldl (fun t q => tset (fun _ => 0) t q.1 (BitVec.ofNat 8 q.2)) [] }
  match arbChoose s (102 + r) a (heads.map (·.1)) with
  | none => (none, s)
  | some w =>
    let age := ((heads.find? (fun q => q.1 == w)).map (·.2)).getD 0
    let s := setArb s (102 + r) o (arbAfter a 6 w (heads.map (·.1)))
    let s := countReg s (R.MSH_RTR_GRANTS r o) 0xFFFF
    (some w, setReg s (R.MSH_RTR_AGE_MAX r) (BitVec.ofNat 16 (max (getReg s (R.MSH_RTR_AGE_MAX r)).toNat age)))
end Sys2Proof.Machine
end

