-- ==== Sys2Proof/Machine/Flags.lean ====
section
/-!
DEFINITION. The flag computations of the cell instruction set (R297, R308, R309) and the condition codes (R310).
-/
namespace Sys2Proof.Machine

/-- A 16-bit result with its carry and overflow. -/
structure AluOut where
  val : BitVec 16
  c : Bool
  v : Bool
  deriving DecidableEq, Repr

/-- Z and N of a result, with its C, V and the flag tag (R297, R308). -/
def flagsOf (r : AluOut) (ft : Bool) : Flags :=
  { z := decide (r.val = 0), n := r.val.getLsbD 15, c := r.c, v := r.v, ft := ft }

/-- a + b + carry: C the carry out, V the signed overflow (R308). -/
def aluAdd (a b : BitVec 16) (cin : Bool) : AluOut :=
  let sum := a.toNat + b.toNat + b2n cin
  let r := BitVec.ofNat 16 sum
  { val := r, c := decide (65536 ≤ sum), v := a.getLsbD 15 == b.getLsbD 15 && r.getLsbD 15 != a.getLsbD 15 }

/-- a - b - borrow: C is 1 when no borrow leaves the difference (for SUB, when a is at least b), V the signed
overflow (R308). -/
def aluSub (a b : BitVec 16) (borrow : Bool) : AluOut :=
  let r := BitVec.ofNat 16 (a.toNat + 65536 - b.toNat - b2n borrow + 65536)
  { val := r, c := decide (b.toNat + b2n borrow ≤ a.toNat), v := a.getLsbD 15 != b.getLsbD 15 && r.getLsbD 15 != a.getLsbD 15 }

/-- A result with C = V = 0 (R308). -/
def aluLogic (r : BitVec 16) : AluOut := { val := r, c := false, v := false }

/-- Shift left by 0-31: C the last bit shifted out, 0 for a shift of 0; V = 0 (R308). -/
def aluShl (a : BitVec 16) (n : Nat) : AluOut :=
  { val := if 16 ≤ n then 0 else a <<< n, c := decide (0 < n) && decide (n ≤ 16) && a.getLsbD (16 - n), v := false }

/-- Logical right shift by 0-31 (R308). -/
def aluShr (a : BitVec 16) (n : Nat) : AluOut :=
  { val := if 16 ≤ n then 0 else a >>> n, c := decide (0 < n) && a.getLsbD (n - 1), v := false }

/-- Arithmetic right shift by 0-31: 16 or more gives 16 copies of bit 15 (R308). The last bit shifted out of a longer
shift is a copy of bit 15. -/
def aluSar (a : BitVec 16) (n : Nat) : AluOut :=
  { val := if 16 ≤ n then (if a.getLsbD 15 then 0xFFFF else 0) else a.sshiftRight n,
    c := decide (0 < n) && a.getLsbD (min (n - 1) 15), v := false }

/-- Rotate left by 0-15: C = bit 0 of the result, V = 0 (R308). -/
def aluRol (a : BitVec 16) (n : Nat) : AluOut :=
  let r := a.rotateLeft (n % 16)
  { val := r, c := r.getLsbD 0, v := false }

/-- Low 16 bits of the unsigned product (R308). -/
def aluMul (a b : BitVec 16) : AluOut := aluLogic (BitVec.ofNat 16 (a.toNat * b.toNat))
/-- High 16 bits of the unsigned product (R308). -/
def aluMulh (a b : BitVec 16) : AluOut := aluLogic (BitVec.ofNat 16 (a.toNat * b.toNat / 65536))

/-- The condition codes 0-14 (R310); 15 is ILLEGAL and is refused before. -/
def condHolds (f : Flags) (c : Nat) : Bool :=
  match c with
  | 0 => f.z
  | 1 => !f.z
  | 2 => f.c
  | 3 => !f.c
  | 4 => f.n
  | 5 => !f.n
  | 6 => f.v
  | 7 => !f.v
  | 8 => f.c && !f.z
  | 9 => !f.c || f.z
  | 10 => f.n == f.v
  | 11 => f.n != f.v
  | 12 => !f.z && (f.n == f.v)
  | 13 => f.z || (f.n != f.v)
  | _ => true

/-- The FLAGS register value: Z, N, C, V, FT in bits 3, 2, 1, 0, 4 (R299). -/
def flagsVal (f : Flags) : BitVec 16 :=
  BitVec.ofNat 16 (b2n f.ft * 16 + b2n f.z * 8 + b2n f.n * 4 + b2n f.c * 2 + b2n f.v)
/-- The FLAGS register as MFSR returns it: SECRET when FT is 1 (R299). -/
def flagsWord (f : Flags) : Word := ⟨if f.ft then .secret else .data, flagsVal f⟩
/-- What MTSR makes of a source word (R299). -/
def flagsFrom (w : Word) : Flags :=
  { z := bit w.val 3, n := bit w.val 2, c := bit w.val 1, v := bit w.val 0,
    ft := decide (w.tag = .secret) || bit w.val 4 }

/-- The flags an engine or job-port instruction writes: Z as given, N, C, V and FT 0 (R321). -/
def jobFlags (z : Bool) : Flags := { z := z, n := false, c := false, v := false, ft := false }

end Sys2Proof.Machine
end

