-- ==== Sys2Proof/Machine/Operands.lean ====
section
/-!
DEFINITION. How a core reads its instruction and its operands: fetch and fields (R300 to R302), register banks and
XCSEL (R298, R343), base selectors and the checks of R303, faults and halts (R306, R350).
-/
namespace Sys2Proof.Machine

/-! ### Banks -/

/-- The bank a core executes in. -/
def cur (c : Cell) : RegBank := if c.inShadow then c.shadow else c.main
/-- Change the bank a core executes in. -/
def modCur (c : Cell) (f : RegBank → RegBank) : Cell :=
  if c.inShadow then { c with shadow := f c.shadow } else { c with main := f c.main }
/-- A g register of a bank. -/
def bankG (b : RegBank) (r : Nat) : Word := tget memDefault b.g r
/-- A c register of a bank. -/
def bankC (b : RegBank) (i : Nat) : CReg := tget (fun _ => nullCap) b.c i
/-- Set a g register of a bank. -/
def setBankG (b : RegBank) (r : Nat) (w : Word) : RegBank := { b with g := tset memDefault b.g r w }
/-- Set a c register of a bank. -/
def setBankC (b : RegBank) (i : Nat) (v : CReg) : RegBank := { b with c := tset (fun _ => nullCap) b.c i v }

/-- A g register of the executing bank. -/
def getG (c : Cell) (r : Nat) : Word := bankG (cur c) r
/-- Set a g register of the executing bank. -/
def setG (c : Cell) (r : Nat) (w : Word) : Cell := modCur c (fun b => setBankG b r w)
/-- Set the flags of the executing bank. -/
def setFlags (c : Cell) (f : Flags) : Cell := modCur c (fun b => { b with flags := f })
/-- The flags of the executing bank. -/
def getFlags (c : Cell) : Flags := (cur c).flags
/-- The pc of the executing bank. -/
def getPc (c : Cell) : BitVec 20 := (cur c).pc
/-- Set the pc of the executing bank. -/
def setPc (c : Cell) (p : BitVec 20) : Cell := modCur c (fun b => { b with pc := p })
/-- A pc with its 12-bit index replaced; the PAGE stays (R301, R352). -/
def withIndex (p : BitVec 20) (i : Nat) : BitVec 20 := (p &&& 0xFF000) ||| BitVec.ofNat 20 (i % 4096)
/-- The 12-bit index of a pc. -/
def pcIndex (p : BitVec 20) : Nat := p.toNat % 4096
/-- The instruction is done: pc advances by 1 and a cause held back by R349 may be taken. -/
def advance (c : Cell) : Cell := { setPc c (withIndex (getPc c) (pcIndex (getPc c) + 1)) with hold := false }
/-- The instruction is done and set the pc. -/
def jump (c : Cell) (i : Nat) : Cell := { setPc c (withIndex (getPc c) i) with hold := false }

/-- Whether an instruction that names ci reaches the main bank's from the shadow bank (R343). -/
def crossC (c : Cell) (i : Nat) : Bool := c.inShadow && c.xcsel.getLsbD i
/-- A c register as an instruction names it (R343). -/
def getC (c : Cell) (i : Nat) : CReg := if crossC c i then bankC c.main i else bankC (cur c) i

/-! ### Capabilities (R330) -/

/-- A capability's fields as numbers. -/
structure Cap where
  valid : Bool
  base : Nat
  len : Nat
  perms : Nat
  deriving DecidableEq, Repr

/-- The fields of a c register's fragments (R330). -/
def capOf (r : CReg) : Cap :=
  { valid := r.valid, base := (r.frags.setWidth 32 : BitVec 32).toNat,
    len := ((r.frags >>> 32).setWidth 27 : BitVec 27).toNat, perms := ((r.frags >>> 59).setWidth 5 : BitVec 5).toNat }
/-- A valid capability with the given fields (R330). -/
def mkCap (base len perms : Nat) : CReg :=
  { valid := true, frags := (BitVec.ofNat 64 perms <<< 59) ||| ((BitVec.ofNat 27 len).setWidth 64 <<< 32)
      ||| (BitVec.ofNat 32 base).setWidth 64 }
/-- Fragment k of a c register as a word (R330). -/
def frag (r : CReg) (k : Nat) : Word := ⟨if r.valid then .cap else .data, (r.frags >>> (16 * k)).setWidth 16⟩
/-- The c register of four words, if they are all CAP or all DATA (R296). -/
def capOfWords : List Word → Option CReg
  | [a, b, c, d] =>
    let fr : BitVec 64 := d.val.setWidth 64 <<< 48 ||| c.val.setWidth 64 <<< 32 ||| b.val.setWidth 64 <<< 16
      ||| a.val.setWidth 64
    if a.tag = .cap ∧ b.tag = .cap ∧ c.tag = .cap ∧ d.tag = .cap then some ⟨true, fr⟩
    else if a.tag = .data ∧ b.tag = .data ∧ c.tag = .data ∧ d.tag = .data then some ⟨false, fr⟩
    else none
  | _ => none
/-- Permission bits of R313: READ, WRITE, CAPLOAD, CAPSTORE, GRANT. -/
def pREAD : Nat := 1
def pWRITE : Nat := 2
def pCAPLOAD : Nat := 4
def pCAPSTORE : Nat := 8
def pGRANT : Nat := 16
/-- Whether permissions include all of `need`. -/
def hasPerms (perms need : Nat) : Bool := decide (perms &&& need = need)
/-- X grants more than Y (R333). -/
def grantsMore (x y : CReg) : Bool :=
  let a := capOf x
  let b := capOf y
  x.valid && (!y.valid || decide (a.base < b.base) || decide (b.base + b.len < a.base + a.len)
    || decide (a.perms &&& b.perms ≠ a.perms))

/-- Write a c register as an instruction names it: through XCSEL it sets Wi, and for c7 it decides G7 (R343). -/
def setC (c : Cell) (i : Nat) (v : CReg) : Cell :=
  if crossC c i then
    let grant := (List.range 8).any (fun j => (bankC c.shadow j).valid && hasPerms (capOf (bankC c.shadow j)).perms pGRANT)
    { c with main := setBankC c.main i v, wrote := c.wrote ||| (1 <<< i : BitVec 8), g7 := if i = 7 then grant else c.g7 }
  else modCur c (fun b => setBankC b i v)

/-! ### Whether a core runs; fetch and fields -/

/-- Whether a core is the supervisor. -/
def isSup (k : Nat) : Bool := decide (k = supKey)
/-- Whether a core may execute instructions now: powered and clocked, let run, not halted, not stopped by STALL
(R325, R350, R501); the supervisor fetches nothing until scrubbing has finished (R51). -/
def coreLive (s : State) (k : Nat) : Bool :=
  !(getCell s k).halted && s.ext.mainPower &&
  ((isSup k && decide (s.boot.step ≠ 0)) || (decide (logicalOf s (k / 16) < 32) && powered s (k / 16) && getBit s (R.VAT_CTRL (k / 16)) 1
    && cellRun s (k / 16) (k % 16) && !s.tmp.stall))
/-- Line l of the event controller is asserted (R552). -/
def lineAsserted (s : State) (l : Nat) : Bool :=
  decide (s.evc.pend ≠ 0) && (List.range 640).any (fun n => s.evc.pend.getLsbD n && bit (getReg s (R.EVC_ROUTE n)) 15
    && decide (fld (getReg s (R.EVC_ROUTE n)) 4 0 = l))
/-- Whether an asynchronous cause may be taken at a core now (R339, R349): in the main bank, MASK 0, not held back, and
between instructions or in a waiting instruction. -/
def asyncOpen (s : State) (k : Nat) : Bool :=
  let c := getCell s k
  coreLive s k && !c.inShadow && !c.mask && !c.hold && decide (c.pend = none)
    && (match c.wait with
      | .mem _ => false
      | _ => true)
/-- The asynchronous cause to take, if one is pending: CDONE before MDONE (R338), or the supervisor's lowest asserted
line (R552). -/
def asyncCause (s : State) (k : Nat) : Option (BitVec 6) :=
  let c := getCell s k
  if isSup k then ((List.range 32).find? (lineAsserted s)).map (fun l => BitVec.ofNat 6 (32 + l))
  else if c.pendC then some 16 else if c.pendM then some 17 else none
/-- Whether a core stands before an instruction: it lives, waits for nothing, and has no fault and no asynchronous cause to take first
(R324, R339, R354). -/
def coreReady (s : State) (k : Nat) : Bool :=
  coreLive s k && decide ((getCell s k).wait = .none) && decide ((getCell s k).pend = none)
    && !(asyncOpen s k && (asyncCause s k).isSome)

/-- Outcome of an instruction fetch (R300, R301, R352). -/
inductive Fetched where
  | word (p : BitVec 32)
  | fault (f : SyncFault) (note : Option (Refuse × Option Nat))
  deriving DecidableEq, Repr

/-- A word the supervisor fetches at a waddr: local memory, or the boot ROM, whose contents are free (R28). -/
def supFetchWord (s : State) (a : Nat) : Word := if a < 0x100000 then readMem s a else ⟨.code, Config.bootRom (a - 0x100000)⟩

/-- Fetch the instruction at a core's pc. -/
def fetch (s : State) (k : Nat) : Fetched :=
  let pc := (getPc (getCell s k)).toNat
  if isSup k then
    let a := 2 * pc
    if 0x108000 ≤ a then .fault ⟨.bus, some (BitVec.ofNat 32 a)⟩ none
    else match checkRange s 512 a 2 .fetch false with
      | some (x, r, e) => .fault ⟨.access, some (BitVec.ofNat 32 x)⟩ (some (r, e))
      | none =>
        let u := supFetchWord s a
        let v := supFetchWord s (a + 1)
        if u.tag = .code ∧ v.tag = .code then .word (u.val.setWidth 32 <<< 16 ||| v.val.setWidth 32) else .fault ⟨.fetch, none⟩ none
  else
    let a := istoreBase (k / 16) (k % 16) + 2 * (pc % 4096)
    let u := readMem s a
    let v := readMem s (a + 1)
    if u.tag = .code ∧ v.tag = .code then .word (u.val.setWidth 32 <<< 16 ||| v.val.setWidth 32) else .fault ⟨.fetch, none⟩ none

/-- A 4-bit field of P by its low bit. -/
def pf (p : BitVec 32) (lo : Nat) : Nat := p.toNat / 2 ^ lo % 16
/-- The opcode, P[31:24]. -/
def pOp (p : BitVec 32) : Nat := p.toNat / 2 ^ 24
/-- imm16, P[15:0]. -/
def pImm (p : BitVec 32) : BitVec 16 := p.setWidth 16
/-- imm8, P[7:0]. -/
def pImm8 (p : BitVec 32) : Nat := p.toNat % 256

/-! ### Addresses that answer no data access (R27, R29) -/

/-- Whether an address is one R27 or R29 describes for a data access: reserved, the boot ROM, or the window of a vat
that is powered down or whose boundary is closed, or the registers of its units; the VAT_ instance always answers. -/
def isHole (s : State) (a : Nat) (write : Bool) : Bool :=
  match region a with
  | .reserved => true
  | .bootRom => true
  | .vat n _ => !powered s (phys s n) || decide (2 ≤ boundary s (phys s n))
  | .otp _ => write
  | .flash _ _ => write
  | .register =>
    if regBlock a = 1 then decide (0x800 ≤ regOff a)
    else (regSpec a).isNone || (regBlock a ∈ [2, 3, 4] && decide (0x1000 ≤ regOff a) && !powered s (phys s (regInst a)))
  | _ => false

/-- Whether a waddr lies in an instance that follows the logical vat: VAT_, CHN_, MAC_ and RNG_ (R26, R34). -/
def vatInst (w : Nat) : Bool := (regBlock w ∈ [2, 3, 4, 18]) && decide (0x1000 ≤ regOff w)
/-- The logical vat a waddr names, in its window or its register instances. -/
def vatOf (a : Nat) : Option Nat :=
  match region a with
  | .vat n _ => some n
  | .register => if vatInst a then some (regInst a) else none
  | _ => none
/-- The physical position a waddr is decoded to when it leaves its source (R188). -/
def decodePos (s : State) (a : Nat) : Option Nat := (vatOf a).map (phys s)
/-- Whether no egress decodes a waddr now: it names a number of a swap in progress (R188). -/
def swapHolds (s : State) (a : Nat) : Bool :=
  match s.swap, vatOf a with
  | some (x, y), some n => n == x || n == y
  | _, _ => false
/-- Whether a waddr lies in a vat whose boundary is HOLD, where accesses wait: in its window, or in the registers of its units (R214);
the VAT_ instance always answers (R29). -/
def heldAt (s : State) (a : Nat) : Bool :=
  match vatOf a with
  | some n => powered s (phys s n) && decide (boundary s (phys s n) = 1) && !(decide (region a = .register) && decide (regBlock a = 18))
  | none => false
/-- Whether an access to a waddr waits: at a boundary in HOLD (R214), or for a swap in progress (R188). -/
def accessWaits (s : State) (a : Nat) : Bool := heldAt s a || swapHolds s a
/-- What the supervisor's access of a register instance does (R27, R29): with the vat powered down it is a bus fault; it waits where
accesses wait (R188, R214). -/
def supAccess (s : State) (acc : AccessType) (w : Nat) (f : State) : State :=
  if s.ext.mainPower = false ∨ accessWaits s w = true then s else if isHole s w (decide (acc = .write)) then busFault s acc 512 w else f

/-! ### Jobs of the engines -/

/-- Whether a word is SECRET. -/
def isSecret (w : Word) : Bool := decide (w.tag = .secret)

/-- Whether a read is one that read-out protection answers with a bus fault, the access table not consulted (R425). -/
def flashShut (s : State) (m : BitVec 10) (a : Nat) : Bool :=
  match region a with
  | .flash _ _ => !flashOpen s m
  | _ => false
/-- The words of a span cut into parts at 16-word granules and, in register space and its pail areas, into single words (R24, R30,
R35), as waddrs and lengths. -/
def granules (a n : Nat) : Nat → List (Nat × Nat)
  | 0 => []
  | fuel + 1 =>
    if n = 0 then []
    else
      let k := if region a = .register ∨ region a = .pailArea then 1 else min n (16 - a % 16)
      (a, k) :: granules (a + k) (n - k) fuel

/-! ### Pages of the flash window (R404 to R412) -/

/-- Grants of the flash bank arbiter, arbiter 138, to one requester: one per 512 bytes of link transfer, which has the next sequence
number (R404, R426). -/
def linkGrants (s : State) (req : Nat) : Nat → State
  | 0 => s
  | n + 1 =>
    let s := setArb s 138 0 (arbAfter (getArb s 138 0) 9 req [req])
    linkGrants { s with flash := { s.flash with linkSeq := s.flash.linkSeq + 1 } } req n
/-- The bank, the page in it and the word of a flash waddr (R406). -/
def flashPlace (a : Nat) : Nat × Nat × Nat :=
  let o := a - 0x20000000
  (o / 0x800000, o % 0x800000 / 0x800, o % 0x800)
/-- Change a bank. -/
def modBank (s : State) (b : Nat) (f : FlashBank → FlashBank) : State := setBank s b (f (getBank s b))
/-- A bus read or transfer read of a page in a buffer: the buffer becomes the most recent, and a read of its upper half starts
a read-ahead of the next page of the bank (R409). -/
def touchBuffer (s : State) (b p i : Nat) : State :=
  let s := modBank s b (fun k => { k with buffers := p :: k.buffers.filter (· != p) })
  let k := getBank s b
  if 0x400 ≤ i ∧ p + 1 < 4096 ∧ p + 1 ∉ k.buffers ∧ k.loads.any (fun l => l.page == p + 1) = false then
    setBank s b { k with loads := k.loads ++ [{ page := p + 1, waiters := [] }] }
  else s
/-- What a decode leaves: CORR_MAX, CORR_HIGH and the retry record (R410). -/
def noteDecode (s : State) (b page retries corrections : Nat) : State :=
  let s := setReg s (R.FLC_CORR_MAX b) (BitVec.ofNat 16 (max (getReg s (R.FLC_CORR_MAX b)).toNat corrections))
  let s := if getFld s R.FLC_CFG 5 0 ≤ corrections then eventBit s (R.FLC_EVENT b) 3 (584 + b) else s
  if retries = 0 then s
  else
    let s := countReg (eventBit s (R.FLC_EVENT b) 4 (584 + b)) (R.FLC_RETRY_COUNT b) 0xFFFF
    setReg s (R.FLC_RETRY_LAST b) (BitVec.ofNat 16 (retries * 0x1000 + page))
/-- A page goes into the buffer used least recently, decoded with some retries and corrections (R409, R410); an erased codeword is not
decoded (R408). -/
def bufferPage (s : State) (b page retries corrections : Nat) : State :=
  let s := modBank s b (fun k => { k with buffers := page :: (k.buffers.filter (· != page)).take 1 })
  noteDecode s b page retries (if pageBlank s b page then 0 else corrections)
/-- A page no threshold set decodes (R411): UNCORRECTABLE, its place, and what the codewords that did decode needed (R410). -/
def pageLost (s : State) (b page corrections : Nat) : State :=
  setReg (eventBit (noteDecode s b page 0 corrections) (R.FLC_EVENT b) 5 (584 + b)) (R.FLC_UNCORR_LAST b) (BitVec.ofNat 16 (0x8000 + page))
/-- A window read of a busy bank is counted (R412). -/
def busyRead (s : State) (b : Nat) : State := eventBit (countReg s (R.FLC_BUSY_READS b) 0xFFFF) R.FLC_COM_EVENT 0 592
/-- An engine or channel reads words of one page of the window (R405, R409 to R412), judged before: from a buffer, or after a page load
whose outcome, retries and corrections are free values (log entry 121). Whether they are there. -/
def pageNow (s : State) (m : BitVec 10) (acc : AccessType) (a : Nat) : Bool × State :=
  let (b, p, i) := flashPlace a
  let k := getBank s b
  if !s.flash.linkUp then (false, s)
  else if k.job.isSome then (false, busyRead s b)
  else if p ∈ k.buffers then (true, touchBuffer (linkGrants s 8 1) b p i)
  else
    let (r, s) := draw16 (linkGrants s 8 8)
    let corrections := r.toNat / 16 % 41
    if r.getLsbD 0 then (true, touchBuffer (bufferPage s b p (r.toNat / 2 % 8) corrections) b p i)
    else (false, fault (pageLost s b p corrections) 2 (584 + b) acc m (BitVec.ofNat 32 a))
/-- The pages of the window that a span of words touches, each by its first waddr there. -/
def windowPages (a n : Nat) : List Nat :=
  ((List.range n).filter (fun i => decide (i = 0 ∨ (a + i) % 0x800 = 0) && (match region (a + i) with
    | .flash _ _ => true
    | _ => false))).map (a + ·)
/-- Read the pages of a span: the first that does not answer. -/
def pagesNow (m : BitVec 10) (acc : AccessType) : State → List Nat → Option Nat × State
  | s, [] => (none, s)
  | s, a :: rest =>
    match pageNow s m acc a with
    | (true, s) => pagesNow m acc s rest
    | (false, s) => (some a, s)

/-- Whether a waddr is RAM that engines write. Engine results elsewhere are refused as ACCESS (log entry 16). -/
def isRam (s : State) (a : Nat) : Bool :=
  match region a with
  | .supervisor => true
  | .sram => true
  | .vat _ _ => !isHole s a false
  | .pailArea => true
  | _ => false
/-- The word an engine reads at a waddr: RAM, OTP, or the flash window where it answers (R407, R425). A register is no
operand of an engine: refused as ACCESS (log entry 16). -/
def busWord (s : State) (m : BitVec 10) (a : Nat) : Option Word :=
  match region a with
  | .otp o => some (dataWord (otpWord s o))
  | .flash b o => if flashReadable s m b then some (dataWord (pageWord s b (o / 2048) (o % 2048))) else none
  | _ => if isRam s a then some (ramWord s (physAddr s a)) else none
/-- An engine's access to a word that nothing answers (R27): a bus fault, or where registers stand a refusal (log entry 16). -/
def engineRefused (s : State) (acc : AccessType) (m : BitVec 10) (a : Nat) : State :=
  match region a with
  | .register => if isHole s a (decide (acc = .write)) then busFault s acc m a else refusal s .noRegion none acc m a
  | _ => busFault s acc m a
/-- How an engine's read ends: it waits where accesses wait, it is refused, or the words are there. -/
inductive OpRead where
  | waits
  | refused
  | words (ws : List Word)
  deriving DecidableEq, Repr
/-- Whether an engine's access to n words waits (R188, R214). -/
def spanWaits (s : State) (a n : Nat) : Bool := (granules a n (n + 1)).any (fun q => accessWaits s q.1)
/-- Words an engine reads for a cell as the cell's own access would be judged (R227): the words, or nothing and the record of the
first word refused (R374) or unanswered (R27). Read-out protection is asked before the table (R67, R425). -/
def opRead (s : State) (m : BitVec 10) (a n : Nat) : OpRead × State :=
  if spanWaits s a n then (.waits, s)
  else match (granules a n (n + 1)).find? (fun q => flashShut s m q.1) with
  | some q => (.refused, busFault s .read m q.1)
  | none =>
    match checkRange s m a n .read false with
    | some (x, r, e) => (.refused, refusal s r e .read m x)
    | none =>
      match (List.range n).find? (fun i => (busWord s m (a + i)).isNone) with
      | some i =>
        let s := match region (a + i) with
          | .flash b _ => if s.flash.linkUp then busyRead s b else s
          | _ => s
        (.refused, engineRefused s .read m (a + i))
      | none =>
        match pagesNow m .read s (windowPages a n) with
        | (some x, s) => (.refused, busFault s .read m x)
        | (none, s) => (.words ((List.range n).map (fun i => (busWord s m (a + i)).getD zeroWord)), s)
/-- Whether the destination refuses a word of an engine's result by its tag: a pail area takes DATA only (R81), and a CODE word of RAM
is not overwritten (R303 check 6). -/
def engineTagged (s : State) (a : Nat) (w : Word) : Bool :=
  match region a with
  | .pailArea => decide (w.tag ≠ .data)
  | _ => decide ((readMem s (physAddr s a)).tag = .code)
/-- How an engine's write ends: it waits where accesses wait, a part is refused or refused by a tag rule, or all is written. -/
inductive OpWrite where
  | waits
  | refused
  | tagged
  | done
  deriving DecidableEq, Repr
/-- One part of an engine's result: written whole or not at all, a refusal recorded (R227, R252, R303 checks 5 and 6, R368). -/
def opWritePart (s : State) (m : BitVec 10) (a : Nat) (ws : List Word) : OpWrite × State :=
  match checkRange s m a ws.length .write false with
  | some (x, r, e) => (.refused, refusal s r e .write m x)
  | none =>
    match (List.range ws.length).find? (fun i => !isRam s (a + i)) with
    | some i => (.refused, engineRefused s .write m (a + i))
    | none =>
      match secretRefused s m a ws with
      | some (x, r, e) => (.tagged, fault (noteRefusal s r e) 1 578 .tag m (BitVec.ofNat 32 x))
      | none =>
        match (List.range ws.length).find? (fun i => engineTagged s (a + i) (ws.getD i zeroWord)) with
        | some i => (.tagged, fault s 1 578 .tag m (BitVec.ofNat 32 (a + i)))
        | none => (.done, writeMems s (physAddr s a) ws)
/-- The parts of an engine's result in ascending order; it stops at the first that is refused (R252). -/
def opWriteParts (s : State) (m : BitVec 10) (a : Nat) (ws : List Word) : List (Nat × Nat) → OpWrite × State
  | [] => (.done, s)
  | (x, k) :: rest =>
    match opWritePart s m x ((ws.drop (x - a)).take k) with
    | (.done, s) => opWriteParts s m a ws rest
    | r => r
/-- Words an engine writes for a cell, part by part in ascending order (R227); nothing is begun while a part waits. -/
def opWrite (s : State) (m : BitVec 10) (a : Nat) (ws : List Word) : OpWrite × State :=
  if spanWaits s a ws.length then (.waits, s) else opWriteParts s m a ws (granules a ws.length (ws.length + 1))
/-- Write one word for a cell if that is allowed, and otherwise leave it. -/
def opPut (s : State) (m : BitVec 10) (a : Nat) (w : Word) : State := (opWrite s m a [w]).2
/-- A job ends with a STATUS: the descriptor's DETAIL and STATUS are written if they can be, the cell's CWAIT sees it, a
waiting CWAIT.W completes, CDONE is latched if it is enabled (R321, R338), the context is scrubbed (R223), and the reservation of a
CURVE_SET ends (R237). -/
def churnEnd (s : State) (p k descr status detail : Nat) (writeDesc : Bool) : State :=
  let key := p * 16 + k
  let m := masterOfKey s key
  let s := if writeDesc then opPut (opPut s m (descr + 17) (dataNat detail)) m (descr + 16) (dataNat status) else s
  let s := modCell s key (fun c => { c with churnStatus := BitVec.ofNat 16 status, pendC := c.pendC || c.cdoneEn })
  let s := if (getCell s key).wait = .cwaitW then
      match fetch s key with
      | .fault _ _ => s
      | .word w => modCell s key (fun c =>
          advance (setFlags (setG { c with wait := .none } (pf w 20) (dataNat status)) (jobFlags (decide (status = 0)))))
    else s
  let s := modVat s p (fun v => if v.churn.busy ∧ v.churn.holder = k then { v with wants := v.wants.erase 2 } else v)
  modChurn s p (fun c => { c with
    reserved := match tget (fun _ => none) c.jobs k with
      | some job => if job.op = 0x31 then c.reserved &&& ~~~(1 <<< job.curve : BitVec 16) else c.reserved
      | none => c.reserved,
    jobs := tset (fun _ => none) c.jobs k none })

/-- Abandon a job (R249): context scrubbed, ABANDONED in CHN_EVENT and STATUS. -/
def churnAbandon (s : State) (p k : Nat) : State :=
  match tget (fun _ => none) (getVat s p).churn.jobs k with
  | none => s
  | some job =>
    eventVat (churnEnd s p k job.descr.toNat 14 0 true) (R.CHN_EVENT p) 1 p 6
/-- The contexts whose jobs want the multiplier. -/
def churnWaiting (s : State) (p : Nat) : List Nat := those 16 (fun k => (tget (fun _ => none) (getVat s p).churn.jobs k).isSome)
/-- The arbiter grants a waiting context, if there is one (R247); CHN_SWITCHES counts a change of context. STALL stops further
grants (R501). -/
def churnGrant (s : State) (p : Nat) : State :=
  match (if s.tmp.stall then [] else churnWaiting s p) with
  | [] => modChurn s p (fun c => { c with busy := false })
  | reqs =>
    match arbGrant s (3 * logicalOf s p + 1) reqs with
    | (none, s) => modChurn s p (fun c => { c with busy := false })
    | (some w, s) =>
      let s := if w ≠ (getVat s p).churn.holder then countReg s (R.CHN_SWITCHES p) 0xFFFF else s
      modChurn s p (fun c => { c with busy := true, holder := w })
/-- Cancel a job: at once if it waits, at its next yield point if it holds the multiplier, and not at all once its results are being
written (R249). Whether there was one. -/
def churnCancel (s : State) (p k : Nat) : Bool × State :=
  let c := (getVat s p).churn
  match tget (fun _ => none) c.jobs k with
  | none => (false, s)
  | some job =>
    if job.results.isSome then (true, s)
    else if c.busy ∧ c.holder = k then
      (true, modChurn s p (fun c => { c with jobs := tset (fun _ => none) c.jobs k (some { job with cancel := true }) }))
    else (true, churnAbandon s p k)

/-- A MAC job ends with a STATUS: DETAIL and STATUS are written if they can be, MWAIT sees it, a waiting MWAIT.W completes,
MDONE is latched if it is enabled (R266, R321, R338). -/
def macEnd (s : State) (p k descr status detail : Nat) (writeDesc : Bool) : State :=
  let key := p * 16 + k
  let m := masterOfKey s key
  let s := if writeDesc then opPut (opPut s m (descr + 19) (dataNat detail)) m (descr + 18) (dataNat status) else s
  let s := modCell s key (fun c => { c with macStatus := BitVec.ofNat 16 status, pendM := c.pendM || c.mdoneEn })
  let s := if (getCell s key).wait = .mwaitW then
      match fetch s key with
      | .fault _ _ => s
      | .word w => modCell s key (fun c =>
          advance (setFlags (setG { c with wait := .none } (pf w 20) (dataNat status)) (jobFlags (decide (status = 0)))))
    else s
  modMac (modVat s p (fun v => if v.mac.busy ∧ v.mac.holder = k then { v with wants := v.wants.erase 1 } else v)) p (fun u => { u with jobs := tset (fun _ => none) u.jobs k none })

/-- Abandon a MAC job (R276): nothing but STATUS is written, ABANDONED is set. -/
def macAbandon (s : State) (p k : Nat) : State :=
  match tget (fun _ => none) (getVat s p).mac.jobs k with
  | none => s
  | some job => eventVat (macEnd s p k job.descr.toNat 14 0 true) (R.MAC_EVENT p) 0 p 7
/-- Cancel a MAC job: at once if it waits, at the unit's next grant point if it holds the datapath, and not at all once its results
are being written (R249, R276). Whether there was one. -/
def macCancel (s : State) (p k : Nat) : Bool × State :=
  let u := (getVat s p).mac
  match tget (fun _ => none) u.jobs k with
  | none => (false, s)
  | some job =>
    if job.results.isSome then (true, s)
    else if u.busy ∧ u.holder = k then
      (true, modMac s p (fun u => { u with jobs := tset (fun _ => none) u.jobs k (some { job with cancel := true }) }))
    else (true, macAbandon s p k)

/-! ### Faults and halts -/

/-- The fault-collector access type of a fault (R306); CAP, ACCESS and BUS take the access's own. -/
def faultAccess (c : Cause) (acc : AccessType) : AccessType :=
  match c with
  | .illegal => .fetch
  | .fetch => .fetch
  | .tag => .tag
  | _ => acc

/-- A core halts (R350, R353): it stops, a record of class SERVICE is made, and for a cell VAT_CELL_HALTED and the
CELL_HALT event follow, for the supervisor a bite of the supervisor watchdog with a record of its own (R385). The churn and MAC jobs of a halted cell are
abandoned as R249 states: a waiting job at once, one that holds the churn at its next yield point or the MAC unit at its next grant
point; R219's words that the grant ends at the halt are read with R249 and R252 (DEDUCED, log entry 117). -/
def haltCore (s : State) (k : Nat) (acc : AccessType) (addr : BitVec 32) : State :=
  let s := fault s 3 577 acc (masterOfKey s k) addr
  let s := modCell s k (fun c => { c with halted := true, wait := .none })
  if isSup k then raise (fault (setBit s R.MSH_SWDOG_STATUS 1 true) 3 582 .none 512 0) 582
  else
    let p := k / 16
    let s := raiseVat (setBit s (R.VAT_CELL_HALTED p) (k % 16) true) p 1
    let s := (churnCancel s p (k % 16)).2
    let s := (macCancel s p (k % 16)).2
    modVat s p (fun v => { v with waiters := v.waiters.filter (fun x => x != k % 16) })

/-- A synchronous fault of the instruction at pc: while MASK is 1 a double fault (R350), its record bearing the faulting waddr or, where
the fault has none, the pc; else it is pending until
EXCEPTION_ENTRY takes it. The fault collector records it (R306). -/
def syncFault (s : State) (k : Nat) (f : SyncFault) (acc : AccessType) : State :=
  let c := getCell s k
  let acc := faultAccess f.cause acc
  if c.mask then
    haltCore s k acc (f.waddr.getD ((getPc c).setWidth 32))
  else
    modCell (fault s 1 577 acc (masterOfKey s k) f.addr) k (fun c => { c with pend := some f, wait := .none })

/-- Carry out an instruction whose opcode is `op` at a core: nothing happens unless the core stands before such an
instruction; an encoding outside its format is ILLEGAL (R302). `body` gets the core's state and P. -/
def cellInstr (s : State) (core : Core) (op : BitVec 32 → Bool) (legal : BitVec 32 → Bool)
    (body : State → Nat → Cell → BitVec 32 → State) : State :=
  let k := coreKey s core
  if coreReady s k then
    match fetch s k with
    | .fault _ _ => s
    | .word p =>
      if op p then
        if legal p then body s k (getCell s k) p else syncFault s k ⟨.illegal, none⟩ .fetch
      else s
  else s

/-! ### Reaching memory (R303, R304) -/

/-- The capability a base selector names: a c register, DS, or for the supervisor SYS (R304, R352). -/
def baseCap (s : State) (k : Nat) (c : Cell) (sel : Nat) : Cap :=
  if sel < 8 then capOf (getC c sel)
  else if sel = 8 then
    if isSup k then ⟨true, 0, 2 ^ 20, 15⟩
    else ⟨true, dstoreBase (logicalOf s (k / 16)) (k % 16), 8192, 15⟩
  else ⟨true, 0, 2 ^ 32, 15⟩
/-- Whether a base selector is legal: 0-8, and 9 in the supervisor (R302, R352). -/
def baseLegal (k sel : Nat) : Bool := decide (sel ≤ 8) || (isSup k && decide (sel = 9))

/-- Checks 2 to 4 of R303: the waddr, or the fault with its address (R340). -/
def capCheck (cap : Cap) (off n need : Nat) : Except SyncFault Nat :=
  let a := BitVec.ofNat 32 (cap.base + off)
  if !cap.valid then .error ⟨.cap, none⟩
  else if cap.len ≤ off + n - 1 then .error ⟨.cap, some a⟩
  else if !hasPerms cap.perms need then .error ⟨.cap, some a⟩
  else .ok (cap.base + off)

/-- Whether a waddr is reached by a core without the mesh: a cell's own vat's shared memory and its own stores, the
supervisor's local memory (R17, R312). -/
def isLocal (s : State) (k a : Nat) : Bool :=
  match region a with
  | .vat n off => !isSup k && decide (phys s n = k / 16)
      && (decide (0xC0000 ≤ off) || decide (off / 0x2000 % 16 = k % 16))
  | .supervisor => isSup k
  | _ => false

/-- Register space, the pail areas in it with it (R24, R80), is reached one word at a time (R35): a part there is cut into single
words. -/
def registerParts (a : Nat) (q : Nat × Nat) : List (Nat × Nat) :=
  if region (a + q.1) = .register ∨ region (a + q.1) = .pailArea then (List.range q.2).map (fun i => (q.1 + i, 1)) else [q]
/-- Split an access of at most 16 words at 16-word granules (R30): start offset and length of each part. -/
def splitParts (a n : Nat) : List (Nat × Nat) :=
  let first := min n (16 - a % 16)
  (if first < n then [(0, first), (first, n - first)] else [(0, n)]).flatMap (registerParts a)

/-- The waddr that now names what a waddr named when it was decoded to a position (R188). -/
def waddrNow (s : State) (a : Nat) (pos : Option Nat) : Nat :=
  match pos, vatOf a with
  | some p, some n =>
    let m := logicalOf s p
    if region a = .register then a - n * 0x1000 + m * 0x1000 else a - n * 0x100000 + m * 0x100000
  | _, _ => a

/-- Egress checks of one part (check 5 of R303): the fault, if the access table refuses a word or an address is a
hole, with what to record. -/
def egress (s : State) (m : BitVec 10) (a n : Nat) (write : Bool) (secretStore : Bool) :
    Option (SyncFault × Option (Refuse × Option Nat)) :=
  if !write && flashShut s m a then some (⟨.bus, some (BitVec.ofNat 32 a)⟩, none)
  else match checkRange s m a n (if write then .write else .read) secretStore with
  | some (x, r, e) => some (⟨if r = .secret then .tag else .access, some (BitVec.ofNat 32 x)⟩, some (r, e))
  | none =>
    match (List.range n).find? (fun i => isHole s (a + i) write) with
    | some i => some (⟨.bus, some (BitVec.ofNat 32 (a + i))⟩, none)
    | none => none

/-- Note an egress refusal in ACT_LAST and ACT_VIOL_COUNT, if it is one. -/
def noteEgress (s : State) (n : Option (Refuse × Option Nat)) : State :=
  match n with
  | some (r, e) => noteRefusal s r e
  | none => s

end Sys2Proof.Machine
end

