-- ==== Sys2Proof/Machine/Alu.lean ====
section
/-!
DEFINITION. Arithmetic, logic and comparison instructions (R308, R309), NOP, MOV, MOVI, CSEL.
-/
namespace Sys2Proof.Machine

/-- A result word: SECRET if any value read was (R308). -/
def resultWord (secret : Bool) (v : BitVec 16) : Word := ⟨if secret then .secret else .data, v⟩

/-- RRR instructions that write all flags: d = f a b, with the carry read where `rdC` says so (R302, R308). -/
def aluRRR (s : State) (core : Core) (op : Nat) (rdC : Bool) (f : BitVec 16 → BitVec 16 → Bool → AluOut) : State :=
  cellInstr s core (fun p => decide (pOp p = op)) (fun p => decide (p.toNat % 4096 = 0)) fun s k c p =>
    let a := getG c (pf p 16)
    let b := getG c (pf p 12)
    let sec := isSecret a || isSecret b || (rdC && (getFlags c).ft)
    let r := f a.val b.val (getFlags c).c
    setCell s k (advance (setFlags (setG c (pf p 20) (resultWord sec r.val)) (flagsOf r sec)))

/-- RRI instructions that write all flags: d = f a imm16 (R308). `lim` is the ILLEGAL limit of the immediate. -/
def aluRRI (s : State) (core : Core) (op lim : Nat) (f : BitVec 16 → BitVec 16 → AluOut) : State :=
  cellInstr s core (fun p => decide (pOp p = op)) (fun p => decide ((pImm p).toNat < lim)) fun s k c p =>
    let a := getG c (pf p 16)
    let r := f a.val (pImm p)
    setCell s k (advance (setFlags (setG c (pf p 20) (resultWord (isSecret a) r.val)) (flagsOf r (isSecret a))))

/-- Comparisons: flags of f a b; a SECRET operand is a TAG fault (R309). -/
def compare (s : State) (core : Core) (op : Nat) (imm : Bool) (f : BitVec 16 → BitVec 16 → AluOut) : State :=
  cellInstr s core (fun p => decide (pOp p = op))
    (fun p => decide (pf p 20 = 0) && (imm || decide (p.toNat % 4096 = 0))) fun s k c p =>
    let a := getG c (pf p 16)
    let b := if imm then dataWord (pImm p) else getG c (pf p 12)
    if isSecret a || isSecret b then syncFault s k ⟨.tag, none⟩ .tag
    else setCell s k (advance (setFlags c (flagsOf (f a.val b.val) false)))

/-- ADD (R308). -/
def execAdd (core : Core) (s : State) : Host.Outcome State Fault Refusal :=
  .next (aluRRR s core 0x10 false (fun a b _ => aluAdd a b false))

/-- ADC (R308). -/
def execAdc (core : Core) (s : State) : Host.Outcome State Fault Refusal :=
  .next (aluRRR s core 0x11 true (aluAdd))

/-- SUB (R308). -/
def execSub (core : Core) (s : State) : Host.Outcome State Fault Refusal :=
  .next (aluRRR s core 0x12 false (fun a b _ => aluSub a b false))

/-- SBC (R308). -/
def execSbc (core : Core) (s : State) : Host.Outcome State Fault Refusal :=
  .next (aluRRR s core 0x13 true (fun a b c => aluSub a b (!c)))

/-- AND (R308). -/
def execAnd (core : Core) (s : State) : Host.Outcome State Fault Refusal :=
  .next (aluRRR s core 0x14 false (fun a b _ => aluLogic (a &&& b)))

/-- OR (R308). -/
def execOr (core : Core) (s : State) : Host.Outcome State Fault Refusal :=
  .next (aluRRR s core 0x15 false (fun a b _ => aluLogic (a ||| b)))

/-- XOR (R308). -/
def execXor (core : Core) (s : State) : Host.Outcome State Fault Refusal :=
  .next (aluRRR s core 0x16 false (fun a b _ => aluLogic (a ^^^ b)))

/-- ANDN (R308). -/
def execAndn (core : Core) (s : State) : Host.Outcome State Fault Refusal :=
  .next (aluRRR s core 0x17 false (fun a b _ => aluLogic (a &&& ~~~b)))

/-- SHL (R308). -/
def execShl (core : Core) (s : State) : Host.Outcome State Fault Refusal :=
  .next (aluRRR s core 0x18 false (fun a b _ => aluShl a (b.toNat % 32)))

/-- SHR (R308). -/
def execShr (core : Core) (s : State) : Host.Outcome State Fault Refusal :=
  .next (aluRRR s core 0x19 false (fun a b _ => aluShr a (b.toNat % 32)))

/-- SAR (R308). -/
def execSar (core : Core) (s : State) : Host.Outcome State Fault Refusal :=
  .next (aluRRR s core 0x1A false (fun a b _ => aluSar a (b.toNat % 32)))

/-- ROL (R308). -/
def execRol (core : Core) (s : State) : Host.Outcome State Fault Refusal :=
  .next (aluRRR s core 0x1B false (fun a b _ => aluRol a (b.toNat % 16)))

/-- MUL (R308). -/
def execMul (core : Core) (s : State) : Host.Outcome State Fault Refusal :=
  .next (aluRRR s core 0x1C false (fun a b _ => aluMul a b))

/-- MULH (R308). -/
def execMulh (core : Core) (s : State) : Host.Outcome State Fault Refusal :=
  .next (aluRRR s core 0x1D false (fun a b _ => aluMulh a b))

/-- ADDI (R308). -/
def execAddi (core : Core) (s : State) : Host.Outcome State Fault Refusal :=
  .next (aluRRI s core 0x20 65536 (fun a b => aluAdd a b false))

/-- ANDI (R308). -/
def execAndi (core : Core) (s : State) : Host.Outcome State Fault Refusal :=
  .next (aluRRI s core 0x24 65536 (fun a b => aluLogic (a &&& b)))

/-- ORI (R308). -/
def execOri (core : Core) (s : State) : Host.Outcome State Fault Refusal :=
  .next (aluRRI s core 0x25 65536 (fun a b => aluLogic (a ||| b)))

/-- XORI (R308). -/
def execXori (core : Core) (s : State) : Host.Outcome State Fault Refusal :=
  .next (aluRRI s core 0x26 65536 (fun a b => aluLogic (a ^^^ b)))

/-- SHLI (R308). -/
def execShli (core : Core) (s : State) : Host.Outcome State Fault Refusal :=
  .next (aluRRI s core 0x28 32 (fun a b => aluShl a b.toNat))

/-- SHRI (R308). -/
def execShri (core : Core) (s : State) : Host.Outcome State Fault Refusal :=
  .next (aluRRI s core 0x29 32 (fun a b => aluShr a b.toNat))

/-- SARI (R308). -/
def execSari (core : Core) (s : State) : Host.Outcome State Fault Refusal :=
  .next (aluRRI s core 0x2A 32 (fun a b => aluSar a b.toNat))

/-- ROLI (R308). -/
def execRoli (core : Core) (s : State) : Host.Outcome State Fault Refusal :=
  .next (aluRRI s core 0x2B 16 (fun a b => aluRol a b.toNat))

/-- CMP (R309). -/
def execCmp (core : Core) (s : State) : Host.Outcome State Fault Refusal :=
  .next (compare s core 0x30 false (fun a b => aluSub a b false))

/-- TST (R309). -/
def execTst (core : Core) (s : State) : Host.Outcome State Fault Refusal :=
  .next (compare s core 0x31 false (fun a b => aluLogic (a &&& b)))

/-- CMPI (R309). -/
def execCmpi (core : Core) (s : State) : Host.Outcome State Fault Refusal :=
  .next (compare s core 0x32 true (fun a b => aluSub a b false))

/-- TSTI (R309). -/
def execTsti (core : Core) (s : State) : Host.Outcome State Fault Refusal :=
  .next (compare s core 0x33 true (fun a b => aluLogic (a &&& b)))

/-- CSEL: d = a if cond holds, else b; cond 14 gives a and reads no flags (R308). cond 15 is ILLEGAL (R310). -/
def execCsel (core : Core) (s : State) : Host.Outcome State Fault Refusal :=
  .next (cellInstr s core (fun p => decide (pOp p = 0x1E)) (fun p => decide (p.toNat % 256 = 0) && decide (pf p 8 ≠ 15))
    fun s k c p =>
      let a := getG c (pf p 16)
      let b := getG c (pf p 12)
      let sec := isSecret a || isSecret b || (decide (pf p 8 ≠ 14) && (getFlags c).ft)
      let v := if condHolds (getFlags c) (pf p 8) then a.val else b.val
      setCell s k (advance (setG c (pf p 20) (resultWord sec v))))

/-- MOV: d = a, payload and tag (R308). -/
def execMov (core : Core) (s : State) : Host.Outcome State Fault Refusal :=
  .next (cellInstr s core (fun p => decide (pOp p = 0x1F)) (fun p => decide (p.toNat % 65536 = 0)) fun s k c p =>
    setCell s k (advance (setG c (pf p 20) (getG c (pf p 16)))))

/-- MOVI: d = imm16, DATA (R308). -/
def execMovi (core : Core) (s : State) : Host.Outcome State Fault Refusal :=
  .next (cellInstr s core (fun p => decide (pOp p = 0x2F)) (fun p => decide (pf p 16 = 0)) fun s k c p =>
    setCell s k (advance (setG c (pf p 20) (dataWord (pImm p)))))

/-- NOP (R322). -/
def execNop (core : Core) (s : State) : Host.Outcome State Fault Refusal :=
  .next (cellInstr s core (fun p => decide (pOp p = 0)) (fun p => decide (p.toNat % 2 ^ 24 = 0)) fun s k c _ =>
    setCell s k (advance c))

end Sys2Proof.Machine
end

