-- ==== Sys2Proof/Machine/Crypto.lean ====
section
/-!
DEFINITION. The named algorithms of the spec as functions on bytes and numbers: SHA-256, HMAC, AES, TDES, CMAC, ISO/IEC
9797-1 algorithms 1 and 3, the SP 800-108 KDF, AES key wrap, the CRCs, RSA and elliptic curves. The spec names the
standards and gives no tables; the constants are the standards'. PRESUMED, log entry 11.
-/
namespace Sys2Proof.Machine

/-! ### SHA-256 and HMAC (FIPS 180-4, FIPS 198-1) -/

/-- The k 32-bit words that a number spells, most significant first. -/
def spell32 (k n : Nat) : List (BitVec 32) := (List.range k).map (fun i => BitVec.ofNat 32 (n >>> (32 * (k - 1 - i))))
/-- The constants of the 64 rounds, eight to a row: the first 32 fraction bits of the cube roots of the first 64 primes. -/
def roundConstants : List (BitVec 32) :=
  [0x428a2f9871374491b5c0fbcfe9b5dba53956c25b59f111f1923f82a4ab1c5ed5,
   0xd807aa9812835b01243185be550c7dc372be5d7480deb1fe9bdc06a7c19bf174,
   0xe49b69c1efbe47860fc19dc6240ca1cc2de92c6f4a7484aa5cb0a9dc76f988da,
   0x983e5152a831c66db00327c8bf597fc7c6e00bf3d5a7914706ca635114292967,
   0x27b70a852e1b21384d2c6dfc53380d13650a7354766a0abb81c2c92e92722c85,
   0xa2bfe8a1a81a664bc24b8b70c76c51a3d192e819d6990624f40e3585106aa070,
   0x19a4c1161e376c082748774c34b0bcb5391c0cb34ed8aa4a5b9cca4f682e6ff3,
   0x748f82ee78a5636f84c878148cc7020890befffaa4506cebbef9a3f7c67178f2].flatMap (spell32 8)
/-- The hash value before the first block: the first 32 fraction bits of the square roots of the first 8 primes. -/
def hashStart : List (BitVec 32) := spell32 8 0x6a09e667bb67ae853c6ef372a54ff53a510e527f9b05688c1f83d9ab5be0cd19
/-- Exclusive-OR of a word turned right by each of some amounts. -/
def turns (x : BitVec 32) (by_ : List Nat) : BitVec 32 := by_.foldl (fun y n => y ^^^ x.rotateRight n) 0
/-- What the rounds of a block carry: the last four words of each of the two sequences a round extends (FIPS 180-4's a to d and
e to h), latest first, and the next 16 words of the message schedule. -/
structure HashRun where
  upper : List (BitVec 32)
  lower : List (BitVec 32)
  window : List (BitVec 32)
/-- The window moves on by one word of the schedule. -/
def HashRun.slide (w : List (BitVec 32)) : List (BitVec 32) :=
  let low := fun (x : BitVec 32) => turns x [7, 18] ^^^ (x >>> 3)
  let high := fun (x : BitVec 32) => turns x [17, 19] ^^^ (x >>> 10)
  w.drop 1 ++ [w.getD 0 0 + low (w.getD 1 0) + w.getD 9 0 + high (w.getD 14 0)]
/-- One round: both sequences get a word. -/
def HashRun.round (r : HashRun) (k : BitVec 32) : HashRun :=
  let u := fun i => r.upper.getD i 0
  let l := fun i => r.lower.getD i 0
  let chosen := l 2 ^^^ (l 0 &&& (l 1 ^^^ l 2))
  let common := (u 0 &&& u 1) ||| (u 2 &&& (u 0 ||| u 1))
  let fed := k + r.window.getD 0 0 + l 3 + chosen + turns (l 0) [6, 11, 25]
  { upper := (fed + common + turns (u 0) [2, 13, 22]) :: r.upper.take 3,
    lower := (u 3 + fed) :: r.lower.take 3, window := HashRun.slide r.window }
/-- Cut a list into pieces of n, at most `fuel` of them. -/
def chunks {α : Type} (n : Nat) : Nat → List α → List (List α)
  | 0, _ => []
  | _ + 1, [] => []
  | fuel + 1, l => l.take n :: chunks n fuel (l.drop n)
/-- Cut a list into pieces of n. -/
def cut {α : Type} (n : Nat) (l : List α) : List (List α) := chunks n (l.length + 1) l
/-- A 32-bit word of four bytes, most significant first. -/
def be32 (bs : Bytes) : BitVec 32 := BitVec.ofNat 32 (beNat bs)
/-- A 64-byte block taken into the hash value. -/
def hashBlock (h : List (BitVec 32)) (block : Bytes) : List (BitVec 32) :=
  let r := roundConstants.foldl HashRun.round { upper := h.take 4, lower := h.drop 4, window := (cut 4 block).map be32 }
  List.zipWith (· + ·) h (r.upper ++ r.lower)
/-- The bytes that follow a message of n bytes: a 1 bit, zeros up to 8 bytes short of a whole block, the length in bits. -/
def hashTail (n : Nat) : Bytes := [(0x80 : Byte)] ++ zeros ((119 - n % 64) % 64) ++ beBytes 8 (8 * n)
/-- SHA-256. -/
def sha256 (m : Bytes) : Bytes :=
  ((cut 64 (m ++ hashTail m.length)).foldl hashBlock hashStart).flatMap (fun x => beBytes 4 x.toNat)
/-- HMAC-SHA-256. -/
def hmac (key m : Bytes) : Bytes :=
  let k := slice (if 64 < key.length then sha256 key else key) 0 64
  sha256 (k.map (· ^^^ 0x5c) ++ sha256 (k.map (· ^^^ 0x36) ++ m))

/-! ### AES (FIPS 197) -/

/-- Multiply by x in GF(2^8). -/
def xtime (b : Byte) : Byte := (b <<< 1) ^^^ (if b.getLsbD 7 then 0x1b else 0)
/-- Multiply in GF(2^8) by a constant below 16. -/
def gmul (k b : Byte) : Byte :=
  ((List.range 4).foldl (fun st i => (if k.getLsbD i then st.1 ^^^ st.2 else st.1, xtime st.2)) ((0 : Byte), b)).1
/-- Byte i of a table held in rows of 32 bytes, the first byte of a row in its least significant place. -/
def tableByte (rows : List Nat) (i : Nat) : Byte := BitVec.ofNat 8 (rows.getD (i / 32) 0 / 256 ^ (i % 32))
/-- The S-box, as FIPS 197 tables it. -/
def sbox (a : Byte) : Byte :=
  tableByte [
    0xc072a49cafa2d4adf04759fa7dc982ca76abd7fe2b670130c56f6bf27b777c63,
    0x75b227ebe28012079a059618c323c7041531d871f1e5a534ccf73f362693fdb7,
    0xcf584c4a39becb6a5bb1fc20ed00d153842fe329b3d63b52a05a6e1b1a2c8309,
    0xd2f3ff1021dab6bcf5389d928f40a351a89f3c507f02f94585334d43fbaaefd0,
    0xdb0b5ede14b8ee4688902a22dc4f816073195d643d7ea7c41744975fec130ccd,
    0x08ae7a65eaf4566ca94ed58d6d37c8e779e4959162acd3c25c2406490a3a32e0,
    0x9e1dc186b95735610ef6034866b53e708a8bbd4b1f74dde8c6b4a61c2e2578ba,
    0x16bb54b00f2d99416842e6bf0d89a18cdf2855cee9871e9b948ed9691198f8e1] a.toNat
/-- The inverse S-box. -/
def invSbox (a : Byte) : Byte :=
  tableByte [
    0xcbe9dec444438e3487ff2f9b8239e37cfbd7f3819ea340bf38a53630d56a0952,
    0x25d18b6d49a25b76b224d92866a12e084ec3fa420b954cee3d23c2a632947b54,
    0x849d8da75746155edab9edfd5048706c92b6655dcc5ca4d41698688664f6f872,
    0x6b8a130103bdafc1020f3fca8f1e2cd00645b3b80558e4f70ad3bc8c00abd890,
    0x6edf751ce837f9e28535ade72274ac9673e6b4f0cecff297eadc674f4111913a,
    0xf45acd78fec0db9a2079d2c64b3e56fc1bbe18aa0e62b76f89c5291d711af147,
    0xef9cc9939f7ae52d0d4ab519a97f51605fec8027591012b131c7078833a8dd1f,
    0x7d0c2155631469e126d677ba7e042b17619953833cbbebc8b0f52aae4d3be0a0] a.toNat
/-- Exclusive-OR of byte strings. -/
def xorB (a b : Bytes) : Bytes := List.zipWith (· ^^^ ·) a b
/-- One more word of the key schedule; `w` has the latest word first, `i` is its number. -/
def aesExpand (nk : Nat) : Nat → Nat → List Bytes → List Bytes
  | 0, _, w => w
  | n + 1, i, w =>
    let t := w.getD 0 []
    let t1 := if i % nk = 0 then
        xorB ((t.drop 1 ++ t.take 1).map sbox) [(List.range (i / nk - 1)).foldl (fun b _ => xtime b) 1, 0, 0, 0]
      else if 6 < nk ∧ i % nk = 4 then t.map sbox else t
    aesExpand nk n (i + 1) (xorB (w.getD (nk - 1) []) t1 :: w)
/-- The round keys. -/
def aesKeys (key : Bytes) : List Bytes :=
  let nk := key.length / 4
  let w := (aesExpand nk (4 * (nk + 7) - nk) nk (cut 4 key).reverse).reverse
  (cut 4 w).map (fun q => q.flatten)
/-- ShiftRows, by a shift of row r by r columns one way or the other. -/
def shiftRows (inv : Bool) (st : Bytes) : Bytes :=
  (List.range 16).map (fun i => st.getD ((if inv then i + 16 * 4 - 4 * (i % 4) else i + 4 * (i % 4)) % 16) 0)
/-- MixColumns with the given first row. -/
def mixColumns (m : List Byte) (st : Bytes) : Bytes :=
  (List.range 16).map (fun i => (List.range 4).foldl (fun acc j =>
    acc ^^^ gmul (m.getD ((j + 4 - i % 4) % 4) 0) (st.getD (i / 4 * 4 + j) 0)) 0)
/-- AES encryption of one block. -/
def aesEnc (key block : Bytes) : Bytes :=
  match aesKeys key with
  | [] => block
  | k0 :: ks =>
    let mid := ks.dropLast.foldl (fun st k => xorB (mixColumns [2, 3, 1, 1] (shiftRows false (st.map sbox))) k) (xorB block k0)
    xorB (shiftRows false (mid.map sbox)) (ks.getLastD [])
/-- AES decryption of one block. -/
def aesDec (key block : Bytes) : Bytes :=
  match aesKeys key with
  | [] => block
  | k0 :: ks =>
    let st := (shiftRows true (xorB block (ks.getLastD []))).map invSbox
    let mid := ks.dropLast.reverse.foldl (fun st k => (shiftRows true (mixColumns [14, 11, 13, 9] (xorB st k))).map invSbox) st
    xorB mid k0

/-! ### TDES (SP 800-67) -/

/-- Bits of bytes, most significant first. -/
def bitsOf (bs : Bytes) : List Bool := bs.flatMap (fun b => (List.range 8).map (fun i => b.getLsbD (7 - i)))
/-- Bytes of bits, most significant first. -/
def bytesOf (l : List Bool) : Bytes := (cut 8 l).map (fun q => BitVec.ofNat 8 (q.foldl (fun n b => 2 * n + b2n b) 0))
/-- Choose bits by a table of 1-based positions. -/
def permute (t : List Nat) (l : List Bool) : List Bool := t.map (fun i => l.getD (i - 1) false)
/-- DES initial permutation. -/
def desIP : List Nat :=
  [58, 50, 42, 34, 26, 18, 10, 2, 60, 52, 44, 36, 28, 20, 12, 4, 62, 54, 46, 38, 30, 22, 14, 6, 64, 56, 48, 40, 32, 24, 16, 8,
   57, 49, 41, 33, 25, 17, 9, 1, 59, 51, 43, 35, 27, 19, 11, 3, 61, 53, 45, 37, 29, 21, 13, 5, 63, 55, 47, 39, 31, 23, 15, 7]
/-- DES final permutation. -/
def desFP : List Nat :=
  [40, 8, 48, 16, 56, 24, 64, 32, 39, 7, 47, 15, 55, 23, 63, 31, 38, 6, 46, 14, 54, 22, 62, 30, 37, 5, 45, 13, 53, 21, 61, 29,
   36, 4, 44, 12, 52, 20, 60, 28, 35, 3, 43, 11, 51, 19, 59, 27, 34, 2, 42, 10, 50, 18, 58, 26, 33, 1, 41, 9, 49, 17, 57, 25]
/-- DES expansion. -/
def desE : List Nat :=
  [32, 1, 2, 3, 4, 5, 4, 5, 6, 7, 8, 9, 8, 9, 10, 11, 12, 13, 12, 13, 14, 15, 16, 17,
   16, 17, 18, 19, 20, 21, 20, 21, 22, 23, 24, 25, 24, 25, 26, 27, 28, 29, 28, 29, 30, 31, 32, 1]
/-- DES permutation P. -/
def desP : List Nat :=
  [16, 7, 20, 21, 29, 12, 28, 17, 1, 15, 23, 26, 5, 18, 31, 10, 2, 8, 24, 14, 32, 27, 3, 9, 19, 13, 30, 6, 22, 11, 4, 25]
/-- DES permuted choice 1. -/
def desPC1 : List Nat :=
  [57, 49, 41, 33, 25, 17, 9, 1, 58, 50, 42, 34, 26, 18, 10, 2, 59, 51, 43, 35, 27, 19, 11, 3, 60, 52, 44, 36,
   63, 55, 47, 39, 31, 23, 15, 7, 62, 54, 46, 38, 30, 22, 14, 6, 61, 53, 45, 37, 29, 21, 13, 5, 28, 20, 12, 4]
/-- DES permuted choice 2. -/
def desPC2 : List Nat :=
  [14, 17, 11, 24, 1, 5, 3, 28, 15, 6, 21, 10, 23, 19, 12, 4, 26, 8, 16, 7, 27, 20, 13, 2,
   41, 52, 31, 37, 47, 55, 30, 40, 51, 45, 33, 48, 44, 49, 39, 56, 34, 53, 46, 42, 50, 36, 29, 32]
/-- DES S1. -/
def desS1 : List Nat :=
  [14, 4, 13, 1, 2, 15, 11, 8, 3, 10, 6, 12, 5, 9, 0, 7, 0, 15, 7, 4, 14, 2, 13, 1, 10, 6, 12, 11, 9, 5, 3, 8,
   4, 1, 14, 8, 13, 6, 2, 11, 15, 12, 9, 7, 3, 10, 5, 0, 15, 12, 8, 2, 4, 9, 1, 7, 5, 11, 3, 14, 10, 0, 6, 13]
/-- DES S2. -/
def desS2 : List Nat :=
  [15, 1, 8, 14, 6, 11, 3, 4, 9, 7, 2, 13, 12, 0, 5, 10, 3, 13, 4, 7, 15, 2, 8, 14, 12, 0, 1, 10, 6, 9, 11, 5,
   0, 14, 7, 11, 10, 4, 13, 1, 5, 8, 12, 6, 9, 3, 2, 15, 13, 8, 10, 1, 3, 15, 4, 2, 11, 6, 7, 12, 0, 5, 14, 9]
/-- DES S3. -/
def desS3 : List Nat :=
  [10, 0, 9, 14, 6, 3, 15, 5, 1, 13, 12, 7, 11, 4, 2, 8, 13, 7, 0, 9, 3, 4, 6, 10, 2, 8, 5, 14, 12, 11, 15, 1,
   13, 6, 4, 9, 8, 15, 3, 0, 11, 1, 2, 12, 5, 10, 14, 7, 1, 10, 13, 0, 6, 9, 8, 7, 4, 15, 14, 3, 11, 5, 2, 12]
/-- DES S4. -/
def desS4 : List Nat :=
  [7, 13, 14, 3, 0, 6, 9, 10, 1, 2, 8, 5, 11, 12, 4, 15, 13, 8, 11, 5, 6, 15, 0, 3, 4, 7, 2, 12, 1, 10, 14, 9,
   10, 6, 9, 0, 12, 11, 7, 13, 15, 1, 3, 14, 5, 2, 8, 4, 3, 15, 0, 6, 10, 1, 13, 8, 9, 4, 5, 11, 12, 7, 2, 14]
/-- DES S5. -/
def desS5 : List Nat :=
  [2, 12, 4, 1, 7, 10, 11, 6, 8, 5, 3, 15, 13, 0, 14, 9, 14, 11, 2, 12, 4, 7, 13, 1, 5, 0, 15, 10, 3, 9, 8, 6,
   4, 2, 1, 11, 10, 13, 7, 8, 15, 9, 12, 5, 6, 3, 0, 14, 11, 8, 12, 7, 1, 14, 2, 13, 6, 15, 0, 9, 10, 4, 5, 3]
/-- DES S6. -/
def desS6 : List Nat :=
  [12, 1, 10, 15, 9, 2, 6, 8, 0, 13, 3, 4, 14, 7, 5, 11, 10, 15, 4, 2, 7, 12, 9, 5, 6, 1, 13, 14, 0, 11, 3, 8,
   9, 14, 15, 5, 2, 8, 12, 3, 7, 0, 4, 10, 1, 13, 11, 6, 4, 3, 2, 12, 9, 5, 15, 10, 11, 14, 1, 7, 6, 0, 8, 13]
/-- DES S7. -/
def desS7 : List Nat :=
  [4, 11, 2, 14, 15, 0, 8, 13, 3, 12, 9, 7, 5, 10, 6, 1, 13, 0, 11, 7, 4, 9, 1, 10, 14, 3, 5, 12, 2, 15, 8, 6,
   1, 4, 11, 13, 12, 3, 7, 14, 10, 15, 6, 8, 0, 5, 9, 2, 6, 11, 13, 8, 1, 4, 10, 7, 9, 5, 0, 15, 14, 2, 3, 12]
/-- DES S8. -/
def desS8 : List Nat :=
  [13, 2, 8, 4, 6, 15, 11, 1, 10, 9, 3, 14, 5, 0, 12, 7, 1, 15, 13, 8, 10, 3, 7, 4, 12, 5, 6, 11, 0, 14, 9, 2,
   7, 11, 4, 1, 9, 12, 14, 2, 0, 6, 10, 13, 15, 3, 5, 8, 2, 1, 14, 7, 4, 10, 8, 13, 15, 12, 9, 0, 3, 5, 6, 11]
/-- One S-box on 6 bits. -/
def desSub (t : List Nat) (q : List Bool) : List Bool :=
  let n := q.map b2n
  let v := t.getD ((n.getD 0 0 * 2 + n.getD 5 0) * 16 + n.getD 1 0 * 8 + n.getD 2 0 * 4 + n.getD 3 0 * 2 + n.getD 4 0) 0
  (List.range 4).map (fun i => decide (v / 2 ^ (3 - i) % 2 = 1))
/-- The round function. -/
def desF (r k : List Bool) : List Bool :=
  permute desP ((List.zipWith desSub [desS1, desS2, desS3, desS4, desS5, desS6, desS7, desS8]
    (cut 6 (List.zipWith (· != ·) (permute desE r) k))).flatten)
/-- Rotate a list left. -/
def rotL {α : Type} (n : Nat) (l : List α) : List α := l.drop n ++ l.take n
/-- The sixteen round keys. -/
def desKeys (key : Bytes) : List (List Bool) :=
  let cd := permute desPC1 (bitsOf key)
  [1, 2, 4, 6, 8, 10, 12, 14, 15, 17, 19, 21, 23, 25, 27, 28].map (fun n =>
    permute desPC2 (rotL n (cd.take 28) ++ rotL n (cd.drop 28)))
/-- DES on one block with round keys in the order of use. -/
def desRun (ks : List (List Bool)) (block : Bytes) : Bytes :=
  let b := permute desIP (bitsOf block)
  let (l, r) := ks.foldl (fun st k => (st.2, List.zipWith (· != ·) st.1 (desF st.2 k))) (b.take 32, b.drop 32)
  bytesOf (permute desFP (r ++ l))
/-- DES encryption. -/
def desEnc (key block : Bytes) : Bytes := desRun (desKeys key) block
/-- DES decryption. -/
def desDec (key block : Bytes) : Bytes := desRun (desKeys key).reverse block
/-- Key i of a TDES key; a two-key key has K3 = K1 (R267). -/
def tdesKey (key : Bytes) (i : Nat) : Bytes := slice key (if key.length = 16 ∧ i = 2 then 0 else 8 * i) 8
/-- TDES encryption. -/
def tdesEnc (key block : Bytes) : Bytes := desEnc (tdesKey key 2) (desDec (tdesKey key 1) (desEnc (tdesKey key 0) block))
/-- TDES decryption. -/
def tdesDec (key block : Bytes) : Bytes := desDec (tdesKey key 0) (desEnc (tdesKey key 1) (desDec (tdesKey key 2) block))

/-! ### Modes: CMAC, 9797-1, KDF, key wrap -/

/-- A block cipher by KTYPE (R264): 1-3 AES, 4-5 TDES. -/
def blockEnc (ktype : Nat) (key block : Bytes) : Bytes := if ktype ≤ 3 then aesEnc key block else tdesEnc key block
/-- Its inverse. -/
def blockDec (ktype : Nat) (key block : Bytes) : Bytes := if ktype ≤ 3 then aesDec key block else tdesDec key block
/-- Its block length in bytes. -/
def blockLen (ktype : Nat) : Nat := if ktype ≤ 3 then 16 else 8
/-- Doubling for CMAC subkeys (SP 800-38B). -/
def cmacDouble (b : Bytes) : Bytes :=
  let n := beNat b
  let w := 8 * b.length
  let r := if b.length = 16 then 0x87 else 0x1B
  beBytes b.length ((if n / 2 ^ (w - 1) % 2 = 1 then Nat.xor (2 * n % 2 ^ w) r else 2 * n % 2 ^ w))
/-- CBC chaining over blocks, the last state. -/
def cbcMac (ktype : Nat) (key : Bytes) (blocks : List Bytes) : Bytes :=
  blocks.foldl (fun st b => blockEnc ktype key (xorB st b)) (zeros (blockLen ktype))
/-- CMAC (SP 800-38B; padding R268). -/
def cmac (ktype : Nat) (key m : Bytes) : Bytes :=
  let n := blockLen ktype
  let k1 := cmacDouble (blockEnc ktype key (zeros n))
  let bl := cut n m
  let last := bl.getLastD []
  let fin := if last.length = n then xorB last k1 else xorB (slice (last ++ [0x80]) 0 n) (cmacDouble k1)
  cbcMac ktype key (bl.dropLast ++ [fin])
/-- Padding methods 1 and 2 (R268). -/
def macPad (method n : Nat) (m : Bytes) : Bytes :=
  let m := if method = 2 then m ++ [0x80] else m
  if m.length = 0 then zeros n else m ++ zeros ((n - m.length % n) % n)
/-- ISO/IEC 9797-1 MAC algorithm 1. -/
def macAlg1 (ktype : Nat) (key : Bytes) (method : Nat) (m : Bytes) : Bytes :=
  cbcMac ktype key (cut (blockLen ktype) (macPad method (blockLen ktype) m))
/-- ISO/IEC 9797-1 MAC algorithm 3: chaining with single DES under K1, then decryption with K2 and encryption with K1
(R268). -/
def macAlg3 (key : Bytes) (method : Nat) (m : Bytes) : Bytes :=
  let k1 := slice key 0 8
  let h := (cut 8 (macPad method 8 m)).foldl (fun st b => desEnc k1 (xorB st b)) (zeros 8)
  desEnc k1 (desDec (slice key 8 8) h)
/-- The SP 800-108 counter-mode KDF over CMAC-AES-256 (R258). -/
def kdf (key label context : Bytes) (bits : Nat) : Bytes :=
  let block := fun i => cmac 3 key (beBytes 4 i ++ label ++ [0] ++ context ++ beBytes 4 bits)
  ((List.range ((bits + 127) / 128)).flatMap (fun i => block (i + 1))).take (bits / 8)
/-- One step of AES key wrap: A, the registers, the counter. -/
def kwStep (key : Bytes) (st : Bytes × List Bytes) (j n i : Nat) : Bytes × List Bytes :=
  let b := aesEnc key (st.1 ++ st.2.getD i [])
  (xorB (b.take 8) (beBytes 8 (n * j + i + 1)), st.2.set i (b.drop 8))
/-- AES key wrap (SP 800-38F KW). -/
def kwWrap (key m : Bytes) : Bytes :=
  let rs := cut 8 m
  let n := rs.length
  let (a, rs) := (List.range 6).foldl (fun st j => (List.range n).foldl (fun st i => kwStep key st j n i) st)
    (List.replicate 8 (0xA6 : Byte), rs)
  a ++ rs.flatten
/-- One step of AES key unwrap. -/
def kwUnstep (key : Bytes) (st : Bytes × List Bytes) (j n i : Nat) : Bytes × List Bytes :=
  let b := aesDec key (xorB st.1 (beBytes 8 (n * j + i + 1)) ++ st.2.getD i [])
  (b.take 8, st.2.set i (b.drop 8))
/-- AES key unwrap: the material, if the integrity value is right. -/
def kwUnwrap (key w : Bytes) : Option Bytes :=
  let rs := cut 8 (w.drop 8)
  let n := rs.length
  let (a, rs) := (List.range 6).reverse.foldl (fun st j => (List.range n).reverse.foldl (fun st i => kwUnstep key st j n i) st)
    (w.take 8, rs)
  if a = List.replicate 8 (0xA6 : Byte) ∧ 2 ≤ n ∧ w.length % 8 = 0 then some rs.flatten else none

/-! ### CRCs -/

/-- One bit of CRC-16/CCITT, polynomial 0x1021. -/
def crc16Step (c : BitVec 16) (b : Bool) : BitVec 16 :=
  if c.getLsbD 15 != b then (c <<< 1) ^^^ 0x1021 else c <<< 1
/-- CRC-16/CCITT, initial value 0xFFFF, most significant bit first, over bytes. -/
def crc16 (bs : Bytes) : BitVec 16 := (bitsOf bs).foldl crc16Step 0xFFFF
/-- CRC-16/CCITT over payloads, the high byte of each first. -/
def crc16Words (ws : List (BitVec 16)) : BitVec 16 := crc16 (ws.flatMap (fun (w : BitVec 16) => ([(w >>> 8).setWidth 8, w.setWidth 8] : Bytes)))

/-! ### Numbers -/

/-- Modular exponentiation, one exponent bit a round. -/
def powModAux (m : Nat) : Nat → Nat → Nat → Nat → Nat
  | 0, _, _, acc => acc
  | fuel + 1, b, e, acc => powModAux m fuel (b * b % m) (e / 2) (if e % 2 = 1 then acc * b % m else acc)
/-- b^e mod m. -/
def powMod (b e m : Nat) : Nat := powModAux m (Nat.log2 e + 1) (b % m) e (1 % m)
/-- Extended Euclid on (r0, r1) with coefficients in the integers. -/
def egcd : Nat → Int → Int → Int → Int → Int
  | 0, _, _, t, _ => t
  | fuel + 1, r0, r1, t0, t1 => if r1 = 0 then t0 else egcd fuel r1 (r0 - r0 / r1 * r1) t1 (t0 - r0 / r1 * t1)
/-- The inverse of a modulo m. -/
def invMod (a m : Nat) : Nat := ((egcd (2 * Nat.log2 m + 4) (m : Int) ((a % m : Nat) : Int) 0 1) % (m : Int)).toNat
/-- Bit length. -/
def bitLen (n : Nat) : Nat := if n = 0 then 0 else Nat.log2 n + 1
/-- Write n - 1 as d times a power of two. -/
def oddPart : Nat → Nat → Nat × Nat
  | 0, d => (d, 0)
  | fuel + 1, d => if d % 2 = 0 ∧ 0 < d then let (q, k) := oddPart fuel (d / 2); (q, k + 1) else (d, 0)
/-- Whether n passes one round of Miller-Rabin to base a. -/
def mrRound (n a : Nat) : Bool :=
  let (d, r) := oddPart (bitLen n) (n - 1)
  let x := powMod a d n
  decide (x = 1) || ((List.range r).foldl (fun st _ => (st.1 || decide (st.2 = n - 1), st.2 * st.2 % n)) (false, x)).1
/-- Whether n passes Miller-Rabin to every base of a list, each taken into 2 to n - 2. -/
def mrTest (n : Nat) (bases : List Nat) : Bool :=
  decide (3 < n) && decide (n % 2 = 1) && bases.all (fun a => mrRound n (a % (n - 3) + 2))

/-- RSA private operation by CRT (PKCS #1). -/
def rsaCrt (p q dp dq qinv m : Nat) : Nat :=
  let m1 := powMod (m % p) dp p
  let m2 := powMod (m % q) dq q
  m2 + q * (qinv * (m1 + p - m2 % p) % p)
/-- RSA public operation, e = 65537. -/
def rsaPub (n s : Nat) : Nat := powMod s 65537 n

/-! ### Elliptic curves (affine; none is the identity) -/

/-- Add two points. -/
def ecAdd (c : Curve) (P Q : Option (Nat × Nat)) : Option (Nat × Nat) :=
  match P, Q with
  | none, r => r
  | r, none => r
  | some (x1, y1), some (x2, y2) =>
    if x1 = x2 ∧ (y1 + y2) % c.p = 0 then none
    else
      let l := if x1 = x2 then (3 * x1 * x1 + c.a) * invMod (2 * y1) c.p % c.p
               else (y2 + c.p - y1) * invMod (x2 + c.p - x1) c.p % c.p
      let x3 := (l * l + 2 * c.p - x1 - x2) % c.p
      some (x3, (l * (x1 + c.p - x3) + c.p - y1) % c.p)
/-- Double and add, one bit a round. -/
def ecMulAux (c : Curve) : Nat → Nat → Option (Nat × Nat) → Option (Nat × Nat) → Option (Nat × Nat)
  | 0, _, _, acc => acc
  | fuel + 1, k, P, acc => ecMulAux c fuel (k / 2) (ecAdd c P P) (if k % 2 = 1 then ecAdd c acc P else acc)
/-- k times a point. -/
def ecMul (c : Curve) (k : Nat) (P : Option (Nat × Nat)) : Option (Nat × Nat) := ecMulAux c (bitLen k) k P none
/-- Whether a point lies on the curve. -/
def onCurve (c : Curve) (x y : Nat) : Bool :=
  decide (x < c.p) && decide (y < c.p) && decide ((y * y) % c.p = (x * x * x + c.a * x + c.b) % c.p)
/-- Whether a public point is acceptable (R233). -/
def goodPoint (c : Curve) (x y : Nat) : Bool :=
  onCurve c x y && (decide (c.h ≤ 1) || decide (ecMul c c.n (some (x, y)) = none))
/-- The base point. -/
def basePoint (c : Curve) : Option (Nat × Nat) := some (c.gx, c.gy)
/-- ECDSA with nonce k: r and s, none if either is 0 (R232). -/
def ecdsaSign (c : Curve) (d e k : Nat) : Option (Nat × Nat) :=
  match ecMul c k (basePoint c) with
  | none => none
  | some (x, _) =>
    let r := x % c.n
    let s := invMod k c.n * (e + r * d) % c.n
    if r = 0 ∨ s = 0 then none else some (r, s)
/-- ECDSA verification (R233). -/
def ecdsaVerify (c : Curve) (qx qy e r s : Nat) : Bool :=
  if r = 0 ∨ c.n ≤ r ∨ s = 0 ∨ c.n ≤ s then false
  else
    let w := invMod s c.n
    match ecAdd c (ecMul c (e * w % c.n) (basePoint c)) (ecMul c (r * w % c.n) (some (qx, qy))) with
    | none => false
    | some (x, _) => decide (x % c.n = r)

/-- The curves P-256, P-384 and P-521 (SEC 2). -/
def p256 : Curve :=
  { bytes := 32, p := 0xffffffff00000001000000000000000000000000ffffffffffffffffffffffff,
    a := 0xffffffff00000001000000000000000000000000fffffffffffffffffffffffc,
    b := 0x5ac635d8aa3a93e7b3ebbd55769886bc651d06b0cc53b0f63bce3c3e27d2604b,
    gx := 0x6b17d1f2e12c4247f8bce6e563a440f277037d812deb33a0f4a13945d898c296,
    gy := 0x4fe342e2fe1a7f9b8ee7eb4a7c0f9e162bce33576b315ececbb6406837bf51f5,
    n := 0xffffffff00000000ffffffffffffffffbce6faada7179e84f3b9cac2fc632551, h := 1 }
/-- P-384. -/
def p384 : Curve :=
  { bytes := 48,
    p := 0xfffffffffffffffffffffffffffffffffffffffffffffffffffffffffffffffeffffffff0000000000000000ffffffff,
    a := 0xfffffffffffffffffffffffffffffffffffffffffffffffffffffffffffffffeffffffff0000000000000000fffffffc,
    b := 0xb3312fa7e23ee7e4988e056be3f82d19181d9c6efe8141120314088f5013875ac656398d8a2ed19d2a85c8edd3ec2aef,
    gx := 0xaa87ca22be8b05378eb1c71ef320ad746e1d3b628ba79b9859f741e082542a385502f25dbf55296c3a545e3872760ab7,
    gy := 0x3617de4a96262c6f5d9e98bf9292dc29f8f41dbd289a147ce9da3113b5f0b8c00a60b1ce1d7e819d7a431d7c90ea0e5f,
    n := 0xffffffffffffffffffffffffffffffffffffffffffffffffc7634d81f4372ddf581a0db248b0a77aecec196accc52973, h := 1 }
/-- P-521. -/
def p521 : Curve :=
  { bytes := 66, p := 2 ^ 521 - 1, a := 2 ^ 521 - 4,
    b := 0x0051953eb9618e1c9a1f929a21a0b68540eea2da725b99b315f3b8b489918ef109e156193951ec7e937b1652c0bd3bb1bf073573df883d2c34f1ef451fd46b503f00,
    gx := 0x00c6858e06b70404e9cd9e3ecb662395b4429c648139053fb521f828af606b4d3dbaa14b5e77efe75928fe1dc127a2ffa8de3348b3c1856a429bf97e7e31c2e5bd66,
    gy := 0x011839296a789a3bc0045c8a5fb42c7d1bd998f54449579b446817afbd17273e662c97ee72995ef42640c550b9013fad0761353c7086a272c24088be94769fd16650,
    n := 0x01fffffffffffffffffffffffffffffffffffffffffffffffffffffffffffffffffa51868783bf2f966b7fcc0148f709a5d03bb5c9b8899c47aebb6fb71e91386409,
    h := 1 }

/-! ### RSA encodings (PKCS #1 v2.2) -/

/-- MGF1 with SHA-256. -/
def mgf1 (seed : Bytes) (n : Nat) : Bytes :=
  ((List.range ((n + 31) / 32)).flatMap (fun i => sha256 (seed ++ beBytes 4 i))).take n
/-- RSASSA-PSS encoding of a digest with a salt, for a modulus of `bits` bits. -/
def pssEncode (digest salt : Bytes) (bits : Nat) : Bytes :=
  let n := (bits + 6) / 8
  let h := sha256 (zeros 8 ++ digest ++ salt)
  let db := zeros (n - salt.length - 34) ++ [1] ++ salt
  let m := xorB db (mgf1 h (n - 33))
  let top := 8 * n - (bits - 1)
  (match m with
    | [] => []
    | b :: r => BitVec.ofNat 8 (b.toNat % 2 ^ (8 - top)) :: r) ++ h ++ [0xBC]
/-- RSASSA-PSS verification of an encoded message against a digest, salt of `sl` bytes. -/
def pssVerify (em digest : Bytes) (sl bits : Nat) : Bool :=
  let n := em.length
  let top := 8 * n - (bits - 1)
  let h := slice em (n - 33) 32
  let m := em.take (n - 33)
  let db := xorB m (mgf1 h (n - 33))
  let db := match db with
    | [] => []
    | b :: r => BitVec.ofNat 8 (b.toNat % 2 ^ (8 - top)) :: r
  decide (sl + 34 ≤ n) && decide (em.getLastD 0 = 0xBC) && decide ((m.headD 0).toNat / 2 ^ (8 - top) = 0)
    && decide (db.take (n - sl - 33) = zeros (n - sl - 34) ++ [1])
    && decide (h = sha256 (zeros 8 ++ digest ++ db.drop (n - sl - 33)))
/-- The DigestInfo prefix of SHA-256. -/
def sha256Info : Bytes := [0x30, 0x31, 0x30, 0x0d, 0x06, 0x09, 0x60, 0x86, 0x48, 0x01, 0x65, 0x03, 0x04, 0x02, 0x01, 0x05, 0x00, 0x04, 0x20]
/-- EMSA-PKCS1-v1_5 encoding of a SHA-256 digest in n bytes. -/
def pkcs1Encode (digest : Bytes) (n : Nat) : Bytes :=
  [0, 1] ++ List.replicate (n - digest.length - 22) (0xFF : Byte) ++ [0] ++ sha256Info ++ digest
/-- RSAES-OAEP encoding with SHA-256 and an empty label. -/
def oaepEncode (m seed : Bytes) (n : Nat) : Bytes :=
  let db := sha256 [] ++ zeros (n - m.length - 66) ++ [1] ++ m
  let mdb := xorB db (mgf1 seed (n - 33))
  [0] ++ xorB seed (mgf1 mdb 32) ++ mdb
/-- RSAES-OAEP decoding. -/
def oaepDecode (em : Bytes) : Option Bytes :=
  let n := em.length
  let mdb := em.drop 33
  let seed := xorB (slice em 1 32) (mgf1 mdb 32)
  let db := xorB mdb (mgf1 seed (n - 33))
  let rest := (db.drop 32).dropWhile (fun b => decide (b = 0))
  if em.headD 1 = 0 ∧ db.take 32 = sha256 [] ∧ rest.headD 0 = 1 then some (rest.drop 1) else none

end Sys2Proof.Machine
end

