-- ==== Sys2Proof/Machine/Caps.lean ====
section
/-!
DEFINITION. Capability instructions that stay in the core (R313, R334), branches and calls (R315), FAR (R352).
-/
namespace Sys2Proof.Machine

/-- A capability instruction that writes cd from cs and g operands: DATA operands first (TAG), then the derivation's own
checks (CAP or ILLEGAL), then the write. -/
def capInstr (s : State) (core : Core) (op : Nat) (legal : BitVec 32 → Bool) (gs : BitVec 32 → List Nat)
    (f : Cell → BitVec 32 → Except Cause (Cell)) : State :=
  cellInstr s core (fun p => decide (pOp p = op)) legal fun s k c p =>
    if (gs p).any (fun r => decide ((getG c r).tag ≠ .data)) then syncFault s k ⟨.tag, none⟩ .tag
    else match f c p with
      | .ok c' => setCell s k (advance c')
      | .error e => syncFault s k ⟨e, none⟩ .read

/-- cd and cs name c0-c7 (R302). -/
def capRegs (p : BitVec 32) : Bool := decide (pf p 20 < 8) && decide (pf p 16 < 8)

/-- CMOV: cd = cs, valid or invalid (R313). -/
def execCmov (core : Core) (s : State) : Host.Outcome State Fault Refusal :=
  .next (capInstr s core 0x62 (fun p => capRegs p && decide (p.toNat % 65536 = 0)) (fun _ => [])
    fun c p => .ok (setC c (pf p 20) (getC c (pf p 16))))

/-- CBOUND: BASE' = BASE + (ga << s), LENGTH' = gb << s (R313). -/
def execCbound (core : Core) (s : State) : Host.Outcome State Fault Refusal :=
  .next (capInstr s core 0x63 (fun p => capRegs p && decide (pImm8 p ≤ 8)) (fun p => [pf p 12, pf p 8]) fun c p =>
    let cap := capOf (getC c (pf p 16))
    let a := (getG c (pf p 12)).val.toNat * 2 ^ pImm8 p
    let b := (getG c (pf p 8)).val.toNat * 2 ^ pImm8 p
    if cap.valid ∧ a + b ≤ cap.len then .ok (setC c (pf p 20) (mkCap (cap.base + a) b cap.perms)) else .error .cap)

/-- CPERM: PERMS' = PERMS AND imm8 (R313). -/
def execCperm (core : Core) (s : State) : Host.Outcome State Fault Refusal :=
  .next (capInstr s core 0x64 (fun p => capRegs p && decide (pf p 12 = 0) && decide (pf p 8 = 0)) (fun _ => []) fun c p =>
    let cap := capOf (getC c (pf p 16))
    if cap.valid then .ok (setC c (pf p 20) (mkCap cap.base cap.len (cap.perms &&& pImm8 p))) else .error .cap)

/-- CINC: BASE' = BASE + (ga << s), LENGTH' = LENGTH - (ga << s) (R313). -/
def execCinc (core : Core) (s : State) : Host.Outcome State Fault Refusal :=
  .next (capInstr s core 0x65 (fun p => capRegs p && decide (pf p 8 = 0) && decide (pImm8 p ≤ 8)) (fun p => [pf p 12])
    fun c p =>
      let cap := capOf (getC c (pf p 16))
      let a := (getG c (pf p 12)).val.toNat * 2 ^ pImm8 p
      if cap.valid ∧ a ≤ cap.len then .ok (setC c (pf p 20) (mkCap (cap.base + a) (cap.len - a) cap.perms))
      else .error .cap)

/-- CGET: a field of a capability, DATA; an invalid one gives 0 for sel 0-4 (R313). -/
def execCget (core : Core) (s : State) : Host.Outcome State Fault Refusal :=
  .next (capInstr s core 0x66
    (fun p => decide (pf p 16 < 8) && decide (pf p 12 = 0) && decide (pf p 8 = 0) && decide (pImm8 p ≤ 5)) (fun _ => [])
    fun c p =>
      let cap := capOf (getC c (pf p 16))
      let v := match pImm8 p with
        | 0 => cap.base
        | 1 => cap.base / 65536
        | 2 => cap.len
        | 3 => cap.len / 65536
        | 4 => cap.perms
        | _ => 1
      .ok (setG c (pf p 20) (dataNat (if cap.valid then v else 0))))

/-- CCLR: cd becomes invalid, all fragments 0x0000 DATA (R313). -/
def execCclr (core : Core) (s : State) : Host.Outcome State Fault Refusal :=
  .next (capInstr s core 0x67 (fun p => decide (pf p 20 < 8) && decide (p.toNat % 2 ^ 20 = 0)) (fun _ => [])
    fun c p => .ok (setC c (pf p 20) nullCap))

/-- CMAKE: the supervisor makes a capability from two register pairs (R334); ILLEGAL in a cell. -/
def execCmake (core : Core) (s : State) : Host.Outcome State Fault Refusal :=
  .next (capInstr s core 0x68
    (fun p => decide (core.val = 512) && decide (pf p 20 < 8) && decide (pf p 16 = 0) && decide (pf p 12 % 2 = 0)
      && decide (pf p 8 % 2 = 0) && decide (pImm8 p < 32))
    (fun p => [pf p 12, pf p 12 + 1, pf p 8, pf p 8 + 1]) fun c p =>
      let pair := fun r => (getG c (r + 1)).val.toNat * 65536 + (getG c r).val.toNat
      if pair (pf p 8) < 2 ^ 27 ∧ pair (pf p 12) + pair (pf p 8) ≤ 2 ^ 32 then
        .ok (setC c (pf p 20) (mkCap (pair (pf p 12)) (pair (pf p 8)) (pImm8 p)))
      else .error .illegal)

/-! ### Branches and calls (R315) -/

/-- B: conditional relative branch; a SECRET flag tag with a condition other than AL is a TAG fault. -/
def execB (core : Core) (s : State) : Host.Outcome State Fault Refusal :=
  .next (cellInstr s core (fun p => decide (pOp p = 0x50)) (fun p => decide (pf p 16 = 0) && decide (pf p 20 ≠ 15))
    fun s k c p =>
      let f := getFlags c
      if f.ft ∧ pf p 20 ≠ 14 then syncFault s k ⟨.tag, none⟩ .tag
      else if condHolds f (pf p 20) then
        setCell s k (jump c (pcIndex (getPc c) + 1 + (pImm p).toNat))
      else setCell s k (advance c))

/-- BR: pc = a[11:0] (R315). -/
def execBr (core : Core) (s : State) : Host.Outcome State Fault Refusal :=
  .next (cellInstr s core (fun p => decide (pOp p = 0x51)) (fun p => decide (pf p 20 = 0) && decide (p.toNat % 65536 = 0))
    fun s k c p =>
      let a := getG c (pf p 16)
      if isSecret a then syncFault s k ⟨.tag, none⟩ .tag
      else if 4096 ≤ a.val.toNat then syncFault s k ⟨.illegal, none⟩ .fetch
      else setCell s k (jump c a.val.toNat))

/-- CALL.L: lk = pc + 1, pc = imm16[11:0] (R315). -/
def execCallL (core : Core) (s : State) : Host.Outcome State Fault Refusal :=
  .next (cellInstr s core (fun p => decide (pOp p = 0x52))
    (fun p => decide (p.toNat / 65536 % 256 = 0) && decide ((pImm p).toNat < 4096)) fun s k c p =>
      setCell s k (jump { c with lk := BitVec.ofNat 16 ((pcIndex (getPc c) + 1) % 4096) } (pImm p).toNat))

/-- RET.L: pc = lk[11:0]; lk[15:12] not 0 is ILLEGAL (R315). -/
def execRetL (core : Core) (s : State) : Host.Outcome State Fault Refusal :=
  .next (cellInstr s core (fun p => decide (pOp p = 0x53)) (fun p => decide (p.toNat % 2 ^ 24 = 0)) fun s k c _ =>
    if 4096 ≤ c.lk.toNat then syncFault s k ⟨.illegal, none⟩ .fetch else setCell s k (jump c c.lk.toNat))

/-- FAR: the supervisor's jump to another page (R352); ILLEGAL in a cell. -/
def execFar (core : Core) (s : State) : Host.Outcome State Fault Refusal :=
  .next (cellInstr s core (fun p => decide (pOp p = 0x5F))
    (fun p => decide (core.val = 512) && decide (pf p 20 = 0) && decide ((pImm p).toNat < 256)) fun s k c p =>
      let a := getG c (pf p 16)
      if isSecret a then syncFault s k ⟨.tag, none⟩ .tag
      else setCell s k { setPc c (BitVec.ofNat 20 ((pImm p).toNat * 4096 + a.val.toNat % 4096)) with hold := false })

end Sys2Proof.Machine
end

