-- ==== Sys2Proof/Machine/Exceptions.lean ====
section
/-!
DEFINITION. Taking an exception and returning from one (R337 to R353), special registers (R299, R340), HALT.
-/
namespace Sys2Proof.Machine

/-- The number of a synchronous cause (R337). -/
def Cause.code : Cause → BitVec 6
  | .illegal => 0
  | .fetch => 1
  | .tag => 2
  | .cap => 3
  | .access => 4
  | .bus => 5

/-- Steps 2 to 4 of R341: snapshots, marks, XSTAT, XPC and XADDR, MASK, and the switch to the shadow bank. -/
def enterShadow (c : Cell) (cause : BitVec 6) (async : Bool) (addr : BitVec 32) : Cell :=
  { c with snap := c.main.c, wrote := 0, g7 := false, xcsel := 0, xgsel := 0, cause := cause, async := async,
           xpc := c.main.pc, xaddr := addr, mask := true, inShadow := true, pend := none, wait := .none, hold := false }

/-- The exception-table entry of a cause: the handler's pc, or the waddr of a table word that is no entry (R341 step 5,
R352). -/
def vector (s : State) (k : Nat) (c : Cell) (cause : BitVec 6) : Except Nat (BitVec 20) :=
  if isSup k then
    let a := c.evb.toNat * 16 + 2 * cause.toNat
    let u := readMem s a
    let v := readMem s (a + 1)
    if a + 1 < 0x100000 ∧ u.tag = .code ∧ u.val.toNat < 256 then
      if v.tag = .code ∧ v.val.toNat < 4096 then .ok (BitVec.ofNat 20 (u.val.toNat * 4096 + v.val.toNat))
      else .error (a + 1)
    else .error a
  else
    let o := c.evb.toNat + cause.toNat
    let w := readMem s (istoreBase (k / 16) (k % 16) + o)
    if o < 8192 ∧ w.tag = .code ∧ w.val.toNat < 4096 then .ok (BitVec.ofNat 20 w.val.toNat)
    else .error (istoreBase (logicalOf s (k / 16)) (k % 16) + o)

/-- Take a cause at a core (R341): steps 2 to 4, then the handler's pc from the exception table; a vector fault halts
the core (R350). -/
def takeCause (s : State) (k : Nat) (cause : BitVec 6) (async : Bool) (addr : BitVec 32) : State :=
  let s := modVat s (k / 16) (fun v =>
    if isSup k then v else { v with waiters := v.waiters.filter (fun x => x != k % 16), drainedSeen := false })
  let s := modCell s k (fun c => enterShadow c cause async addr)
  match vector s k (getCell s k) cause with
  | .ok pc => modCell s k (fun c => { c with shadow := { c.shadow with pc := pc } })
  | .error a => haltCore s k .fetch (BitVec.ofNat 32 a)

/-- Opcodes with a meaning (R302); every other is undefined and ILLEGAL. -/
def opDefined (o : Nat) : Bool :=
  decide (o ≤ 5) || (decide (0x10 ≤ o) && decide (o ≤ 0x20)) || (o ∈ [0x24, 0x25, 0x26, 0x28, 0x29, 0x2A, 0x2B, 0x2F,
    0x30, 0x31, 0x32, 0x33, 0x40, 0x41, 0x42, 0x43, 0x50, 0x51, 0x52, 0x53, 0x54, 0x5F, 0x70, 0x71, 0x72])
  || (decide (0x60 ≤ o) && decide (o ≤ 0x68)) || (decide (0x80 ≤ o) && decide (o ≤ 0x86)) || decide (0xF0 ≤ o)

/-- EXCEPTION_ENTRY: the pending synchronous fault, else a pending asynchronous cause at an allowed point, else the
fault of an instruction that cannot be fetched or has an undefined opcode (R301, R302, R338, R341). -/
def execExceptionEntry (core : Core) (s : State) : Host.Outcome State Fault Refusal :=
  let k := coreKey s core
  let c := getCell s k
  if !coreLive s k then .next s
  else match c.pend with
    | some f => .next (takeCause s k f.cause.code false f.addr)
    | none =>
      match (if asyncOpen s k then asyncCause s k else none) with
      | some n =>
        let s := modCell s k (fun c => if n = 16 then { c with pendC := false } else if n = 17 then { c with pendM := false } else c)
        .next (takeCause s k n true 0)
      | none =>
        if c.wait = .none then
          match fetch s k with
          | .fault f note => .next (
              let s := syncFault (noteEgress s note) k f .fetch
              match (getCell s k).pend with
              | some f => takeCause s k f.cause.code false f.addr
              | none => s)
          | .word p =>
            if opDefined (pOp p) then .next s
            else .next (
              let s := syncFault s k ⟨.illegal, none⟩ .fetch
              match (getCell s k).pend with
              | some f => takeCause s k f.cause.code false f.addr
              | none => s)
        else .next s

/-- The main-bank register i after the check of R345 steps 1 and 2, with c7's exemption (R347): whether it is reduced. -/
def widened (c : Cell) (i : Nat) : Bool :=
  c.wrote.getLsbD i && !(decide (i = 7) && c.g7) && grantsMore (bankC c.main i) (tget (fun _ => nullCap) c.snap i)

/-- RETX at a core in the shadow bank (R345): reduce widened registers, record each, restore pc, clear MASK, return to
the main bank; no asynchronous cause is taken until the next instruction has made progress (R349). -/
def returnX (s : State) (k : Nat) (c : Cell) : State :=
  let ws := those 8 (widened c)
  let main := ws.foldl (fun b i =>
    setBankC b i { valid := false, frags := (tget (fun _ => nullCap) c.snap i).frags }) c.main
  let s := setCell s k { c with main := { main with pc := c.xpc }, mask := false, inShadow := false, snap := [],
                                wrote := 0, g7 := false, hold := true }
  ws.foldl (fun s i => fault s 1 577 .tag (masterOfKey s k) (BitVec.ofNat 32 i)) s

/-- RETX (R345); ILLEGAL in the main bank (R306). -/
def execRetx (core : Core) (s : State) : Host.Outcome State Fault Refusal :=
  .next (cellInstr s core (fun p => decide (pOp p = 2)) (fun p => decide (p.toNat % 2 ^ 24 = 0)) fun s k c _ =>
    if c.inShadow then returnX s k c else syncFault s k ⟨.illegal, none⟩ .fetch)

/-- HALT: the cell halts, pc stays on HALT (R322, R350). -/
def execHalt (core : Core) (s : State) : Host.Outcome State Fault Refusal :=
  .next (cellInstr s core (fun p => decide (pOp p = 1)) (fun p => decide (p.toNat % 2 ^ 24 = 0)) fun s k c _ =>
    haltCore s k .none ((getPc c).setWidth 32))

/-! ### Special registers (R299, R340, R352) -/

/-- XSTAT as it reads (R340); the supervisor's enable bits read 0 (R352). -/
def xstat (k : Nat) (c : Cell) : BitVec 16 :=
  BitVec.ofNat 16 (b2n c.mask * 0x8000 + b2n c.inShadow * 0x4000 + b2n c.async * 0x2000
    + b2n (c.mdoneEn && !isSup k) * 0x800 + b2n (c.cdoneEn && !isSup k) * 0x400 + c.cause.toNat)

/-- Whether MFSR of a special register is allowed at a core (R299, R340, R352). -/
def mfsrLegal (k : Nat) (c : Cell) (sr : Nat) : Bool :=
  match sr with
  | 5 => isSup k && c.inShadow
  | 6 => isSup k
  | 7 => false
  | _ => decide (sr ≤ 8) || (decide (sr ≤ 15) && c.inShadow)

/-- The value MFSR returns, with the core after the read: CYCLE_LO latches CYCLE_HI (R299). The cycle count is a free
value (log entry 7). -/
def mfsrValue (s : State) (k : Nat) (c : Cell) (sr : Nat) : Word × Cell × State :=
  match sr with
  | 0 => (dataWord c.lk, c, s)
  | 1 => (flagsWord (getFlags c), c, s)
  | 2 => (dataWord c.evb, c, s)
  | 3 =>
    let (v, s) := elapsed s
    (dataWord (v.setWidth 16), { c with cycleHi := (v >>> 16).setWidth 16 }, s)
  | 4 => (dataWord c.cycleHi, c, s)
  | 5 => (dataNat (c.xpc.toNat / 4096), c, s)
  | 6 => (dataNat ((getPc c).toNat / 4096), c, s)
  | 8 => (dataWord (xstat k c), c, s)
  | 9 => (dataNat (pcIndex c.xpc), c, s)
  | 10 => (dataWord (c.xaddr.setWidth 16), c, s)
  | 11 => (dataWord ((c.xaddr >>> 16).setWidth 16), c, s)
  | 12 => (flagsWord c.main.flags, c, s)
  | 13 => (dataNat c.xcsel.toNat, c, s)
  | 14 => (dataNat c.xgsel.toNat, c, s)
  | _ => (bankG c.main c.xgsel.toNat, c, s)

/-- MFSR d, sr (R299, R322). -/
def execMfsr (core : Core) (s : State) : Host.Outcome State Fault Refusal :=
  .next (cellInstr s core (fun p => decide (pOp p = 4)) (fun p => decide (pf p 16 = 0) && decide ((pImm p).toNat ≤ 15))
    fun s k c p =>
      if mfsrLegal k c (pImm p).toNat then
        let (w, c, s) := mfsrValue s k c (pImm p).toNat
        setCell s k (advance (setG c (pf p 20) w))
      else syncFault s k ⟨.illegal, none⟩ .fetch)

/-- Whether MTSR of a special register is allowed at a core: 2 EVB only in the supervisor while MASK is 1, 5 XPAGE only
in the supervisor's shadow bank, XADDR never (R299, R340, R352). -/
def mtsrLegal (k : Nat) (c : Cell) (sr : Nat) : Bool :=
  match sr with
  | 0 => true
  | 1 => true
  | 2 => isSup k && c.mask
  | 5 => isSup k && c.inShadow
  | 8 => true
  | 9 => c.inShadow
  | 12 => c.inShadow
  | 13 => c.inShadow
  | 14 => c.inShadow
  | 15 => c.inShadow
  | _ => false

/-- The core after MTSR, or the fault an operand value raises (R340). -/
def mtsrWrite (k : Nat) (c : Cell) (sr : Nat) (w : Word) : Except Cause Cell :=
  match sr with
  | 0 => if w.tag = .secret then .error .tag else .ok { c with lk := w.val }
  | 1 => .ok (setFlags c (flagsFrom w))
  | 15 => .ok { c with main := setBankG c.main c.xgsel.toNat w }
  | _ =>
    if w.tag ≠ .data then .error .tag
    else match sr with
      | 2 => .ok { c with evb := w.val }
      | 5 => if 256 ≤ w.val.toNat then .error .illegal
             else .ok { c with xpc := BitVec.ofNat 20 (w.val.toNat * 4096 + pcIndex c.xpc) }
      | 8 =>
        let c := if isSup k then c else { c with mdoneEn := bit w.val 11, cdoneEn := bit w.val 10 }
        .ok (if c.inShadow then c else { c with mask := bit w.val 15 })
      | 9 => if 4096 ≤ w.val.toNat then .error .illegal else .ok { c with xpc := withIndex c.xpc w.val.toNat }
      | 12 => .ok { c with main := { c.main with flags := flagsFrom w } }
      | 13 => .ok { c with xcsel := w.val.setWidth 8 }
      | _ => .ok { c with xgsel := w.val.setWidth 4 }

/-- MTSR sr, a (R299, R322, R340). -/
def execMtsr (core : Core) (s : State) : Host.Outcome State Fault Refusal :=
  .next (cellInstr s core (fun p => decide (pOp p = 5)) (fun p => decide (pf p 20 = 0) && decide ((pImm p).toNat ≤ 15))
    fun s k c p =>
      if mtsrLegal k c (pImm p).toNat then
        match mtsrWrite k c (pImm p).toNat (getG c (pf p 16)) with
        | .ok c' => setCell s k (advance c')
        | .error e => syncFault s k ⟨e, none⟩ .tag
      else syncFault s k ⟨.illegal, none⟩ .fetch)

end Sys2Proof.Machine
end

