-- ==== Sys2Proof/Machine/LoadStore.lean ====
section
/-!
DEFINITION. Loads, stores and capability loads and stores (R303, R311, R313), posting and FENCE (R305, R376), CALLM and
RETM (R316, R317), and the transfers a core sends.
-/
namespace Sys2Proof.Machine

/-! ### Transfers in flight (R359) -/

/-- A transfer by its number. -/
def getXfer (s : State) (i : Nat) : Option Transfer := tget (fun _ => none) s.mesh.xfers i
/-- The order of the replies on their way after a transfer has been set: one that is answered comes last (R355). -/
def repliesAfter (l : List Nat) (i : Nat) (t : Option Transfer) : List Nat :=
  match t.map (fun x => x.phase) with
  | some (XferPhase.reply _) => if i ∈ l then l else l ++ [i]
  | _ => l.erase i
/-- Set or remove a transfer. -/
def setXfer (s : State) (i : Nat) (t : Option Transfer) : State :=
  { s with mesh := { s.mesh with xfers := tset (fun _ => none) s.mesh.xfers i t, replies := repliesAfter s.mesh.replies i t } }
/-- Send a transfer: it takes the next number. -/
def newXfer (s : State) (t : Transfer) : State :=
  setXfer { s with mesh := { s.mesh with nextXfer := s.mesh.nextXfer + 1 } } s.mesh.nextXfer (some t)
/-- Whether a core's posted store to a waddr is still unacknowledged (R326). -/
def postedAt (s : State) (k a : Nat) : Bool :=
  s.mesh.xfers.any (fun p => match p.2 with
    | some t => decide (t.core = k) && decide (t.ty = 2) && decide (t.addr.toNat = a)
    | none => false)
/-- The router at a direction from a router: 0 east, 1 south, 2 west, 3 north. -/
def stepDir (r d : Nat) : Nat := if d = 0 then r + 1 else if d = 1 then r + 6 else if d = 2 then r - 1 else r - 6
/-- A vat's part in skims that are not acknowledged: the request it has sent, and the copies of tickets it is sending (R201, R202). -/
def skimsOut (s : State) (p : Nat) : Nat :=
  b2n (getVat s p).skim.isSome + (s.vats.filter (fun q => match q.2.skim with
    | some k => (k.reply.any (·.isSome)) && decide (posOfRouter (stepDir (routerOfPos q.1) k.dir) = some p)
    | none => false)).length
/-- Transfers of the vat at a position that are not acknowledged, those of skims with them: OUTSTANDING (R212). -/
def outstanding (s : State) (p : Nat) : Nat :=
  skimsOut s p + (s.mesh.xfers.filter (fun q => match q.2 with
    | some t => decide (t.core / 16 = p) && decide (t.core ≠ supKey) && !t.abandoned
    | none => false)).length

/-- One grant of a vat's memory arbiter to a cell: the AGE its transfer leaves with (R378, R380). -/
def memGrant (s : State) (k : Nat) : BitVec 8 × State :=
  if isSup k then (0, s)
  else
    let i := 3 * logicalOf s (k / 16)
    let age := tget (fun _ => (0 : BitVec 8)) (getArb s i 0).wait (k % 16)
    (age, (arbGrant s i [k % 16]).2)

/-- Checks 5 and 6 of R303 on a store part, in their order, but for a CODE target: the access table, an address R27 describes, and a
SECRET word kept out of its region (R367, R370). -/
def egressStore (s : State) (m : BitVec 10) (a : Nat) (ws : List Word) : Option (SyncFault × Option (Refuse × Option Nat)) :=
  match checkRange s m a ws.length .write false with
  | some (x, r, e) => some (⟨.access, some (BitVec.ofNat 32 x)⟩, some (r, e))
  | none =>
    match (List.range ws.length).find? (fun i => isHole s (a + i) true) with
    | some i => some (⟨.bus, some (BitVec.ofNat 32 (a + i))⟩, none)
    | none => (secretRefused s m a ws).map (fun q => (⟨.tag, some (BitVec.ofNat 32 q.1)⟩, some q.2))

/-- The first word of a range that is tagged CODE (R303 check 6). -/
def codeTarget (s : State) (a n : Nat) : Option Nat :=
  ((List.range n).find? (fun i => decide ((readMem s (physAddr s (a + i))).tag = .code))).map (a + ·)

/-- The first of four capability words that is neither CAP nor DATA, or not as the first is (R313). -/
def mixedAt (ws : List Word) : Nat :=
  (ws.findIdx? (fun w => (decide (w.tag ≠ .cap) && decide (w.tag ≠ .data)) || decide (w.tag ≠ (ws.getD 0 zeroWord).tag))).getD 0
/-- What a load puts into the core, or the TAG fault of a word that may not be loaded (R303 check 6, R313). -/
def commitLoad (c : Cell) (op : MemOp) (a : Nat) (ws : List Word) : Except SyncFault Cell :=
  match op with
  | .loadG r =>
    match ws with
    | [w] => if w.tag = .data ∨ w.tag = .secret then .ok (advance (setG c r w)) else .error ⟨.tag, some (BitVec.ofNat 32 a)⟩
    | _ => .error ⟨.tag, some (BitVec.ofNat 32 a)⟩
  | .loadC r =>
    match capOfWords ws with
    | some v => .ok (advance (setC c r v))
    | none => .error ⟨.tag, some (BitVec.ofNat 32 (a + mixedAt ws))⟩
  | _ => .ok (advance c)

/-- A part of an access as a transfer on its way (R359): its address is decoded now (R188). -/
def newPart (s : State) (k : Nat) (ty : BitVec 4) (a o : Nat) (ws : List Word) (len : Nat) (age : BitVec 8) : Transfer :=
  { addr := BitVec.ofNat 32 (a + o), master := masterOfKey s k, ty := ty, words := ws, len := len, age := age, phase := .request,
    core := k, offset := o, cause := none, abandoned := false, pos := decodePos s (a + o), hop := 0, judged := false }

/-! ### Words of the block instructions (R318, R319) -/

/-- Outcome of one access of a block instruction's word: it waits, for its reply or to be sent; it faults; or the word is there. -/
inductive BlockAcc where
  | wait
  | fault (f : SyncFault) (acc : AccessType) (note : Option (Refuse × Option Nat))
  | word (w : Word)

/-- A fault of an access: noted, and taken with pc on the instruction. -/
def blockFault (s : State) (k : Nat) (f : SyncFault) (acc : AccessType) (note : Option (Refuse × Option Nat)) : State :=
  syncFault (noteEgress s note) k f acc
/-- Whether a block instruction may move a word: DATA or SECRET (R318). -/
def blockTagOk (w : Word) : Bool := decide (w.tag = .data) || decide (w.tag = .secret)
/-- Send one word's access over the mesh; the core waits for the reply (R312). -/
def blockSend (s : State) (k a : Nat) (ty : BitVec 4) (op : MemOp) (ws : List Word) (age : BitVec 8) : State :=
  modCell (newXfer s (newPart s k ty a 0 ws 1 age)) k (fun c => { c with wait := .mem ⟨op, 1, [], none⟩ })
/-- Read one word for a block instruction: every check of R303, then the word or its transfer. -/
def blockRead (s : State) (k : Nat) (cap : Cap) (off need : Nat) (op : MemOp) : BlockAcc × State :=
  match capCheck cap off 1 need with
  | .error f => (.fault f .read none, s)
  | .ok a =>
    if postedAt s k a ∨ swapHolds s a = true then (.wait, s)
    else
      let (age, s) := memGrant s k
      match egress s (masterOfKey s k) a 1 false false with
      | some (f, note) => (.fault f .read note, s)
      | none =>
        if isLocal s k a then
          let w := ramWord s (physAddr s a)
          if blockTagOk w then (.word w, s) else (.fault ⟨.tag, some (BitVec.ofNat 32 a)⟩ .read none, s)
        else (.wait, blockSend s k a 0 op [] age)
/-- The registers after a word (R319): gd, gs unless it is the fill value, and gn. The last word advances pc, unless an asynchronous
cause is to be taken now, with pc on the instruction; an offset that reaches 0x10000 with words left faults CAP at that word. -/
def blockNext (s : State) (k : Nat) (p : BitVec 32) : State :=
  let c := getCell s k
  let fill := decide (pOp p = 0x71)
  let dst := baseCap s k c (pf p 8)
  let src := baseCap s k c (pf p 4)
  let d := (getG c (pf p 20)).val
  let x := (getG c (pf p 16)).val
  let n := (getG c (pf p 12)).val
  let c := setG c (pf p 20) (dataWord (d + 1))
  let c := if fill then c else setG c (pf p 16) (dataWord (x + 1))
  let c := { setG c (pf p 12) (dataWord (n - 1)) with hold := false, wait := .none }
  let s := setCell s k c
  if n = 1 then (if asyncOpen s k ∧ (asyncCause s k).isSome = true then s else setCell s k (advance c))
  else if fill = false ∧ x = 0xFFFF then syncFault s k ⟨.cap, some (BitVec.ofNat 32 (src.base + 0x10000))⟩ .read
  else if d = 0xFFFF then syncFault s k ⟨.cap, some (BitVec.ofNat 32 (dst.base + 0x10000))⟩ .write
  else s
/-- The permissions a block instruction needs on its destination (R318). -/
def blockNeed (p : BitVec 32) : Nat := if pOp p = 0x72 then pREAD + pWRITE else pWRITE
/-- The word is there: it is written, never posted (R319), and the registers follow. -/
def blockWrite (s : State) (k : Nat) (p : BitVec 32) (w : Word) : State :=
  let c := getCell s k
  match capCheck (baseCap s k c (pf p 8)) (getG c (pf p 20)).val.toNat 1 (blockNeed p) with
  | .error f => blockFault s k f .write none
  | .ok a =>
    if swapHolds s a then s
    else
      let (age, s) := memGrant s k
      match egressStore s (masterOfKey s k) a [w] with
      | some (f, note) => blockFault s k f .write note
      | none =>
        if isLocal s k a then
          match codeTarget s a 1 with
          | some x => blockFault s k ⟨.tag, some (BitVec.ofNat 32 x)⟩ .write none
          | none => blockNext (writeMem s (physAddr s a) w) k p
        else blockSend s k a 1 .blockWrite [w] age
/-- What MFEED writes: the exclusive-OR, SECRET if either word is (R318). -/
def feedWord (x y : Word) : Word := ⟨if x.tag = .secret ∨ y.tag = .secret then .secret else .data, x.val ^^^ y.val⟩
/-- The source word is there: MFEED reads its destination next (log entry 43), the others write. -/
def blockSource (s : State) (k : Nat) (p : BitVec 32) (x : Word) : State :=
  if pOp p = 0x72 then
    let c := getCell s k
    match blockRead s k (baseCap s k c (pf p 8)) (getG c (pf p 20)).val.toNat (blockNeed p) (.blockDst x) with
    | (.wait, s) => s
    | (.fault f acc note, s) => blockFault s k f acc note
    | (.word y, s) => blockWrite s k p (feedWord x y)
  else blockWrite s k p x
/-- A block instruction goes on when its reply has come. -/
def blockResume (s : State) (k a : Nat) (op : MemOp) (w : Word) : State :=
  match fetch s k with
  | .fault _ _ => s
  | .word p =>
    match op with
    | .blockWrite => blockNext s k p
    | .blockDst x => if blockTagOk w then blockWrite s k p (feedWord x w) else blockFault s k ⟨.tag, some (BitVec.ofNat 32 a)⟩ .read none
    | _ => if blockTagOk w then blockSource s k p w else blockFault s k ⟨.tag, some (BitVec.ofNat 32 a)⟩ .read none

/-! ### Loads and stores -/

/-- A memory access whose parts are all answered: its fault, or its effect on the core. -/
def finishMem (s : State) (k a : Nat) (w : MemWait) : State :=
  let s := modCell s k (fun c => { c with wait := .none })
  let acc := match w.op with
    | .storeG => AccessType.write
    | .storeC => AccessType.write
    | .blockWrite => AccessType.write
    | _ => AccessType.read
  match w.fault with
  | some f => syncFault s k f acc
  | none =>
    let word := fun i => tget (fun _ => zeroWord) w.data i
    let load := fun n => match commitLoad (getCell s k) w.op a ((List.range n).map word) with
      | .ok c => setCell s k c
      | .error f => syncFault s k f acc
    match w.op with
    | .loadG _ => load 1
    | .loadC _ => load 4
    | .storeG => load 0
    | .storeC => load 0
    | op => blockResume s k a op (word 0)

/-- Issue one part of a load, judged by itself (R30): local words are read, others are asked for over the mesh. -/
def loadPart (k a : Nat) (st : State × MemWait) (part : Nat × Nat) : State × MemWait :=
  let (s, w) := st
  let (o, n) := part
  let (age, s) := memGrant s k
  match egress s (masterOfKey s k) (a + o) n false false with
  | some (f, note) => (noteEgress s note, { w with fault := w.fault <|> some f })
  | none =>
    if isLocal s k (a + o) then
      (s, { w with data := w.data ++ (List.range n).map (fun i => (o + i, ramWord s (physAddr s (a + o + i)))) })
    else (newXfer s (newPart s k 0 a o [] n age), { w with parts := w.parts + 1 })

/-- An access whose parts are issued: at once complete, or waiting for its replies. -/
def partsIssued (k a : Nat) (st : State × MemWait) : State :=
  if st.2.parts = 0 then finishMem st.1 k a st.2 else modCell st.1 k (fun c => { c with wait := .mem st.2 })
/-- A load of n words at a waddr; it waits for the core's own posted stores to any of them (R326). -/
def issueLoad (s : State) (k : Nat) (op : MemOp) (a n : Nat) : State :=
  if (∃ i < n, postedAt s k (a + i) = true) ∨ swapHolds s a = true then s
  else partsIssued k a ((splitParts a n).foldl (loadPart k a) (s, ⟨op, 0, [], none⟩))

/-- Issue one part of a store: a refused part is not written, the other part stands (R313). -/
def storePart (k a : Nat) (ws : List Word) (st : State × MemWait) (part : Nat × Nat) : State × MemWait :=
  let (s, w) := st
  let (o, n) := part
  let sub := (ws.drop o).take n
  let (age, s) := memGrant s k
  match egressStore s (masterOfKey s k) (a + o) sub with
  | some (f, note) => (noteEgress s note, { w with fault := w.fault <|> some f })
  | none =>
    if isLocal s k (a + o) then
      match codeTarget s (a + o) n with
      | some x => (s, { w with fault := w.fault <|> some ⟨.tag, some (BitVec.ofNat 32 x)⟩ })
      | none => (writeMems s (physAddr s (a + o)) sub, w)
    else (newXfer s (newPart s k 1 a o sub n age), { w with parts := w.parts + 1 })

/-- A store of words at a waddr. -/
def issueStore (s : State) (k : Nat) (op : MemOp) (a : Nat) (ws : List Word) : State :=
  if swapHolds s a then s
  else partsIssued k a ((splitParts a ws.length).foldl (storePart k a ws) (s, ⟨op, 0, [], none⟩))

/-- Whether an ST or STX to a waddr is posted (R376). -/
def posts (s : State) (k a : Nat) : Bool :=
  decide (mode s = mSERVICE) && !isSup k &&
  (match windowOf a with
  | some (n, _) => decide (n ≠ logicalOf s (k / 16))
  | none => false)
  && bit (getReg s (R.MSH_POST_EN (logicalOf s (k / 16) / 16))) (logicalOf s (k / 16) % 16)

/-- A posted store: it leaves the cell at once; a ninth unacknowledged one waits at the cell, as a waiting instruction (R305, R349,
R375). -/
def issuePosted (s : State) (k a : Nat) (w : Word) : State :=
  if swapHolds s a then s
  else if 8 ≤ (getCell s k).posted then modCell s k (fun c => { c with hold := false })
  else
    let (age, s) := memGrant s k
    modCell (newXfer s (newPart s k 2 a 0 [w] 1 age)) k (fun c => advance { c with posted := c.posted + 1 })

/-- A store of one word by ST or STX. -/
def storeWord (s : State) (k a : Nat) (w : Word) : State :=
  if posts s k a then issuePosted s k a w else issueStore s k .storeG a [w]

/-- The base selector and register fields of MEM and MEMX are legal; `capReg` says that r names a c register (R302). -/
def memLegal (core : Core) (capReg : Bool) (p : BitVec 32) : Bool :=
  baseLegal (if core.val = 512 then supKey else 0) (pf p 16) && (!capReg || decide (pf p 20 < 8))

/-- LD r, [base + imm16] (R311). -/
def execLd (core : Core) (s : State) : Host.Outcome State Fault Refusal :=
  .next (cellInstr s core (fun p => decide (pOp p = 0x40)) (memLegal core false) fun s k c p =>
    match capCheck (baseCap s k c (pf p 16)) (pImm p).toNat 1 pREAD with
    | .error f => syncFault s k f .read
    | .ok a => issueLoad s k (.loadG (pf p 20)) a 1)

/-- ST r, [base + imm16] (R311). -/
def execSt (core : Core) (s : State) : Host.Outcome State Fault Refusal :=
  .next (cellInstr s core (fun p => decide (pOp p = 0x41)) (memLegal core false) fun s k c p =>
    match capCheck (baseCap s k c (pf p 16)) (pImm p).toNat 1 pWRITE with
    | .error f => syncFault s k f .write
    | .ok a => storeWord s k a (getG c (pf p 20)))

/-- The offset of LDX and STX: g[x] + imm12, without wrap (R311); a SECRET g[x] is a TAG fault (R303 check 1). -/
def xOffset (c : Cell) (p : BitVec 32) : Option Nat :=
  if (getG c (pf p 12)).tag = .data then some ((getG c (pf p 12)).val.toNat + p.toNat % 4096) else none

/-- LDX r, [base + x + imm12] (R311). -/
def execLdx (core : Core) (s : State) : Host.Outcome State Fault Refusal :=
  .next (cellInstr s core (fun p => decide (pOp p = 0x42)) (memLegal core false) fun s k c p =>
    match xOffset c p with
    | none => syncFault s k ⟨.tag, none⟩ .tag
    | some off =>
      match capCheck (baseCap s k c (pf p 16)) off 1 pREAD with
      | .error f => syncFault s k f .read
      | .ok a => issueLoad s k (.loadG (pf p 20)) a 1)

/-- STX r, [base + x + imm12] (R311). -/
def execStx (core : Core) (s : State) : Host.Outcome State Fault Refusal :=
  .next (cellInstr s core (fun p => decide (pOp p = 0x43)) (memLegal core false) fun s k c p =>
    match xOffset c p with
    | none => syncFault s k ⟨.tag, none⟩ .tag
    | some off =>
      match capCheck (baseCap s k c (pf p 16)) off 1 pWRITE with
      | .error f => syncFault s k f .write
      | .ok a => storeWord s k a (getG c (pf p 20)))

/-- CLD cd, [base + imm16]: four words, READ and CAPLOAD (R313). -/
def execCld (core : Core) (s : State) : Host.Outcome State Fault Refusal :=
  .next (cellInstr s core (fun p => decide (pOp p = 0x60)) (memLegal core true) fun s k c p =>
    match capCheck (baseCap s k c (pf p 16)) (pImm p).toNat 4 (pREAD + pCAPLOAD) with
    | .error f => syncFault s k f .read
    | .ok a => issueLoad s k (.loadC (pf p 20)) a 4)

/-- CST cs, [base + imm16]: the four fragments with their tags, WRITE and CAPSTORE (R313). -/
def execCst (core : Core) (s : State) : Host.Outcome State Fault Refusal :=
  .next (cellInstr s core (fun p => decide (pOp p = 0x61)) (memLegal core true) fun s k c p =>
    match capCheck (baseCap s k c (pf p 16)) (pImm p).toNat 4 (pWRITE + pCAPSTORE) with
    | .error f => syncFault s k f .write
    | .ok a => issueStore s k .storeC a ((List.range 4).map (frag (getC c (pf p 20)))))

/-! ### CALLM and RETM (R316, R317) -/

/-- The registers a mask names, g0-g14 ascending, then lk as 15. -/
def maskRegs (m : BitVec 16) : List Nat := those 16 (bit m)

/-- The grants a frame of DS takes, one for each granule it lies in (R30, R378). -/
def frameGrants (s : State) (k a n : Nat) : State :=
  (List.range ((a + n - 1) / 16 + 1 - a / 16)).foldl (fun s _ => (memGrant s k).2) s
/-- CALLM target, mask16: every check for the whole frame, then the frame, g15 and pc (R316). -/
def execCallm (core : Core) (s : State) : Host.Outcome State Fault Refusal :=
  .next (cellInstr s core (fun p => decide (0xF0 ≤ pOp p)) (fun _ => true) fun s k c p =>
    let mask := pImm p
    let regs := maskRegs mask
    let m := regs.length
    let sp := getG c 15
    let vals := regs.map (fun i => if i = 15 then dataWord c.lk else getG c i)
    let frame := [dataWord mask, dataNat ((pcIndex (getPc c) + 1) % 4096)] ++ vals
    if sp.tag ≠ .data then syncFault s k ⟨.tag, none⟩ .tag
    else if sp.val.toNat < m + 2 then syncFault s k ⟨.cap, none⟩ .write
    else
      match capCheck (baseCap s k c 8) (sp.val.toNat - m - 2) (m + 2) pWRITE with
      | .error f => syncFault s k f .write
      | .ok a =>
        match egressStore s (masterOfKey s k) a frame with
        | some (f, note) => syncFault (noteEgress s note) k f .write
        | none =>
          match codeTarget s a (m + 2) with
          | some x => syncFault s k ⟨.tag, some (BitVec.ofNat 32 x)⟩ .write
          | none =>
            let s := writeMems (frameGrants s k a (m + 2)) (physAddr s a) frame
            setCell s k (jump (setG c 15 (dataNat (sp.val.toNat - m - 2))) (p.toNat / 65536 % 4096)))

/-- The words of DS at an offset, or the fault of reading them (R303). -/
def readDs (s : State) (k : Nat) (c : Cell) (off n : Nat) : Except (State × SyncFault) (List Word) :=
  match capCheck (baseCap s k c 8) off n pREAD with
  | .error f => .error (s, f)
  | .ok a =>
    match egress s (masterOfKey s k) a n false false with
    | some (f, note) => .error (noteEgress s note, f)
    | none => .ok (readMems s (physAddr s a) n)

/-- Put the words of a frame back into the registers a mask names (R317). -/
def restoreRegs (c : Cell) : List Nat → List Word → Cell
  | i :: is, w :: ws => restoreRegs (if i = 15 then { c with lk := w.val } else setG c i w) is ws
  | _, _ => c

/-- RETM: every check first, then the registers, g15 and pc (R317). -/
def execRetm (core : Core) (s : State) : Host.Outcome State Fault Refusal :=
  .next (cellInstr s core (fun p => decide (pOp p = 0x54)) (fun p => decide (p.toNat % 2 ^ 24 = 0)) fun s k c _ =>
    let sp := getG c 15
    if sp.tag ≠ .data then syncFault s k ⟨.tag, none⟩ .tag
    else match readDs s k c sp.val.toNat 2 with
      | .error (s, f) => syncFault s k f .read
      | .ok ws =>
        let mw := ws.getD 0 zeroWord
        let ri := ws.getD 1 zeroWord
        let regs := maskRegs mw.val
        let at_ := fun i => some (BitVec.ofNat 32 ((baseCap s k c 8).base + sp.val.toNat + i))
        if mw.tag ≠ .data then syncFault s k ⟨.tag, at_ 0⟩ .tag
        else if ri.tag ≠ .data then syncFault s k ⟨.tag, at_ 1⟩ .tag
        else match readDs s k c sp.val.toNat (regs.length + 2) with
          | .error (s, f) => syncFault s k f .read
          | .ok all =>
            let vals := all.drop 2
            match (List.zip regs vals).findIdx? (fun q =>
                if q.1 = 15 then decide (q.2.tag ≠ .data) else decide (q.2.tag ≠ .data) && decide (q.2.tag ≠ .secret)) with
            | some i => syncFault s k ⟨.tag, at_ (i + 2)⟩ .tag
            | none =>
            if 4096 ≤ ri.val.toNat then syncFault s k ⟨.illegal, none⟩ .fetch
            else
              let c := restoreRegs c regs vals
              let s := frameGrants s k ((baseCap s k c 8).base + sp.val.toNat) (regs.length + 2)
              setCell s k (jump (setG c 15 (dataNat (sp.val.toNat + regs.length + 2))) ri.val.toNat))

/-! ### FENCE and acknowledgement of posted stores (R305) -/

/-- The core after FENCE completes: V tells whether a posted store was refused since the last FENCE. -/
def fenceDone (c : Cell) : Cell :=
  advance { setFlags c ⟨false, false, false, c.postRefused, false⟩ with postRefused := false, wait := .none }

/-- A posted store is acknowledged or refused; the last one completes a waiting FENCE (R305, R375). -/
def postedEnd (s : State) (k : Nat) (refused : Bool) : State :=
  modCell s k (fun c =>
    let c := { c with posted := c.posted - 1, postRefused := c.postRefused || refused }
    if c.wait = .fence ∧ c.posted = 0 then fenceDone c else c)

/-- FENCE (R305): waits while posted stores are unacknowledged. -/
def execFence (core : Core) (s : State) : Host.Outcome State Fault Refusal :=
  .next (cellInstr s core (fun p => decide (pOp p = 3)) (fun p => decide (p.toNat % 2 ^ 24 = 0)) fun s k c _ =>
    if c.posted = 0 then setCell s k (fenceDone c) else setCell s k { c with wait := .fence, hold := false })

end Sys2Proof.Machine
end

