-- ==== Sys2Proof/Machine/Route.lean ====
section
/-!
DEFINITION. How transfers cross the grid (R20, R355, R356): where each waits, what a router output grants (R377, R380), and the way of
a reply (R386).
-/
namespace Sys2Proof.Machine

/-- The router and input where a core's transfers enter the grid (R20, R356). -/
def coreRouter (k : Nat) : Nat := if k = supKey then 14 else routerOfPos (k / 16)
/-- Whether a transfer is answered. -/
def isReply (t : Transfer) : Bool :=
  match t.phase with
  | .reply _ => true
  | _ => false
/-- The outputs a transfer takes, by the position its address was decoded to: there, or once it is answered back. -/
def xferRoute (s : State) (t : Transfer) : List (Nat × Nat) :=
  let (d, last) := endpointOf s (waddrNow s t.addr.toNat t.pos)
  if isReply t then routeFrom (coreRouter t.core) 4 12 d else routeFrom d last 12 (coreRouter t.core)
/-- Where a transfer waits: the router output and the input it came by. -/
def xferHead (s : State) (t : Transfer) : Option (Nat × Nat × Nat) :=
  let l := xferRoute s t
  match l[t.hop]? with
  | none => none
  | some (r, o) =>
    some (r, o, if t.hop = 0 then (if isReply t then (endpointOf s (waddrNow s t.addr.toNat t.pos)).2 else 4)
      else inputAfter (l.getD (t.hop - 1) (0, 0)).2)
/-- Whether a transfer is a request on its way: a posted write that the table refuses never leaves (R375); one that has left is not
judged again (R386). -/
def travels (s : State) (t : Transfer) : Bool :=
  decide (t.phase = .request) &&
    !(decide (t.ty = 2) && !t.judged && (egressStore s t.master t.addr.toNat t.words).isSome)
/-- Whether the input buffer that a transfer goes to next takes it: each class has two places at every router input, and what leaves the
grid needs none (R355). -/
def roomAhead (s : State) (t : Transfer) : Bool :=
  match xferHead s { t with hop := t.hop + 1 } with
  | none => true
  | some (r, _, i) =>
    decide ((s.mesh.xfers.filter (fun q => match q.2 with
      | some u => (if isReply t then isReply u else travels s u) && (match xferHead s u with
        | some (x, _, j) => decide (x = r) && decide (j = i)
        | none => false)
      | none => false)).length < 2)
/-- Whether the output of a router is held by a transfer of another master, and which goes on (R383). -/
def canMove (s : State) (t : Transfer) : Bool :=
  match xferHead s t with
  | some (r, o, _) => !outputHeld s t.master r o && roomAhead s t
  | none => false
/-- The reply that has waited longest at a router output. -/
def replyAt (s : State) (r o : Nat) : Option Nat :=
  s.mesh.replies.find? (fun n => match getXfer s n with
    | some t => match xferHead s t with
      | some (x, y, _) => decide (x = r) && decide (y = o)
      | none => false
    | none => false)
/-- The reply that an output sends now, if one is ready: it goes before every request (R355). -/
def readyReply (s : State) (r o : Nat) : Option Nat :=
  (replyAt s r o).filter (fun n => ((getXfer s n).map (canMove s)).getD false)
/-- A reply goes on by one output, and stands behind the replies that came to the next one before it. -/
def moveReply (s : State) (n : Nat) : State :=
  match getXfer s n with
  | none => s
  | some t =>
    let s := setXfer s n (some { t with hop := t.hop + 1 })
    { s with mesh := { s.mesh with replies := s.mesh.replies.erase n ++ [n] } }
/-- The requests at a router output that can go on, one for each input: the one that was sent first stands at the head. -/
def outputHeads (s : State) (r o : Nat) : List (Nat × Nat) :=
  ((List.range 6).filterMap (fun i =>
    (s.mesh.xfers.find? (fun q => match q.2 with
      | some t => travels s t && decide (xferHead s t = some (r, o, i))
      | none => false)).map (fun q => (i, q.1)))).filter (fun q => ((getXfer s q.2).map (roomAhead s)).getD false)
/-- One grant at a router output among the requests there and one more that is no transfer, as (input, AGE), if no transfer is before it
at its input: the input granted. A head that is granted goes on by one output, the others age (R377, R380). -/
def hopGrantWith (s : State) (r o : Nat) (extra : Option (Nat × Nat)) : Option Nat × State :=
  let heads := outputHeads s r o
  let age := fun n => ((getXfer s n).map (fun t => t.age.toNat)).getD 0
  let reqs := (List.range 6).filterMap (fun i =>
    ((heads.find? (fun q => q.1 == i)).map (fun q => (i, age q.2))).or (extra.filter (fun q => q.1 == i)))
  match outputGrant s r o reqs with
  | (none, s) => (none, s)
  | (some w, s) => (some w, heads.foldl (fun s q => match getXfer s q.2 with
      | none => s
      | some t => setXfer s q.2 (some (if q.1 = w then { t with hop := t.hop + 1, judged := true }
          else { t with age := BitVec.ofNat 8 (min 255 (t.age.toNat + 1)) }))) s)
/-- A request goes on until it has passed its last output or can go no further: an output another master holds (R383), or an input
buffer that is full. Each round is one transfer sent; `rounds` bounds them: every transfer passes at most 12 outputs. -/
def travel (s : State) (n : Nat) : Nat → State
  | 0 => s
  | rounds + 1 =>
    match getXfer s n with
    | none => s
    | some t =>
      match xferHead s t with
      | none => s
      | some (r, o, _) =>
        match readyReply s r o with
        | some m => travel (moveReply s m) n rounds
        | none =>
          if outputHeld s t.master r o ∨ (outputHeads s r o).isEmpty then s else travel (hopGrantWith s r o none).2 n rounds
/-- A reply goes back until it has passed its last output or can go no further; replies that came to an output before it go first. -/
def travelBack (s : State) (n : Nat) : Nat → State
  | 0 => s
  | rounds + 1 =>
    match getXfer s n with
    | none => s
    | some t =>
      match xferHead s t with
      | none => s
      | some (r, o, _) =>
        match readyReply s r o with
        | some m => travelBack (moveReply s m) n rounds
        | none => s
/-- Enough rounds for every transfer to pass its whole route. -/
def allRounds (s : State) : Nat := 12 * (s.mesh.xfers.length + 1)
/-- A skim request or random-number unit (R355) passes one output: replies first, then as the arbiter chooses among it and the transfers
that wait there. Its AGE rises at each grant it loses; `rounds` bounds them. -/
def passOutput (s : State) (r o inp : Nat) : Nat → Nat → State × Nat
  | age, 0 => (s, age)
  | age, rounds + 1 =>
    match readyReply s r o with
    | some m => passOutput (moveReply s m) r o inp age rounds
    | none =>
      let behind := (outputHeads s r o).any (fun q => q.1 == inp)
      match hopGrantWith s r o (some (inp, age)) with
      | (some w, s) => if w = inp ∧ behind = false then (s, age)
          else passOutput s r o inp (min 255 (age + 1)) rounds
      | (none, s) => (s, age)
/-- It passes every output of its route. The input is where it comes from. -/
def grantRoute (s : State) (age : Nat) : List (Nat × Nat) → Nat → State
  | [], _ => s
  | (r, o) :: rest, inp =>
    let (s, age) := passOutput s r o inp age (allRounds s)
    grantRoute s age rest (inputAfter o)

end Sys2Proof.Machine
end

