-- ==== Sys2Proof/Machine/Vat.lean ====
section
/-!
DEFINITION. The deque engine (R195 to R199), skims (R201 to R203), the vat's control registers (R186, R187, R325), the
loader (R189 to R192), the watchdog (R210).
-/
namespace Sys2Proof.Machine

/-! ### Deques -/

/-- Cell k's deque in the vat at p, head (newest) first. -/
def deque (s : State) (p k : Nat) : List Nat := tget (fun _ => []) (getVat s p).deques k
/-- Set cell k's deque. -/
def setDeque (s : State) (p k : Nat) (l : List Nat) : State :=
  modVat s p (fun v => { v with deques := tset (fun _ => []) v.deques k l })
/-- Word i of ticket t (R194). -/
def ticketWord (s : State) (p t i : Nat) : BitVec 16 := (readMem s (ticketBase p t + i)).val
/-- Whether a ticket is pinned. -/
def pinned (s : State) (p t : Nat) : Bool := bit (ticketWord s p t 1) 15
/-- Set STOLEN in a ticket (R194). -/
def setStolen (s : State) (p t : Nat) : State :=
  let w := readMem s (ticketBase p t + 1)
  writeMem s (ticketBase p t + 1) { w with val := putFld w.val 14 14 1 }
/-- ENQ_TIME of a ticket (R194). -/
def enqTime (s : State) (p t : Nat) : Nat := (ticketWord s p t 6).toNat + 65536 * (ticketWord s p t 7).toNat
/-- Whether a ticket was pushed longer ago than VAT_TAIL_AGE (R196); 0 disables the rule. -/
def tailOld (s : State) (p t : Nat) : Bool :=
  let lim := (getReg s (R.VAT_TAIL_AGE p)).toNat
  decide (lim ≠ 0) && decide (lim < (s.bat.timeBase.toNat % 2 ^ 32 + 2 ^ 32 - enqTime s p t) % 2 ^ 32)
/-- The oldest unpinned ticket of a deque: the one nearest the tail. -/
def oldestUnpinned (s : State) (p k : Nat) : Option Nat := (deque s p k).reverse.find? (fun t => !pinned s p t)
/-- Remove a ticket from a deque. -/
def removeTicket (s : State) (p k t : Nat) : State := setDeque s p k ((deque s p k).erase t)

/-- TAKE by cell k (R196, R197): its own deque's head, or the tail by age; else a steal from the next deques. -/
def dequeTake (s : State) (p k : Nat) : Option Nat × State :=
  match deque s p k with
  | h :: rest =>
    let tail := (h :: rest).getLastD h
    let t := if tailOld s p tail then tail else h
    (some t, removeTicket s p k t)
  | [] =>
    let order := (List.range 15).map (fun i => (k + 1 + i) % 16)
    match order.find? (fun j => !(getCell s (p * 16 + j)).halted && (oldestUnpinned s p j).isSome) with
    | none => (none, s)
    | some j =>
      match oldestUnpinned s p j with
      | none => (none, s)
      | some t => (some t, setStolen (removeTicket s p j t) p t)

/-- A ticket, or nothing found, is given to a cell standing at TAKE: g and the flags are written and pc advances
(R321). -/
def giveTicket (s : State) (p k : Nat) (t : Option Nat) : State :=
  let key := p * 16 + k
  match fetch s key with
  | .fault _ _ => s
  | .word w =>
    modCell s key (fun c =>
      let c := { c with wait := .none, ticket := t <|> c.ticket }
      advance (setFlags (setG c (pf w 20) (dataNat (t.getD 0xFFFF))) (jobFlags t.isNone)))

/-- Repeat the TAKE of one waiting cell (R198). -/
def serveWaiter (p : Nat) (s : State) (k : Nat) : State :=
  match dequeTake s p k with
  | (none, s) => s
  | (some t, s) =>
    let s := modVat s p (fun v => { v with waiters := v.waiters.filter (fun x => x != k) })
    giveTicket s p k (some t)
/-- Repeat the TAKE of every waiting cell, longest waiting first (R198). -/
def serveWaiters (s : State) (p : Nat) : State := (getVat s p).waiters.foldl (serveWaiter p) s

/-- VAT_DQ_RESULT. -/
def setResult (s : State) (p : Nat) (valid full : Bool) (t : Nat) : State :=
  setReg s (R.VAT_DQ_RESULT p) (BitVec.ofNat 16 (b2n valid * 0x8000 + b2n full * 0x4000 + t))

/-- PUSH(k, t): at the head, or refused when the deque is full or ADMIT is 0; it ends a skim back-off (R195, R203). -/
def dqPush (s : State) (p k t : Nat) : State :=
  if !admits s p || decide (64 ≤ (deque s p k).length) then setResult s p false true 0
  else
    let s := setDeque (setResult s p true false 0) p k (t :: deque s p k)
    serveWaiters (modVat s p (fun v => { v with backoff := false, drainedSeen := false })) p

/-- DRAIN(k): the oldest unpinned ticket (R195). -/
def dqDrain (s : State) (p k : Nat) : State :=
  match oldestUnpinned s p k with
  | none => serveWaiters (setResult s p false false 0) p
  | some t => serveWaiters (setResult (removeTicket s p k t) p true false t) p

/-- DONE(t): appended to the completion queue; COMPLETION when it was empty (R195, R220). -/
def cqAppend (s : State) (p t : Nat) : State :=
  let s := if (getVat s p).cq = [] then raiseVat s p 0 else s
  modVat s p (fun v => { v with cq := v.cq ++ [t] })

/-- A cell's DONE is accepted: its ticket is appended and pc advances. -/
def acceptDone (s : State) (p k t : Nat) : State :=
  modCell (cqAppend s p t) (p * 16 + k) (fun c => advance { c with wait := .none, ticket := none })

/-- Read VAT_CQ_POP: the oldest completion leaves the queue, and the lowest-numbered cell waiting with DONE is accepted
(R195; the order among waiting cells is a DESIGN CHOICE, log entry 12). -/
def cqPop (s : State) (p : Nat) : BitVec 16 × State :=
  match (getVat s p).cq with
  | [] => (0, s)
  | t :: rest =>
    let s := modVat s p (fun v => { v with cq := rest })
    let s := match (List.range 16).find? (fun k => decide ((getCell s (p * 16 + k)).wait = .doneFull)) with
      | none => s
      | some k =>
        match fetch s (p * 16 + k) with
        | .fault _ _ => s
        | .word w => acceptDone s p k (getG (getCell s (p * 16 + k)) (pf w 20)).val.toNat
    (BitVec.ofNat 16 (0x8000 + t), s)

/-- Stop a waiting instruction of a cell: it stands again before it and is not waiting (R323, R325). -/
def stopWaiting (s : State) (key : Nat) : State :=
  match (getCell s key).wait with
  | .none => s
  | .mem _ => s
  | _ =>
    let s := modCell s key (fun c => { c with wait := .none })
    modVat s (key / 16) (fun v => { v with waiters := v.waiters.filter (fun x => x != key % 16) })

/-- Whether every running cell that is not halted waits in TAKE (R201). -/
def allWaiting (s : State) (p : Nat) : Bool :=
  (List.range 16).all (fun k => !cellRun s p k || (getCell s (p * 16 + k)).halted || decide (k ∈ (getVat s p).waiters))
/-- Write VAT_CELL_RUN: cells whose bit is cleared stop (R325). A cell that starts and does not wait ends DRAINED (R212), whose next
rise is an event again (R220). -/
def writeCellRun (s : State) (p : Nat) (v : BitVec 16) : State :=
  let s := setReg s (R.VAT_CELL_RUN p) v
  let s := if allWaiting s p then s else modVat s p (fun u => { u with drainedSeen := false })
  (those 16 (fun k => !bit v k)).foldl (fun s k => stopWaiting s (p * 16 + k)) s

/-! ### Skims (R201 to R203) -/

/-- The neighbour position in a direction, if there is one to ask (R201). -/
def neighbour (s : State) (p d : Nat) : Option Nat :=
  let r := routerOfPos p
  if outputExists r d && !bit (getReg s (R.VAT_SKIM_CFG p)) (8 + d) then posOfRouter (stepDir r d) else none
/-- The first direction from d on that has a neighbour to ask. -/
def nextDir (s : State) (p d : Nat) : Option Nat := (List.range 4).find? (fun e => decide (d ≤ e) && (neighbour s p e).isSome)

/-- Whether a ticket index of a vat's pool is in use. -/
def ticketUsed (s : State) (p t : Nat) : Bool :=
  (List.range 16).any (fun k => decide (t ∈ deque s p k) || decide ((getCell s (p * 16 + k)).ticket = some t))
    || decide (t ∈ (getVat s p).cq) || (match (getVat s p).skim with
      | some q => decide (q.ticket = t)
      | none => false)
/-- The lowest free ticket index (R201 names a free one; which is a DESIGN CHOICE, log entry 12). -/
def freeTicket (s : State) (p : Nat) : Option Nat := (List.range 1024).find? (fun t => !ticketUsed s p t)

/-- Whether a vat may send a skim request, but for one outstanding (R201). -/
def maySkim (s : State) (p : Nat) : Bool :=
  powered s p && admits s p && getBit s (R.VAT_SKIM_CFG p) 15 && allWaiting s p

/-- A round with no neighbour left: SKIM_DRY and the back-off (R203, R220). -/
def skimDry (s : State) (p : Nat) : State :=
  raiseVat (modVat s p (fun v => { v with skim := none, backoff := true })) p 5

/-- The neighbour tried next, or the round is dry. The request crosses to the neighbour (R355), and while it is outstanding the vat is
not drained (R212, R220). -/
def skimTry (s : State) (p t d : Nat) : State :=
  match nextDir s p d with
  | none => skimDry s p
  | some e =>
    let r := routerOfPos p
    let s := grantRoute s 0 [(r, e), (stepDir r e, 4)] 4
    modVat s p (fun v => { v with skim := some ⟨e, t, none⟩, drainedSeen := false })

/-- SKIM_REQUEST (R201). -/
def execSkimRequest (vat : VatId) (s : State) : Host.Outcome State Fault Refusal :=
  let p := phys s vat.val
  let v := getVat s p
  if maySkim s p && decide (v.skim = none) && !v.backoff
  then match freeTicket s p with
    | none => .next s
    | some t => .next (skimTry s p t 0)
  else .next s

/-- How many unpinned tickets a deque holds. -/
def unpinnedCount (s : State) (p k : Nat) : Nat := ((deque s p k).filter (fun t => !pinned s p t)).length

/-- SKIM_SERVE (R202): the neighbour that `vat`'s outstanding skim request has reached serves it; while its boundary is HOLD the
request waits there (R214). The two halves of the ticket copy travel back as requests (R30, R355, R359). -/
def execSkimServe (vat : VatId) (s : State) : Host.Outcome State Fault Refusal :=
  let p := phys s vat.val
  match (getVat s p).skim with
  | none => .next s
  | some q =>
    if q.reply ≠ none then .next s
    else match neighbour s p q.dir with
      | none => .next (modVat s p (fun v => { v with skim := some { q with reply := some none } }))
      | some n =>
        let empty := modVat s p (fun v => { v with skim := some { q with reply := some none } })
        if powered s n = true ∧ boundary s n = 1 then .next s
        else if !powered s n || !admits s n || decide (boundary s n ≠ 0) then .next empty
        else match greatest (unpinnedCount s n) (List.range 16) with
          | none => .next empty
          | some k =>
            match oldestUnpinned s n k with
            | none => .next empty
            | some t =>
              let s := setStolen (removeTicket s n k t) n t
              let ws := readMems s (ticketBase n t) 32
              let s := countFld s (R.VAT_SKIM_COUNT n) 15 8
              let back := [(routerOfPos n, inputAfter q.dir), (routerOfPos p, 4)]
              let s := grantRoute (grantRoute s 0 back 4) 0 back 4
              .next (modVat s p (fun v => { v with skim := some { q with reply := some (some ws) } }))

/-- The running cell of a vat that holds the fewest tickets, the lowest number on a tie (R205). -/
def fewest (s : State) (p : Nat) : Option Nat :=
  greatest (fun k => 64 - (deque s p k).length)
    (those 16 (fun k => cellRun s p k && !(getCell s (p * 16 + k)).halted))

/-- SKIM_REPLY (R202): the ticket goes to the longest-waiting cell, or where none waits onto a deque as R205 places an
unpinned ticket (R219 row 1; DESIGN CHOICE, log entry 12); an empty reply tries the next neighbour
while the vat may still send a request (R201). -/
def execSkimReply (vat : VatId) (s : State) : Host.Outcome State Fault Refusal :=
  let p := phys s vat.val
  match (getVat s p).skim with
  | none => .next s
  | some q =>
    match q.reply with
    | none => .next s
    | some none => .next (if maySkim s p then skimTry s p q.ticket (q.dir + 1) else modVat s p (fun v => { v with skim := none }))
    | some (some ws) =>
      let s := countFld s (R.VAT_SKIM_COUNT p) 7 0
      let s := modVat (writeMems s (ticketBase p q.ticket) ws) p (fun v => { v with skim := none, drainedSeen := false })
      match (getVat s p).waiters with
      | k :: rest => .next (giveTicket (modVat s p (fun v => { v with waiters := rest })) p k (some q.ticket))
      | [] =>
        let k := (fewest s p).getD 0
        .next (setDeque s p k (q.ticket :: deque s p k))

/-- SKIM_BACKOFF_END (R203). -/
def execSkimBackoffEnd (vat : VatId) (s : State) : Host.Outcome State Fault Refusal :=
  .next (modVat s (phys s vat.val) (fun v => { v with backoff := false }))

/-! ### Control registers -/

/-- A vat whose power is cleared loses its memories, cells, units and their registers; the VAT_ instance stays (R29), and the
transfers of its cells have nobody to return to (log entry 42). -/
def vatOff (s : State) (p : Nat) : State :=
  let drop := fun (q : Nat × Option Transfer) => (q.1, q.2.map (fun t =>
    if t.core / 16 = p ∧ t.core ≠ supKey then { t with abandoned := true } else t))
  let regs := [0x30200000, 0x30300000, 0x30400000].foldl (fun m b => tclear m (b + 0x1000 + p * 0x1000) (b + 0x2000 + p * 0x1000)) s.regs
  let s := { s with regs := regs, cells := tclear s.cells (16 * p) (16 * p + 16),
                    mesh := { s.mesh with xfers := s.mesh.xfers.map drop },
                    vats := tset vatReset s.vats p { vatReset p with noise := { (vatReset p).noise with state := 0 } } }
  scrub s (windowBase p) (windowBase (p + 1))
/-- Write VAT_CTRL (R221): BOUNDARY 3 is stored as 2; CLK_RUN is not cleared while BOUNDARY is OPEN; POWER is not
cleared while BOUNDARY is not CLOSED or CLK_RUN is 1, with a bus fault record. The settings in force before the write
decide. A vat that gains power starts its noise source's start-up test (R284); one that loses power loses its
contents. -/
def writeVatCtrl (s : State) (p : Nat) (v : BitVec 16) : State :=
  let w := R.VAT_CTRL p
  let old := getReg s w
  let clk := bit v 1 || (bit old 1 && decide (fld old 3 2 = 0))
  let keepPower := bit old 0 && !bit v 0 && (decide (fld old 3 2 ≠ 2) || bit old 1)
  let power := bit v 0 || keepPower
  let s := if keepPower then busFault s .write 512 (R.VAT_CTRL (logicalOf s p)) else s
  let s := setReg s w (BitVec.ofNat 16 (b2n (bit v 4) * 16 + min 2 (fld v 3 2) * 4 + b2n clk * 2 + b2n power))
  let s := modVat s p (fun u => { u with clkStable := if clk then true else false })
  if power && !bit old 0 then modNoise s p (fun n => { n with state := 1, cause := 0, atStartup := false, bits := 0, sampler := false, run := 0,
                                                                  conditioner := 0 })
  else if !power && bit old 0 then vatOff s p
  else s

/-- Whether a swap may name a vat: BOUNDARY CLOSED, or QUIESCED (ADMIT 0, no cell running) with OUTSTANDING 0 (R187). -/
def swapOk (s : State) (p : Nat) : Bool :=
  decide (boundary s p = 2) || (!admits s p && decide (getReg s (R.VAT_CELL_RUN p) = 0) && decide (outstanding s p = 0))

/-- Write VAT_SWAP (R187, R188). -/
def writeVatSwap (s : State) (v : BitVec 16) : State :=
  if !bit v 15 then s
  else
    let a := fld v 5 0
    let b := fld v 13 8
    let ok := decide (a < 34) && decide (b < 34) && decide (s.swap = none) && swapOk s (phys s a) && swapOk s (phys s b)
    if ok then setBit { s with swap := some (a, b) } R.VAT_SWAP_STATUS 1 false
    else setBit s R.VAT_SWAP_STATUS 1 true

/-- The remap with two logical numbers exchanged (R187). -/
def swapRemap (s : State) (a b : Nat) : State :=
  let pa := phys s a
  let pb := phys s b
  { s with remap := tset (fun k => k) (tset (fun k => k) s.remap a pb) b pa }

/-- What the supervisor's write of a VAT_ instance does: while a swap in progress names the vat it waits (R188). -/
def vatAccess (s : State) (n : Nat) (f : State) : State := if swapHolds s (R.VAT_CTRL n) then s else f
/-- PUSH: a write to VAT_DQ_PUSH (R195). -/
def execPush (vat : VatId) (value : BitVec 16) (s : State) : Host.Outcome State Fault Refusal :=
  .next (vatAccess s vat.val (dqPush s (phys s vat.val) (fld value 13 10) (fld value 9 0)))
/-- DRAIN: a write to VAT_DQ_DRAIN (R195). -/
def execDrain (vat : VatId) (value : BitVec 16) (s : State) : Host.Outcome State Fault Refusal :=
  .next (vatAccess s vat.val (dqDrain s (phys s vat.val) (fld value 3 0)))
/-- VAT_CTRL_WRITE (R186, R221). -/
def execVatCtrlWrite (vat : VatId) (value : BitVec 16) (s : State) : Host.Outcome State Fault Refusal :=
  .next (vatAccess s vat.val (writeVatCtrl s (phys s vat.val) value))
/-- VAT_CELL_RUN (R325). -/
def execVatCellRun (vat : VatId) (value : BitVec 16) (s : State) : Host.Outcome State Fault Refusal :=
  .next (vatAccess s vat.val (writeCellRun s (phys s vat.val) value))
/-- VAT_SWAP (R187). -/
def execVatSwap (value : BitVec 16) (s : State) : Host.Outcome State Fault Refusal := .next (writeVatSwap s value)
/-- SWAP_COMPLETE (R188); an APPLY requested meanwhile follows (R386). -/
def execSwapComplete (s : State) : Host.Outcome State Fault Refusal :=
  match s.swap with
  | none => .next s
  | some (a, b) =>
    let s := { swapRemap s a b with swap := none }
    .next (if s.act.applying then applyTable s else s)

/-! ### Watchdog (R210) -/

/-- HOLD_LIMIT_BITE: the unit's bit and the cell number, WATCHDOG, a record of class SERVICE; a limit of 0 disables. -/
def execHoldLimitBite (vat : VatId) (unit : ArbUnit) (cell : CellIx) (s : State) : Host.Outcome State Fault Refusal :=
  let p := phys s vat.val
  if getFld s (R.VAT_WDOG_CFG p) 15 8 = 0 then .next s
  else
    let i := match unit with
      | .memory => 0
      | .churn => 1
      | .mac => 2
    let s := setFld (setBit s (R.VAT_WDOG_UNIT p) i true) (R.VAT_WDOG_UNIT p) 7 4 cell.val
    .next (fault (raiseVat s p 2) 3 (vatSource s p 2) .none (masterOfKey s (p * 16 + cell.val)) 0)

/-- TICKET_LIMIT_BITE: the cell's bit, WATCHDOG, a record; only a cell running a ticket can pass the limit. -/
def execTicketLimitBite (vat : VatId) (cell : CellIx) (s : State) : Host.Outcome State Fault Refusal :=
  let p := phys s vat.val
  if getFld s (R.VAT_WDOG_CFG p) 7 0 = 0 ∨ (getCell s (p * 16 + cell.val)).ticket = none then .next s
  else
    let s := setBit s (R.VAT_WDOG_CELL p) cell.val true
    .next (fault (raiseVat s p 2) 3 (vatSource s p 2) .none (masterOfKey s (p * 16 + cell.val)) 0)

/-! ### The loader (R189 to R192) -/

/-- Bytes of memory from a physical waddr on (R4). -/
def memBytes (s : State) (a n : Nat) : Bytes := (unpackWords (readMems s a ((n + 1) / 2))).take n
/-- A 16-bit little-endian field of an image header in memory. -/
def imgField (s : State) (a off : Nat) : Nat := leNat (slice (memBytes s a 64) off 2)
/-- LENGTH in the component entry of image i of this boot, none where the manifest holds no such image. -/
def imageLength (s : State) (i : Nat) : Option Nat := (s.fw.cells.find? (fun c => c.image == i)).map (·.len)
/-- Whether the image at a waddr obeys R189: MAGIC, FORMAT, IMAGE that of the place it was copied to (R190), sizes, LENGTH of its
component entry, ENTRY, reserved bytes. -/
def imageOk (s : State) (a : Nat) : Bool :=
  let h := memBytes s a 64
  let i := (a - 0x10080000) / 0x8000
  decide (leAt h 6 2 = i) && (imageLength s i).all (fun n => decide (n = 64 + 2 * (leAt h 8 2 + leAt h 10 2))) &&
  decide (h.take 4 = [0x43, 0x50, 0x49, 0x4D]) && decide (leAt h 4 2 = 3) && decide (leAt h 6 2 ≤ 15)
    && decide (leAt h 8 2 % 2 = 0) && decide (2 ≤ leAt h 8 2) && decide (leAt h 8 2 ≤ 8192) && decide (leAt h 10 2 ≤ 8190)
    && decide (leAt h 12 2 < leAt h 8 2 / 2) && (h.drop 16).all (fun b => decide (b = 0))

/-- Remove every churn and MAC context of a vat at a loader start: nothing is written to the vat's stores, the loaded
curves 4-15 are emptied (R249, R250, R276). -/
def abandonAll (s : State) (p : Nat) : State :=
  let hadC := decide ((getVat s p).churn.jobs ≠ [])
  let hadM := decide ((getVat s p).mac.jobs ≠ [])
  let s := modChurn s p (fun c => { c with jobs := [], busy := false, curves := [], reserved := 0 })
  let s := modVat s p (fun v => { v with wants := [], mac := { v.mac with jobs := [], busy := false } })
  let s := if hadC then eventVat s (R.CHN_EVENT p) 1 p 6 else s
  if hadM then eventVat s (R.MAC_EVENT p) 0 p 7 else s

/-- The loader's reads of the image are ordinary reads under master 512 (R367, R369): the header's, and where those are allowed the whole
image's; the first word refused. -/
def imageRefused (s : State) (a : Nat) : Option (Nat × Refuse × Option Nat) :=
  (checkRange s 512 a 32 .read false).or (if imageOk s a then checkRange s 512 a (32 + imgField s a 8 + imgField s a 10) .read false else none)
/-- Asynchronous causes pending at the vat's cells are dropped as the loader starts (R338). -/
def dropCauses (s : State) (p : Nat) : State :=
  (List.range 16).foldl (fun s k => modCell s (p * 16 + k) (fun c => { c with pendC := false, pendM := false })) s
/-- Write VAT_LOAD_CTRL: W1C bits, then GO (R191, R192). A vat that is powered down, and an image of which the access table refuses a
word as the load starts, are refused with ERR too (DESIGN CHOICE, log entry 118). -/
def writeLoadCtrl (s : State) (p : Nat) (v : BitVec 16) : State :=
  let u := getVat s p
  let s := modVat s p (fun u => { u with loadErr := u.loadErr && !bit v 14, loadDone := u.loadDone && !bit v 13 })
  let err := fun s => raiseVat (modVat s p (fun u => { u with loadErr := true })) p 4
  if !bit v 0 || decide (u.loading ≠ none) then s
  else
    let a := (regPair s (R.VAT_LOAD_ADDR_LO p) (R.VAT_LOAD_ADDR_HI p)).toNat
    if getReg s (R.VAT_CELL_RUN p) ≠ 0 ∨ a < 0x10080000 ∨ 0x10100000 ≤ a ∨ powered s p = false then err s
    else match imageRefused s a with
    | some (x, r, e) => err (refusal s r e .read 512 x)
    | none =>
      if imageOk s a = false then err s
      else
        modVat (abandonAll (dropCauses s p) p) p
          (fun u => { u with loading := some (BitVec.ofNat 32 a), loadDone := false, loadErr := false })

/-- VAT_LOAD: a write to VAT_LOAD_CTRL (R191, R192). -/
def execVatLoad (vat : VatId) (value : BitVec 16) (s : State) : Host.Outcome State Fault Refusal :=
  .next (vatAccess s vat.val (writeLoadCtrl s (phys s vat.val) value))

/-- The vat capability of logical vat n (R335). -/
def vatCap (n : Nat) : CReg := mkCap (windowBase n + 0xC0000) 0x40000 15

/-- Whether an enabled entry with LOCK covers a word of a range: no other entry takes part in the judgement of a loader write
(R369). -/
def loaderChecked (s : State) (a n : Nat) : Bool :=
  s.act.applied.any (fun q => q.2.enable && q.2.lock && decide (q.2.base.toNat < a + n) && decide (a ≤ q.2.limit.toNat))
/-- The loader writes one part of logical vat n, at position p: judged under master 512 (R191, R369); a part with a refused word is
recorded and none of it is written (R368). -/
def loaderPart (s : State) (p n off : Nat) (ws : List Word) : State :=
  match (List.range ws.length).findSome? (fun i => (checkLoader s (windowBase n + off + i)).map (fun r => (i, r))) with
  | some (i, r, e) => refusal s r e .write 512 (windowBase n + off + i)
  | none => writeMems s (windowBase p + off) ws
/-- The loader writes consecutive words of logical vat n and scrubs up to the end of a range of `size` words. -/
def loaderWrite (s : State) (p n off size : Nat) (ws : List Word) : State :=
  if loaderChecked s (windowBase n + off) size then
    (List.range (size / 16)).foldl (fun s i =>
      loaderPart s p n (off + 16 * i) ((List.range 16).map (fun j => ws.getD (16 * i + j) zeroWord))) s
  else writeMems (scrub s (windowBase p + off) (windowBase p + off + size)) (windowBase p + off) ws
/-- Load one cell (R191 steps 1 to 4). -/
def loadCell (p n entry evb : Nat) (code dat : List (BitVec 16)) (s : State) (k : Nat) : State :=
  let io := istoreBase p k - windowBase p
  let d := dstoreBase p k - windowBase p
  let s := loaderWrite s p n io 8192 (code.map (fun v => (⟨.code, v⟩ : Word)))
  let s := loaderWrite s p n d 8192 (dat.map dataWord)
  let s := loaderPart s p n (d + 0x1FFE) [dataNat k, dataNat n]
  let bank := setBankC zeroBank 0 (vatCap n)
  setCell s (p * 16 + k) { cellReset with main := { bank with pc := BitVec.ofNat 20 entry }, shadow := bank,
                                           evb := BitVec.ofNat 16 evb }

/-- The loader's work on the vat at p with the image at waddr a (R191): cells, shared memory, deques, digest. -/
def runLoader (s : State) (p a : Nat) : State :=
  let cw := imgField s a 8
  let dw := imgField s a 10
  let code := (readMems s (a + 32) cw).map (·.val)
  let dat := (readMems s (a + 32 + cw) dw).map (·.val)
  let digest := sha256 (memBytes s a (64 + 2 * (cw + dw)))
  let s := (List.range 16).foldl (loadCell p (logicalOf s p) (imgField s a 12) (imgField s a 14) code dat) s
  let s := loaderWrite s p (logicalOf s p) 0xC0000 0x40000 []
  let s := setRegs s (R.VAT_LOAD_DIGEST p 0) (packWords digest)
  let s := setReg s (R.VAT_CELL_HALTED p) 0
  modVat s p (fun v => { v with deques := [], cq := [], waiters := [], skim := none, loading := none, loadDone := true })

/-- LOAD_COMPLETE (R191): DONE, the digest and the LOAD event. -/
def loadComplete (s : State) (p : Nat) : State :=
  match (getVat s p).loading with
  | none => s
  | some a => raiseVat (runLoader s p a.toNat) p 4

/-- Whether a vat is drained (R212). While its oscillator has not settled it shows no more than the 0 of reset (R221; DESIGN CHOICE, log
entry 119). -/
def drained (s : State) (p : Nat) : Bool :=
  (getVat s p).clkStable &&
  (List.range 16).all (fun k => decide (deque s p k = []) &&
    (!cellRun s p k || (getCell s (p * 16 + k)).halted || decide (k ∈ (getVat s p).waiters)))
  && decide ((getVat s p).churn.jobs = []) && decide ((getVat s p).mac.jobs = []) && decide ((getVat s p).cq = [])
  && decide (outstanding s p = 0)

/-! ### TAKE, TAKE.W, DONE (R321) -/

/-- Whether a core has a deque: the supervisor has none, and a job-port instruction there is ILLEGAL (log entry 13).
One whose form has no capability and whose c field is not 0 is ILLEGAL too (R302, R321; DEDUCED, log entry 100). -/
def jobLegal (core : Core) : Bool := decide (core.val < 512)

/-- TAKE and TAKE.W (R195 to R198). -/
def takeInstr (core : Core) (s : State) (w : Bool) : State :=
  cellInstr s core (fun p => decide (pOp p = 0x84) && (decide (p.toNat % 2 = 1) == w))
    (fun p => jobLegal core && decide (pf p 16 = 0) && decide (p.toNat % 65536 / 2 = 0)) fun s k c _ =>
      match dequeTake s (k / 16) (k % 16) with
      | (some t, s) => giveTicket s (k / 16) (k % 16) (some t)
      | (none, s) =>
        if w then
          modVat (setCell s k { c with wait := .takeW, hold := false }) (k / 16)
            (fun v => { v with waiters := v.waiters ++ [k % 16] })
        else giveTicket s (k / 16) (k % 16) none

/-- TAKE (R196). -/
def execTake (core : Core) (s : State) : Host.Outcome State Fault Refusal := .next (takeInstr core s false)
/-- TAKE.W (R198). -/
def execTakeW (core : Core) (s : State) : Host.Outcome State Fault Refusal := .next (takeInstr core s true)

/-- DONE g: a g above 1023 is ILLEGAL; waits while the completion queue is full (R195, R321). -/
def execDone (core : Core) (s : State) : Host.Outcome State Fault Refusal :=
  .next (cellInstr s core (fun p => decide (pOp p = 0x85)) (fun p => jobLegal core && decide (p.toNat % 2 ^ 20 = 0))
    fun s k c p =>
      let g := getG c (pf p 20)
      if g.tag ≠ .data then syncFault s k ⟨.tag, none⟩ .tag
      else if 1023 < g.val.toNat then syncFault s k ⟨.illegal, none⟩ .fetch
      else if 64 ≤ (getVat s (k / 16)).cq.length then setCell s k { c with wait := .doneFull, hold := false }
      else acceptDone s (k / 16) (k % 16) g.val.toNat)

end Sys2Proof.Machine
end

