-- ==== Sys2Proof/Machine/Reset.lean ====
section
/-!
DEFINITION. OTP reads and programming (R55 to R58, R562), the battery share (R44, R61), the factory remap (R565), and
the resets of R50.
-/
namespace Sys2Proof.Machine

/-! ### OTP -/

/-- Program one bit: only from 0 to 1 (R562). -/
def otpSet (s : State) (o i : Nat) : State := { s with otp := tset (fun _ => 0) s.otp o (otpWord s o ||| (1 <<< i : BitVec 16)) }
/-- Program one bit of an OTP program: words from 4096 on are those of the hidden seed (R56, R562). -/
def otpPut (s : State) (o i : Nat) : State :=
  if 4096 ≤ o then { s with seedSet := s.seedSet ||| (1 <<< (16 * (o - 4096) + i) : BitVec 256) } else otpSet s o i
/-- Bits of a value that are 1, by position. -/
def onesOf (v : BitVec 16) : List Nat := those 16 (fun i => v.getLsbD i)
/-- A lifecycle fuse counts as programmed when 5 or more of its low 8 bits read 1 (R57). -/
def fuseBlown (s : State) (o : Nat) : Bool := decide (5 ≤ ((onesOf (otpWord s o)).filter (· < 8)).length)
/-- Lifecycle fuses (R55). -/
def oTEST_EXIT : Nat := 0x10
def oSEALED : Nat := 0x11
def oSPENT : Nat := 0x12
/-- Word j of owner slot i (R55). -/
def ownerWord (s : State) (i j : Nat) : BitVec 16 := otpWord s (0x20 + 20 * i + j)
/-- An owner slot is empty when all of its 17 words read 0 (R58). -/
def slotEmpty (s : State) (i : Nat) : Bool := (List.range 17).all (fun j => decide (ownerWord s i j = 0))
/-- An owner slot is valid when its CRC matches (R58). An empty slot is not valid. -/
def slotValid (s : State) (i : Nat) : Bool :=
  !slotEmpty s i && decide (ownerWord s i 16 = crc16Words ((List.range 16).map (ownerWord s i)))
/-- The current owner's slot: the valid slot with the highest index (R58). -/
def ownerSlot (s : State) : Option Nat := [3, 2, 1, 0].find? (slotValid s)
/-- The lowest empty owner slot (R63). -/
def emptySlot (s : State) : Option Nat := (List.range 4).find? (slotEmpty s)
/-- The hash of an owner slot as bytes (R4). -/
def ownerHash (s : State) (i : Nat) : Bytes := packBytes16 ((List.range 16).map (ownerWord s i))
where packBytes16 (l : List (BitVec 16)) : Bytes := l.flatMap wordBytes

/-- Whether the factory's calibration CRC matches (R520). -/
def calCrcOk (s : State) : Bool := decide (otpWord s 0xFF = crc16Words ((List.range 127).map (fun j => otpWord s (0x80 + j))))

/-! ### The factory retirement record (R565) -/

/-- The positions the factory record marks, ascending. -/
def markedPositions (s : State) : List Nat := those 34 (fun p => (otpWord s (0x70 + p / 16)).getLsbD (p % 16))
/-- Whether the record is good: all zero, or a right CRC and at most two positions. -/
def retireOk (s : State) : Bool :=
  (List.range 16).all (fun j => decide (otpWord s (0x70 + j) = 0)) ||
  (decide (otpWord s 0x7F = crc16Words ((List.range 15).map (fun j => otpWord s (0x70 + j))))
    && decide ((markedPositions s).length ≤ 2))
/-- The positions the factory record retires: none where the record is bad. -/
def retiredPositions (s : State) : List Nat := if retireOk s then markedPositions s else []
/-- One step of R565: a retired position named by 0-31 is swapped with the lowest spare number that names a position not
retired. -/
def factoryStep (s : State) (t : Tbl Nat) (p : Nat) : Tbl Nat :=
  let at_ := fun n => tget (fun k => k) t n
  match (List.range 34).find? (fun n => at_ n == p) with
  | none => t
  | some n =>
    if n < 32 then
      match [32, 33].find? (fun m => decide (at_ m ∉ retiredPositions s)) with
      | none => t
      | some m => tset (fun k => k) (tset (fun k => k) t n (at_ m)) m p
    else t
/-- The remap table formed from the factory record (R26, R565). -/
def factoryRemap (s : State) : Tbl Nat := (retiredPositions s).foldl (factoryStep s) []

/-! ### The battery share (R61, R501) -/

/-- The check value of a share: the CRC-16/CCITT over its bytes. The spec names a 16-bit check value and no algorithm:
DESIGN CHOICE, log entry 15. -/
def shareCheckOf (sh : BitVec 256) : BitVec 16 := crc16 (beBytes 32 sh.toNat)
/-- Clear the share and its VALID bit. -/
def clearShare (s : State) : State := { s with bat := { s.bat with share := 0, shareCheck := 0, shareValid := false } }
/-- Write a new share with its check value and VALID, unless the battery domain refuses one (R501): `none` then. -/
def newShare (s : State) (sh : BitVec 256) : Option State :=
  if s.tmp.shareRefused then none
  else some { s with bat := { s.bat with share := sh, shareCheck := shareCheckOf sh, shareValid := true } }
/-- Whether the share is valid (R61). -/
def shareOk (s : State) : Bool := s.bat.shareValid && decide (s.bat.shareCheck = shareCheckOf s.bat.share)

/-! ### Tamper records across resets (R511) -/

/-- The latch of a source. -/
def getLatch (s : State) (i : Nat) : Latch := tget (fun _ => ⟨false, 0, 0, 0⟩) s.bat.latch i
/-- Set the latch of a source. -/
def setLatch (s : State) (i : Nat) (l : Latch) : State :=
  { s with bat := { s.bat with latch := tset (fun _ => ⟨false, 0, 0, 0⟩) s.bat.latch i l } }
/-- A tamper source after reset. -/
def srcReset : TamperSrc :=
  { firing := false, detA := false, detB := false, episodeSet := 0, ownsHold := false, ownsStall := false,
    settling := false, deferred := 0 }
/-- A tamper source. -/
def getSrc (s : State) (i : Nat) : TamperSrc := tget (fun _ => srcReset) s.tmp.src i
/-- Set a tamper source. -/
def setSrc (s : State) (i : Nat) (t : TamperSrc) : State :=
  { s with tmp := { s.tmp with src := tset (fun _ => srcReset) s.tmp.src i t } }
/-- The QUIET period of a source, in units of 100 ms. -/
def quietOf (s : State) (i : Nat) : Nat := (getReg s (R.TMP_SRC_QUIET i)).toNat
/-- What of source i passes into the latch when a reset begins: increments not yet programmed, and a HOLD or STALL in
force with a QUIET that is not 0 (R503, R507, R511). -/
def latchSource (s : State) (i : Nat) : State :=
  let l := getLatch s i
  let t := getSrc s i
  let n := (s.tmp.queue.filter (fun j => j == i)).length + t.deferred
  let r : BitVec 7 := (if t.ownsHold && s.tmp.hold && decide (quietOf s i ≠ 0) then 4 else 0)
    ||| (if t.ownsStall && s.tmp.stall && decide (quietOf s i ≠ 0) then 2 else 0)
  setLatch s i { l with evidence := min 7 (l.evidence + n), responses := l.responses ||| r }
/-- The latch as a reset begins. -/
def latchAll (s : State) : State := (List.range 48).foldl latchSource s

/-! ### Resets (R50) -/

/-- The mirror of the response records put back into TMP_SRC_CFG and TMP_SRC_QUIET (R511). -/
def mirrorRegs (s : State) : State :=
  s.bat.mirror.foldl (fun s p =>
    setReg s (if p.1 % 2 = 0 then R.TMP_SRC_CFG (p.1 / 2) else R.TMP_SRC_QUIET (p.1 / 2)) p.2) s

/-- VAT_CTRL and the noise sources of the positions that the remap binds to 0-31 or to the spares (R221, R294). -/
def resetVats (s : State) : State :=
  (List.range 34).foldl (fun s n =>
    let p := phys s n
    let s := setReg s (R.VAT_CTRL p) (if n < 32 then 0x0003 else 0x0008)
    modNoise s p (fun x => { x with state := if n < 32 then 1 else 0 })) s

/-- Everything a reset of R50 clears: the main domain returns to its reset state; the battery domain, OTP, flash, tag
memory and the world outside are kept. -/
def volatileReset (s : State) : State :=
  let s := tearAll s
  let t : State := { State.reset with pending := s.pending, bat := s.bat, otp := s.otp, seedSet := s.seedSet,
                                      ext := s.ext, fresh := s.fresh, sent := s.sent, lastRead := s.lastRead,
                                      flash := s.flash, tag := s.tag, store := s.store, rejects := s.rejects,
                                      parlour := { parlourReset with ports := s.parlour.ports } }
  let t := { t with remap := factoryRemap t }
  let t := mirrorRegs (resetVats t)
  (List.range 48).foldl (fun t i => if s.bat.firing.getLsbD i || (getSrc s i).firing
    then setSrc t i { srcReset with firing := true } else t) t

/-- PWR_MODE with a mode, PREV and REASON. -/
def setMode (s : State) (m : Nat) : State := setFld s R.PWR_MODE 3 0 m

/-- A pin, firmware or tamper reset (R50, R53): its bit of PWR_RSTCAUSE is set beside those already set, PREV takes the
mode, and scrubbing begins. A device in TEST stays in TEST (R46). `bit` is the bit of PWR_RSTCAUSE. -/
def resetDevice (s : State) (i : Nat) (recovery : Bool) : State :=
  let m := mode s
  let cause := getReg s R.PWR_RSTCAUSE
  let t := volatileReset (latchAll s)
  let t := setReg (setReg t R.PWR_RSTCAUSE cause) R.PWR_MODE (BitVec.ofNat 16 (m * 16 + if m = mTEST then mTEST else mBOOT))
  let t := setBit t R.PWR_RSTCAUSE i true
  { t with boot := { t.boot with step := 0, recoveryRequest := recovery } }

/-- The reset begins only in a mode with main power (R45). -/
def hasMain (s : State) : Bool := s.ext.mainPower

/-- A firmware reset from a write of 0xC1A5 or 0xC1A6 to PWR_RESET (R53, R54); a write while a reset is being carried out
(scrubbing) is ignored. -/
def firmwareReset (s : State) (recovery : Bool) : State :=
  if !hasMain s || decide (s.boot.step = 0) then s else resetDevice s 2 recovery

end Sys2Proof.Machine
end

