-- ==== Sys2Proof/Machine/Tamper.lean ====
section
/-!
DEFINITION. Tamper sources, responses, evidence, the latch (R498 to R514), the fault collector's registers (R519),
calibration (R520 to R523).
-/
namespace Sys2Proof.Machine

/-- Sources 11 and 40-47 are reserved (R498). -/
def srcReserved (i : Nat) : Bool := decide (i = 11) || decide (40 ≤ i)
/-- Sources that run in VIGIL (R498). -/
def srcVigil (i : Nat) : Bool := i ∈ [10, 12, 13, 16, 18, 19, 20, 21, 23, 24, 25, 26, 27, 34, 35, 36, 37, 38]
/-- Sources with one detector (R499). -/
def srcSingle (i : Nat) : Bool := decide (i = 28) || decide (i = 39)
/-- Whether a source is disabled by its fuse (R507, R510). -/
def srcFused (s : State) (i : Nat) : Bool := fuseBlown s (0x100 + 16 * i + 15)
/-- The evidence count of a source: bits that read 1 in words 0-14 of its group (R507). -/
def evidence (s : State) (i : Nat) : Nat :=
  (List.range 15).foldl (fun n j => n + (onesOf (otpWord s (0x100 + 16 * i + j))).length) 0
/-- The lowest bit of a source's counter that reads 0, as word and bit (R507). -/
def evidenceBit (s : State) (i : Nat) : Option (Nat × Nat) :=
  ((List.range 240).find? (fun n => !(otpWord s (0x100 + 16 * i + n / 16)).getLsbD (n % 16))).map
    (fun n => (0x100 + 16 * i + n / 16, n % 16))
/-- Whether the battery domain alone is powered (VIGIL). -/
def inVigil (s : State) : Bool := decide (mode s = mVIGIL)

/-- Queue one increment, or keep it as deferred when the queue is full (R507); none is programmed in TEST (R557), and
those of a source at 240 are discarded. -/
def queueEvidence (s : State) (i : Nat) : State :=
  if mode s = mTEST ∨ 240 ≤ evidence s i then s
  else if s.tmp.queue.length < 255 then { s with tmp := { s.tmp with queue := s.tmp.queue ++ [i] } }
  else setSrc s i { getSrc s i with deferred := min 240 ((getSrc s i).deferred + 1) }

/-- WIPE_KEYS (R501, R256): share cleared and refused until the next reset, owner-root registers emptied. -/
def wipeKeys (s : State) : State :=
  let s := clearShare s
  let s := { s with tmp := { s.tmp with shareRefused := true } }
  let s := setBit s R.MAC_ROOTS 1 false
  (List.range 34).foldl (fun s p => modMac s p (fun m => { m with ownerRoot := false })) s
/-- SPEND at the hardware (R73 step 1): share cleared, spend latch set; the running code then carries out the rest. A transfer,
lowering or claim is abandoned at its current step (R76). -/
def spendNow (s : State) : State :=
  let s := clearShare s
  let job := s.fw.otpJob.filter (fun j => match j.next with
    | .spent _ => true
    | .decom => true
    | _ => false)
  { s with bat := { s.bat with spendLatch := true }, boot := { s.boot with spendPending := true },
           fw := { s.fw with otpJob := job, lowerDue := false } }
/-- Whether the device has an owner, or a claim is programming the slot of one (R58, R76). -/
def owned (s : State) : Bool :=
  (ownerSlot s).isSome || (match s.fw.otpJob with
    | some { next := .owner _ _ _, .. } => true
    | _ => false)
/-- WIPE_SESSIONS (R256, R501): session-root registers emptied; Nelgal firmware then discards challenges, custodian sessions,
quorum tickets and an open update session, and has a new session root to draw: until it has, the root is empty (R293). -/
def wipeRoots (s : State) : State :=
  let s := setBit { s with sessionRoot := 0 } R.MAC_ROOTS 2 false
  let s := (List.range 34).foldl (fun s p => modMac s p (fun m => { m with sessionRoot := false })) s
  if mode s = mUNCLAIMED ∨ mode s = mSERVICE ∨ (mode s = mRECOVERY ∧ s.fw.monitor = false) then
    { s with fw := { s.fw with challenges := [], quorums := [], qtickets := [], upd := none, rootDue := true } }
  else s
/-- Every cell stops at its next stopping point: none waits any more (R501 STALL, R325). -/
def stallCells (s : State) : State := s.cells.foldl (fun s q => if q.1 = supKey then s else stopWaiting s q.1) s

/-- HOLD and STALL of the union, owned by the sources whose own set has them (R503). -/
def setHoldStall (s : State) (l : List (Nat × BitVec 7)) : State :=
  l.foldl (fun s q =>
    let s := if q.2.getLsbD 2 then setSrc { s with tmp := { s.tmp with hold := true } } q.1 { getSrc s q.1 with ownsHold := true } else s
    if q.2.getLsbD 1 then setSrc (stallCells { s with tmp := { s.tmp with stall := true } }) q.1 { getSrc s q.1 with ownsStall := true } else s) s

/-- REPORT of one source (R501): FIRED, EPISODES, the source's event. -/
def reportSource (s : State) (i : Nat) : State :=
  raise (countFld (setBit s (R.TMP_SRC_STATUS i) 10 true) (R.TMP_SRC_COUNT i) 15 8) (528 + i)

/-- The response set of a source's episode (R504, R505): in TEST REPORT alone; on a device with no owner, in whatever mode, SPEND
is carried out as REPORT (R47), but not while a claim programs its slot (R76): DEDUCED, log entry 93. -/
def responseOf (s : State) (i : Nat) : BitVec 7 :=
  let r : BitVec 7 := (getReg s (R.TMP_SRC_CFG i)).setWidth 7 ||| 1
  if mode s = mTEST then 1 else if owned s then r else r &&& 0x3F

/-- In VIGIL: SPEND and WIPE_KEYS at once, the rest into the latch (R72, R512). -/
def vigilEpisode (s : State) (i : Nat) : State :=
  let r := responseOf s i
  let s := if r.getLsbD 6 then { clearShare s with bat := { (clearShare s).bat with spendLatch := true } }
    else if r.getLsbD 5 then clearShare s else s
  let l := getLatch s i
  let s := setLatch s i { l with fired := true, evidence := min 7 (l.evidence + 1), responses := l.responses ||| (r &&& 0x1F) }
  { s with bat := { s.bat with firing := s.bat.firing ||| (1 <<< i : BitVec 48) } }

/-- The sources of a list that start an episode now (R45, R499, R512): with main power or in VIGIL, powered, not fused, not firing, and voted.
While its threshold settles, detector A, the one that has it, is ignored and B fires the source alone (R523; log entry 116). -/
def episodeSources (s : State) (l : List (Nat × Bool × Bool)) : List (Nat × Bool × Bool) :=
  l.filter (fun (i, a, b) => (hasMain s || inVigil s) && !srcReserved i && !srcFused s i && !(getSrc s i).firing && !s.bat.firing.getLsbD i
    && (!inVigil s || srcVigil i)
    && (if (getSrc s i).settling then b else (a || b) && (srcSingle i || !getBit s (R.TMP_SRC_CFG i) 8 || (a && b))))

/-- Sources start episodes within one 1 µs interval: each fires, is counted and queued, and the union of their sets is
carried out once, in the order of R502 and R504. With RESET what is left goes into the latch and the tamper reset
begins; with SPEND there is no separate RESET. -/
def startEpisodes (s : State) (l : List (Nat × Bool × Bool)) : State :=
  if inVigil s then l.foldl (fun s q => vigilEpisode s q.1) s
  else
    let sets := l.map (fun q => (q.1, responseOf s q.1))
    let u : BitVec 7 := sets.foldl (fun acc q => acc ||| q.2) 0
    let s := l.foldl (fun s (i, a, b) =>
      queueEvidence (setSrc s i { getSrc s i with firing := true, detA := a, detB := b, episodeSet := responseOf s i }) i) s
    let s := if u.getLsbD 6 then spendNow s else s
    let s := if u.getLsbD 5 then wipeKeys s else s
    let s := if u.getLsbD 4 then wipeRoots s else s
    if u.getLsbD 3 && !u.getLsbD 6 then
      let s := sets.foldl (fun s q =>
        let t := getLatch s q.1
        setLatch s q.1 { t with fired := true, responses := t.responses ||| (q.2 &&& 0x06) }) s
      resetDevice s 3 false
    else
      sets.foldl (fun s q => reportSource s q.1) (setHoldStall s sets)

/-- An instantaneous event at a source: it starts an episode, or extends the current one (R499). -/
def fireSource (s : State) (i : Nat) : State := startEpisodes s (episodeSources s [(i, true, true)])

/-- A mismatch of the integrity code is found (R361): MSH_BIC_COUNT and MSH_BIC_LAST. The caller fires source 39 last, since a
RESET response may follow it. -/
def noteMismatch (s : State) (point : Nat) (m : BitVec 10) : State :=
  setReg (countReg s R.MSH_BIC_COUNT 0xFFFF) R.MSH_BIC_LAST (BitVec.ofNat 16 (point * 0x2000 + m.toNat))
/-- A refusal by the access table as a master's command meets it (R374); a reserved master counts as a mismatch at egress (R38,
R361). -/
def tableRefusal (s : State) (r : Refuse) (e : Option Nat) (acc : AccessType) (m : BitVec 10) (a : Nat) : State :=
  let t := refusal s r e acc m a
  if r = .reservedMaster then fireSource (noteMismatch t 1 m) 39 else t

/-- TAMPER_EPISODE_START (R502). A supply-glitch detection (sources 0-7) made during a dip is held (R531). -/
def execTamperEpisodeStart (sources : List (Fin 48)) (detA detB : Bool) (s : State) : Host.Outcome State Fault Refusal :=
  let l := (sources.map (fun i => (i.val, detA, detB))).eraseDups
  let late := if s.ext.dip.isSome then l.filter (fun q => decide (q.1 < 8)) else []
  let now := if s.ext.dip.isSome then l.filter (fun q => decide (8 ≤ q.1)) else l
  .next (startEpisodes { s with ext := { s.ext with dipHeld := s.ext.dipHeld ++ late } } (episodeSources s now))

/-- TAMPER_EPISODE_END (R499): the source is quiet again. That source 38 is quiet says that VBAT is above monitor 16, so it
is valid (R532; log entry 40). -/
def execTamperEpisodeEnd (source : Fin 48) (s : State) : Host.Outcome State Fault Refusal :=
  let i := source.val
  let s := setSrc s i { getSrc s i with firing := false, detA := false, detB := false }
  .next { s with bat := { s.bat with firing := s.bat.firing &&& ~~~(1 <<< i : BitVec 48) },
                 ext := { s.ext with vbat := s.ext.vbat || decide (i = 38) } }

/-- One disagreement of a source that counts it (R500): DISAGREES, DISAGREE and the event. -/
def disagreeNow (s : State) (i : Nat) : State :=
  raise (setBit (countFld s (R.TMP_SRC_COUNT i) 7 0) (R.TMP_SRC_STATUS i) 11 true) (528 + i)
/-- DISAGREEMENT (R500, R512, R531): DISAGREES, DISAGREE and the event, or in VIGIL the latched count; not of a source with
one detector, a fused one, or one whose threshold is settling; that of a supply-glitch source during a dip is held. -/
def execDisagreement (source : Fin 48) (s : State) : Host.Outcome State Fault Refusal :=
  let i := source.val
  if !(hasMain s || inVigil s) || srcReserved i || srcFused s i || srcSingle i || (getSrc s i).settling then .next s
  else if inVigil s then
    if srcVigil i then
      let l := getLatch s i
      .next (setLatch s i { l with disagree := min 7 (l.disagree + 1) })
    else .next s
  else if s.ext.dip.isSome ∧ i < 8 then .next { s with ext := { s.ext with dipDisagree := s.ext.dipDisagree ++ [i] } }
  else .next (disagreeNow s i)

/-- HOLD and STALL stay in force while a source owns them (R503). -/
def dropHoldStall (s : State) : State :=
  let h := (List.range 48).any (fun i => (getSrc s i).ownsHold)
  let t := (List.range 48).any (fun i => (getSrc s i).ownsStall)
  { s with tmp := { s.tmp with hold := s.tmp.hold && h, stall := s.tmp.stall && t } }

/-- QUIET_PERIOD_END (R503): a source that set HOLD or STALL, quiet now or disabled by fuse, has been quiet for its QUIET period; a QUIET
of 0 never ends. The responses are released when no source holds them any more. -/
def execQuietPeriodEnd (source : Fin 48) (s : State) : Host.Outcome State Fault Refusal :=
  let i := source.val
  let t := getSrc s i
  if t.firing || decide (quietOf s i = 0) then .next s
  else .next (dropHoldStall (setSrc s i { t with ownsHold := false, ownsStall := false }))

/-- The next increment enters the queue from the deferred counts when there is room (R507). -/
def admitDeferred (s : State) : State :=
  match (List.range 48).find? (fun i => decide (0 < (getSrc s i).deferred)) with
  | some i =>
    if s.tmp.queue.length < 255 then
      setSrc { s with tmp := { s.tmp with queue := s.tmp.queue ++ [i] } } i { getSrc s i with deferred := (getSrc s i).deferred - 1 }
    else s
  | none => s

/-- EVIDENCE_PROGRAM_END (R507): the bit at the head of the queue has been programmed and reads back 1 (`took`), or is
programmed again; while a dip is in progress no pulse counts. Disable fuses, the eight bits of their word one after the other (R562), wait
for their source's increments (R510); a HOLD or STALL
of theirs waits for the QUIET period from here (R503). -/
def execEvidenceProgramEnd (took : Bool) (s : State) : Host.Outcome State Fault Refusal :=
  if s.ext.dip ≠ none ∨ took = false then .next s
  else
    match s.tmp.queue with
    | i :: rest =>
      let s := { s with tmp := { s.tmp with queue := rest } }
      let s := match evidenceBit s i with
        | some (o, b) => otpSet s o b
        | none => s
      .next (admitDeferred s)
    | [] =>
      match s.tmp.fuseJobs with
      | [] => .next s
      | i :: rest =>
        let o := 0x100 + 16 * i + 15
        let left := fun (s : State) => (List.range 8).find? (fun b => !bit (otpWord s o) b)
        let s := match left s with
          | some b => otpSet s o b
          | none => s
        if (left s).isSome then .next s
        else
          let s := { s with tmp := { s.tmp with fuseJobs := rest } }
          let t := getSrc s i
          .next (setSrc s i { srcReset with deferred := t.deferred, ownsHold := t.ownsHold, ownsStall := t.ownsStall })

/-- Write TMP_FUSE (R510): 0xD5 with a source programs its disable fuse after its queued increments; sources 28, 39 and
the reserved ones are refused. The source stops at once. -/
def writeTmpFuse (s : State) (v : BitVec 16) : State :=
  let i := fld v 5 0
  if fld v 15 8 ≠ 0xD5 then s
  else if i = 28 ∨ i = 39 ∨ srcReserved i then setBit s R.TMP_ACTIVE 2 true
  else if srcFused s i ∨ i ∈ s.tmp.fuseJobs then s
  else
    let s := setSrc s i { getSrc s i with firing := false, detA := false, detB := false }
    { s with tmp := { s.tmp with fuseJobs := s.tmp.fuseJobs ++ [i] } }
/-- TMP_FUSE (R510). -/
def execTmpFuse (value : BitVec 16) (s : State) : Host.Outcome State Fault Refusal := .next (writeTmpFuse s value)

/-- Apply the latch at BOOT step 1 (R513): increments queued for programming and programmed before anything else (while a dip is in
progress no pulse begins, so they stay queued: R562), FIRED and events, disagreements, LATCHED, and the latch cleared; HOLD and STALL bits are returned for the end of BOOT. LATCHED is set
whatever reset led here, as step 3 of R513 says; PWR_RSTCAUSE's table speaks only of responses latched in VIGIL and a power-up:
DESIGN CHOICE, log entry 94. -/
def applyLatch (s : State) : State :=
  let ls := s.bat.latch
  let s := ls.foldl (fun s q =>
    let s := (List.range q.2.evidence).foldl (fun s _ => if s.ext.dip.isSome then queueEvidence s q.1 else
      match evidenceBit s q.1 with
      | some (o, b) => otpSet s o b
      | none => s) s
    let s := if q.2.fired then raise (setBit s (R.TMP_SRC_STATUS q.1) 10 true) (528 + q.1) else s
    let s := if 0 < q.2.disagree then
        setBit (setFld s (R.TMP_SRC_COUNT q.1) 7 0 (min 255 (getFld s (R.TMP_SRC_COUNT q.1) 7 0 + q.2.disagree)))
          (R.TMP_SRC_STATUS q.1) 11 true
      else s
    setSrc s q.1 { getSrc s q.1 with ownsHold := q.2.responses.getLsbD 2, ownsStall := q.2.responses.getLsbD 1 }) s
  let s := if ls = [] then s else setBit s R.PWR_RSTCAUSE 6 true
  { s with bat := { s.bat with latch := [] } }

/-- HOLD and STALL carried across the reset take effect when BOOT ends (R503, R513). -/
def resumeHoldStall (s : State) : State :=
  let h := (List.range 48).any (fun i => (getSrc s i).ownsHold)
  let t := (List.range 48).any (fun i => (getSrc s i).ownsStall)
  { s with tmp := { s.tmp with hold := s.tmp.hold || h, stall := s.tmp.stall || t } }

/-! ### Fault collector registers (R519) -/

/-- Write FLT_ACK: the latched time-stamp's low bits release the record. -/
def writeFltAck (s : State) (v : BitVec 16) : State :=
  match s.flt.first with
  | none => s
  | some r =>
    if r.stamp.setWidth 16 = v then
      { s with flt := { s.flt with first := none, overflow := false, escalated := false, overflowCount := 0, total := 0 } }
    else s
/-- FLT_ACK_REGISTER (R519). -/
def execFltAckRegister (value : BitVec 16) (s : State) : Host.Outcome State Fault Refusal := .next (writeFltAck s value)
/-- STORM_END (R519). -/
def execStormEnd (s : State) : Host.Outcome State Fault Refusal :=
  if s.flt.storm then .next (raise (countReg { s with flt := { s.flt with storm := false, inTick := 0 } } R.FLT_RECOVERIES 0xFFFF) 576)
  else .next s

/-! ### Calibration (R520 to R523) -/

/-- The OTP word of a calibration item, by the item code CAL.SET uses (R142): 0x0100 + logical vat, 0x0200 + sensor,
0x0300 + monitor, 0x0400 tag tuning. An oscillator item takes the value of the position bound to the vat. -/
def calOtp (s : State) (item : Nat) : Option Nat :=
  if 0x100 ≤ item ∧ item < 0x122 then some (0x80 + phys s (item - 0x100))
  else if 0x200 ≤ item ∧ item < 0x208 then some (0xA2 + (item - 0x200))
  else if 0x300 ≤ item ∧ item < 0x312 then some (0xAA + (item - 0x300))
  else if item = 0x400 then some 0xBC
  else none
/-- FACTORY of an item. -/
def calFactory (s : State) (item : Nat) : BitVec 16 :=
  match calOtp s item with
  | some o => otpWord s o
  | none => 0
/-- BOUND of an item (R520). -/
def calBound (s : State) (item : Nat) : Nat :=
  if (calOtp s item).isNone then 0 else if item < 0x300 then 16
  else if item < 0x310 then (if (calFactory s item).toNat < 1500 then 10 else 25)
  else if item = 0x310 then 25 else if item = 0x311 then 10 else 4
/-- The key under which an item's stored offset stands in `monitors` (OFFSET is kept per item). -/
def calOffset (s : State) (item : Nat) : BitVec 16 := tget (fun _ => 0) s.calOffsets item
/-- A signed offset held to its bound (R521). -/
def clampOffset (b : Nat) (v : BitVec 16) : BitVec 16 :=
  if (b : Int) < v.toInt then BitVec.ofNat 16 b else if v.toInt < -(b : Int) then BitVec.ofInt 16 (-(b : Int)) else v
/-- EFFECTIVE of an item: FACTORY + OFFSET (R521). -/
def calEffective (s : State) (item : Nat) : BitVec 16 := calFactory s item + calOffset s item
/-- The tamper source whose detector an item's threshold belongs to, if it is one that settles (R523): monitors 2r and
2r + 1 serve source r, 16 serves 38; sensors 0-5 serve 12 and 13, 6-7 serve 14 and 15. -/
def calSources (item : Nat) : List Nat :=
  if 0x300 ≤ item ∧ item < 0x310 then [(item - 0x300) / 2] else if item = 0x310 then [38]
  else if 0x200 ≤ item ∧ item < 0x206 then [12, 13] else if 0x206 ≤ item ∧ item < 0x208 then [14, 15] else []
/-- Write an item's offset (R521 to R523): clamped, applied at once, its detectors settling; monitors 16 and 17 and
sensors 0-5 keep their EFFECTIVE value in the battery domain. -/
def setOffset (s : State) (item : Nat) (v : BitVec 16) : State :=
  let c := clampOffset (calBound s item) v
  let s := if c = v then s else setBit s R.CAL_STATUS 15 true
  let s := { s with calOffsets := tset (fun _ => 0) s.calOffsets item c }
  let s := (calSources item).foldl (fun s i => setSrc s i { getSrc s i with settling := true }) s
  if item = 0x310 ∨ item = 0x311 ∨ (0x200 ≤ item ∧ item < 0x206) then
    { s with bat := { s.bat with monitors := tset (fun _ => 0) s.bat.monitors item (calEffective s item) } }
  else s
/-- Write CAL_ITEM: an undefined code is stored as any other (R6), sets NO_ITEM and selects nothing (R524). -/
def writeCalItem (s : State) (v : BitVec 16) : State :=
  let s := setReg s R.CAL_ITEM v
  if (calOtp s v.toNat).isSome then s else setBit s R.CAL_STATUS 12 true
/-- A write of the selected item's offset (R521); with none selected nothing is written. -/
def writeCalOffset (s : State) (v : BitVec 16) : State :=
  let i := (getReg s R.CAL_ITEM).toNat
  if (calOtp s i).isSome then setOffset s i v else s
/-- CAL_OFFSET (R521). -/
def execCalOffset (value : BitVec 16) (s : State) : Host.Outcome State Fault Refusal := .next (writeCalOffset s value)
/-- SETTLING_END (R523). -/
def execSettlingEnd (item : BitVec 16) (s : State) : Host.Outcome State Fault Refusal :=
  .next ((calSources item.toNat).foldl (fun s i => setSrc s i { getSrc s i with settling := false }) s)

end Sys2Proof.Machine
end

