-- ==== Sys2Proof/Machine/Parlour.lean ====
section
/-!
DEFINITION. The Parlour's carriage (R77 to R99, R559, R560): doorbells, delivery, the completion ring, MSI-X, the pail areas
and the PRL_ registers.
-/
namespace Sys2Proof.Machine

/-! ### Pails and ports -/

/-- A pail after reset: NOTIFY_EN 1, VECTOR p. -/
def pailReset (p : Nat) : PailState :=
  { nextSeq := 0, respValid := false, reqHeld := false, writerAux := false, writerHost := false, overflow := false,
    lastAux := false, queue := [], cfg := BitVec.ofNat 8 (128 + p % 64) }
/-- A pail. -/
def getPail (s : State) (p : Nat) : PailState := tget pailReset s.parlour.pails p
/-- Set a pail. -/
def setPail (s : State) (p : Nat) (v : PailState) : State :=
  { s with parlour := { s.parlour with pails := tset pailReset s.parlour.pails p v } }
/-- Change a pail. -/
def modPail (s : State) (p : Nat) (f : PailState → PailState) : State := setPail s p (f (getPail s p))
/-- A port's configuration after a fundamental reset (R560). -/
def portReset (_ : Nat) : PortCfg :=
  { bar0 := 0, bar2 := 0, aspmL1 := false, message := [], busMaster := false, msixEnable := false, functionMask := false, inReset := false, masked := BitVec.allOnes 65, pend := 0 }
/-- 0 for the host port, 1 for the auxiliary port. -/
def portKey (port : PciePort) : Nat :=
  match port with
  | .host => 0
  | .aux => 1
/-- The port of a Bool that is true for the auxiliary port. -/
def portOf (aux : Bool) : PciePort := if aux then .aux else .host
/-- Whether a port is the auxiliary one. -/
def isAux (port : PciePort) : Bool := decide (port = .aux)
/-- The master identifier of a port (R77). -/
def portMaster (port : PciePort) : BitVec 10 := if isAux port then 578 else 577
/-- A port's configuration. -/
def getPort (s : State) (port : PciePort) : PortCfg := tget portReset s.parlour.ports (portKey port)
/-- Set a port's configuration. -/
def setPort (s : State) (port : PciePort) (c : PortCfg) : State :=
  { s with parlour := { s.parlour with ports := tset portReset s.parlour.ports (portKey port) c } }
/-- Whether TLPs of a port reach the Parlour: main power, no reset of the device being carried out (R96, R559), and the
port itself not in reset. -/
def portLive (s : State) (port : PciePort) : Bool :=
  hasMain s && decide (s.boot.step ≠ 0) && !(getPort s port).inReset

/-- Address and data of a vector in a port's MSI-X table; 0 where the host has written none (R560: the reset value of the table's
entries but for their Mask bit, log entry 96). -/
def vectorMessage (c : PortCfg) (v : Nat) : BitVec 64 × BitVec 32 := tget (fun _ => (0, 0)) c.message v
/-- The PCI Express, MSI-X and advanced-error-reporting capabilities of a port (R77): an endpoint with function level reset, its largest
payload and its tags, its fastest link and width, ASPM L1 alone; 65 MSI-X vectors with their table and pending bits in BAR0, and the
enables. Places and field codes are those of the PCIe base specification, the places of the capabilities the model's own, and an error
status nothing has set reads 0 (PRESUMED, log entry 96). -/
def capabilityRead (c : PortCfg) (port : PciePort) (o : Nat) : BitVec 32 :=
  let host := !isAux port
  match o with
  | 0x40 => 0x00028010
  | 0x44 => if host then 0x10008002 else 0x10008001
  | 0x4C => BitVec.ofNat 32 ((if host then 0x45 else 0x14) + 2 * 0x400)
  | 0x50 => BitVec.ofNat 32 (2 * b2n c.aspmL1)
  | 0x64 => if host then 0x00030000 else 0
  | 0x80 => BitVec.ofNat 32 (0x00400011 + (b2n c.msixEnable * 0x8000 + b2n c.functionMask * 0x4000) * 0x10000)
  | 0x84 => 0x00001000
  | 0x88 => 0x00001800
  | 0x100 => 0x00020001
  | 0x10C => 0x00462030
  | _ => 0
/-- A double word of a port's type 0 configuration space (R77): identifiers, class code with the silicon revision, the two 64-bit
BARs with their sizes and kinds, an Interrupt Pin of 0, and the capabilities. Offsets and type bits are those of the PCIe base
specification (PRESUMED, log entry 96). -/
def configRead (s : State) (port : PciePort) (o : Nat) : BitVec 32 :=
  let c := getPort s port
  match o with
  | 0x00 => 0x65120000 ||| Config.vendorId.setWidth 32
  | 0x04 => BitVec.ofNat 32 (0x00100000 + b2n c.busMaster * 4)
  | 0x08 => 0x108000B0
  | 0x10 => (c.bar0 &&& 0xFFFFE000).setWidth 32 ||| 0x4
  | 0x14 => (c.bar0 >>> 32).setWidth 32
  | 0x18 => (c.bar2 &&& 0xFFF00000).setWidth 32 ||| 0xC
  | 0x1C => (c.bar2 >>> 32).setWidth 32
  | 0x34 => 0x40
  | _ => capabilityRead c port o
/-- A double word of a port's MSI-X table or pending-bit array in BAR0 (R79, R560): an entry's address, data and Mask bit, and the pending
bits; the places in an entry are those of the PCIe base specification (PRESUMED, log entry 96). Reserved offsets read 0. -/
def msixRead (s : State) (port : PciePort) (o : Nat) : BitVec 32 :=
  let c := getPort s port
  if 0x1000 ≤ o ∧ o < 0x1410 then
    let v := (o - 0x1000) / 16
    let (a, d) := vectorMessage c v
    match o % 16 with
    | 0 => a.setWidth 32
    | 4 => (a >>> 32).setWidth 32
    | 8 => d
    | 12 => BitVec.ofNat 32 (b2n (c.masked.getLsbD v))
    | _ => 0
  else if 0x1800 ≤ o ∧ o < 0x1810 then BitVec.ofNat 32 (c.pend.toNat / 2 ^ (8 * (o - 0x1800)))
  else 0
/-- The first word of a pail's request area (R80). -/
def requestBase (p : Nat) : Nat := 0x30180000 + p * 0x2000
/-- The first word of a pail's response area. -/
def responseBase (p : Nat) : Nat := requestBase p + 0x1000

/-! ### MSI-X (R94, R560) and PRL_EVENT (R95) -/

/-- Send the message of a vector (R560). -/
def sendVector (s : State) (port : PciePort) (v : Nat) : State :=
  let (a, d) := vectorMessage (getPort s port) v
  send s (.msix port v a d)
/-- Signal a vector on a port: a message, or the pending bit while it is masked; nothing while MSI-X or bus mastering is
disabled (R560). -/
def signalVector (s : State) (port : PciePort) (v : Nat) : State :=
  let c := getPort s port
  if !c.msixEnable || !c.busMaster || c.inReset || !hasMain s || decide (65 ≤ v) then s
  else if c.functionMask || c.masked.getLsbD v then setPort s port { c with pend := c.pend ||| (1 <<< v : BitVec 65) }
  else sendVector s port v
/-- Vector 64 on both ports. -/
def signalBoth (s : State) : State := signalVector (signalVector s .host 64) .aux 64
/-- Set a bit of PRL_EVENT; its rise signals vector 64 while STATUS_INT_EN is 1 (R95). -/
def prlEvent (s : State) (i : Nat) : State :=
  if s.parlour.events.getLsbD i then s
  else
    let s := { s with parlour := { s.parlour with events := s.parlour.events ||| (1 <<< i : BitVec 5) } }
    if s.parlour.statusIntEn then signalBoth s else s
/-- A change of mode other than a reset's change to BOOT (R95). -/
def enterMode (s : State) (m : Nat) : State := if mode s = m then s else prlEvent (setMode s m) 0

/-! ### Ring control -/

/-- Write RING_EN (R92): a rise empties head, tail and INDEX and clears RING_ERR; a fall discards held entries. -/
def setRingEn (s : State) (v : Bool) : State :=
  let q := s.parlour
  if v && !q.ringEn then { s with parlour := { q with ringEn := true, head := 0, tail := 0, index := 0, ringErr := false } }
  else if !v then { s with parlour := { q with ringEn := false, held := [] } } else { s with parlour := { q with ringErr := false } }
/-- Write STATUS_INT_EN (R95). -/
def setStatusInt (s : State) (v : Bool) : State :=
  let rise := v && !s.parlour.statusIntEn
  let s := { s with parlour := { s.parlour with statusIntEn := v } }
  if rise ∧ s.parlour.events ≠ 0 then signalBoth s else s
/-- Write PRL_RING_TAIL (R90, R550): event 610 while entries are held. -/
def setRingTail (s : State) (v : Nat) : State :=
  let t := { s with parlour := { s.parlour with tail := v % 2 ^ s.parlour.sizeLog2 } }
  if s.parlour.held = [] then t else raise t 610
/-- Whether the ring has no space for an entry. -/
def ringFull (s : State) : Bool :=
  decide ((s.parlour.head + 1) % 2 ^ s.parlour.sizeLog2 = s.parlour.tail % 2 ^ s.parlour.sizeLog2)
/-- The port that writes the ring. -/
def ringPort (s : State) : PciePort := portOf s.parlour.ringAux
/-- Queue a ring entry (R88, R91): beyond 128 held ones it is dropped and counted. For a response delivered while RING_EN is 0 none is
queued and none counted: R92 discards held entries uncounted whenever RING_EN is 0, and the spec does not say more (DESIGN CHOICE, log
entry 120). -/
def queueRing (s : State) (e : RingEntry) : State :=
  if !s.parlour.ringEn then s
  else if 128 ≤ s.parlour.held.length then
    prlEvent { s with parlour := { s.parlour with dropped := BitVec.ofNat 16 (min 0xFFFF (s.parlour.dropped.toNat + 1)) } } 3
  else { s with parlour := { s.parlour with held := s.parlour.held ++ [e] } }

/-! ### Completions (R84, R88) -/

/-- A response with a status and a body. -/
def respond (status : Nat) (command : Nat) (body : Bytes) (detail : Nat := 0) (after : After := .none) : Response :=
  { status := BitVec.ofNat 16 status, command := BitVec.ofNat 16 command, detail := BitVec.ofNat 32 detail, body := body,
    after := after }
/-- Change the first doorbell of a list that a test picks. -/
def changeFirst (f : Doorbell → Bool) (g : Doorbell → Doorbell) : List Doorbell → List Doorbell
  | [] => []
  | d :: rest => if f d then g d :: rest else d :: changeFirst f g rest
/-- Whether a doorbell is a request of a command that is being carried out. -/
def carries (c : Nat) (d : Doorbell) : Bool :=
  match d.phase with
  | .taken r => decide (r.command = c)
  | _ => false
/-- Whether the supervisor has halted: firmware takes no pail, carries out nothing and completes nothing then (R353). -/
def supHalted (s : State) : Bool := (getCell s supKey).halted
/-- The oldest request of a command that a pail has had taken, which firmware carries out while the supervisor runs. -/
def findTaken (s : State) (p c : Nat) : Option (Doorbell × Request) :=
  match (if supHalted s then none else (getPail s p).queue.find? (carries c)) with
  | some d =>
    match d.phase with
    | .taken r => some (d, r)
    | _ => none
  | none => none
/-- The completion of the doorbell with a sequence number is ready. -/
def complete (s : State) (p : Nat) (seq : BitVec 16) (r : Response) : State :=
  modPail s p (fun v => { v with queue := changeFirst (fun d => decide (d.seq = seq)) (fun d => { d with phase := .ready r }) v.queue })
/-- The bytes of a response header (R84). -/
def responseBytes (seq : BitVec 16) (r : Response) : Bytes :=
  wordBytes r.status ++ wordBytes r.command ++ wordBytes seq ++ leBytes 2 r.body.length ++ leBytes 4 r.detail.toNat ++ zeros 4
    ++ r.body

/-- What a delivered response leaves to be done. -/
def afterDelivery (s : State) (a : After) : State :=
  match a with
  | .none => s
  | .devReset r => { s with fw := { s.fw with devResetDue := some r } }
  | .reset => { s with fw := { s.fw with resetDue := some false } }
  | .lowering => { s with fw := { s.fw with lowerDue := true } }
  | .spend => { s with fw := { s.fw with spendDue := true } }

/-- RESPONSE_DELIVERY (R88): the oldest doorbell of the pail, its completion ready and RESP_VALID 0. -/
def deliver (s : State) (p : Nat) : State :=
  let v := getPail s p
  match v.queue with
  | [] => s
  | d :: rest =>
    match d.phase with
    | .ready r =>
      if v.respValid then s
      else
        let s := writeMems s (responseBase p) ((packWords (responseBytes d.seq r)).map dataWord)
        let s := setPail s p { v with queue := rest, respValid := true }
        let s := queueRing s { pail := p, seq := d.seq, status := r.status, respLength := 16 + r.body.length, tag := d.tag,
                               aux := d.aux }
        afterDelivery s r.after
    | _ => s
/-- RESPONSE_DELIVERY (R88). -/
def execResponseDelivery (p : Pail) (s : State) : Host.Outcome State Fault Refusal := .next (deliver s p.val)

/-- A ring entry's two parts (R89). -/
def ringBytes (e : RingEntry) (index : BitVec 16) : Bytes × Bytes :=
  (leBytes 2 e.pail ++ wordBytes e.seq ++ wordBytes e.status ++ leBytes 2 e.respLength ++ wordBytes e.tag
    ++ [BitVec.ofNat 8 (b2n e.aux), 0], wordBytes index ++ [0, 0x80])

/-- RING_ENTRY_WRITE (R90, R94): two TLPs, the head and INDEX, and the pail's vector on the ring port. -/
def execRingEntryWrite (s : State) : Host.Outcome State Fault Refusal :=
  let q := s.parlour
  let port := ringPort s
  match q.held with
  | [] => .next s
  | e :: rest =>
    if !q.ringEn || ringFull s || !(getPort s port).busMaster || !portLive s port then .next s
    else
      let (a, b) := ringBytes e q.index
      let at_ := q.base + BitVec.ofNat 64 (16 * q.head)
      let s := send (send s (.hostWrite port at_ a)) (.hostWrite port (at_ + 12) b)
      let s := { s with parlour := { q with held := rest, head := (q.head + 1) % 2 ^ q.sizeLog2, index := q.index + 1 } }
      let cfg := (getPail s e.pail).cfg
      .next (if cfg.getLsbD 7 then signalVector s port (cfg.toNat % 128) else s)

/-- RING_WRITE_ERROR (R92): also for a write sent before RING_EN was cleared. Without main power there is no ring write. -/
def execRingWriteError (s : State) : Host.Outcome State Fault Refusal :=
  if !hasMain s then .next s
  else
    let port := ringPort s
    let s := prlEvent { s with parlour := { s.parlour with ringErr := true } } 1
    let s := { s with parlour := { s.parlour with ringEn := false, held := [] } }
    .next (fault (raise s 610) 2 610 .dma (portMaster port) 0)

/-- RESP_DONE (R87). -/
def respDone (s : State) (p : Nat) : State :=
  if (getPail s p).respValid then raise (modPail s p (fun v => { v with respValid := false })) 609 else s
/-- CLR_OVERFLOW (R85). -/
def clrOverflow (s : State) (p : Nat) : State := modPail s p (fun v => { v with overflow := false })
/-- RESP_DONE (R87). -/
def execRespDone (p : Pail) (s : State) : Host.Outcome State Fault Refusal :=
  .next (if s.boot.step = 0 then s else respDone s p.val)
/-- CLR_OVERFLOW (R85). -/
def execClrOverflow (p : Pail) (s : State) : Host.Outcome State Fault Refusal :=
  .next (if s.boot.step = 0 then s else clrOverflow s p.val)
/-- RING_EN (R92). -/
def execRingEn (value : Bool) (s : State) : Host.Outcome State Fault Refusal :=
  .next (if s.boot.step = 0 then s else setRingEn s value)
/-- STATUS_INT_EN (R95). -/
def execStatusIntEn (value : Bool) (s : State) : Host.Outcome State Fault Refusal :=
  .next (if s.boot.step = 0 then s else setStatusInt s value)
/-- PRL_RING_TAIL (R90). -/
def execPrlRingTail (value : BitVec 32) (s : State) : Host.Outcome State Fault Refusal :=
  .next (if s.boot.step = 0 then s else setRingTail s (value.toNat % 4096))

/-! ### Doorbells and requests (R82, R85) -/

/-- A doorbell completed without reading the request area (R85). -/
def bounce (status : Nat) : DbPhase := .ready (respond status 0 [])
/-- Accept a doorbell: sequence number, LAST_DB_PORT, OUTSTANDING (R85 step 2). -/
def accept (s : State) (p : Nat) (port : PciePort) (value : BitVec 32) (phase : DbPhase) : State :=
  modPail s p (fun v =>
    let d : Doorbell := { seq := v.nextSeq, tag := (value >>> 16).setWidth 16, aux := isAux port,
                          length := value.toNat % 0x4000, phase := phase, part := none, buf := none, heldFor := none, since := none, keys := [],
                          order := 0, dma := none, card := .start }
    { v with nextSeq := v.nextSeq + 1, lastAux := isAux port, queue := v.queue ++ [d] })
/-- Ring a doorbell (R85). -/
def ring (s : State) (port : PciePort) (p : Nat) (value : BitVec 32) : State :=
  let v := getPail s p
  let n := value.toNat % 0x4000
  if 16 ≤ v.queue.length then prlEvent (setPail s p { v with overflow := true }) 2
  else if v.reqHeld then accept s p port value (bounce 0x0002)
  else if mode s = mBOOT then accept s p port value (bounce 0x0002)
  else if n < 16 ∨ 8192 < n then accept s p port value (bounce 0x0011)
  else raisePail (modPail (accept s p port value .rung) p (fun v => { v with reqHeld := true })) p
/-- DOORBELL (R85). -/
def execDoorbell (port : PciePort) (p : Pail) (value : BitVec 32) (s : State) : Host.Outcome State Fault Refusal :=
  .next (if portLive s port then ring s port p.val value else s)

/-- Merge one byte into a word of RAM as DATA (R32). -/
def mergeByte (s : State) (a : Nat) (odd : Bool) (b : Byte) : State :=
  let w := (readMem s a).val
  writeMem s a (dataWord (if odd then (w &&& 0x00FF) ||| (b.setWidth 16 <<< 8) else (w &&& 0xFF00) ||| b.setWidth 16))
/-- Apply the bytes of a host write to the pail areas (R81, R82): those in a request area are merged and its WRITER bit is
set, those in a response area are discarded. -/
def pailBytes (port : PciePort) : State → Nat → Bytes → State
  | s, _, [] => s
  | s, off, b :: bs =>
    let p := off / 0x4000
    let s := if off % 0x4000 < 0x2000 ∧ p < 64 then
        let s := mergeByte s (0x30180000 + off / 2) (decide (off % 2 = 1)) b
        modPail s p (fun v => if isAux port then { v with writerAux := true } else { v with writerHost := true })
      else s
    pailBytes port s (off + 1) bs
/-- The response areas a write touches, as the waddr of its first byte in each (R81). -/
def responseHits (off n : Nat) : List Nat :=
  (List.range n).filterMap (fun i =>
    let o := off + i
    if 0x2000 ≤ o % 0x4000 ∧ (i = 0 ∨ o % 0x4000 = 0x2000) ∧ o < 0x100000 then some (0x30180000 + o / 2) else none)
/-- HOST_PAIL_WRITE (R81, R82): the TLP is applied whole; each part in a response area is recorded as a bus fault. -/
def execHostPailWrite (port : PciePort) (off : Nat) (bytes : Bytes) (s : State) : Host.Outcome State Fault Refusal :=
  if !portLive s port then .next s
  else .next ((responseHits off bytes.length).foldl (fun s a => busFault s .write (portMaster port) a)
    (pailBytes port s off bytes))

/-- A read through a port that returns 0. -/
def readsZero (s : State) (isWrite : Bool) : State := if isWrite then s else { s with lastRead := zeroWord }
/-- BAR0_BAD_ACCESS (R79): completed and ignored, a read with 0, and recorded as a bus fault; while the device is being reset a write is
discarded and a read returns 0, and nothing is recorded (R96). -/
def execBar0BadAccess (port : PciePort) (off : Nat) (isWrite : Bool) (s : State) : Host.Outcome State Fault Refusal :=
  if 0x1000 ≤ off ∨ hasMain s = false ∨ (getPort s port).inReset = true then .next s
  else if !portLive s port then .next (readsZero s isWrite)
  else .next (readsZero (busFault s (if isWrite then .write else .read) (portMaster port) (0x30100000 + off / 2)) isWrite)

/-! ### Ports -/

/-- Clear one bit of a 65-bit vector set. -/
def clearVec (b : BitVec 65) (v : Nat) : BitVec 65 := b &&& ~~~(1 <<< v : BitVec 65)
/-- Send the messages of pending vectors that are no longer masked (R94, R560). -/
def sendPending (s : State) (port : PciePort) : State :=
  (List.range 65).foldl (fun s v =>
    let c := getPort s port
    if c.pend.getLsbD v ∧ c.masked.getLsbD v = false ∧ c.functionMask = false ∧ c.msixEnable = true ∧ c.busMaster = true then
      sendVector (setPort s port { c with pend := clearVec c.pend v }) port v
    else s) s
/-- MSIX_UNMASK (R560): one vector, or the whole function. -/
def execMsixUnmask (port : PciePort) (vector : Option (Fin 65)) (s : State) : Host.Outcome State Fault Refusal :=
  let c := getPort s port
  if c.inReset ∨ hasMain s = false then .next s
  else match vector with
    | none => .next (sendPending (setPort s port { c with functionMask := false }) port)
    | some v => .next (sendPending (setPort s port { c with masked := clearVec c.masked v.val }) port)
/-- CONFIGURATION_SPACE_WRITE (R77 to R79, R560): a BAR keeps the address bits above its size. -/
def execConfigurationSpaceWrite (port : PciePort) (op : CfgOp) (s : State) : Host.Outcome State Fault Refusal :=
  let c := getPort s port
  if c.inReset ∨ hasMain s = false then .next s
  else match op with
    | .busMaster v => .next (sendPending (setPort s port { c with busMaster := v }) port)
    | .msixEnable v => .next (sendPending (setPort s port { c with msixEnable := v }) port)
    | .functionMask v => .next (sendPending (setPort s port { c with functionMask := v }) port)
    | .bar second a => .next (setPort s port (if second then { c with bar2 := a &&& 0xFFFFFFFFFFF00000 } else { c with bar0 := a &&& 0xFFFFFFFFFFFFE000 }))
    | .aspmL1 v => .next (setPort s port { c with aspmL1 := v })
    | .vectorMessage i a d => .next (setPort s port { c with message := tset (fun _ => (0, 0)) c.message i.val (a, d) })
    | .vectorMask i v =>
      .next (sendPending (setPort s port { c with masked := if v then c.masked ||| (1 <<< i.val : BitVec 65) else clearVec c.masked i.val }) port)

/-- The reset of a port (R96): its configuration only, and RING_EN if it is the ring port. -/
def resetPort (s : State) (port : PciePort) : State :=
  if !hasMain s then s
  else
    let s := setPort s port { portReset 0 with inReset := true }
    if ringPort s = port then { s with parlour := { s.parlour with ringEn := false, held := [] } } else s
/-- PCIE_RESET_END (R550): event 611. -/
def execPcieResetEnd (port : PciePort) (s : State) : Host.Outcome State Fault Refusal :=
  let c := getPort s port
  if c.inReset then .next (raise (setPort s port { c with inReset := false }) 611) else .next s

/-- BMC_SIDEBAND_WRITE (R550). -/
def execBmcSidebandWrite (s : State) : Host.Outcome State Fault Refusal := .next (if hasMain s then raise s 614 else s)
/-- UART_RECEIVE (R550): event 615. The byte itself: the spec gives the UART no receive register (log entry 20). -/
def execUartReceive (_byte : Byte) (s : State) : Host.Outcome State Fault Refusal := .next (if hasMain s then raise s 615 else s)

/-! ### The PRL_ registers as words (R80) -/

/-- The 32-bit value of the BAR0 register at a byte offset (R79). A read of PRL_RING_DROPPED clears it; that is done where
the read is. -/
def prlReg (s : State) (o : Nat) : Nat :=
  let q := s.parlour
  if s.boot.step = 0 ∧ o ≠ 0 ∧ o ≠ 8 then 0
  else match o with
  | 0x00 => 0x6512B003
  | 0x04 => b2n q.statusIntEn * 2 + b2n q.ringEn
  | 0x08 => (if mode s = mUNCLAIMED ∨ mode s = mSERVICE ∨ mode s = mRECOVERY ∨ mode s = mSPENT then 0x8000 else 0)
      + b2n q.ringErr * 0x4000 + b2n (q.ringEn && ringFull s && decide (q.held ≠ [])) * 0x2000 + b2n (decide (q.held ≠ [])) * 0x1000
      + mode s
  | 0x0C => q.events.toNat
  | 0x10 => q.base.toNat % 2 ^ 32
  | 0x14 => q.base.toNat / 2 ^ 32
  | 0x18 => b2n q.ringAux * 0x100 + q.sizeLog2
  | 0x1C => q.head
  | 0x20 => q.tail
  | 0x24 => q.dropped.toNat
  | _ =>
    if 0x400 ≤ o ∧ o < 0xC00 then
      let v := getPail s ((o - 0x400) / 0x20)
      match o % 0x20 with
      | 4 => v.nextSeq.toNat * 0x10000 + b2n v.respValid * 0x8000 + b2n v.reqHeld * 0x4000 + b2n v.writerAux * 0x2000
          + b2n v.writerHost * 0x1000 + b2n v.overflow * 0x800 + b2n v.lastAux * 0x400 + v.queue.length * 0x20
      | 12 => v.cfg.toNat
      | _ => 0
    else 0
/-- The word at a waddr of the PRL_ block (R80). -/
def prlRead (s : State) (w : Nat) : BitVec 16 :=
  let i := w - 0x30100000
  BitVec.ofNat 16 (if i < 0x800 then prlReg s (i / 2 * 4) / 65536 ^ (i % 2) else 0)
/-- A 64-bit value with its 16-bit word i replaced. -/
def putWord64 (b : BitVec 64) (i : Nat) (v : BitVec 16) : BitVec 64 :=
  (b &&& ~~~((0xFFFF : BitVec 64) <<< (16 * i))) ||| (v.setWidth 64 <<< (16 * i))
/-- A double word of BAR0 as a host reads it through a port (R79, R96). -/
def bar0Read (s : State) (port : PciePort) (o : Nat) : BitVec 32 := if o < 0x1000 then BitVec.ofNat 32 (prlReg s o) else msixRead s port o
/-- Write a word of the PRL_ block (R80, R93): the 32-bit registers are written by halves. The doorbell's low half rings,
with HOST_TAG 0 (log entry 20). A doorbell that comes from inside the device, as the supervisor's, is one of the host port in
LAST_DB_PORT and DB_PORT: the spec names two ports only (DESIGN CHOICE, log entry 20). -/
def prlWrite (s : State) (m : BitVec 10) (w : Nat) (v : BitVec 16) : State :=
  let i := w - 0x30100000
  let q := s.parlour
  let port : PciePort := portOf (decide (m = 578))
  if s.boot.step = 0 then s
  else if 8 ≤ i ∧ i < 14 ∧ q.ringEn = true then s
  else match i with
  | 0x02 => setRingEn (setStatusInt s (bit v 1)) (bit v 0)
  | 0x06 => { s with parlour := { q with events := q.events &&& ~~~(v.setWidth 5) } }
  | 0x08 => { s with parlour := { q with base := putWord64 q.base 0 (v &&& 0xFFC0) } }
  | 0x09 => { s with parlour := { q with base := putWord64 q.base 1 v } }
  | 0x0A => { s with parlour := { q with base := putWord64 q.base 2 v } }
  | 0x0B => { s with parlour := { q with base := putWord64 q.base 3 v } }
  | 0x0C => { s with parlour := { q with ringAux := bit v 8, sizeLog2 := max 4 (min 12 (fld v 3 0)) } }
  | 0x10 => setRingTail s (v.toNat % 4096)
  | _ =>
    if 0x200 ≤ i ∧ i < 0x600 then
      let p := (i - 0x200) / 0x10
      match i % 0x10 with
      | 0 => ring s port p (v.setWidth 32)
      | 4 =>
        let s := if bit v 1 then clrOverflow s p else s
        if bit v 0 then respDone s p else s
      | 6 => modPail s p (fun x => { x with cfg := v.setWidth 8 })
      | _ => s
    else s

end Sys2Proof.Machine
end

