-- ==== Sys2Proof/Machine/Dma.lean ====
section
/-!
DEFINITION. Control of the DMA channels (R388, R393, R396, R399, R402): START, ABORT and what a channel shows. What a channel
moves stands in Machine/DmaMove.lean.
-/
namespace Sys2Proof.Machine

/-- A channel after reset. -/
def dmaReset : Dma := { phase := .idle, halted := false, stopping := false, lastCode := 0, desc := none, status := 0 }
/-- A channel. -/
def getDma (s : State) (c : Nat) : Dma := tget (fun _ => dmaReset) s.dma c
/-- Set a channel. -/
def setDma (s : State) (c : Nat) (d : Dma) : State := { s with dma := tset (fun _ => dmaReset) s.dma c d }
/-- Change a channel. -/
def modDma (s : State) (c : Nat) (f : Dma → Dma) : State := setDma s c (f (getDma s c))
/-- The master identifier of a channel (R388). -/
def dmaMaster (c : Nat) : BitVec 10 := BitVec.ofNat 10 (513 + c)
/-- Set a bit of DMA_CH_EVENT, raising 256 + c if it was 0 (R402). -/
def dmaEvent (s : State) (c i : Nat) : State := eventBit s (R.DMA_CH_EVENT c) i (256 + c)
/-- Codes of STATUS (R397). -/
def dOK : Nat := 0
def dABORTED : Nat := 1
def dACCESS : Nat := 2
def dTAG : Nat := 3
def dBUS : Nat := 4
def dINTEGRITY : Nat := 5
def dHOST : Nat := 6
def dBAD_DESC : Nat := 7
/-- DESC_SPACE of a channel. -/
def descSpace (s : State) (c : Nat) : Nat := getFld s (R.DMA_CH_CFG c) 1 0
/-- The 64-bit value of four registers, the lowest first. -/
def regQuad (s : State) (w : Nat) : Nat := wordsNat ((List.range 4).map (fun j => dataWord (getReg s (w + j))))
/-- Set four registers to a 64-bit value. -/
def setQuad (s : State) (w n : Nat) : State := setRegs s w ((natWords .data 4 n).map (·.val))
/-- Whether a descriptor's address keeps R393: 32-byte boundaries in host memory, 16-word boundaries below 2^32 inside
(R389). -/
def descAligned (space a : Nat) : Bool := if space < 2 then decide (a % 32 = 0) else decide (a % 16 = 0) && decide (a < 2 ^ 32)
/-- A channel halts: HALTED and ERROR (R393, R398). -/
def dmaHalt (s : State) (c : Nat) : State :=
  dmaEvent (modDma s c (fun d => { d with phase := .idle, halted := true, stopping := false, desc := none })) c 2
/-- STATUS as R397 lays it out. -/
def dmaStatus (code element : Nat) (dstSide : Bool) : BitVec 32 :=
  BitVec.ofNat 32 (code * 2 ^ 28 + element % 256 * 2 ^ 16 + b2n dstSide * 2 ^ 15)
/-- A channel begins to fetch the descriptor at an address, which DMA_CH_DESC and DMA_CH_CUR then show (R396). -/
def beginFetch (s : State) (c a : Nat) : State :=
  let s := setQuad s (R.DMA_CH_DESC c 0) a
  if descAligned (descSpace s c) a then
    modDma (setQuad s (R.DMA_CH_CUR c 0) a) c (fun d => { d with phase := .fetch, halted := false, desc := none })
  else dmaHalt (modDma s c (fun d => { d with lastCode := 7, status := dmaStatus dBAD_DESC 0 false })) c
/-- START (R402): from IDLE or HALTED; ignored while the channel runs (R401). -/
def dmaStart (s : State) (c : Nat) : State :=
  if (getDma s c).phase = .idle then beginFetch s c (regQuad s (R.DMA_CH_DESC c 0)) else s
/-- The element of a side in which the next byte lies (R397 ELEMENT). -/
def elementAt : List (BitVec 64 × Nat) → Nat → Nat
  | [], _ => 0
  | (_, n) :: rest, k => if k < n then 0 else 1 + elementAt rest (k - n)
/-- The channel goes over to the write-back of its descriptor with a CODE. ELEMENT is 0 where CODE is OK. -/
def beginWriteBack (s : State) (c code element : Nat) (dstSide : Bool) (residue : Nat) : State :=
  let st := dmaStatus code element dstSide
  modDma s c (fun d => { d with phase := .writeBack st (BitVec.ofNat 32 residue), status := st })
/-- The element at which a channel stops (R397): the last one where everything has moved. -/
def stopElement (q : DmaDesc) : Nat := min (elementAt q.src.elems q.moved) (q.src.elems.length - 1)
/-- ABORT (R399): a channel that is fetching goes IDLE; one that moves is written back with CODE ABORTED, on the source side
of the burst it does not issue (log entry 36); a failure already found keeps its code (R401). -/
def dmaAbort (s : State) (c : Nat) : State :=
  let d := getDma s c
  match d.phase, d.desc with
  | .idle, _ => s
  | .fetch, _ => dmaEvent (modDma s c (fun d => { d with phase := .idle, stopping := false, status := dmaStatus dABORTED 0 false })) c 1
  | .move, some q =>
    beginWriteBack (modDma s c (fun d => { d with stopping := true })) c dABORTED (stopElement q) false (q.total - q.moved)
  | .writeBack st res, some q =>
    if st.toNat / 2 ^ 28 = dOK then
      beginWriteBack (modDma s c (fun d => { d with stopping := true })) c dABORTED (stopElement q) false res.toNat
    else s
  | _, none => s

/-! ### Failures of a channel (R398) -/

/-- A failure of an internal access: its code, the waddr of the first word refused, and the access table's refusal if it is one
(R398). -/
structure DmaFail where
  code : Nat
  addr : Nat
  note : Option (Refuse × Option Nat)

/-- Where the stream byte k lies on a side: the element's index, the byte address (an internal one is 2 x waddr), and the
bytes left in the element. -/
def locate (space : Nat) : List (BitVec 64 × Nat) → Nat → Nat → Nat × Nat × Nat
  | [], i, _ => (i, 0, 0)
  | (a, n) :: rest, i, k =>
    if k < n then (i, (if space = 2 then 2 * a.toNat else a.toNat) + k, n - k) else locate space rest (i + 1) (k - n)
/-- Record a failure of a channel (R398, R516): an internal refusal or bus fault is found by a checker, another failure is the
channel's own. -/
def dmaRecord (s : State) (c : Nat) (f : DmaFail) : State :=
  let s := match f.note with
    | some (r, e) => noteRefusal s r e
    | none => s
  fault s 2 (if f.code = dACCESS ∨ f.code = dBUS then 578 else 256 + c) .dma (dmaMaster c) (BitVec.ofNat 32 f.addr)
/-- A mismatch of the integrity code fires source 39 once the channel has stopped (R361). -/
def mismatchFires (s : State) (f : DmaFail) : State := if f.code = dINTEGRITY then fireSource s 39 else s
/-- A fetch that fails: HALTED and ERROR, nothing written back (log entry 36). -/
def fetchFails (s : State) (c : Nat) (f : DmaFail) : State :=
  mismatchFires (dmaHalt (modDma (dmaRecord s c f) c (fun d => { d with status := dmaStatus f.code 0 false })) c) f
/-- A failure of a burst: the descriptor is to be written back with its code (R398). -/
def burstFails (s : State) (c : Nat) (f : DmaFail) (element : Nat) (dstSide : Bool) (residue : Nat) : State :=
  mismatchFires (beginWriteBack (dmaRecord s c f) c f.code element dstSide residue) f
/-- A write-back fails: HALTED, ERROR and WRITEBACK_ERR, OWN left at 1 (R398). -/
def writeBackFails (s : State) (c : Nat) (f : DmaFail) : State :=
  mismatchFires (dmaEvent (dmaHalt (modDma (dmaRecord s c f) c (fun d => { d with status := dmaStatus f.code 0 true })) c) c 5) f
/-- Whatever a channel was doing inside fails with BUS at a waddr: its fetch, its burst on one side, or its write-back. -/
def dmaBusFails (s : State) (c : Nat) : State :=
  let a := regQuad s (R.DMA_CH_CUR c 0)
  match (getDma s c).phase, (getDma s c).desc with
  | .fetch, _ => if descSpace s c = 2 then fetchFails s c ⟨dBUS, a, none⟩ else s
  | .move, some d =>
    let (si, sa, _) := locate d.src.space d.src.elems 0 d.moved
    let (di, da, _) := locate d.dst.space d.dst.elems 0 d.moved
    if d.src.space = 2 then burstFails s c ⟨dBUS, sa / 2, none⟩ si false (d.total - d.moved)
    else burstFails s c ⟨dBUS, da / 2, none⟩ di true (d.total - d.moved)
  | .writeBack _ _, _ => if descSpace s c = 2 then writeBackFails s c ⟨dBUS, a + 2, none⟩ else s
  | .idle, _ => s
  | .move, none => s

/-- The reset of a port fails what a channel has pending there with HOST (R401): a descriptor fetch, the read of a burst, a write-back,
which then fails too. -/
def dmaPortFails (s : State) (port c : Nat) : State :=
  let s := match (getDma s c).phase, (getDma s c).desc with
    | .fetch, _ => if descSpace s c = port then fetchFails s c ⟨dHOST, 0, none⟩ else s
    | .move, some d =>
      if d.src.space = port then burstFails s c ⟨dHOST, 0, none⟩ (locate d.src.space d.src.elems 0 d.moved).1 false (d.total - d.moved) else s
    | _, _ => s
  match (getDma s c).phase with
  | .writeBack _ _ => if descSpace s c = port then writeBackFails s c ⟨dHOST, 0, none⟩ else s
  | _ => s
/-- A port is reset (R96), with what that does to the channels (R401). -/
def portResets (s : State) (port : PciePort) : State :=
  resetPort (if hasMain s then (List.range 64).foldl (fun s c => dmaPortFails s (portKey port) c) s else s) port
/-- PCIE_FUNDAMENTAL_RESET (R96). -/
def execPcieFundamentalReset (port : PciePort) (s : State) : Host.Outcome State Fault Refusal := .next (portResets s port)
/-- FUNCTION_LEVEL_RESET (R96). -/
def execFunctionLevelReset (port : PciePort) (s : State) : Host.Outcome State Fault Refusal := .next (portResets s port)

/-- A write of DMA_CH_CTRL. -/
def writeDmaCtrl (s : State) (c : Nat) (v : BitVec 16) : State :=
  let s := if bit v 15 then dmaStart s c else s
  if bit v 14 then dmaAbort s c else s
/-- DMA_START (R394): the supervisor writes START. -/
def execDmaStart (ch : DmaCh) (s : State) : Host.Outcome State Fault Refusal := .next (if hasMain s then dmaStart s ch.val else s)
/-- DMA_ABORT (R399). -/
def execDmaAbort (ch : DmaCh) (s : State) : Host.Outcome State Fault Refusal := .next (if hasMain s then dmaAbort s ch.val else s)

/-- STATE of DMA_CH_STATUS: 0 IDLE, 1 RUNNING, 2 STOPPING, 3 HALTED. -/
def dmaState (d : Dma) : Nat := if d.phase = .idle then (if d.halted then 3 else 0) else if d.stopping then 2 else 1
/-- The computed registers of the block (R402). -/
def dmaView (s : State) (w : Nat) : Option (BitVec 16) :=
  if regOff w < 4 then some (summary (16 * regOff w) (fun c => decide (dmaState (getDma s c) = 1)))
  else if regOff w < 8 then some (summary (16 * (regOff w - 4)) (fun c => decide (dmaState (getDma s c) = 3)))
  else if 0x1000 ≤ regOff w ∧ regOff w % 0x1000 = 2 then
    let d := getDma s (regInst w)
    some (BitVec.ofNat 16 (dmaState d * 0x4000 + d.lastCode.toNat * 0x400))
  else none

end Sys2Proof.Machine
end

