-- ==== Sys2Proof/Machine/Rng.lean ====
section
/-!
DEFINITION. Noise sources, vat queues and the central queue (R280 to R294). Only levels are state; the bits are free
values (log entry 3).
-/
namespace Sys2Proof.Machine

/-- Capacity of a vat queue in bits: 4 KiB (R288). -/
def vatQueueCap : Nat := 32768
/-- Capacity of the central queue in bits: 64 KiB (R290). -/
def centralCap : Nat := 524288
/-- Whether every source of logical vats 0-31 that is powered is stopped (R289, R294). A retired vat is powered down. -/
def allStopped (s : State) : Bool :=
  (List.range 32).all (fun n => decide ((getVat s (phys s n)).noise.state = 3) || decide ((getVat s (phys s n)).noise.state = 0))
  && (List.range 32).any (fun n => decide ((getVat s (phys s n)).noise.state = 3))

/-- How an internal draw ends: served, waiting for bits, or ended with RNG_STOPPED (R289). -/
inductive DrawRes where
  | served
  | waits
  | stopped
  deriving DecidableEq, Repr

/-- Whether a cell of the vat at p waits for bits (R323). -/
def cellDraws (s : State) (p : Nat) : Bool := (List.range 16).any (fun k => decide ((getCell s (p * 16 + k)).wait = .rdraw))
/-- Whether a consumer of higher priority than q waits for bits at the vat at p (R288, R292). -/
def higherAsks (s : State) (p q : Nat) : Bool := (getVat s p).wants.any (fun r => decide (r < q)) || (decide (3 < q) && cellDraws s p)
/-- Whether an internal draw waits at a vat of a logical number below n: the central queue serves that vat first (R291, R292). -/
def lowerAsks (s : State) (n : Nat) : Bool :=
  s.vats.any (fun v => decide (v.2.wants ≠ []) && decide (logicalOf s v.1 < n))
    || s.cells.any (fun c => decide (c.2.wait = .rdraw) && decide (logicalOf s (c.1 / 16) < n))
/-- An internal draw of the vat at p with a priority of R288, taken whole from one queue (R289): from the vat queue while it holds enough
bits and its source is not stopped, else from the central queue, counted in RNG_FALLBACK (log entry 58). One of higher priority that
waits goes first, at the central queue the vats of lower logical numbers too (R292). A reseed or the churn that waits is noted. -/
def internalDraw (s : State) (p q bits : Nat) : DrawRes × State :=
  let done := modVat s p (fun v => { v with wants := v.wants.erase q })
  let own := decide (bits ≤ (getVat s p).noise.bits) && decide ((getVat s p).noise.state ≠ 3)
  if own = false ∧ s.central.bits < bits ∧ allStopped s = true then (.stopped, done)
  else if higherAsks s p q = false ∧ own = true then (.served, modNoise done p (fun n => { n with bits := n.bits - bits }))
  else if higherAsks s p q = false ∧ own = false ∧ bits ≤ s.central.bits ∧ lowerAsks s (logicalOf s p) = false then
    (.served, countReg { done with central := { s.central with bits := s.central.bits - bits } } (R.RNG_FALLBACK p) 0xFFFF)
  else (.waits, if q < 3 ∧ q ∉ (getVat s p).wants then modVat s p (fun v => { v with wants := q :: v.wants }) else s)

/-- A draw of the key-derivation block from the central queue (R291 priority 2): after every internal draw that waits. -/
def kdfDraw (s : State) (bits : Nat) : Option (Nat × State) :=
  if bits ≤ s.central.bits ∧ lowerAsks s 34 = false then
    some (drawBits { s with central := { s.central with bits := s.central.bits - bits } } bits)
  else none

/-- Whether a software read finds no 16 bits above SOFT_FLOOR, so that it would take bits below (R291). -/
def softDry (s : State) : Bool := decide (s.central.bits < getFld s R.RNG_CQ_CFG 11 0 * 256 + 16)
/-- One software read of 16 bits (R291): only from the bits above SOFT_FLOOR, else 0 with UNDERRUN. -/
def softRead (s : State) : BitVec 16 × State :=
  if softDry s then (0, setBit s R.RNG_CQ_STATUS 14 true)
  else draw16 { s with central := { s.central with bits := s.central.bits - 16 } }

/-- A batch of software reads by firmware (R291): the bytes, or none when UNDERRUN was met and the batch is discarded. -/
def softBatch (s : State) (n : Nat) : Option Bytes × State :=
  let words := (n + 1) / 2
  let (l, s, bad) := (List.range words).foldl (fun (st : List (BitVec 16) × State × Bool) _ =>
    let dry := softDry st.2.1
    let (v, s) := softRead st.2.1
    (st.1 ++ [v], s, st.2.2 || dry)) ([], s, false)
  if bad then (none, s) else (some ((l.flatMap wordBytes).take n), s)

/-- Whether a source samples: its vat is powered and its clock runs (R281), which takes main power (R44). -/
def sampling (s : State) (p : Nat) : Bool := hasMain s && powered s p && getBit s (R.VAT_CTRL p) 1
/-- What sampling leaves in a source: the last raw bit and the conditioner's register are free, and so is the run that bit belongs to,
up to the longest run seen. -/
def sampledOn (s : State) (p longest : Nat) : State :=
  let (b, s) := draw16 s
  let (c, s) := drawBits s 256
  modNoise s p (fun n => { n with sampler := b.getLsbD 0, run := BitVec.ofNat 6 (1 + b.toNat / 2 % max 1 longest), conditioner := BitVec.ofNat 256 c })
/-- The peak registers take in what was seen (R294). -/
def seePeaks (s : State) (p run count : Nat) : State :=
  let s := setReg s (R.RNG_RCT_PEAK p) (BitVec.ofNat 16 (max run (getReg s (R.RNG_RCT_PEAK p)).toNat))
  setReg s (R.RNG_APT_PEAK p) (BitVec.ofNat 16 (max count (getReg s (R.RNG_APT_PEAK p)).toNat))
/-- A free count from 1 to `top`: what a test that did not fail has seen where no command says it. -/
def seenBelow (s : State) (top : Nat) : Nat × State :=
  let (v, s) := draw16 s
  (1 + v.toNat % top, s)
/-- APT_WINDOW_COMPLETE (R282, R283): a window that did not fail releases its 256 bits, or discards them when the vat
queue is full. `rctRun` is the longest run in it, `aptCount` its proportion count, both below their cutoffs. -/
def execAptWindowComplete (vat : VatId) (rctRun : BitVec 6) (aptCount : BitVec 10) (s : State) :
    Host.Outcome State Fault Refusal :=
  let p := phys s vat.val
  let n := (getVat s p).noise
  if n.state ≠ 2 ∨ sampling s p = false ∨ 41 ≤ rctRun.toNat ∨ 800 ≤ aptCount.toNat then .next s
  else
    let s := sampledOn s p rctRun.toNat
    let s := seePeaks s p rctRun.toNat aptCount.toNat
    .next (modNoise s p (fun n => if n.bits + 256 ≤ vatQueueCap then { n with bits := n.bits + 256 } else n))

/-- A test of a source fails (R285): the source stops and tamper source 28 fires. One that does not sample fails no test (R281). What
the other test had seen in that window is a free value below its cut-off. -/
def sourceFails (s : State) (p : Nat) (test : HealthTest) : State :=
  let n := (getVat s p).noise
  if (n.state ≠ 1 ∧ n.state ≠ 2) ∨ sampling s p = false then s
  else
    let s := match test with
      | .repetition => let (c, s) := seenBelow s 799; seePeaks s p 41 c
      | .proportion => let (c, s) := seenBelow s 40; seePeaks s p c 800
    let cause : BitVec 2 := match test with
      | .repetition => 1
      | .proportion => 2
    let s := modNoise s p (fun n => { n with state := 3, cause := cause, atStartup := decide (n.state = 1) })
    fireSource s 28

/-- The start-up test of a powered and clocked source ends and the source runs (R284). Its raw bits passed both tests of R282; what
these saw is free. -/
def sourceStarts (s : State) (p : Nat) : State :=
  if (getVat s p).noise.state = 1 ∧ sampling s p = true then
    let (run, s) := seenBelow s 40
    let (count, s) := seenBelow s 799
    modNoise (sampledOn (seePeaks s p run count) p run) p (fun n => { n with state := 2 })
  else s

/-- A 256-bit unit from the next vat, in round-robin order of logical number, whose level is above RESERVE (R290); one that arrives with
a mismatch is discarded, a logic-integrity tamper event that names cell 0 of the vat as the master (R361, R362). Whether it does is a free
value (log entry 3). The refill comes after every internal draw of the vat that waits (R288). -/
def refillCentral (s : State) : State :=
  if centralCap < s.central.bits + 256 then s
  else
    let order := (List.range 34).map (fun i => (s.central.next + i) % 34)
    match order.find? (fun n => powered s (phys s n) && !higherAsks s (phys s n) 4
        && decide (getFld s (R.RNG_SRC_CFG (phys s n)) 7 0 < (getVat s (phys s n)).noise.bits / 256)) with
    | none => s
    | some n =>
      let p := phys s n
      let s := grantRoute s 0 (routeFrom 14 5 12 (routerOfPos p)) 4
      let s := modNoise s p (fun x => { x with bits := x.bits - 256 })
      let (e, s) := draw16 s
      if e.getLsbD 0 then
        fireSource (noteMismatch { s with central := { s.central with next := (n + 1) % 34 } } 3 (BitVec.ofNat 10 (16 * n))) 39
      else { s with central := { bits := s.central.bits + 256, next := (n + 1) % 34 } }

/-- What RDRAW writes: C 1 and the bits on success, C 0 and 0x0000 DATA when it ends with RNG_STOPPED (R321). -/
def giveDraw (s : State) (k : Nat) (ok : Bool) : State :=
  match fetch s k with
  | .fault _ _ => s
  | .word w =>
    let (v, s) := if ok then draw16 s else ((0 : BitVec 16), s)
    modCell s k (fun c =>
      let c := { c with wait := .none }
      let tag : Tag := if ok && decide (w.toNat % 2 = 1) then .secret else .data
      advance (setFlags (setG c (pf w 20) ⟨tag, v⟩) ⟨false, false, ok, false, false⟩))

/-- RDRAW and RDRAW.S (R321): a priority-3 draw of 16 bits; without bits, or behind a cell of a lower number that waits (R292), the cell
waits (R323). -/
def execRdraw (core : Core) (s : State) : Host.Outcome State Fault Refusal :=
  .next (cellInstr s core (fun p => decide (pOp p = 0x86))
    (fun p => jobLegal core && decide (pf p 16 = 0) && decide (p.toNat % 65536 / 2 = 0)) fun s k c _ =>
      match (if (List.range (k % 16)).any (fun j => decide ((getCell s (k - k % 16 + j)).wait = .rdraw)) then (.waits, s)
        else internalDraw s (k / 16) 3 16) with
      | (.served, s) => giveDraw s k true
      | (.stopped, s) => giveDraw s k false
      | (.waits, s) => setCell s k { c with wait := .rdraw, hold := false })

/-- INTERNAL_DRAW (R289, R292): the lowest-numbered cell of the vat that waits in RDRAW is served or ends with
RNG_STOPPED. A churn job or reseed that waits for bits waits inside its grant and draws at its own command. -/
def execInternalDraw (vat : VatId) (s : State) : Host.Outcome State Fault Refusal :=
  let p := phys s vat.val
  match (List.range 16).find? (fun k => decide ((getCell s (p * 16 + k)).wait = .rdraw)) with
  | none => .next s
  | some k =>
    match internalDraw s p 3 16 with
    | (.served, s) => .next (giveDraw s (p * 16 + k) true)
    | (.stopped, s) => .next (giveDraw s (p * 16 + k) false)
    | (.waits, s) => .next s

/-- RNG_CQ_DATA (R291): a read of the central queue. -/
def execRngCqData (s : State) : Host.Outcome State Fault Refusal :=
  let (v, s) := softRead s
  .next { s with lastRead := dataWord v }

end Sys2Proof.Machine
end

