-- ==== Sys2Proof/Machine/Churn.lean ====
section
/-!
DEFINITION. The churn (R222 to R254): submission and its checks, grants, results, cancels, curves, known-answer tests.
-/
namespace Sys2Proof.Machine

/-- Whether every word of a region is marked secret-capable in the access table, whichever master may use it (R225 check 4). -/
def secretOk (s : State) (a n : Nat) : Bool :=
  (List.range n).all (fun i => let es := covering s (a + i); decide (es ≠ []) && es.all (fun j => (appliedEntry s j).secretOk))

/-! ### Curves (R236) -/

/-- A loaded entry of a churn's curve table. -/
def curveAt (s : State) (p i : Nat) : Option Curve :=
  if i = 1 then some p256 else if i = 2 then some p384 else if i = 3 then some p521
  else if i = 0 then none else tget (fun _ => none) (getVat s p).churn.curves i
/-- Field length in words. -/
def Curve.words (c : Curve) : Nat := (c.bytes + 1) / 2

/-- STATUS values (R248). -/
def cOK : Nat := 0
def cRUNNING : Nat := 1
def cBAD_OP : Nat := 2
def cBAD_SIZE : Nat := 3
def cNO_CURVE : Nat := 4
def cLOCKED : Nat := 5
def cOCCUPIED : Nat := 6
def cBOUNDS : Nat := 7
def cACCESS : Nat := 8
def cTAG_REFUSED : Nat := 9
def cRANGE : Nat := 10
def cBAD_POINT : Nat := 11
def cCURVE_REFUSED : Nat := 12
def cMISMATCH : Nat := 13
def cABANDONED : Nat := 14
def cRNG_STOPPED : Nat := 15

/-- L, the modulus length in words, by SIZE. -/
def rsaWords (size : Nat) : Nat := if size = 0 then 128 else if size = 1 then 192 else 256

/-- Regions an operation uses (R228): words of KEY (read, written), IN and OUT, and whether KEY is a private key and OUT
SECRET. -/
structure OpShape where
  keyRead : Nat
  keyWrite : Nat
  inWords : Nat
  outWords : Nat
  priv : Bool
  outSecret : Bool
  deriving DecidableEq, Repr

/-- The shape of an operation, given L, F and for CURVE_SET the words of IN. -/
def opShape (op l f cw : Nat) : Option OpShape :=
  match op with
  | 0x11 => some ⟨5 * (l / 2), 0, l, l, true, false⟩
  | 0x12 => some ⟨l, 0, l, l, false, false⟩
  | 0x13 => some ⟨0, 5 * (l / 2), 0, l, true, false⟩
  | 0x21 => some ⟨f, 0, f, 2 * f, true, false⟩
  | 0x22 => some ⟨2 * f, 0, 3 * f, 1, false, false⟩
  | 0x23 => some ⟨f, 0, 2 * f, f, true, true⟩
  | 0x24 => some ⟨0, f, 0, 2 * f, true, false⟩
  | 0x31 => some ⟨0, 0, cw, 0, false, false⟩
  | _ => none
/-- Whether an operation is an RSA one. -/
def isRsa (op : Nat) : Bool := op / 16 == 1
/-- Whether an operation is private: it runs in two passes (R228, R241). -/
def isPrivate (op : Nat) : Bool := op ∈ [0x11, 0x13, 0x21, 0x23, 0x24]

/-- A refusal's events: TAG_REFUSED makes a tag record of class DEVICE (R226, R517). -/
def churnTag (s : State) (p k : Nat) (a : Nat) : State :=
  eventVat (fault s 2 (vatSource s p 6) .tag (masterOfKey s (p * 16 + k)) (BitVec.ofNat 32 a)) (R.CHN_EVENT p) 2 p 6

/-- Rounds of Miller-Rabin for a prime of a modulus of l words (R231). -/
def rsaRounds (l : Nat) : Nat := if l = 128 then 5 else 4
/-- The first 1024 odd primes (R231). -/
def oddPrimes : List Nat :=
  ((List.range 8192).filter (fun n => decide (3 ≤ n) && (List.range n).all (fun d => decide (d < 2) || decide (n % d ≠ 0)))).take 1024
/-- Whether a candidate prime passes trial division, Miller-Rabin and the gcd condition (R231). -/
def primeOk (v : Nat) (bases : List Nat) : Bool :=
  oddPrimes.all (fun d => decide (v % d ≠ 0)) && mrTest v bases && decide (Nat.gcd 65537 (v - 1) = 1)
/-- A candidate of b bits with its top two bits and bit 0 set (R231). -/
def candidate (b v : Nat) : Nat := 3 * 2 ^ (b - 2) + v % 2 ^ (b - 2) / 2 * 2 + 1
/-- One try of the search of R231 for a modulus of l words: two candidates and their bases are drawn, and the pair, greater prime
first, if it is accepted. -/
def rsaSearch (s : State) (l : Nat) : Option (Nat × Nat) × State :=
  let b := 8 * l
  let bases := fun (s : State) => (List.range (rsaRounds l)).foldl (fun (q : List Nat × State) _ =>
    let (v, s) := drawBits q.2 b; (q.1 ++ [v], s)) ([], s)
  let (u, s) := drawBits s b
  let (us, s) := bases s
  let (v, s) := drawBits s b
  let (vs, s) := bases s
  let x := max (candidate b u) (candidate b v)
  let y := min (candidate b u) (candidate b v)
  (if primeOk (candidate b u) us && primeOk (candidate b v) vs && decide (2 ^ (b - 100) < x - y) then some (x, y) else none, s)
/-- The KEY words and the modulus words of an RSA key pair of l words (R228, R231). -/
def rsaKeyWords (l : Nat) (pq : Nat × Nat) : List Word × List Word :=
  let (p, q) := pq
  let h := l / 2
  let d := invMod 65537 ((p - 1) * (q - 1))
  (natWords .secret h p ++ natWords .secret h q ++ natWords .secret h (d % (p - 1)) ++ natWords .secret h (d % (q - 1))
    ++ natWords .secret h (invMod q p), natWords .data l (p * q))

/-- The curve of a CURVE_SET's IN region (R238). -/
def curveOfInput (is : List Word) : Curve :=
  let fb := (is.getD 0 zeroWord).val.toNat
  let f := (fb + 1) / 2
  let at_ := fun i => wordsNat ((is.drop (1 + i * f)).take f)
  { bytes := fb, p := at_ 0, a := at_ 1, b := at_ 2, gx := at_ 3, gy := at_ 4, n := at_ 5,
    h := (is.getD (6 * f + 1) zeroWord).val.toNat }
/-- The random bits an operation draws, draw by draw: in its first pass, and after it (R231, R232, R235, R241, R244). `l` is the
modulus length in words; bases and candidates of a prime have half its bits. -/
def churnDraws (op l : Nat) (c : Curve) (rep : Bool) : List Nat × List Nat :=
  let f := 16 * c.words
  let nonce := bitLen c.n + 64
  match op with
  | 0x11 => ([16 * l, 64, 64], [16 * l, 64, 64])
  | 0x12 => ([], if rep then [16 * l] else [])
  | 0x13 => (List.replicate (2 + 2 * rsaRounds l) (8 * l), [16 * l, 64, 64, 16 * l, 64, 64, 16 * l])
  | 0x21 => ([nonce, 64, f, f], [64, f, f])
  | 0x22 => ([], if rep then [f] else [])
  | 0x23 => ([64, f], [64, f])
  | 0x24 => ([nonce, 64, f], [64, f])
  | 0x31 => (List.replicate 32 f, List.replicate 32 f)
  | _ => ([], [])

/-- The words of an operand region as a number (R228). -/
def partNat (ws : List Word) (i n : Nat) : Nat := wordsNat ((ws.drop i).take n)
/-- Check 7 of R225 as far as it compares values (R229, R230, R232 to R234, R238). -/
def rangeCheck (op l : Nat) (c : Curve) (fb : Nat) (ks is : List Word) : Option (Nat × Nat) :=
  let f := c.words
  let point := fun (ws : List Word) => decide (partNat ws 0 f < c.p) && decide (partNat ws f f < c.p)
  let scalar := decide (1 ≤ wordsNat ks) && decide (wordsNat ks < c.n)
  match op with
  | 0x12 =>
    let n := wordsNat ks
    if bitLen n ≠ 16 * l ∨ n % 2 = 0 then some (cBAD_SIZE, 1) else if n ≤ wordsNat is then some (cRANGE, 2) else none
  | 0x21 => if scalar then none else some (cRANGE, 1)
  | 0x22 => if point ks then none else some (cBAD_POINT, 1)
  | 0x23 => if !point is then some (cBAD_POINT, 2) else if scalar then none else some (cRANGE, 1)
  | 0x31 => if 32 ≤ fb ∧ fb ≤ 66 then none else some (cBAD_SIZE, 2)
  | _ => none

/-- The checks of R225 in order: the first that fails as STATUS and DETAIL, or the accepted job; nothing where a read waits (R188, R214).
A read that the access table refuses is recorded (R227, R374). Check 7's comparisons of values are here; those that need multiplications
are made in the first grant (`lateCheck`). -/
def churnChecks (s : State) (p : Nat) (m : BitVec 10) (d : List Word) : Option (Except (Nat × Nat) ChurnJob) × State :=
  let w := fun i => (d.getD i zeroWord).val
  let op := fld (w 0) 7 0
  let curve := fld (w 1) 11 8
  let size := fld (w 1) 1 0
  let capAt := fun i => (capOfWords [d.getD i zeroWord, d.getD (i + 1) zeroWord, d.getD (i + 2) zeroWord, d.getD (i + 3) zeroWord]).getD nullCap
  let kc := capAt 4
  let ic := capAt 8
  let oc := capAt 12
  let inBase := (capOf ic).base
  let fb := match (opRead s m inBase 1).1 with
    | .words [x] => x.val.toNat
    | _ => 0
  let cw := if 32 ≤ fb ∧ fb ≤ 66 then 6 * ((fb + 1) / 2) + 2 else 1
  let cv := curveAt s p curve
  let f := match cv with
    | some c => c.words
    | none => 0
  match opShape op (rsaWords size) f cw with
  | none => (some (.error (cBAD_OP, 0)), s)
  | some sh =>
    let bad2 : Option Nat :=
      if isRsa op then (if size = 3 then some cBAD_SIZE else none)
      else if op = 0x31 then
        (if curve < 4 then some cLOCKED
         else if cv.isSome ∨ (getVat s p).churn.reserved.getLsbD curve then some cOCCUPIED else none)
      else if cv.isNone then some cNO_CURVE else none
    match bad2 with
    | some st => (some (.error (st, 0)), s)
    | none =>
      let fits := fun (c : CReg) n need => n = 0 ∨ (c.valid = true ∧ hasPerms (capOf c).perms need = true ∧ n ≤ (capOf c).len)
      let kbase := (capOf kc).base
      let obase := (capOf oc).base
      let no := fun (st det : Nat) (s : State) => ((some (.error (st, det)) : Option (Except (Nat × Nat) ChurnJob)), s)
      if ¬ (fits kc sh.keyRead pREAD ∧ fits kc sh.keyWrite pWRITE) then no cBOUNDS 1 s
      else if ¬ fits ic sh.inWords pREAD then no cBOUNDS 2 s
      else if ¬ fits oc sh.outWords pWRITE then no cBOUNDS 3 s
      else if 0 < sh.keyWrite ∧ secretOk s kbase sh.keyWrite = false then no cTAG_REFUSED 1 s
      else if sh.outSecret = true ∧ secretOk s obase sh.outWords = false then no cTAG_REFUSED 3 s
      else match opRead s m kbase sh.keyRead with
        | (.waits, s) => (none, s)
        | (.refused, s) => no cACCESS 1 s
        | (.words ks, s) =>
          match opRead s m inBase sh.inWords with
          | (.waits, s) => (none, s)
          | (.refused, s) => no cACCESS 2 s
          | (.words is, s) =>
            if ks.any (fun x => decide (x.tag = .code) || decide (x.tag = .cap) || (sh.priv && decide (x.tag ≠ .secret)))
            then no cTAG_REFUSED 1 s
            else if is.any (fun x => decide (x.tag = .code) || decide (x.tag = .cap)) then no cTAG_REFUSED 2 s
            else
              let c := if op = 0x31 then curveOfInput is else cv.getD p256
              match rangeCheck op (rsaWords size) c fb ks is with
              | some e => (some (.error e), s)
              | none =>
                let draws := churnDraws op (rsaWords size) c (bit (w 2) 0)
                (some (.ok { op := op, curve := curve, size := size, rep := bit (w 2) 0, descr := 0, keyCap := kc, outCap := oc,
                             key := ks, input := is, cancel := false, begun := false, owed := draws.1, later := draws.2, pair := none, results := none }), s)

/-- Keep a job in its context. -/
def putJob (s : State) (p k : Nat) (job : ChurnJob) : State :=
  modChurn s p (fun c => { c with jobs := tset (fun _ => none) c.jobs k (some job) })
/-- Submit a churn job for a cell (R225): its STATUS is written, and it waits for its first grant, which an idle churn
gives at once. Nothing where an operand region waits. -/
def churnSubmit (s : State) (p k descr : Nat) (d : List Word) : Option State :=
  let m := masterOfKey s (p * 16 + k)
  let s := modCell s (p * 16 + k) (fun c => { c with churnStatus := 1 })
  match churnChecks s p m d with
  | (none, _) => none
  | (some (.error (st, det)), s) =>
    let s := if st = cTAG_REFUSED then churnTag s p k descr else s
    some (churnEnd s p k descr st det true)
  | (some (.ok job), s) =>
    let s := putJob (opPut s m (descr + 16) (dataNat cRUNNING)) p k { job with descr := BitVec.ofNat 32 descr }
    let s := modChurn s p (fun c => { c with
      reserved := if job.op = 0x31 then c.reserved ||| (1 <<< job.curve : BitVec 16) else c.reserved })
    some (if (getVat s p).churn.busy then s else churnGrant s p)

/-- CHN_CANCEL (R249). -/
def writeChnCancel (s : State) (p : Nat) (v : BitVec 16) : State :=
  (onesOf v).foldl (fun s k => (churnCancel s p k).2) s

/-- The checks of order 7 that need multiplications, made in the job's first grant (R225, R229, R233, R234). -/
def lateCheck (job : ChurnJob) (c : Curve) : Option (Nat × Nat) :=
  let k := partNat job.key
  let x := partNat job.input
  let f := c.words
  match job.op with
  | 0x11 =>
    let h := rsaWords job.size / 2
    let n := k 0 h * k h h
    if bitLen n ≠ 32 * h then some (cBAD_SIZE, 1) else if n ≤ wordsNat job.input then some (cRANGE, 2) else none
  | 0x22 => if goodPoint c (k 0 f) (k f f) then none else some (cBAD_POINT, 1)
  | 0x23 => if goodPoint c (x 0 f) (x f f) then none else some (cBAD_POINT, 2)
  | _ => none
/-- The refusal an operation ends with when its result is known: ECDH of the identity (R234). -/
def resultCheck (job : ChurnJob) (c : Curve) : Option (Nat × Nat) :=
  if job.op = 0x23 ∧ ecMul c (c.h * wordsNat job.key) (some (partNat job.input 0 c.words, partNat job.input c.words c.words)) = none
  then some (cBAD_POINT, 2) else none

/-- Whether p is odd and of the length FIELD_BYTES says: what check 1 of R239 asks before it draws. -/
def fieldOk (c : Curve) : Bool := decide (c.p % 2 = 1) && decide (8 * (c.bytes - 1) < bitLen c.p) && decide (bitLen c.p ≤ 8 * c.bytes)
/-- Checks 1 and 2 of R239, on the 32 bases drawn for p: the first that fails. -/
def curveStart (c : Curve) (bases : List Nat) : Option Nat :=
  if ¬ (fieldOk c = true ∧ mrTest c.p bases = true) then some 1
  else if ¬ (c.a < c.p ∧ c.b < c.p ∧ onCurve c c.gx c.gy = true) then some 2 else none
/-- Checks 3 to 5 of R239, on the 32 bases drawn for n: the first that fails. -/
def curveRest (c : Curve) (bases : List Nat) : Option Nat :=
  if ¬ (mrTest c.n bases = true ∧ bitLen c.n ≤ 16 * c.words ∧ ecMul c c.n (basePoint c) = none) then some 3
  else if (4 * c.a * c.a * c.a + 27 * c.b * c.b) % c.p = 0 then some 4
  else if c.h = 0 ∨ 8 < c.h then some 5 else none
/-- Thirty-two random bases of a curve's field length. -/
def drawBases (s : State) (c : Curve) : List Nat × State :=
  let b := 16 * c.words
  let (r, s) := drawBits s (32 * b)
  ((List.range 32).map (fun i => r / 2 ^ (b * i) % 2 ^ b), s)

/-- One blinded pass of RSA_SIGN_CRT (R241): the message times u^65537, the exponents increased by t times p - 1 and q - 1, the result
times u^-1. The first bits of r give u, made a unit, and the next 128 the two values of t. -/
def rsaPass (l p q dp dq qinv m r : Nat) : Nat :=
  let n := p * q
  let v := r % 2 ^ (16 * l) % n
  let u := if Nat.gcd v n = 1 then v else 1
  let t := r / 2 ^ (16 * l)
  rsaCrt p q (dp + t % 2 ^ 64 * (p - 1)) (dq + t / 2 ^ 64 % 2 ^ 64 * (q - 1)) qinv (m * powMod u 65537 n % n) * invMod u n % n
/-- One blinded pass of ECDH (R234, R241): the scalar d + t n times the cofactor. -/
def ecdhPass (c : Curve) (d : Nat) (q : Nat × Nat) (t : Nat) : Option (Nat × Nat) := ecMul c (c.h * (d + t % 2 ^ 64 * c.n)) (some q)
/-- The random bits the compare of R241 and the functional draw of an operation stand on. -/
def resultBits (op l : Nat) (c : Curve) : Nat :=
  match op with
  | 0x11 => 2 * (16 * l + 128)
  | 0x13 => 16 * l
  | 0x23 => 128
  | _ => bitLen c.n + 64
/-- Whether the compare of R241 fails on the operands themselves: two blinded passes of RSA_SIGN_CRT that differ, as with dp, dq or qinv
that do not belong to p and q; two passes of ECDH whose point has no order dividing h n; or the pairwise test of RSA_KEYGEN. -/
def passesDiffer (job : ChurnJob) (c : Curve) (r : Nat) : Bool :=
  let l := rsaWords job.size
  let h := l / 2
  let k := partNat job.key
  match job.op with
  | 0x11 =>
    let pass := rsaPass l (k 0 h) (k h h) (k (2 * h) h) (k (3 * h) h) (k (4 * h) h) (wordsNat job.input)
    decide (pass r ≠ pass (r / 2 ^ (16 * l + 128)))
  | 0x13 =>
    match job.pair with
    | none => false
    | some (p, q) =>
      let d := invMod 65537 ((p - 1) * (q - 1))
      let v := r % (p * q)
      decide (rsaPub (p * q) (rsaCrt p q (d % (p - 1)) (d % (q - 1)) (invMod q p) v) ≠ v)
  | 0x23 =>
    let q := (partNat job.input 0 c.words, partNat job.input c.words c.words)
    decide (ecdhPass c (wordsNat job.key) q r ≠ ecdhPass c (wordsNat job.key) q (r / 2 ^ 64))
  | _ => false

/-- The words an operation writes to KEY and to OUT, or none where the nonce must be drawn again (R228 to R235). `r` is
the number its functional draw gave. -/
def churnResult (job : ChurnJob) (c : Curve) (r : Nat) : Option (List Word × List Word) :=
  let k := partNat job.key
  let x := partNat job.input
  let f := c.words
  let l := rsaWords job.size
  let h := l / 2
  match job.op with
  | 0x11 => some ([], natWords .data l (rsaCrt (k 0 h) (k h h) (k (2 * h) h) (k (3 * h) h) (k (4 * h) h) (wordsNat job.input)))
  | 0x12 => some ([], natWords .data l (rsaPub (wordsNat job.key) (wordsNat job.input)))
  | 0x13 => job.pair.map (rsaKeyWords l)
  | 0x21 => (ecdsaSign c (wordsNat job.key) (wordsNat job.input % c.n) (r % (c.n - 1) + 1)).map
      (fun q => ([], natWords .data f q.1 ++ natWords .data f q.2))
  | 0x22 => some ([], [dataNat (b2n (ecdsaVerify c (k 0 f) (k f f) (x 0 f) (x f f) (x (2 * f) f)))])
  | 0x23 => some ([], natWords .secret f ((ecMul c (c.h * wordsNat job.key) (some (x 0 f, x f f))).getD (0, 0)).1)
  | 0x24 =>
    let d := r % (c.n - 1) + 1
    let q := (ecMul c d (basePoint c)).getD (0, 0)
    some (natWords .secret f d, natWords .data f q.1 ++ natWords .data f q.2)
  | _ => some ([], [])

/-- Whether a result region waits (R188, R214). -/
def churnResultsWait (s : State) (job : ChurnJob) (res : List Word × List Word) : Bool :=
  spanWaits s (capOf job.keyCap).base res.1.length || spanWaits s (capOf job.outCap).base res.2.length || spanWaits s job.descr.toNat 20
/-- Write parts of a result one after the other, each with the DETAIL a refusal of it gives: that DETAIL, and whether it is a tag that
is refused. -/
def writeResults (s : State) (m : BitVec 10) : List (Nat × Nat × List Word) → Option (Nat × Bool) × State
  | [] => (none, s)
  | (det, a, ws) :: rest =>
    match opWrite s m a ws with
    | (.done, s) => writeResults s m rest
    | (r, s) => (some (det, decide (r = .tagged)), s)
/-- Write the results in the order of R227 and end the job with OK, or at a refused word with ACCESS (R252), a word refused by its tag
with TAG_REFUSED (R226): DETAIL names the capability concerned, 0 where it is the descriptor (R225). While a region waits the job keeps
its results and the multiplier: it has begun writing, and a cancel has no effect on it (R249). -/
def churnWrite (s : State) (p k : Nat) (job : ChurnJob) (res : List Word × List Word) : State :=
  let a := job.descr.toNat
  if churnResultsWait s job res then putJob s p k { job with results := some res }
  else
    let (cy, s) := elapsed s
    churnGrant (match writeResults s (masterOfKey s (p * 16 + k))
        [(1, (capOf job.keyCap).base, res.1), (3, (capOf job.outCap).base, res.2),
         (0, a + 18, [dataWord (cy.setWidth 16), dataWord ((cy >>> 16).setWidth 16)]), (0, a + 17, [dataNat 0])] with
      | (none, s) => churnEnd (countReg s (R.CHN_OPS p) 0xFFFF) p k a cOK 0 true
      | (some (det, false), s) => churnEnd s p k a cACCESS det true
      | (some (det, true), s) => eventVat (churnEnd s p k a cTAG_REFUSED det true) (R.CHN_EVENT p) 2 p 6) p

/-- What a vat's churn keeps of a mismatch (R242 steps 4 and 5): the count, the cell and the operation, the event, and a record of class
INTEGRITY with the submitting cell and the descriptor's waddr. -/
def mismatchRecord (s : State) (p k op : Nat) (descr : BitVec 32) : State :=
  let s := countReg s (R.CHN_MISMATCH p) 0xFFFF
  let s := setReg s (R.CHN_LAST_MISMATCH p) (BitVec.ofNat 16 (k * 4096 + op))
  fault (eventVat s (R.CHN_EVENT p) 0 p 6) 4 (vatSource s p 6) .none (masterOfKey s (p * 16 + k)) descr
/-- MISMATCH (R242): nothing written, counted, recorded as class INTEGRITY. -/
def churnMismatch (s : State) (p k : Nat) (job : ChurnJob) : State :=
  mismatchRecord (churnEnd s p k job.descr.toNat cMISMATCH 0 true) p k job.op job.descr

/-- A CURVE_SET ends with CURVE_REFUSED and the number of the check (R239): its entry is empty again (R237). -/
def curveRefused (s : State) (p k : Nat) (job : ChurnJob) (n : Nat) : State :=
  eventVat (churnEnd s p k job.descr.toNat cCURVE_REFUSED n true) (R.CHN_EVENT p) 5 p 6
/-- The end of a CURVE_SET (R237, R239): checks 3 to 5, and the entry is loaded, or empty again with CURVE_REFUSED. -/
def curveSetEnd (s : State) (p k : Nat) (job : ChurnJob) : State :=
  let c := curveOfInput job.input
  let (bases, s) := drawBases s c
  match curveRest c bases with
  | none => churnWrite (modChurn s p (fun u => { u with curves := tset (fun _ => none) u.curves job.curve (some c) })) p k job ([], [])
  | some n => churnGrant (curveRefused s p k job n) p

/-- Internal draws of a vat with one priority, in order: how they end, and those not yet made. -/
def drawAll (s : State) (p q : Nat) : List Nat → DrawRes × List Nat × State
  | [] => (.served, [], s)
  | b :: bs =>
    match internalDraw s p q b with
    | (.served, s) => drawAll s p q bs
    | (r, s) => (r, b :: bs, s)
/-- How the interval of the job that holds the multiplier goes: it waits for bits inside its grant, has ended, or has come to the
yield point. -/
inductive ChurnWork where
  | waits (s : State)
  | ended (s : State)
  | goes (job : ChurnJob) (s : State)
/-- A job ends at a draw that no source can meet (R245). -/
def churnDry (s : State) (p k : Nat) (job : ChurnJob) : State :=
  eventVat (churnEnd s p k job.descr.toNat cRNG_STOPPED 0 true) (R.CHN_EVENT p) 3 p 6
/-- The draws of a CURVE_SET after check 2: the bases for n (R239). -/
def curveDraws (s : State) (p k : Nat) (job : ChurnJob) (last : Bool) : ChurnWork :=
  match drawAll s p 2 (if last then job.later else []) with
  | (.waits, left, s) => .waits (putJob s p k { job with later := left })
  | (.stopped, _, s) => .ended (churnDry s p k job)
  | (.served, _, s) =>
    let job := { job with later := if last then [] else job.later }
    .goes job (putJob s p k job)
/-- The work of an interval of a CURVE_SET (R239): the length of p first, then the bases for p and checks 1 and 2, then those for n. -/
def curveWork (s : State) (p k : Nat) (job : ChurnJob) (last : Bool) : ChurnWork :=
  let c := curveOfInput job.input
  if fieldOk c = false then .ended (curveRefused s p k job 1)
  else match drawAll s p 2 job.owed with
  | (.waits, left, s) => .waits (putJob s p k { job with begun := true, owed := left })
  | (.stopped, _, s) => .ended (churnDry s p k job)
  | (.served, _, s) =>
    let (bases, s) := drawBases s c
    match (if job.owed = [] then none else curveStart c bases) with
    | some n => .ended (curveRefused s p k job n)
    | none => curveDraws s p k { job with begun := true, owed := [] } last
/-- The work of an interval up to a yield point, or with `last` up to the operation's end (R225, R231, R241, R245): the late checks in
the first grant, the draws, and for RSA_KEYGEN one try of the search while it goes on. -/
def churnWork (s : State) (p k : Nat) (job : ChurnJob) (c : Curve) (last : Bool) : ChurnWork :=
  if job.op = 0x31 then curveWork s p k job last
  else match (if job.begun then none else lateCheck job c) with
  | some (st, det) => .ended (churnEnd s p k job.descr.toNat st det true)
  | none =>
    let (owed, later) := if last then (job.owed ++ job.later, []) else (job.owed, job.later)
    match drawAll s p 2 owed with
    | (.waits, left, s) => .waits (putJob s p k { job with begun := true, owed := left, later := later })
    | (.stopped, _, s) => .ended (churnDry s p k job)
    | (.served, _, s) =>
      let job := { job with begun := true, owed := [], later := later }
      if job.op = 0x13 ∧ job.pair = none then
        let (r, s) := rsaSearch s (rsaWords job.size)
        let job := { job with pair := r, owed := if r.isSome then [] else (churnDraws 0x13 (rsaWords job.size) c false).1 }
        .goes job (putJob s p k job)
      else .goes job (putJob s p k job)

/-- A job whose last pass is done (R227, R242, R249, R252): the compare, then a cancel, then the results, or ECDSA's new nonce. `mismatch`
says that the compare failed; it can only where the operation runs twice. -/
def churnLast (s : State) (p k : Nat) (job : ChurnJob) (c : Curve) (mismatch : Bool) : State :=
  let (r, s) := drawBits s (resultBits job.op (rsaWords job.size) c)
  if (mismatch && (isPrivate job.op || (job.rep && decide (job.op = 0x12 ∨ job.op = 0x22)))) || passesDiffer job c r then
    churnGrant (churnMismatch s p k job) p
  else if job.cancel then churnGrant (churnAbandon s p k) p
  else if job.op = 0x31 then curveSetEnd s p k job
  else match churnResult job c r with
    | none =>
      let draws := churnDraws job.op (rsaWords job.size) c job.rep
      putJob s p k { job with owed := draws.1, later := draws.2 }
    | some res => churnWrite s p k job res
/-- The job that holds the multiplier comes to its end, or where it is an RSA_KEYGEN still searching, to another candidate (R231); one
that has begun writing goes on writing (R249). -/
def churnJobEnd (s : State) (p : Nat) (mismatch : Bool) : State :=
  let u := (getVat s p).churn
  let k := u.holder
  match (if u.busy then tget (fun _ => none) u.jobs k else none) with
  | none => s
  | some job =>
    match job.results with
    | some res => churnWrite s p k job res
    | none =>
      let c := (curveAt s p job.curve).getD p256
      let searching := decide (job.op = 0x13) && job.pair.isNone
      match churnWork s p k job c !searching with
      | .waits s => s
      | .ended s => churnGrant s p
      | .goes job s =>
        if searching then s
        else match resultCheck job c with
        | some (st, det) => churnGrant (churnEnd s p k job.descr.toNat st det true) p
        | none => churnLast s p k job c mismatch

/-- The job that holds the multiplier yields (R247): if it was cancelled it is abandoned; then the arbiter
grants a waiting context. RSA_VERIFY has fewer than 64 multiplications, so its only yield point is its end (R246). -/
def churnYield (s : State) (p : Nat) : State :=
  let u := (getVat s p).churn
  match (if u.busy then tget (fun _ => none) u.jobs u.holder else none) with
  | none => churnGrant s p
  | some job =>
    if job.op = 0x12 ∨ job.results.isSome then s
    else match churnWork s p u.holder job ((curveAt s p job.curve).getD p256) false with
    | .waits s => s
    | .ended s => churnGrant s p
    | .goes job s => churnGrant (if job.cancel then churnAbandon s p u.holder else s) p
/-- YIELD_POINT (R247). -/
def execYieldPoint (vat : VatId) (s : State) : Host.Outcome State Fault Refusal := .next (churnYield s (phys s vat.val))

/-- CHN_CANCEL (R249). -/
def execChnCancel (vat : VatId) (value : BitVec 16) (s : State) : Host.Outcome State Fault Refusal :=
  .next (supAccess s .write (R.CHN_CANCEL vat.val) (writeChnCancel s (phys s vat.val) value))

/-- Write CHN_KAT (R253): ignored while BUSY is 1 or a job is held. -/
def writeChnKat (s : State) (p : Nat) (v : BitVec 16) : State :=
  let u := (getVat s p).churn
  if bit v 15 ∧ u.kat = false ∧ u.jobs = [] then modChurn s p (fun c => { c with kat := true, katPass := false, katFail := false })
  else s
/-- CHN_KAT (R253). -/
def execChnKat (vat : VatId) (value : BitVec 16) (s : State) : Host.Outcome State Fault Refusal :=
  .next (supAccess s .write (R.CHN_KAT vat.val) (writeChnKat s (phys s vat.val) value))

/-- The end of the churn's known-answer tests (R253). -/
def chnKatEnd (s : State) (p : Nat) (pass : Bool) : State :=
  if (getVat s p).churn.kat then
    let s := modChurn s p (fun c => { c with kat := false, katPass := pass, katFail := !pass })
    if pass then s
    else fault (eventVat s (R.CHN_EVENT p) 4 p 6) 3 (vatSource s p 6) .none 512 0
  else s

/-! ### CSUB, CWAIT (R321) -/

/-- What a JOB instruction returns in g with Z = (g = 0), as CSUB does. -/
def jobReturn (s : State) (k : Nat) (p : BitVec 32) (v : Nat) : State :=
  modCell s k (fun c => advance (setFlags (setG c (pf p 20) (dataNat v)) (jobFlags (decide (v = 0)))))

/-- The descriptor words a submit instruction reads, under the cell's master identifier: nothing while its region waits, and a refusal
as the fault of the read with the access table's note of it (R374). -/
def descriptor (s : State) (k base n rd : Nat) : Option (Except SyncFault (List Word)) × State :=
  if spanWaits s base n then (none, s)
  else match egress s (masterOfKey s k) base rd false false with
    | some (f, note) => (some (.error f), noteEgress s note)
    | none =>
      match (opRead s (masterOfKey s k) base rd).1 with
      | .words ws => (some (.ok ws), s)
      | .waits => (none, s)
      | .refused => (some (.error ⟨.access, some (BitVec.ofNat 32 base)⟩), s)
/-- A submit instruction (R321): c must be valid with READ and WRITE over n words; BUSY while the cell has a job or known-answer tests
run, and the engine then does nothing; else the engine takes its copy of the first rd words. It waits while the descriptor or an
operand waits (R188, R214). -/
def submitJob (s : State) (k : Nat) (c : Cell) (p : BitVec 32) (n rd : Nat) (busy : Bool)
    (submit : State → Nat → Nat → Nat → List Word → Option State) : State :=
  let cap := capOf (getC c (pf p 16))
  if !cap.valid || decide (cap.len < n) || !hasPerms cap.perms (pREAD + pWRITE) then syncFault s k ⟨.cap, none⟩ .read
  else if busy then jobReturn s k p 1
  else match descriptor s k cap.base n rd with
    | (none, _) => s
    | (some (.error f), s) => syncFault s k f .read
    | (some (.ok ws), s) => (submit (jobReturn s k p 0) (k / 16) (k % 16) cap.base ws).getD s
/-- Whether a CSUB of a cell is answered BUSY: it has a job, or known-answer tests run. -/
def churnBusy (s : State) (k : Nat) : Bool :=
  (getVat s (k / 16)).churn.kat || (tget (fun _ => none) (getVat s (k / 16)).churn.jobs (k % 16)).isSome

/-- CSUB g, c (R321): BUSY if the cell has a job or known-answer tests run, else submitted. -/
def execCsub (core : Core) (s : State) : Host.Outcome State Fault Refusal :=
  .next (cellInstr s core (fun p => decide (pOp p = 0x80) && decide (p.toNat % 2 = 0))
    (fun p => jobLegal core && decide (pf p 16 < 8) && decide (p.toNat % 65536 = 0)) fun s k c p =>
      submitJob s k c p 20 16 (churnBusy s k) churnSubmit)

/-- CSUB.C g: 2 CANCELLED if there was a job, 3 NONE (R321). -/
def execCsubC (core : Core) (s : State) : Host.Outcome State Fault Refusal :=
  .next (cellInstr s core (fun p => decide (pOp p = 0x80) && decide (p.toNat % 2 = 1))
    (fun p => jobLegal core && decide (pf p 16 = 0) && decide (p.toNat % 65536 = 1)) fun s k _ p =>
      let (had, s) := churnCancel s (k / 16) (k % 16)
      jobReturn s k p (if had then 2 else 3))

/-- CWAIT g: the STATUS of the current or last churn job (R321). -/
def execCwait (core : Core) (s : State) : Host.Outcome State Fault Refusal :=
  .next (cellInstr s core (fun p => decide (pOp p = 0x81) && decide (p.toNat % 2 = 0))
    (fun p => jobLegal core && decide (pf p 16 = 0) && decide (p.toNat % 65536 = 0)) fun s k c p =>
      jobReturn s k p c.churnStatus.toNat)

/-- CWAIT.W g: waits until the job ends (R321). -/
def execCwaitW (core : Core) (s : State) : Host.Outcome State Fault Refusal :=
  .next (cellInstr s core (fun p => decide (pOp p = 0x81) && decide (p.toNat % 2 = 1))
    (fun p => jobLegal core && decide (pf p 16 = 0) && decide (p.toNat % 65536 = 1)) fun s k c p =>
      if (tget (fun _ => none) (getVat s (k / 16)).churn.jobs (k % 16)).isSome then
        setCell s k { c with wait := .cwaitW, hold := false }
      else jobReturn s k p c.churnStatus.toNat)

end Sys2Proof.Machine
end

