-- ==== Sys2Proof/Machine/Mac.lean ====
section
/-!
DEFINITION. The MAC unit (R255 to R279): roots and derived keys, key-store records, submission and its checks, grants,
results, counters, known-answer tests.
-/
namespace Sys2Proof.Machine

/-! ### Roots (R59, R255 to R260) -/

/-- The identity base (R59 step 1); the hidden seed reads all ones once it has been spent (R73). -/
def identityBase (s : State) : Bytes :=
  beBytes 32 (Config.pufResponse ^^^ (Config.otpSeed ||| s.seedSet)).toNat
/-- The identity root (0) or owner root (1) as the key-derivation block forms it now (R59). -/
def formRoot (s : State) (n : Nat) : Bytes :=
  if n = 0 then kdf (identityBase s) (ascii "KT-IDENTITY") [] 256
  else kdf (identityBase s) (ascii "KT-OWNER") (beBytes 32 s.bat.share.toNat) 256
/-- The value of root 0, 1 or 2 (R60) that a unit's root register holds where it is loaded (R255). -/
def rootKey (s : State) (n : Nat) : Bytes :=
  beBytes 32 (if n = 0 then s.identityRoot else if n = 1 then s.ownerRoot else s.sessionRoot).toNat
/-- Load the roots the key-derivation block holds (MAC_ROOTS) into one unit (R255). -/
def loadRoots (s : State) (p : Nat) : State :=
  modMac s p (fun u => { u with identityRoot := getBit s R.MAC_ROOTS 0, ownerRoot := getBit s R.MAC_ROOTS 1,
                                sessionRoot := getBit s R.MAC_ROOTS 2 })
/-- A vat powered up after BOOT step 6 gets its roots before its first job is accepted (R255): the identity root is empty
only in a unit never loaded since the reset (R256). -/
def lateRoots (s : State) (p : Nat) : State := if (getVat s p).mac.identityRoot then s else loadRoots s p
/-- Whether a unit holds a root. -/
def rootLoaded (u : MacUnit) (n : Nat) : Bool := if n = 0 then u.identityRoot else if n = 1 then u.ownerRoot else u.sessionRoot
/-- Length in bytes of a key by type (R122, R258): also the length a derivation gives. -/
def keyBytesOf (t : Nat) : Nat :=
  match t with
  | 1 => 16
  | 2 => 24
  | 3 => 32
  | 4 => 16
  | 5 => 24
  | 6 => 32
  | _ => 0
/-- The key that wraps a key-store record (R259, R266). -/
def recordKey (s : State) (slot part : Nat) : Bytes :=
  kdf (rootKey s 1) (ascii "KT-KEYSTORE") (leBytes 2 slot ++ [BitVec.ofNat 8 part]) 256
/-- The 16-byte attribute header of KEY.IMPORT format 1, from its TYPE, CURVE, USAGE bytes and the material length. -/
def attrHeader (h : Bytes) (len : Nat) : Bytes := h ++ leBytes 2 len ++ zeros 10
/-- AES blocks of a CMAC over n bytes: the subkey block and at least one block. -/
def cmacBlocks (bl n : Nat) : Nat := 1 + max 1 ((n + bl - 1) / bl)
/-- AES blocks of a derivation (R258, and the example after R272): one subkey block, then each iteration. -/
def kdfBlocks (label ctx bits : Nat) : Nat := 1 + (bits + 127) / 128 * ((label + ctx + 9 + 15) / 16)
/-- AES blocks of a wrap or unwrap of W bytes (R272). -/
def kwBlocks (w : Nat) : Nat := 6 * (w / 8 - 1)

/-! ### Acceptance (R265) -/

/-- STATUS values (R277); those the churn has too keep its names. -/
def mBAD_LENGTH : Nat := 3
def mBAD_KEY : Nat := 4
def mNO_ROOT : Nat := 5
def mINTEGRITY : Nat := 10
def mCOUNTER_EXHAUSTED : Nat := 11
/-- The largest counter value (R274). -/
def ctrMax : Nat := 2 ^ 48 - 1

/-- Operation codes of R267. -/
def macOps : List Nat := [0x01, 0x02, 0x03, 0x04, 0x08, 0x10, 0x11, 0x12, 0x20, 0x21, 0x22, 0x28, 0x30, 0x31]
/-- KSRC values an operation allows (R267). -/
def ksrcOk (op ksrc : Nat) : Bool :=
  match op with
  | 0x01 => decide (ksrc ≤ 2)
  | 0x02 => decide (ksrc = 1 ∨ ksrc = 2)
  | 0x03 => decide (ksrc = 1 ∨ ksrc = 2)
  | 0x04 => decide (ksrc ≤ 2)
  | 0x10 => decide (ksrc ≤ 2)
  | 0x11 => decide (ksrc ≤ 2)
  | 0x12 => decide (ksrc = 1 ∨ ksrc = 2)
  | 0x20 => decide (ksrc = 2)
  | 0x21 => decide (ksrc = 2)
  | 0x22 => decide (ksrc = 1)
  | _ => decide (ksrc = 3)
/-- Key types an operation allows (R267). -/
def ktypeOk (op t : Nat) : Bool :=
  match op with
  | 0x01 => decide (1 ≤ t ∧ t ≤ 5)
  | 0x02 => decide (1 ≤ t ∧ t ≤ 5)
  | 0x03 => decide (t = 4)
  | 0x04 => decide (t = 6)
  | 0x10 => decide (1 ≤ t ∧ t ≤ 5)
  | 0x11 => decide (1 ≤ t ∧ t ≤ 5)
  | 0x12 => decide (1 ≤ t ∧ t ≤ 5)
  | 0x20 => decide (1 ≤ t ∧ t ≤ 6)
  | _ => true
/-- MAC_LENGTH limits (R267). -/
def macLenOk (t n : Nat) : Bool := decide (4 ≤ n) && decide (n ≤ if t ≤ 3 then 16 else if t ≤ 5 then 8 else 32)

/-- What the checks of R265 look at: the fields of the descriptor, and what stands in the regions checks 2 and 3 judge. `known` tells
that those regions can be read; where they cannot, check 4 or 6 refuses the job. -/
structure MacReq where
  job : MacJob
  known : Bool
  /-- The key type, from KTYPE or from a record's clear header. -/
  t : Nat
  usage : BitVec 16
  wLen : Nat
  rule : Nat × Nat
  ctxOk : Bool
  /-- Whether a region that checks 2 and 3 judge waits (R188, R214). -/
  waits : Bool
  deriving DecidableEq, Repr

/-- Words of the KEY region. -/
def macKeyWords (r : MacReq) : Nat :=
  let j := r.job
  if j.ksrc = 0 then 35
  else if j.ksrc = 1 then max 16 ((32 + r.wLen + 1) / 2)
  else if j.ksrc = 2 then (if j.op = 0x20 then 16 else if j.op = 0x21 then (r.wLen - 24 + 1) / 2 else (keyBytesOf r.t + 1) / 2)
  else if j.op = 0x28 then (if bit j.mode 12 then j.length / 2 else 2 + 3 * r.rule.1 * r.rule.2)
  else 0
/-- Words of the IN region. -/
def macInWords (r : MacReq) : Nat :=
  let j := r.job
  if j.op ≤ 4 then (j.length + 1) / 2
  else if j.op = 0x08 then 16 + j.length / 2
  else if j.op = 0x10 ∨ j.op = 0x11 then j.length / 2
  else if j.op = 0x20 then 35
  else if j.op = 0x21 then 16
  else if j.op = 0x28 then (if bit j.mode 12 then j.length / 2 else r.rule.2)
  else 0
/-- Words of the OUT region; VERIFY reads them. -/
def macOutWords (r : MacReq) : Nat :=
  let j := r.job
  if j.op ≤ 4 then (fld j.mode 7 0 + 1) / 2
  else if j.op = 0x08 then 16
  else if j.op = 0x10 ∨ j.op = 0x11 then j.length / 2
  else if j.op = 0x12 then 2
  else if j.op = 0x20 then (keyBytesOf r.t + 1) / 2
  else if j.op = 0x21 then (32 + r.wLen + 1) / 2
  else if j.op = 0x22 then (r.wLen - 24 + 1) / 2
  else 0
/-- Whether the job verifies. -/
def verifies (j : MacJob) : Bool := bit j.mode 13 && decide (j.op ≤ 4)
/-- Whether the output is SECRET (R269); `secretIn` says that an input word is. -/
def macOutSecret (j : MacJob) (usage : BitVec 16) (secretIn : Bool) : Bool :=
  if j.op = 0x20 ∨ j.op = 0x22 then true
  else if j.op = 0x08 ∨ j.op = 0x10 ∨ j.op = 0x11 then
    if j.op = 0x10 ∧ bit j.mode 14 then false
    else secretIn || bit j.mode 15 || (decide (j.op = 0x11) && decide (j.ksrc = 1) && (bit usage 6 || bit usage 7))
  else false
/-- Check 3 of R265. -/
def macLengthOk (r : MacReq) : Bool :=
  let j := r.job
  let n := j.length
  let bl := blockLen r.t
  let pad := fld j.mode 11 10
  let ctx := !r.known || r.ctxOk
  let typed := decide (j.ksrc ≠ 1) || r.known
  if j.op ≤ 4 then (!typed || macLenOk r.t (fld j.mode 7 0)) && ctx && (decide (j.op ≠ 2 ∧ j.op ≠ 3) || decide (pad = 1 ∨ pad = 2))
  else if j.op = 0x08 then decide (n % 64 = 0 ∧ 0 < n)
  else if j.op = 0x10 ∨ j.op = 0x11 then (!typed || decide (n % bl = 0 ∧ 0 < n ∧ n ≤ 64 * bl)) && ctx
  else if j.op = 0x21 then !r.known || decide (r.wLen % 8 = 0 ∧ 24 < r.wLen)
  else if j.op = 0x28 then
    if bit j.mode 12 then decide (n % 2 = 0 ∧ 0 < n)
    else !r.known || decide (1 ≤ r.rule.1 ∧ r.rule.1 ≤ 16 ∧ 1 ≤ r.rule.2 ∧ r.rule.2 ≤ 32)
  else if j.op = 0x31 then decide (0 < n % 65536)
  else ctx

/-- What a capability's region holds at its base, where it is tagged CAP, grants READ, bounds `n` words and may be read. -/
def macPeek (s : State) (m : BitVec 10) (c : CReg) (n : Nat) : OpRead :=
  if c.valid && hasPerms (capOf c).perms pREAD && decide (n ≤ (capOf c).len) then (opRead s m (capOf c).base n).1 else .refused
/-- The request of a descriptor's words 0-17: its fields, and what checks 2 and 3 judge of a record's clear header, a derivation
context block or a rule block. -/
def macRequest (s : State) (m : BitVec 10) (d : List Word) (descr : Nat) : MacReq :=
  let w := fun i => (d.getD i zeroWord).val
  let capAt := fun i => (capOfWords [d.getD i zeroWord, d.getD (i + 1) zeroWord, d.getD (i + 2) zeroWord, d.getD (i + 3) zeroWord]).getD nullCap
  let op := fld (w 0) 7 0
  let ksrc := fld (w 1) 15 14
  let kc := capAt 6
  let ic := capAt 10
  let rules := decide (op = 0x28) && !bit (w 2) 12
  let seen := if op = 0x21 then macPeek s m ic 16 else if ksrc = 1 then macPeek s m kc 16
    else if op = 0x20 then macPeek s m ic 2 else if ksrc = 0 ∨ rules = true then macPeek s m kc 2 else .words []
  let ws := match seen with
    | .words ws => ws
    | _ => []
  let hdr := unpackWords ws
  let at_ := fun i => (ws.getD i zeroWord).val.toNat
  let context := decide (op = 0x20) || decide (ksrc = 0 ∧ op ≠ 0x21)
  { job := { op := op, ksrc := ksrc, root := fld (w 1) 13 12, ktype := fld (w 1) 11 8, mode := w 2, ctr := w 3,
             length := (w 4).toNat + 65536 * (w 5).toNat, descr := BitVec.ofNat 32 descr, keyCap := kc, inCap := ic,
             outCap := capAt 14, keyWords := [], keyBytes := none, input := [], expected := [], ctrValue := none,
             cancel := false, results := none },
    known := decide (seen ≠ .refused ∧ seen ≠ .waits), waits := decide (seen = .waits), t := if ksrc = 1 then leAt hdr 4 1 else fld (w 1) 11 8,
    usage := BitVec.ofNat 16 (leAt hdr 6 2), wLen := leAt hdr 14 2, rule := (at_ 0, at_ 1),
    ctxOk := !context || (decide (at_ 0 ≤ 32) && decide (at_ 1 ≤ 33)) }

/-- Check 2 of R265: KSRC, ROOT, KTYPE, root 0 (R257) and DECLASSIFY (R269). A record's key type is judged by its clear
header, where that can be read. -/
def macKeyOk (s : State) (p : Nat) (r : MacReq) : Bool :=
  let j := r.job
  ksrcOk j.op j.ksrc
    && (decide (j.ksrc ≠ 0) || (decide (j.root ≤ 2) && (decide (j.root ≠ 0) || getBit s (R.MAC_CFG p) 0)))
    && (decide (j.ksrc = 3) || (decide (j.ksrc = 1) && !r.known) || ktypeOk j.op r.t)
    && (!bit j.mode 14 || (decide (j.op = 0x10) && decide (j.ksrc = 1) && (!r.known || bit r.usage 5 || bit r.usage 8)))

/-- Whether the KEY region holds key operands, which must be SECRET, rather than DATA words (R265 check 7). -/
def keyIsSecret (j : MacJob) : Bool := decide (j.ksrc = 2) || (decide (j.op = 0x28) && bit j.mode 12)

/-- The checks of R265 in order: STATUS and DETAIL of the first that fails, or the job with what it has read; nothing where a read waits
(R188, R214). A read the access table refuses at check 6 is recorded (R227, R374). -/
def macChecks (s : State) (p : Nat) (m : BitVec 10) (r : MacReq) : Option (Except (Nat × Nat) MacJob) × State :=
  let j := r.job
  let no := fun (st det : Nat) (s : State) => ((some (.error (st, det)) : Option (Except (Nat × Nat) MacJob)), s)
  if j.op ∉ macOps then no cBAD_OP 0 s
  else if r.waits then (none, s)
  else if macKeyOk s p r = false then no mBAD_KEY 0 s
  else if macLengthOk r = false then no mBAD_LENGTH 0 s
  else
    let fits := fun (c : CReg) n need => n = 0 ∨ (c.valid = true ∧ hasPerms (capOf c).perms need = true ∧ n ≤ (capOf c).len)
    if ¬ fits j.keyCap (macKeyWords r) pREAD then no cBOUNDS 1 s
    else if ¬ fits j.inCap (macInWords r) pREAD then no cBOUNDS 2 s
    else if ¬ fits j.outCap (macOutWords r) (if verifies j then pREAD else pWRITE) then no cBOUNDS 3 s
    else
      let secretIn := match (opRead s m (capOf j.inCap).base (macInWords r)).1 with
        | .words ws => ws.any (fun x => decide (x.tag = .secret))
        | _ => false
      if spanWaits s (capOf j.inCap).base (macInWords r) then (none, s)
      else if macOutSecret j r.usage secretIn = true ∧ secretOk s (capOf j.outCap).base (macOutWords r) = false then no cTAG_REFUSED 3 s
      else match opRead s m (capOf j.keyCap).base (macKeyWords r) with
        | (.waits, s) => (none, s)
        | (.refused, s) => no cACCESS 1 s
        | (.words ks, s) =>
          match opRead s m (capOf j.inCap).base (macInWords r) with
          | (.waits, s) => (none, s)
          | (.refused, s) => no cACCESS 2 s
          | (.words is, s) =>
            match opRead s m (capOf j.outCap).base (if verifies j then macOutWords r else 0) with
            | (.waits, s) => (none, s)
            | (.refused, s) => no cACCESS 3 s
            | (.words ex, s) =>
              let plain := fun (x : Word) => decide (x.tag = .data) || decide (x.tag = .secret)
              if ks.any (fun x => if keyIsSecret j then decide (x.tag ≠ .secret) else decide (x.tag ≠ .data)) then no cTAG_REFUSED 1 s
              else if !is.all plain || (decide (j.op = 0x21) && is.any (fun x => decide (x.tag ≠ .data))) then no cTAG_REFUSED 2 s
              else if !ex.all plain then no cTAG_REFUSED 3 s
              else (some (.ok { j with keyWords := ks, ktype := r.t, expected := (unpackWords ex).take (fld j.mode 7 0) }), s)

/-- A counter of a unit. -/
def counterAt (s : State) (p i : Nat) : BitVec 48 := tget (fun _ => 0) (getVat s p).mac.counters i
/-- Set a counter. -/
def setCounter (s : State) (p i : Nat) (v : BitVec 48) : State :=
  modMac s p (fun u => { u with counters := tset (fun _ => 0) u.counters i v })
/-- Increment a counter (R274): past the largest value it stays there and the increment is refused. -/
def incCounter (s : State) (p i amount : Nat) : Bool × State :=
  let v := (counterAt s p i).toNat
  if v + amount ≤ ctrMax then (true, setCounter s p i (BitVec.ofNat 48 (v + amount)))
  else (false, setCounter s p i (BitVec.ofNat 48 ctrMax))

/-- The contexts whose jobs want the datapath. -/
def macWaiting (s : State) (p : Nat) : List Nat := those 16 (fun k => (tget (fun _ => none) (getVat s p).mac.jobs k).isSome)
/-- The MAC arbiter grants a waiting context, if there is one (R209); STALL stops further grants (R501). -/
def macGrant (s : State) (p : Nat) : State :=
  match (if s.tmp.stall then [] else macWaiting s p) with
  | [] => modMac s p (fun u => { u with busy := false })
  | reqs =>
    match arbGrant s (3 * logicalOf s p + 2) reqs with
    | (none, s) => modMac s p (fun u => { u with busy := false })
    | (some w, s) => modMac s p (fun u => { u with busy := true, holder := w })

/-- TAG_REFUSED raises a tag record and its event bit (R265, R279). -/
def macTag (s : State) (p k : Nat) (a : Nat) : State :=
  eventVat (fault s 2 (vatSource s p 7) .tag (masterOfKey s (p * 16 + k)) (BitVec.ofNat 32 a)) (R.MAC_EVENT p) 1 p 7

/-- Submit a MAC job for a cell (R265). Nothing where an operand region waits. -/
def macSubmit (s : State) (p k descr : Nat) (d : List Word) : Option State :=
  let m := masterOfKey s (p * 16 + k)
  let s := modCell (lateRoots s p) (p * 16 + k) (fun c => { c with macStatus := 1 })
  match macChecks s p m (macRequest s m d descr) with
  | (none, _) => none
  | (some (.error (st, det)), s) =>
    let s := if st = cTAG_REFUSED then macTag s p k descr else s
    some (macEnd s p k descr st det true)
  | (some (.ok job), s) =>
    let i := fld job.ctr 5 0
    let (ok, s) := if bit job.ctr 15 then incCounter s p i 1 else (true, s)
    if ok = false then some (macEnd s p k descr mCOUNTER_EXHAUSTED 0 true)
    else
      let job := if bit job.ctr 15 then { job with ctrValue := some (counterAt s p i) } else job
      let s := opPut s m (descr + 18) (dataNat cRUNNING)
      let s := modMac s p (fun u => { u with jobs := tset (fun _ => none) u.jobs k (some job) })
      some (if (getVat s p).mac.busy then s else macGrant s p)

/-! ### Masks and reseeds (R271) -/

/-- One reseed of 256 bits. -/
def reseed (s : State) (p : Nat) : DrawRes × State :=
  match internalDraw s p 1 256 with
  | (.served, s) => (.served, modMac (countReg s (R.MAC_RESEEDS p) 0xFFFF) p (fun u => { u with sinceReseed := 0, dry := false }))
  | (.waits, s) => (.waits, s)
  | (.stopped, s) => (.stopped, modMac s p (fun u => { u with dry := true }))
/-- `n` reseeds one after the other. -/
def reseeds (p : Nat) : Nat → State → DrawRes × State
  | 0, s => (.served, s)
  | n + 1, s =>
    match reseed s p with
    | (.served, s) => reseeds p n s
    | other => other
/-- Process blocks: a reseed after every 256, counted across jobs, and one first while the last has failed. -/
def useBlocks (s : State) (p blocks : Nat) : DrawRes × State :=
  if blocks = 0 then (.served, s)
  else
    let u := (getVat s p).mac
    let since := if u.dry then 0 else u.sinceReseed
    match reseeds p (b2n u.dry + (since + blocks) / 256) s with
    | (.served, s) => (.served, modMac s p (fun u => { u with sinceReseed := (since + blocks) % 256 }))
    | (.waits, t) => (.waits, modVat s p (fun v => { v with wants := (getVat t p).wants }))
    | other => other

/-! ### The working key and the result -/

/-- LABEL and CONTEXT of a derivation context block (R264). -/
def contextBlock (ws : List Word) : Bytes × Bytes :=
  let n := (ws.getD 0 zeroWord).val.toNat
  let c := (ws.getD 1 zeroWord).val.toNat
  ((unpackWords ((ws.drop 2).take 16)).take n, (unpackWords ((ws.drop 18).take 17)).take c)

/-- The working key of a job and the blocks forming it takes, or the STATUS it ends with (R256, R258, R263). -/
def formKey (s : State) (p : Nat) (j : MacJob) : Except Nat (Bytes × Nat) :=
  let u := (getVat s p).mac
  if j.ksrc = 0 then
    if rootLoaded u j.root then
      let (l, c) := contextBlock j.keyWords
      let n := keyBytesOf j.ktype
      .ok (kdf (rootKey s j.root) l c (8 * n), kdfBlocks l.length c.length (8 * n))
    else .error mNO_ROOT
  else if j.ksrc = 1 then
    if u.ownerRoot then
      let b := unpackWords j.keyWords
      let n := leAt b 14 2
      match kwUnwrap (recordKey s (leAt b 0 2) (leAt b 2 1)) (slice b 32 n) with
      | none => .error mINTEGRITY
      | some a =>
        if a.take 4 = slice b 4 4 then
          if j.op = 0x22 ∨ (ktypeOk j.op j.ktype = true ∧ (a.drop 16).length = keyBytesOf j.ktype) then
            .ok (a.drop 16, kdfBlocks 11 3 256 + kwBlocks n)
          else .error mBAD_KEY
        else .error mINTEGRITY
    else .error mNO_ROOT
  else if j.op = 0x21 then
    if u.ownerRoot then
      .ok (recordKey s ((j.input.getD 0 zeroWord).val.toNat) ((j.input.getD 1 zeroWord).val.toNat % 256), kdfBlocks 11 3 256)
    else .error mNO_ROOT
  else if j.ksrc = 2 then .ok ((unpackWords j.keyWords).take (if j.op = 0x20 then 32 else keyBytesOf j.ktype), 0)
  else .ok ([], 0)

/-- Blocks the operation itself uses, the whole input read (R267, R268). -/
def opBlocks (j : MacJob) : Nat :=
  let bl := blockLen j.ktype
  let n := j.length
  match j.op with
  | 0x01 => cmacBlocks bl n
  | 0x02 => (macPad (fld j.mode 11 10) bl ((unpackWords j.input).take n)).length / bl
  | 0x03 => (macPad (fld j.mode 11 10) bl ((unpackWords j.input).take n)).length / bl
  | 0x04 => (n + 9 + 63) / 64 + 3
  | 0x08 => n / 64
  | 0x10 => n / bl
  | 0x11 => n / bl
  | 0x12 => 1
  | 0x20 => let (l, c) := contextBlock j.input; kdfBlocks l.length c.length (8 * keyBytesOf j.ktype)
  | 0x21 => kwBlocks (leAt (unpackWords j.input) 14 2)
  | _ => 0

/-- Whether one alternative of a rule block matches (R270): bit n of DIGITS stands for nibble n. -/
def altMatches (rule inp : List Word) (words a : Nat) : Bool :=
  (List.range words).all (fun i =>
    let at_ := fun k => (rule.getD (2 + 3 * (a * words + i) + k) zeroWord).val
    let w := (inp.getD i zeroWord).val
    decide (w &&& at_ 0 = at_ 1) && (List.range 4).all (fun n =>
      !bit (at_ 2) n || decide (w.toNat / 16 ^ n % 16 ≤ 9)))

/-- The verdict of SECRET_CHECK (R270). -/
def secretCheck (j : MacJob) : Bool :=
  if bit j.mode 12 then decide (j.input.map (·.val) = j.keyWords.map (·.val))
  else (List.range (j.keyWords.getD 0 zeroWord).val.toNat).any
    (altMatches j.keyWords j.input (j.keyWords.getD 1 zeroWord).val.toNat)

/-- Bytes as words of one tag. -/
def tagWords (t : Tag) (b : Bytes) : List Word := (packWords b).map (fun v => ⟨t, v⟩)

/-- The check value of operations 0x01 to 0x04. -/
def checkValue (j : MacJob) (key m : Bytes) : Bytes :=
  (match j.op with
  | 0x01 => cmac j.ktype key m
  | 0x02 => macAlg1 j.ktype key (fld j.mode 11 10) m
  | 0x03 => macAlg3 key (fld j.mode 11 10) m
  | _ => hmac key m).take (fld j.mode 7 0)

/-- The SHA-256 compression operation: state words are eight 32-bit values as bytes, most significant first, packed as in
R4. -/
def compressOp (b : Bytes) : Bytes :=
  let st := (cut 4 (b.take 32)).map be32
  ((cut 64 (b.drop 32)).foldl hashBlock st).flatMap (fun v => beBytes 4 v.toNat)

/-- The words of the OUT region and DETAIL (R267, R269, R270). -/
def macResult (j : MacJob) (key : Bytes) : List Word × Nat :=
  let b := unpackWords j.input
  let m := b.take j.length
  let secretIn := j.input.any (fun x => decide (x.tag = .secret))
  let usage := BitVec.ofNat 16 (leAt (unpackWords j.keyWords) 6 2)
  let tag : Tag := if macOutSecret j usage secretIn then .secret else .data
  if j.op ≤ 4 then
    let v := checkValue j key m
    if verifies j then ([], b2n (decide (v = j.expected))) else (tagWords .data v, 0)
  else match j.op with
    | 0x08 => (tagWords tag (compressOp b), 0)
    | 0x10 => (tagWords tag ((cut (blockLen j.ktype) m).flatMap (blockEnc j.ktype key)), 0)
    | 0x11 => (tagWords tag ((cut (blockLen j.ktype) m).flatMap (blockDec j.ktype key)), 0)
    | 0x12 => (tagWords .data ((blockEnc j.ktype key (zeros (blockLen j.ktype))).take 3), 0)
    | 0x20 => let (l, c) := contextBlock j.input; (tagWords .secret (kdf key l c (8 * keyBytesOf j.ktype)), 0)
    | 0x21 =>
      let h := b.take 32
      let n := leAt h 14 2 - 24
      (tagWords .data (h ++ kwWrap key (attrHeader (slice h 4 4) n ++ (unpackWords j.keyWords).take n)), 0)
    | 0x22 => (tagWords .secret key, 0)
    | 0x28 => ([], b2n (secretCheck j))
    | _ => ([], 0)

/-! ### Progress -/

/-- Words of IN a job reads in all, once accepted. -/
def jobInWords (j : MacJob) : Nat :=
  macInWords { job := j, known := true, waits := false, t := j.ktype, usage := 0, wLen := 0,
               rule := ((j.keyWords.getD 0 zeroWord).val.toNat, (j.keyWords.getD 1 zeroWord).val.toNat), ctxOk := true }

/-- Read the next words of the input, at most `n` (R265); nothing while they wait. A word that may no longer be read, or is CODE or CAP
by now, ends the job as the check would have (log entry 18). -/
def readInput (s : State) (m : BitVec 10) (j : MacJob) (n : Nat) : Option (Except Nat MacJob) × State :=
  let have_ := j.input.length
  let n := min n (jobInWords j - have_)
  match opRead s m ((capOf j.inCap).base + have_) n with
  | (.waits, s) => (none, s)
  | (.refused, s) => (some (.error cACCESS), s)
  | (.words ws, s) => (some (if ws.any (fun x => decide (x.tag = .code) || decide (x.tag = .cap)) then .error cTAG_REFUSED
    else .ok { j with input := j.input ++ ws }), s)

/-- The job of a context, changed. -/
def setMacJob (s : State) (p k : Nat) (j : MacJob) : State :=
  modMac s p (fun u => { u with jobs := tset (fun _ => none) u.jobs k (some j) })

/-- The events of a job's end (R279). -/
def macEvent (s : State) (p k descr status : Nat) : State :=
  if status = mNO_ROOT then eventVat s (R.MAC_EVENT p) 5 p 7
  else if status = mINTEGRITY then eventVat s (R.MAC_EVENT p) 2 p 7
  else if status = cRNG_STOPPED then eventVat s (R.MAC_EVENT p) 3 p 7
  else if status = cTAG_REFUSED then macTag s p k descr
  else s
/-- The capability DETAIL names where a job ends as a read of its input is refused. -/
def failDetail (status : Nat) : Nat := if status = cACCESS ∨ status = cTAG_REFUSED then 2 else 0
/-- End a job without results and grant again. -/
def macFail (s : State) (p k descr status : Nat) : State :=
  macGrant (macEnd (macEvent s p k descr status) p k descr status (failDetail status) true) p

/-- The holder of a unit's datapath with its job. -/
def macHolder (s : State) (p : Nat) : Option (Nat × MacJob) :=
  let u := (getVat s p).mac
  if u.busy then (tget (fun _ => none) u.jobs u.holder).map (fun j => (u.holder, j)) else none

/-- Form the working key at a job's first grant, with the blocks that takes (R256, R258). -/
def keyed (s : State) (p : Nat) (j : MacJob) : Except Nat (MacJob × Nat) :=
  match j.keyBytes with
  | some _ => .ok (j, 0)
  | none =>
    match formKey s p j with
    | .ok (k, n) => .ok ({ j with keyBytes := some k }, n)
    | .error e => .error e

/-- MAC_GRANT_POINT (R209, R265, R276): the job that holds the datapath has processed 1 KiB more of an input that goes on
beyond it; a cancelled job is abandoned; the arbiter grants again. Blocks of the KiB are counted as one every block
length (log entry 18). -/
def execMacGrantPoint (vat : VatId) (s : State) : Host.Outcome State Fault Refusal :=
  let p := phys s vat.val
  match macHolder s p with
  | none => .next (if s.tmp.stall then s else macGrant s p)
  | some (k, j) =>
    if jobInWords j ≤ j.input.length + 512 ∨ j.results.isSome then .next s
    else
      let d := j.descr.toNat
      match keyed s p j with
      | .error e => .next (macFail s p k d e)
      | .ok (j, n) =>
        match readInput s (masterOfKey s (p * 16 + k)) j 512 with
        | (none, s) => .next s
        | (some (.error e), s) => .next (macFail s p k d e)
        | (some (.ok j), _) =>
          match useBlocks s p (n + 1024 / (if j.op = 4 ∨ j.op = 8 then 64 else blockLen j.ktype)) with
          | (.waits, s) => .next s
          | (.stopped, s) => .next (macFail s p k d cRNG_STOPPED)
          | (.served, s) => .next (if j.cancel then macGrant (macAbandon s p k) p else macGrant (setMacJob s p k j) p)

/-- Write the results in the order of R266, end the job and grant again; at a refused word it ends with ACCESS, at one refused by its
tag with TAG_REFUSED; DETAIL names OUT_CAP, or 0 for the descriptor. While a region waits the job keeps its results and the datapath. -/
def macWrite (s : State) (p k : Nat) (j : MacJob) (out : List Word) (detail : Nat) : State :=
  let a := j.descr.toNat
  if spanWaits s (capOf j.outCap).base out.length || spanWaits s a 24 then setMacJob s p k { j with results := some (out, detail) }
  else macGrant (match writeResults s (masterOfKey s (p * 16 + k))
      [(3, (capOf j.outCap).base, out), (0, a + 20, j.ctrValue.elim [] (fun v => natWords .data 3 v.toNat)), (0, a + 19, [dataNat detail])] with
    | (none, s) => macEnd s p k a cOK detail true
    | (some (det, false), s) => macEnd s p k a cACCESS det true
    | (some (det, true), s) => eventVat (macEnd s p k a cTAG_REFUSED det true) (R.MAC_EVENT p) 1 p 7) p

/-- A counter operation at its end (R267, R274): CTR_READ or CTR_INCREMENT; the unit grants again. -/
def counterOp (s : State) (p k : Nat) (j : MacJob) : State :=
  let i := fld j.ctr 5 0
  let (ok, s) := if j.op = 0x31 then incCounter s p i (j.length % 65536) else (true, s)
  if ok then macWrite s p k { j with ctrValue := some (counterAt s p i) } [] 0
  else macGrant (macEnd s p k j.descr.toNat mCOUNTER_EXHAUSTED 0 true) p
/-- The last words of the input are read and processed: the key is formed if need be, the blocks are used, a cancelled job is abandoned,
else the results are written. -/
def macLast (s : State) (p k : Nat) (j : MacJob) (done : Nat) : State :=
  let d := j.descr.toNat
  match keyed s p j with
  | .error e => macFail s p k d e
  | .ok (j, n) =>
    match useBlocks s p (n + (opBlocks j - done)) with
    | (.waits, s) => s
    | (.stopped, s) => macFail s p k d cRNG_STOPPED
    | (.served, s) =>
      if j.cancel then macGrant (macAbandon s p k) p
      else macWrite s p k j (macResult j (j.keyBytes.getD [])).1 (macResult j (j.keyBytes.getD [])).2

/-- MAC_JOB_END (R266): the rest of the input, at most 1 KiB, has been processed; a cancelled job is abandoned, else the
results are written and the next context is granted. -/
def execMacJobEnd (vat : VatId) (s : State) : Host.Outcome State Fault Refusal :=
  let p := phys s vat.val
  match macHolder s p with
  | none => .next s
  | some (k, j) =>
    if j.input.length + 512 < jobInWords j then .next s
    else if j.results.isSome then .next (macWrite s p k j (j.results.getD ([], 0)).1 (j.results.getD ([], 0)).2)
    else if j.op = 0x30 ∨ j.op = 0x31 then
      .next (if j.cancel then macGrant (macAbandon s p k) p else counterOp s p k j)
    else
      let done := j.input.length / 512 * (1024 / (if j.op = 4 ∨ j.op = 8 then 64 else blockLen j.ktype))
      match readInput s (masterOfKey s (p * 16 + k)) j 512 with
      | (none, s) => .next s
      | (some (.error e), s) => .next (macFail s p k j.descr.toNat e)
      | (some (.ok j), _) => .next (macLast s p k j done)

/-! ### Registers of the unit (R274 to R279) -/

/-- MAC_CANCEL (R276). -/
def writeMacCancel (s : State) (p : Nat) (v : BitVec 16) : State := (onesOf v).foldl (fun s k => (macCancel s p k).2) s
/-- MAC_CANCEL (R276). -/
def execMacCancel (vat : VatId) (value : BitVec 16) (s : State) : Host.Outcome State Fault Refusal :=
  .next (supAccess s .write (R.MAC_CANCEL vat.val) (writeMacCancel s (phys s vat.val) value))

/-- Write MAC_KAT (R278): ignored while BUSY is 1 or a job is held. -/
def writeMacKat (s : State) (p : Nat) (v : BitVec 16) : State :=
  let u := (getVat s p).mac
  if bit v 15 ∧ u.kat = false ∧ u.jobs = [] then modMac s p (fun u => { u with kat := true, katPass := false, katFail := false })
  else s
/-- MAC_KAT (R278). -/
def execMacKat (vat : VatId) (value : BitVec 16) (s : State) : Host.Outcome State Fault Refusal :=
  .next (supAccess s .write (R.MAC_KAT vat.val) (writeMacKat s (phys s vat.val) value))
/-- The end of the unit's known-answer tests (R278). -/
def macKatEnd (s : State) (p : Nat) (pass : Bool) : State :=
  if (getVat s p).mac.kat then
    let s := modMac s p (fun u => { u with kat := false, katPass := pass, katFail := !pass })
    if pass then s
    else fault (eventVat s (R.MAC_EVENT p) 4 p 7) 3 (vatSource s p 7) .none 512 0
  else s

/-- The 48-bit MAC_CTR_ARG. -/
def ctrArg (s : State) (p : Nat) : Nat :=
  (getReg s (R.MAC_CTR_ARG p 0)).toNat + 65536 * (getReg s (R.MAC_CTR_ARG p 1)).toNat + 2 ^ 32 * (getReg s (R.MAC_CTR_ARG p 2)).toNat
/-- The end of a counter command: MAC_CTR_VAL and MAC_CTR_STATUS (R279). -/
def ctrDone (s : State) (p : Nat) (exhausted : Bool) : State :=
  let v := (counterAt s p (getFld s (R.MAC_CTR_SEL p) 5 0)).toNat
  let s := setRegs s (R.MAC_CTR_VAL p 0) ((natWords .data 3 v).map (·.val))
  setReg s (R.MAC_CTR_STATUS p) (BitVec.ofNat 16 (1 + 2 * b2n exhausted))
/-- CMD READ. -/
def ctrRead (s : State) (p : Nat) : State := ctrDone s p false
/-- CMD INCREMENT by MAC_CTR_ARG(0) (R274). -/
def ctrIncrement (s : State) (p : Nat) : State :=
  let (ok, s) := incCounter s p (getFld s (R.MAC_CTR_SEL p) 5 0) (getReg s (R.MAC_CTR_ARG p 0)).toNat
  ctrDone s p !ok
/-- CMD RAISE: the larger of the value and the argument (R275). -/
def ctrRaise (s : State) (p : Nat) : State :=
  let i := getFld s (R.MAC_CTR_SEL p) 5 0
  ctrDone (setCounter s p i (BitVec.ofNat 48 (max (counterAt s p i).toNat (ctrArg s p)))) p false
/-- A write to MAC_CTR_CMD. -/
def writeCtrCmd (s : State) (p : Nat) (v : BitVec 16) : State :=
  match fld v 1 0 with
  | 1 => ctrRead s p
  | 2 => ctrIncrement s p
  | 3 => ctrRaise s p
  | _ => s
/-- MAC_CTR_READ (R274). -/
def execMacCtrRead (vat : VatId) (s : State) : Host.Outcome State Fault Refusal := .next (supAccess s .write (R.MAC_CTR_CMD vat.val) (ctrRead s (phys s vat.val)))
/-- MAC_CTR_INCREMENT (R274). -/
def execMacCtrIncrement (vat : VatId) (s : State) : Host.Outcome State Fault Refusal := .next (supAccess s .write (R.MAC_CTR_CMD vat.val) (ctrIncrement s (phys s vat.val)))
/-- RAISE (R275). -/
def execRaise (vat : VatId) (s : State) : Host.Outcome State Fault Refusal := .next (supAccess s .write (R.MAC_CTR_CMD vat.val) (ctrRaise s (phys s vat.val)))

/-! ### MSUB, MWAIT (R321) -/

/-- Whether an MSUB of a cell is answered BUSY: it has a job, or known-answer tests run. -/
def macBusy (s : State) (k : Nat) : Bool :=
  (getVat s (k / 16)).mac.kat || (tget (fun _ => none) (getVat s (k / 16)).mac.jobs (k % 16)).isSome
/-- MSUB g, c: as CSUB, over 24 words. -/
def execMsub (core : Core) (s : State) : Host.Outcome State Fault Refusal :=
  .next (cellInstr s core (fun p => decide (pOp p = 0x82) && decide (p.toNat % 2 = 0))
    (fun p => jobLegal core && decide (pf p 16 < 8) && decide (p.toNat % 65536 = 0)) fun s k c p =>
      submitJob s k c p 24 18 (macBusy s k) macSubmit)

/-- MSUB.C g: 2 CANCELLED if there was a job, 3 NONE. -/
def execMsubC (core : Core) (s : State) : Host.Outcome State Fault Refusal :=
  .next (cellInstr s core (fun p => decide (pOp p = 0x82) && decide (p.toNat % 2 = 1))
    (fun p => jobLegal core && decide (pf p 16 = 0) && decide (p.toNat % 65536 = 1)) fun s k _ p =>
      let (had, s) := macCancel s (k / 16) (k % 16)
      jobReturn s k p (if had then 2 else 3))

/-- MWAIT g: the STATUS of the current or last MAC job. -/
def execMwait (core : Core) (s : State) : Host.Outcome State Fault Refusal :=
  .next (cellInstr s core (fun p => decide (pOp p = 0x83) && decide (p.toNat % 2 = 0))
    (fun p => jobLegal core && decide (pf p 16 = 0) && decide (p.toNat % 65536 = 0)) fun s k c p =>
      jobReturn s k p c.macStatus.toNat)

/-- MWAIT.W g: waits until the job ends. -/
def execMwaitW (core : Core) (s : State) : Host.Outcome State Fault Refusal :=
  .next (cellInstr s core (fun p => decide (pOp p = 0x83) && decide (p.toNat % 2 = 1))
    (fun p => jobLegal core && decide (pf p 16 = 0) && decide (p.toNat % 65536 = 1)) fun s k c p =>
      if (tget (fun _ => none) (getVat s (k / 16)).mac.jobs (k % 16)).isSome then
        setCell s k { c with wait := .mwaitW, hold := false }
      else jobReturn s k p c.macStatus.toNat)

end Sys2Proof.Machine
end

