-- ==== Sys2Proof/Machine/Firm.lean ====
section
/-!
DEFINITION. What every command of Nelgal firmware shares: the records of the store, authority blocks (R107 to R111), the
checks of R86 with the command table (R106, R153, R178), and job tickets (R194, R204, R205).
-/
namespace Sys2Proof.Machine

/-! ### Records of the store -/

/-- Byte i of a body. -/
def byteAt (b : Bytes) (i : Nat) : Nat := (b.getD i 0).toNat
/-- 16-bit field at offset i of a body. -/
def u16 (b : Bytes) (i : Nat) : Nat := leAt b i 2
/-- 32-bit field at offset i of a body. -/
def u32 (b : Bytes) (i : Nat) : Nat := leAt b i 4
/-- 48-bit field at offset i of a body. -/
def u48 (b : Bytes) (i : Nat) : Nat := leAt b i 6
/-- Whether bytes lo to hi - 1 of a body are 0. -/
def zeroBytes (b : Bytes) (lo hi : Nat) : Bool := ((b.drop lo).take (hi - lo)).all (fun x => decide (x = 0))

/-- The serial number as 8 bytes, most significant first (R55, R101). -/
def serialBytes (s : State) : Bytes := (List.range 4).flatMap (fun j => beBytes 2 (otpWord s j).toNat)
/-- The 2048 bytes of OTP words 0x400-0x7FF (R564). -/
def identityArea (s : State) : Bytes := (List.range 1024).flatMap (fun j => wordBytes (otpWord s (0x400 + j)))
/-- The hash of an RSA-3072 public key as the owner slots hold it (R108). -/
def keyHash (modulus : Bytes) : Bytes := sha256 (modulus ++ [0, 1, 0, 1])

/-- A partition. -/
def getPart (s : State) (i : Nat) : Option Partition := tget (fun _ => none) s.store.parts i
/-- Set or remove a partition. -/
def setPart (s : State) (i : Nat) (v : Option Partition) : State :=
  { s with store := { s.store with parts := tset (fun _ => none) s.store.parts i v } }
/-- A key slot. -/
def getKey (s : State) (i : Nat) : Option KeySlot := tget (fun _ => none) s.store.keys i
/-- Set or empty a key slot. -/
def setKey (s : State) (i : Nat) (v : Option KeySlot) : State :=
  { s with store := { s.store with keys := tset (fun _ => none) s.store.keys i v } }
/-- The partition a counter is allocated to. -/
def counterOwner (s : State) (c : Nat) : Option Nat := tget (fun _ => none) s.store.counters c
/-- Set who a counter is allocated to. -/
def setCounterOwner (s : State) (c : Nat) (v : Option Nat) : State :=
  { s with store := { s.store with counters := tset (fun _ => none) s.store.counters c v } }
/-- A configuration record's key. -/
def cfgKey (item index : Nat) : Nat := item * 65536 + index
/-- A configuration record, if it was ever set. -/
def getCfg (s : State) (item index : Nat) : Option Bytes := tget (fun _ => none) s.store.configs (cfgKey item index)
/-- Set a configuration record. -/
def setCfg (s : State) (item index : Nat) (v : Option Bytes) : State :=
  { s with store := { s.store with configs := tset (fun _ => none) s.store.configs (cfgKey item index) v } }
/-- A curve by number, as firmware holds it (R133). -/
def storeCurve (s : State) (i : Nat) : Option Curve :=
  if i = 1 then some p256 else if i = 2 then some p384 else if i = 3 then some p521 else tget (fun _ => none) s.store.curves i
/-- The STATE of a logical vat (R186). -/
def vatStateOf (s : State) (n : Nat) : Nat := tget (fun _ => (0 : Nat)) s.fw.vatState n
/-- Set the STATE of a logical vat. -/
def setVatState (s : State) (n v : Nat) : State :=
  { s with fw := { s.fw with vatState := tset (fun _ => (0 : Nat)) s.fw.vatState n v } }

/-- Protection in force (R68, R424): 0 Open, 1 Closed, 2 Sealed; UNSET acts as Closed. -/
def protection (s : State) : Nat := let l := getFld s R.FLC_PROT 1 0; if l = 3 then 1 else l
/-- The level of R68. -/
def protLevel (s : State) : Nat :=
  if fuseBlown s oSEALED then 2 else if ownerSlot s = none then 0 else s.store.level.getD 1

/-! ### Use of quotas (R118 to R120) -/

/-- Key slots a partition uses, with those held by its quorum imports (R120). -/
def keysUse (s : State) (p : Nat) : Nat :=
  (s.store.keys.filter (fun q => match q.2 with
    | some k => decide (k.part = p)
    | none => false)).length
  + (s.fw.quorums.filter (fun q => decide (q.part = p) && decide (q.purpose = 2))).length
/-- Counters allocated to a partition. -/
def countersUse (s : State) (p : Nat) : Nat := (s.store.counters.filter (fun q => decide (q.2 = some p))).length
/-- Annotations a partition has pending (R170). -/
def annotationsUse (s : State) (p : Nat) : Nat := (s.store.annotations.filter (fun a => decide (a.1 = p))).length
/-- Doorbells of a partition taken and not yet delivered (R120). -/
def pailsUse (s : State) (p : Nat) : Nat :=
  s.parlour.pails.foldl (fun n q => n + (q.2.queue.filter (fun d => decide (d.part = some p))).length) 0
/-- The quotas of partitions 1-15 added up. -/
def quotaSum (s : State) (f : Partition → Nat) : Nat :=
  s.store.parts.foldl (fun n q => if q.1 = 0 then n else n + (q.2.map f).getD 0) 0
/-- A partition's quota; partition 0 has what the others leave (R119). -/
def quotaOf (s : State) (p total : Nat) (f : Partition → Nat) : Nat :=
  if p = 0 then total - quotaSum s f else ((getPart s p).map f).getD 0
/-- KEYS quota. -/
def keysQuota (s : State) (p : Nat) : Nat := quotaOf s p 65536 (·.keys)
/-- COUNTERS quota. -/
def countersQuota (s : State) (p : Nat) : Nat := quotaOf s p 2048 (·.counters)
/-- ANNOTATIONS quota. -/
def annotationsQuota (s : State) (p : Nat) : Nat := quotaOf s p 64 (·.annotations)

/-! ### Status codes (R100) -/

def sOK : Nat := 0x0000
def sPENDING : Nat := 0x0001
def sBAD_COMMAND : Nat := 0x0010
def sBAD_LENGTH : Nat := 0x0011
def sBAD_PARAMETER : Nat := 0x0012
def sNO_AUTHORITY : Nat := 0x0020
def sQUOTA : Nat := 0x0021
def sNOT_FOUND : Nat := 0x0022
def sEXISTS : Nat := 0x0023
def sCOUNTER_EXHAUSTED : Nat := 0x0030
def sRNG_STOPPED : Nat := 0x0031
def sFAULT_DETECTED : Nat := 0x0032
def sINTEGRITY : Nat := 0x0033
def sCARD_REMOVED_UNKNOWN : Nat := 0x0040
def sCARD_ERROR : Nat := 0x0041
def sNOT_PERSISTED : Nat := 0x0050
def sPARTIAL : Nat := 0x0051
def sTAMPER_HOLD : Nat := 0x0060
def sWRONG_MODE : Nat := 0x0061
def sINTERNAL : Nat := 0x00FF

/-! ### The command table (R106, R153, R178) -/

/-- One row: code, the FLAGS bits it defines, modes, authority block types it accepts (1 owner, 2 credential, 3 ticket),
and whether it needs none. -/
structure CmdRow where
  code : Nat
  flags : BitVec 16
  modes : List Nat
  auth : List Nat
  free : Bool

/-- The rows of Nelgal firmware's commands. OWN.CLAIM's block is of type 1 under the claiming key (R116). -/
def cmdRows : List CmdRow :=
  let sO := [mSERVICE]
  let sr := [mSERVICE, mRECOVERY]
  let row := fun c m a => (⟨c, 0, m, a, false⟩ : CmdRow)
  let open_ := fun c m => (⟨c, 0, m, [], true⟩ : CmdRow)
  [ open_ 0x0101 [mUNCLAIMED, mSERVICE, mRECOVERY, mSPENT], row 0x0102 sO [1, 2],
    row 0x0103 [mUNCLAIMED, mSERVICE, mRECOVERY] [1, 3], row 0x0104 sr [1, 3], row 0x0105 sr [1],
    row 0x0201 [mUNCLAIMED] [1], row 0x0202 sr [1], row 0x0203 sr [1],
    row 0x0301 sO [1, 3], row 0x0302 sO [1, 3], row 0x0303 sO [1, 3], row 0x0304 sO [1, 2], row 0x0305 sO [1, 3],
    row 0x0401 sO [1, 2], row 0x0402 sO [1, 2], row 0x0403 sO [1, 2], row 0x0404 sO [1, 2], row 0x0405 sO [1, 2],
    row 0x0406 sO [1, 2], row 0x0411 sO [1, 2], row 0x0412 sO [1, 2], row 0x0413 sO [1, 2], row 0x0414 sO [1, 2],
    ⟨0x0501, 1, sO, [1, 2], false⟩, row 0x0502 sO [1, 2], row 0x0503 sO [1, 2], row 0x0504 sO [1],
    ⟨0x0601, 6, sO, [1, 2], false⟩, ⟨0x0602, 6, sO, [1, 2], false⟩, row 0x0701 sO [1, 2], row 0x0702 sO [1, 2],
    row 0x0801 [mUNCLAIMED, mSERVICE] [1, 2], row 0x0901 sO [1], row 0x0902 sO [1, 2], row 0x0903 sO [1, 2],
    row 0x0904 sO [1, 2], row 0x0905 sO [1, 2], row 0x0A01 sr [1], row 0x0A02 sO [1, 3], row 0x0A03 sr [1],
    row 0x0A04 sO [1, 3], row 0x0B01 sO [1], row 0x0B02 sO [1, 3], row 0x0B03 sO [1, 3], row 0x0B04 sO [1, 3],
    row 0x0B05 sO [1, 3], row 0x0B06 sO [1, 3], row 0x0C01 sr [1], row 0x0C02 sr [1], row 0x0C03 sr [1],
    open_ 0x0D01 sr, open_ 0x0D02 sr, row 0x0D03 sO [1, 2, 3], row 0x0D04 sO [1, 2], open_ 0x0D05 sr,
    row 0x0E01 sr [1, 3], open_ 0x0E02 sr, open_ 0x0E03 sr, open_ 0x0E04 sr, row 0x0E05 sr [1, 3] ]

/-- The row of a command code. -/
def cmdRow (c : Nat) : Option CmdRow := cmdRows.find? (fun r => r.code == c)

/-- Whether BODY_LENGTH fits a command's layout, from the body's own length fields (check 4 of R86). -/
def layoutOk (c : Nat) (flags : BitVec 16) (b : Bytes) : Bool :=
  let n := b.length
  let is := fun k => decide (n = k)
  if c ∈ [0x0101, 0x0105, 0x0201, 0x0203, 0x0411, 0x0C01, 0x0C03, 0x0D01, 0x0D05] then is 0
  else if c ∈ [0x0103, 0x0104, 0x0302, 0x0304, 0x0305, 0x0E03, 0x0E05] then is 1
  else if c ∈ [0x0404, 0x0405, 0x0406, 0x0412, 0x0414, 0x0801, 0x0A03, 0x0B01, 0x0B02, 0x0B05, 0x0B06] then is 2
  else if c ∈ [0x0403, 0x0413, 0x0904, 0x0905, 0x0A04, 0x0B04, 0x0E04] then is 4
  else match c with
  | 0x0102 => is 32
  | 0x0202 => is 384
  | 0x0301 => is 12
  | 0x0303 => is 12
  | 0x0401 => is 8
  | 0x0402 => decide (16 ≤ n) && is (16 + u16 b 10)
  | 0x0501 => decide (8 ≤ n) && is (8 + u16 b 4)
  | 0x0502 => decide (16 ≤ n) && is (16 + u16 b 6 + u16 b 8 + u16 b 10)
  | 0x0503 => decide (48 ≤ n)
  | 0x0504 => decide (2 ≤ n) && is (3 + 6 * byteAt b 1)
  | 0x0601 => decide (48 ≤ n) && is (48 + if bit flags 1 then 8 else u32 b 44)
  | 0x0602 => decide (48 ≤ n) && is (48 + (if bit flags 1 then 8 else u32 b 44) + byteAt b 2)
  | 0x0701 => is 44
  | 0x0702 => decide (16 ≤ n) && is (16 + u16 b 8)
  | 0x0901 => decide (56 ≤ n) && is (56 + 66 * byteAt b 1)
  | 0x0902 => is 40
  | 0x0903 => is 5
  | 0x0A01 => is 8
  | 0x0A02 => decide (8 ≤ n) && is (8 + u16 b 4)
  | 0x0B03 => is 36
  | 0x0C02 => is 6
  | 0x0D02 => is 8
  | 0x0D03 => is 8
  | 0x0D04 => is 34
  | 0x0E01 => is 8
  | 0x0E02 => decide (16 ≤ n) && is (16 + u16 b 8)
  | _ => false

/-- A rule of check 8: whether it holds, the byte offset of its field, and its reason code (R103). -/
abbrev ParamRule := Bool × Nat × Nat
/-- Reserved body bytes lo to hi - 1 (R101). -/
def reservedRule (b : Bytes) (lo hi : Nat) : ParamRule := (zeroBytes b lo hi, lo, 0)
/-- A USAGE field with its reserved bits 0 (R122). -/
def usageRule (b : Bytes) (o : Nat) : ParamRule := (decide (u16 b o < 2048), o, 0)
/-- A field between two values. -/
def rangeRule (v lo hi o : Nat) : ParamRule := (decide (lo ≤ v) && decide (v ≤ hi), o, 0)
/-- The quota fields of PART.CREATE and PART.SET_QUOTA (R118). -/
def quotaRules (b : Bytes) : List ParamRule :=
  [reservedRule b 1 2, rangeRule (u32 b 2) 0 65536 2, rangeRule (u16 b 6) 0 2048 6, rangeRule (byteAt b 8) 0 64 8,
   rangeRule (byteAt b 9) 1 64 9, rangeRule (byteAt b 10) 1 64 10, reservedRule b 11 12]
/-- MAC_LENGTH by ALGORITHM, as far as the key is not needed (R135). -/
def macLenMax (a : Nat) : Nat := if a = 1 ∨ a = 3 then 16 else if a = 5 then 32 else 8

/-- The parameter rules of a command in ascending offset (check 8 of R86). Of a KSPEC of KIND 0, a slot, ROOT is not judged: R134 refuses
ROOT 0 for every host command and does not say whether it is a field of such a KSPEC. The limit of 7,680 bytes R129 states for the
message of SIG.SIGN is applied to INPUT of SIG.VERIFY too, for which it states none. SIG.VERIFY with KEY_KIND 0, a slot, is refused where KEY_LENGTH is not 0: R130
does not speak of that pair. DESIGN CHOICE, log entries 103, 104 and 125. -/
def paramRules (s : State) (c : Nat) (flags : BitVec 16) (b : Bytes) : List ParamRule :=
  let v := byteAt b
  match c with
  | 0x0103 => [rangeRule (v 0) 0 1 0, (decide (¬ (mode s = mUNCLAIMED ∧ v 0 = 1)), 0, 1)]
  | 0x0104 => [rangeRule (v 0) 0 2 0]
  | 0x0301 => rangeRule (v 0) 1 15 0 :: quotaRules b
  | 0x0302 => [rangeRule (v 0) 1 15 0]
  | 0x0303 => rangeRule (v 0) 0 15 0 :: (if v 0 = 0 then
      [reservedRule b 1 2, (decide (u32 b 2 = 0), 2, 0), (decide (u16 b 6 = 0), 6, 0), (decide (v 8 = 0), 8, 0)] else []) ++ quotaRules b
  | 0x0304 => [rangeRule (v 0) 0 15 0]
  | 0x0305 => [rangeRule (v 0) 1 15 0]
  | 0x0401 => [(decide (v 0 ∈ [1, 2, 3, 4, 5, 6, 0x10, 0x11, 0x12, 0x20]), 0, 0),
      (if v 0 = 0x20 then decide (1 ≤ v 1) && decide (v 1 ≤ 15) else decide (v 1 = 0), 1, 0), usageRule b 2,
      (decide (bit (BitVec.ofNat 16 (u16 b 2)) 10 = decide (u16 b 6 ≠ 0xFFFF)), 6, 0)]
  | 0x0402 => [rangeRule (v 0) 1 3 0, (decide (v 0 ≠ 3) || (decide (1 ≤ v 1) && decide (v 1 ≤ 15)), 1, 0), usageRule b 2,
      reservedRule b 12 16]
  | 0x0413 => [rangeRule (u16 b 2) 1 65535 2]
  | 0x0501 => [rangeRule (v 2) 1 3 2, reservedRule b 3 4,
      (if bit flags 0 then (if v 2 = 3 then decide (u16 b 4 ∈ [32, 48, 64]) else decide (u16 b 4 = 32)) else decide (u16 b 4 ≤ 7680), 4, 0),
      reservedRule b 6 8]
  | 0x0502 => [rangeRule (v 0) 0 1 0, rangeRule (v 1) 1 3 1,
      (decide (¬ (v 0 = 1 ∧ v 1 = 3)) || (decide (1 ≤ v 2) && decide (v 2 ≤ 15)), 2, 0), reservedRule b 3 4,
      (if v 0 = 0 then decide (u16 b 6 = 0) else decide (v 1 = 3) || decide (u16 b 6 ∈ [256, 384, 512]), 6, 0),
      (decide (u16 b 8 ≤ 7680), 8, 0),
      reservedRule b 12 16]
  | 0x0503 => [(decide (v 2 ∈ [1, 2, 3, 6]), 2, 0), reservedRule b 3 4, usageRule b 4, rangeRule (v 8) 0 32 8, reservedRule b 9 16]
  | 0x0504 => [rangeRule (v 0) 4 15 0, rangeRule (v 1) 32 66 1]
  | 0x0601 => macRules v
  | 0x0602 => macRules v
  | 0x0701 => [(decide (v 0 ∈ [0, 1, 3, 4]), 0, 0), (decide (v 1 ∈ [0, 1, 3, 4]), 1, 0),
      (decide (¬ (v 1 = 1 ∧ v 0 ≠ 1)), 1, 0x22), rangeRule (v 6) 12 19 6, reservedRule b 7 8,
      ((List.range 20).all (fun i => if i < v 6 then decide (0x30 ≤ v (8 + i)) && decide (v (8 + i) ≤ 0x39) else decide (v (8 + i) = 0)), 8, 0),
      (decide (v 0 = 4) || zeroBytes b 36 44, 28, 0)]
  | 0x0702 => [rangeRule (v 0) 1 2 0, (decide (1 ≤ v 1) && decide (v 1 ≤ 2) && (decide (v 1 = 1) || decide (v 0 = 2)), 1, 0),
      usageRule b 6, reservedRule b 10 16]
  | 0x0801 => [rangeRule (u16 b 0) 1 8176 0]
  | 0x0901 => [rangeRule (v 0) 1 16 0, rangeRule (v 1) (v 0) 16 1, rangeRule (v 2) 5 16 2, reservedRule b 3 4,
      rangeRule (v 22) 0 16 22, reservedRule b 23 24]
  | 0x0902 => [rangeRule (v 0) 1 2 0, reservedRule b 1 2, (decide (v 0 = 1) || (decide (1 ≤ v 2) && decide (v 2 ≤ 5)), 2, 0),
      reservedRule b 3 4, usageRule b 4]
  | 0x0903 => [rangeRule (v 4) 0 15 4]
  | 0x0A01 => [reservedRule b 6 8]
  | 0x0A02 => [reservedRule b 6 8]
  | 0x0B01 => [rangeRule (u16 b 0) 0 33 0]
  | 0x0B02 => [rangeRule (u16 b 0) 0 33 0]
  | 0x0B03 => [rangeRule (u16 b 0) 0 33 0]
  | 0x0B04 => [rangeRule (u16 b 0) 0 33 0, rangeRule (u16 b 2) 600 900 2]
  | 0x0B05 => [rangeRule (u16 b 0) 0 33 0]
  | 0x0B06 => [rangeRule (u16 b 0) 0 33 0]
  | 0x0D02 => [reservedRule b 6 8]
  | 0x0D03 => [reservedRule b 6 8]
  | 0x0D04 => [reservedRule b 1 2]
  | 0x0E01 => [rangeRule (v 0) 1 2 0, reservedRule b 1 4, rangeRule (u32 b 4) 4096 16515072 4]
  | 0x0E02 => [(decide (u32 b 4 % 4096 = 0), 4, 0), rangeRule (u16 b 8) 1 4096 8, reservedRule b 10 16]
  | 0x0E03 => [rangeRule (v 0) 1 2 0]
  | 0x0E05 => [rangeRule (v 0) 1 2 0]
  | _ => []
where macRules (v : Nat → Nat) : List ParamRule :=
  [rangeRule (v 0) 1 5 0, (if v 0 = 3 ∨ v 0 = 4 then decide (v 1 = 1) || decide (v 1 = 2) else decide (v 1 = 0), 1, 0),
   rangeRule (v 2) 4 (macLenMax (v 0)) 2, (decide (v 3 = 0), 3, 0), rangeRule (v 4) 0 1 4,
   (decide (v 4 = 0) || decide (v 5 = 1) || decide (v 5 = 2), 5, 0), rangeRule (v 6) 0 32 6, (decide (v 7 = 0), 7, 0),
   (decide (v 10 = 0) && decide (v 11 = 0), 10, 0),
   (bit flags 1 || decide (u32 b 44 ≤ 7936), 44, 0)]

/-- The first offending field: its offset and reason (R103). -/
def badParam (s : State) (c : Nat) (flags : BitVec 16) (b : Bytes) : Option (Nat × Nat) :=
  ((paramRules s c flags b).find? (fun r => !r.1)).map (·.2)

/-! ### Authority (R107 to R111, R116) -/

/-- Verify an RSASSA-PSS signature, SHA-256, salt of 32 bytes, exponent 65537. -/
def pssCheck (modulus msg sig : Bytes) : Bool :=
  let n := beNat modulus
  let sg := beNat sig
  decide (sg < n) && pssVerify (beBytes modulus.length (rsaPub n sg)) (sha256 msg) 32 (8 * modulus.length)

/-- An owner signature block (R108), or the claiming key's (R116). -/
def ownerBlock (s : State) (c : Nat) (hdr body blk : Bytes) : Option Authority :=
  let ch := slice blk 4 32
  let modulus := slice blk 36 384
  let sig := slice blk 420 384
  if blk.length = 804 ∧ byteAt blk 1 = 0 ∧ u16 blk 2 = 804 ∧ ch ∈ s.fw.challenges
    ∧ (if c = 0x0201 then true else match ownerSlot s with
        | some i => decide (keyHash modulus = ownerHash s i)
        | none => false) = true
    ∧ pssCheck modulus (hdr ++ body ++ ch ++ serialBytes s) sig = true
  then some (.owner modulus ch) else none

/-- COUNTERs a partition has had accepted since the last reset: the highest, and those of the window. -/
def credsOf (s : State) (p : Nat) : Nat × List Nat := tget (fun _ => (0, [])) s.fw.creds p
/-- A partition credential block (R110). -/
def credBlock (s : State) (part : Nat) (hdr body blk : Bytes) : Option Authority :=
  match getPart s part with
  | none => none
  | some q =>
    let ctr := leAt blk 8 8
    let (h, got) := credsOf s part
    if part ≠ 0 ∧ blk.length = 32 ∧ byteAt blk 1 = 0 ∧ u16 blk 2 = 32 ∧ u16 blk 4 = q.gen ∧ u16 blk 6 = 0
      ∧ 0 < ctr ∧ ctr < 2 ^ 48 ∧ h < ctr + 64 ∧ ctr ∉ got
      ∧ cmac 3 q.key (hdr ++ body ++ slice blk 0 16 ++ leBytes 6 s.fw.bootNumber) = slice blk 16 16
    then some (.credential ctr) else none

/-- A quorum ticket block (R111). -/
def ticketBlock (s : State) (c : Nat) (hdr body blk : Bytes) : Option Authority :=
  match s.fw.qtickets.find? (fun t => t.id == u32 blk 4), s.store.policy with
  | some t, some pol =>
    if blk.length = 8 ∧ byteAt blk 1 = 0 ∧ u16 blk 2 = 8 ∧ s.bat.timeBase.toNat < t.ends ∧ t.digest = sha256 (hdr ++ body)
      ∧ c ∈ pol.codes then some (.ticket t.id) else none
  | _, _ => none

/-- Check 7: what a request proved, or none (R86, R106, R107). -/
def authority (s : State) (row : CmdRow) (part : Nat) (hdr body blk : Bytes) : Option Authority :=
  let free := row.free || (decide (mode s = mUNCLAIMED) && decide (row.code ≠ 0x0201))
  if blk = [] then (if free then some .none else none)
  else if free ∨ (mode s = mRECOVERY ∧ byteAt blk 0 ≠ 1) ∨ byteAt blk 0 ∉ row.auth then none
  else match byteAt blk 0 with
  | 1 => ownerBlock s row.code hdr body blk
  | 2 =>
    if (row.code = 0x0304 ∧ byteAt body 0 ≠ part)
      ∨ (row.code = 0x0D03 ∧ byteAt s.fw.hbPolicy 0 ≠ part) then none
    else credBlock s part hdr body blk
  | _ => ticketBlock s row.code hdr body blk

/-- The challenge, counter or ticket of an accepted request is consumed (R109 to R111). -/
def consume (s : State) (part : Nat) (a : Authority) : State :=
  match a with
  | .none => s
  | .owner _ ch => { s with fw := { s.fw with challenges := s.fw.challenges.erase ch } }
  | .credential c =>
    let (h, got) := credsOf s part
    let h2 := max h c
    { s with fw := { s.fw with creds := tset (fun _ => (0, [])) s.fw.creds part (h2, (c :: got).filter (fun x => decide (h2 < x + 64))) } }
  | .ticket i => { s with fw := { s.fw with qtickets := s.fw.qtickets.filter (fun t => t.id != i) } }
/-- Whether a request acts under owner or quorum authority. -/
def isOwner (a : Authority) : Bool :=
  match a with
  | .owner _ _ => true
  | .ticket _ => true
  | _ => false

/-! ### Taking a request (R86) -/

/-- Whether the mode accepts a command (R43); the recovery monitor serves DEV.INFO, DEV.RESET and UPD only (R42). -/
def modeAccepts (s : State) (row : CmdRow) : Bool :=
  decide (mode s ∈ row.modes) && (!(s.fw.monitor && decide (mode s = mRECOVERY))
    || decide (row.code = 0x0101) || decide (row.code = 0x0103) || decide (0x0E00 < row.code))
/-- Requests of a partition accepted and not yet carried out that a test picks: what they will allocate is charged already (R120). -/
def acceptedOf (s : State) (part : Nat) (f : Nat → Bytes → Bool) : Nat :=
  s.parlour.pails.foldl (fun n q => n + (q.2.queue.filter (fun d => match d.phase with
    | .taken r => decide (r.part = part) && f r.command r.body
    | _ => false)).length) 0
/-- Whether a command takes a key slot (R120). -/
def takesSlot (c : Nat) (b : Bytes) : Bool := decide (c = 0x0401 ∨ c = 0x0402 ∨ c = 0x0503 ∨ (c = 0x0902 ∧ byteAt b 0 = 2))
/-- Whether a use and the requests accepted that add to it leave room in a quota for one more (R120). -/
def roomFor (s : State) (part used quota : Nat) (f : Nat → Bytes → Bool) : Bool := decide (used + acceptedOf s part f + 1 ≤ quota)
/-- Check 9: PAILS, then what the command would allocate (R120), and the device limits of R64 and R66. -/
def quotaAllows (s : State) (c part : Nat) (b : Bytes) : Bool :=
  (match getPart s part with
   | some q => decide (pailsUse s part + 1 ≤ q.pails)
   | none => true)
  && (if takesSlot c b then roomFor s part (keysUse s part) (keysQuota s part) takesSlot
      else if c = 0x0411 then roomFor s part (countersUse s part) (countersQuota s part) (fun k _ => decide (k = 0x0411))
      else if c = 0x0D04 then roomFor s part (annotationsUse s part) (annotationsQuota s part) (fun k _ => decide (k = 0x0D04))
      else if c = 0x0201 ∨ c = 0x0202 then (emptySlot s).isSome
      else true)

/-- What the checks of R86 make of a request copy: the number of the check that fails with the status and DETAIL, or the
request. Where the header's PARTITION fails check 8, which is no byte of the body, DETAIL names offset 0 (R103 speaks of body fields
only); a HOLD refuses DEV.INFO in SPENT too (R86, R501). DESIGN CHOICE, log entry 97. -/
def checkRequest (s : State) (length : Nat) (copy : Bytes) : Except (Nat × Nat × Nat) Request :=
  let hdr := slice copy 0 16
  let c := u16 hdr 0
  let flags := BitVec.ofNat 16 (u16 hdr 2)
  let part := byteAt hdr 4
  let bl := u16 hdr 6
  let al := u16 hdr 8
  if 16 + bl + al ≠ length then .error (1, sBAD_LENGTH, 0)
  else if byteAt hdr 5 ≠ 3 ∨ zeroBytes hdr 10 16 = false then .error (2, sBAD_COMMAND, 0)
  else
    let body := slice copy 16 bl
    let blk := slice copy (16 + bl) al
    match cmdRow c with
    | none => .error (3, sBAD_COMMAND, 0)
    | some row =>
      if flags &&& ~~~row.flags ≠ 0 then .error (3, sBAD_COMMAND, 0)
      else if layoutOk c flags body = false then .error (4, sBAD_LENGTH, 0)
      else if modeAccepts s row = false then .error (5, sWRONG_MODE, 0)
      else if s.tmp.hold = true then .error (6, sTAMPER_HOLD, 0)
      else match authority s row part hdr body blk with
        | none => .error (7, sNO_AUTHORITY, 0)
        | some a =>
          if 15 < part ∨ (isOwner a = true ∧ part ≠ 0) then .error (8, sBAD_PARAMETER, 0)
          else match badParam s c flags body with
            | some (o, r) => .error (8, sBAD_PARAMETER, r * 65536 + o)
            | none =>
              if quotaAllows s c part body = false then .error (9, sQUOTA, 0)
              else .ok { command := c, flags := flags, part := part, body := body, auth := a, copy := copy }

/-- Count a rejected request (R147). -/
def countReject (s : State) (check : Nat) : State :=
  { s with rejects := tset (fun _ => (0 : Nat)) s.rejects (check - 1) (min 0xFFFFFFFF (tget (fun _ => (0 : Nat)) s.rejects (check - 1) + 1)) }

/-! ### Job tickets (R194, R204, R205) -/

/-- Commands that Nelgal firmware gives to the cells: those whose work needs a churn, a MAC unit or a card (R20, R204); which
commands these are is read from what each uses. DEDUCED, log entry 22. -/
def cellCommands : List Nat :=
  [0x0102, 0x0401, 0x0402, 0x0403, 0x0412, 0x0413, 0x0501, 0x0502, 0x0503, 0x0601, 0x0602, 0x0701, 0x0702, 0x0903]
/-- A key slot as a doorbell's command sees it: as it was when its ticket was built (R126), else as it is. -/
def keySeen (s : State) (d : Doorbell) (slot : Nat) : Option KeySlot :=
  match d.keys.find? (fun q => q.1 == slot) with
  | some q => q.2
  | none => getKey s slot
/-- The key slots a request names. -/
def slotsNamed (r : Request) : List Nat :=
  match r.command with
  | 0x0403 => [u16 r.body 0, u16 r.body 2]
  | 0x0501 => [u16 r.body 0]
  | 0x0502 => if byteAt r.body 0 = 0 then [u16 r.body 4] else []
  | 0x0503 => [u16 r.body 0]
  | 0x0601 => if byteAt r.body 4 = 0 then [u16 r.body 8] else []
  | 0x0602 => if byteAt r.body 4 = 0 then [u16 r.body 8] else []
  | 0x0701 => [u16 r.body 2, u16 r.body 4]
  | 0x0702 => [u16 r.body 2, u16 r.body 4]
  | 0x0402 => if byteAt r.body 0 = 1 then [u16 r.body 6] else []
  | _ => []
/-- The stream of a pinned ticket (R125, R204): a counter, a session, or the slot of a generation. -/
inductive Stream where
  | counter (n : Nat)
  | session (n : Nat)
  | generation (n : Nat)
  deriving DecidableEq, Repr
/-- The stream of a doorbell's request, if its ticket is pinned (R204): a counter or a COUNTED key pins it only if it is the
partition's own, since the device gives no sign of any other (R105). Where it names two COUNTED keys the first one's counter is its
stream: DESIGN CHOICE, log entry 98. -/
def streamOf (s : State) (d : Doorbell) (r : Request) : Option Stream :=
  if r.command = 0x0412 ∨ r.command = 0x0413 then
    if counterOwner s (u16 r.body 0) = some r.part then some (.counter (u16 r.body 0)) else none
  else if r.command = 0x0903 then some (.session (u32 r.body 0))
  else (slotsNamed r).findSome? (fun i => match keySeen s d i with
    | some k => if bit k.usage 10 && decide (k.part = r.part) && decide (k.state = 2) then some (.counter k.counter.toNat) else none
    | none => none)
/-- The number of a stream. -/
def Stream.num : Stream → Nat
  | .counter n => n
  | .session n => n
  | .generation n => n

/-- Whether a logical vat is ACTIVE and takes tickets (R186). -/
def vatActive (s : State) (n : Nat) : Bool := decide (n < 32) && decide (vatStateOf s n = 0) && admits s (phys s n)
/-- Where a ticket stands in R205: unpinned, or with the number of its stream. -/
def ticketCell (s : State) (p : Nat) (st : Option Nat) : Option Nat :=
  match st with
  | none => fewest s p
  | some x => ((List.range 16).map (fun i => (x + i) % 16)).find?
      (fun k => cellRun s p k && !(getCell s (p * 16 + k)).halted)
/-- The active vat an unpinned ticket goes to: R205 leaves the choice to the partition's scheduling, and R207 says how many it admits
and not where; the model takes the vat with the fewest queued tickets, the lowest number on a tie. DESIGN CHOICE, log entry 22. -/
def unpinnedVat (s : State) : Option Nat :=
  greatest (fun n => 2000 - (List.range 16).foldl (fun q k => q + (deque s (phys s n) k).length) 0)
    (those 32 (fun n => vatActive s n && (fewest s (phys s n)).isSome))
/-- The logical vat a ticket goes to (R204, R205). -/
def ticketVat (s : State) (st : Option Stream) : Option Nat :=
  match st with
  | none => unpinnedVat s
  | some (.counter c) => if vatActive s (c / 64) then some (c / 64) else none
  | some x => ((List.range 32).map (fun i => (x.num + i) % 32)).find? (vatActive s)

/-- The buffers of global SRAM in use: the request copy and completion area of each ticket, those of generations among them (log entry
22). -/
def bufsUsed (s : State) : List Nat :=
  s.parlour.pails.flatMap (fun q => q.2.queue.filterMap (fun d => match d.phase with
    | .taken _ => d.buf
    | .done _ _ => d.buf
    | _ => none)) ++ s.fw.gens.map (·.2)
/-- The first word of a buffer: 4096 words of request copy, then 4096 of completion area. -/
def bufBase (b : Nat) : Nat := 0x10100000 + b * 0x2000
/-- The first word of a partition's working area of 16384 words in global SRAM (R336; where and how large is a DESIGN CHOICE, log
entry 109). -/
def partBase (part : Nat) : Nat := 0x10040000 + part * 0x4000
/-- The 32 words of a ticket (R194, R336). -/
def ticketWords (seq : BitVec 16) (flags part command : Nat) (st : Option Stream) (enq : Nat) (home slot len buf : Nat) : List Word :=
  let capWords := fun (c : CReg) => (List.range 4).map (frag c)
  let n := (st.map (·.num)).getD 0
  [dataWord seq, dataNat (flags + part * 256), dataNat command, dataWord (Config.jobIndex command), dataNat n, dataNat (n / 65536),
   dataNat enq, dataNat (enq / 65536),
   dataNat home, dataNat slot, dataNat len, dataNat (len / 65536), dataNat 0, dataNat 0, dataNat 0, dataNat 0]
  ++ capWords (mkCap (bufBase buf) ((len + 1) / 2) pREAD) ++ capWords (mkCap (bufBase buf + 0x1000) 4096 pWRITE)
  ++ capWords (mkCap (partBase part) 0x4000 (pREAD + pWRITE)) ++ [dataNat 0, dataNat 0, dataNat 0, dataNat 0]

/-- A ticket index of a vat's pool stands for a cancelled generation, or no longer does (R125). -/
def setVoided (s : State) (p t : Nat) (on : Bool) : State :=
  { s with fw := { s.fw with voided := (if on then [(p, t)] else []) ++ s.fw.voided.filter (fun q => q != (p, t)) } }
/-- Write a ticket into a vat's pool and push it (R195). -/
def pushTicket (s : State) (n k : Nat) (ws : List Word) : State :=
  let p := phys s n
  match freeTicket s p with
  | none => s
  | some t => dqPush (writeMems (setVoided s p t false) (ticketBase p t) ws) p k t

/-! ### Admission (R204, R205, R207) -/

/-- A ticket that waits for admission: a request's, or the generation ticket of a slot (R125). -/
inductive Waiting where
  | request (pail : Nat) (d : Doorbell) (r : Request)
  | generation (slot part : Nat)
/-- Its place in the order of admission: requests as they were taken, generations after them (log entry 98). -/
def Waiting.place (s : State) : Waiting → Nat
  | .request _ d _ => d.order
  | .generation slot _ => s.fw.taken + slot
/-- Its partition. -/
def Waiting.part : Waiting → Nat
  | .request _ _ r => r.part
  | .generation _ p => p
/-- Its stream. -/
def Waiting.stream (s : State) : Waiting → Option Stream
  | .request _ d r => streamOf s d r
  | .generation slot _ => some (.generation slot)
/-- The vat a pinned ticket that had to leave it waits for: the supervisor holds it until that vat is ACTIVE or RETIRED (R211, R212). -/
def Waiting.held (s : State) (w : Waiting) : Bool :=
  let vat := match w with
    | .request _ d _ => d.heldFor
    | .generation slot _ => (s.fw.gensHeld.find? (fun q => q.1 == slot)).map (·.2)
  match vat with
  | none => false
  | some n => decide (vatStateOf s n ≠ 0) && decide (vatStateOf s n ≠ 3)
/-- Every ticket that waits, in order. -/
def waitingTickets (s : State) : List Waiting :=
  let requests := s.parlour.pails.flatMap (fun q => q.2.queue.filterMap (fun d => match d.phase with
    | .taken r => if r.command ∈ cellCommands ∧ d.buf = none then some (Waiting.request q.1 d r) else none
    | _ => none))
  let gens := s.store.keys.filterMap (fun q => match q.2 with
    | some k => if k.state = 1 ∧ q.1 ∉ s.fw.gens.map (·.1) then some (Waiting.generation q.1 k.part) else none
    | none => none)
  (requests ++ gens).insertionSort (fun a b => a.place s ≤ b.place s)
/-- The streams that have a ticket in a vat and not yet done (R204). -/
def streamsOut (s : State) : List Stream :=
  s.parlour.pails.flatMap (fun q => q.2.queue.filterMap (fun d => match d.phase with
    | .taken r => if d.buf.isSome then streamOf s d r else none
    | _ => none))
/-- Where a ticket would go now (R205): logical vat, cell and buffer; none where it has to wait. -/
def placeFor (s : State) (st : Option Stream) : Option (Nat × Nat × Nat) :=
  match ticketVat s st, (List.range 255).find? (fun b => !decide (b ∈ bufsUsed s)) with
  | some n, some b =>
    match ticketCell s (phys s n) (st.map (·.num)), freeTicket s (phys s n) with
    | some k, some _ => if (deque s (phys s n) k).length < 64 then some (n, k, b) else none
    | _, _ => none
  | _, _ => none
/-- The waiting tickets that may be admitted: of each stream the first, and only while none of it is in a vat (R204). -/
def admissible (s : State) : List Stream → List Waiting → List Waiting
  | _, [] => []
  | out, w :: ws =>
    match w.stream s with
    | none => if (placeFor s none).isSome then w :: admissible s out ws else admissible s out ws
    | some x =>
      if x ∈ out then admissible s out ws
      else if w.held s then admissible s (x :: out) ws
      else if (placeFor s (some x)).isSome then w :: admissible s (x :: out) ws
      else admissible s (x :: out) ws
/-- SHARE of a partition (R118); 16 where there is none. -/
def shareOf (s : State) (p : Nat) : Nat := ((getPart s p).map (·.share)).getD 16
/-- The partition the next admission of the round goes to, and whether it is one left over (R207). -/
def nextPart (s : State) (parts : List Nat) : Option (Nat × Bool) :=
  let total := (parts.map (shareOf s)).foldl (· + ·) 0
  match parts.find? (fun p => decide (tget (fun _ => (0 : Nat)) s.fw.round p < 64 * shareOf s p / total)) with
  | some p => some (p, false)
  | none => ((parts.find? (fun p => decide (s.fw.turn < p))) <|> parts.head?).map (fun p => (p, true))
/-- Count an admission; a round has 64 (R207). -/
def countAdmission (s : State) (p : Nat) (left : Bool) : State :=
  let round := tset (fun _ => (0 : Nat)) s.fw.round p (tget (fun _ => (0 : Nat)) s.fw.round p + 1)
  let full := decide (64 ≤ round.foldl (fun n q => n + q.2) 0)
  { s with fw := { s.fw with round := if full then [] else round, turn := if left then p else s.fw.turn } }
/-- Build the ticket of a waiting request or generation and push it (R194, R205). -/
def admitTicket (s : State) (w : Waiting) : State :=
  match placeFor s (w.stream s) with
  | none => s
  | some (n, k, b) =>
    match w with
    | .request pail d r =>
      let st := streamOf s d r
      let s := writeMems s (bufBase b) ((packWords r.copy).map dataWord)
      let mark := fun (x : Doorbell) => { x with buf := some b, heldFor := none, keys := (slotsNamed r).map (fun i => (i, keySeen s d i)) }
      let s := modPail s pail (fun v => { v with queue := changeFirst (fun x => decide (x.seq = d.seq)) mark v.queue })
      pushTicket s n k (ticketWords d.seq ((if st.isSome then 0x8000 else 0) + pail) r.part r.command st s.bat.timeBase.toNat (n * 256 + k)
        (match slotsNamed r with
          | i :: _ => i
          | [] => 0xFFFF) r.copy.length b)
    | .generation slot part =>
      let s := { s with fw := { s.fw with gens := (slot, b) :: s.fw.gens, gensHeld := s.fw.gensHeld.filter (fun q => q.1 != slot) } }
      pushTicket s n k (ticketWords 0 0xA000 part 0x0401 (some (.generation slot)) s.bat.timeBase.toNat (n * 256 + k) slot 0 b)
/-- Admit one ticket, if one can be (R207). -/
def admitNext (s : State) : Option State :=
  let ws := if supHalted s then [] else admissible s (streamsOut s) (waitingTickets s)
  match nextPart s ((List.range 16).filter (fun p => ws.any (fun w => w.part == p))) with
  | none => none
  | some (p, left) => (ws.find? (fun w => w.part == p)).map (fun w => admitTicket (countAdmission s p left) w)
/-- Admit at most `n` tickets. -/
def admitUpTo : Nat → State → State
  | 0, s => s
  | n + 1, s =>
    match admitNext s with
    | none => s
    | some t => admitUpTo n t
/-- Admit every waiting ticket that a vat takes now (R205, R207). -/
def admitWaiting (s : State) : State := admitUpTo (waitingTickets s).length s

/-- Whether a ticket in a vat's pool is that of a pail's doorbell. -/
def ticketIs (s : State) (p t pail : Nat) (seq : BitVec 16) : Bool :=
  decide (ticketWord s p t 0 = seq) && decide (fld (ticketWord s p t 1) 5 0 = pail) && !bit (ticketWord s p t 1) 13
/-- The tickets of a vat that are somewhere: in a deque, held by a cell, or done. -/
def liveTickets (s : State) (p : Nat) : List Nat :=
  (List.range 16).flatMap (fun k => deque s p k) ++ (List.range 16).filterMap (fun k => (getCell s (p * 16 + k)).ticket)
    ++ (getVat s p).cq
/-- Take a ticket out of the deques and the completion queue of a vat. -/
def dropTicket (s : State) (p t : Nat) : State :=
  let s := (List.range 16).foldl (fun s k => if t ∈ deque s p k then removeTicket s p k t else s) s
  modVat s p (fun v => { v with cq := v.cq.erase t })
/-- The position, cell and ticket of the running cell that has a doorbell's ticket. -/
def runningCell (s : State) (pail : Nat) (seq : BitVec 16) : Option (Nat × Nat × Nat) :=
  s.cells.findSome? (fun q => match q.2.ticket with
    | some t =>
      let p := q.1 / 16
      if !isSup q.1 && ticketIs s p t pail seq && cellRun s p (q.1 % 16) && !q.2.halted then some (p, q.1 % 16, t) else none
    | none => none)

/-- PAIL_EVENT_TAKE (R86): the request is copied, REQ_HELD and WRITERS are cleared, the copy is checked; a rejected request
is completed and counted, an accepted one consumes its authority and is carried out. -/
def takePail (s : State) (p : Nat) : State :=
  let v := getPail s p
  match v.queue.find? (fun d => decide (d.phase = .rung)) with
  | none => s
  | some d =>
    let copy := (unpackWords (readMems s (requestBase p) ((d.length + 1) / 2))).take d.length
    let s := clearPail s p
    let s := modPail s p (fun v => { v with reqHeld := false, writerAux := false, writerHost := false })
    let upd := fun s (f : Doorbell → Doorbell) =>
      modPail s p (fun v => { v with queue := changeFirst (fun x => decide (x.seq = d.seq)) f v.queue })
    match checkRequest s d.length copy with
    | .error (k, st, detail) =>
      countReject (upd s (fun x => { x with phase := .ready (respond st (u16 copy 0) [] detail) })) k
    | .ok r =>
      let s := consume s r.part r.auth
      let s := upd s (fun x => { x with phase := .taken r, part := some r.part, order := s.fw.taken })
      let s := { s with fw := { s.fw with taken := s.fw.taken + 1 } }
      if r.command ∈ cellCommands then admitWaiting s else s
/-- PAIL_EVENT_TAKE (R86). Firmware takes no event while a reset it has to perform is due. -/
def execPailEventTake (p : Pail) (s : State) : Host.Outcome State Fault Refusal :=
  if s.evc.pails.getLsbD p.val ∧ mode s ≠ mBOOT ∧ hasMain s = true ∧ supHalted s = false ∧ s.fw.resetDue = none then .next (takePail s p.val)
  else .next s

/-! ### Carrying out -/

/-- Carry out the oldest taken request of a command on a pail; `f` answers the completion, or none while it goes on. -/
def serve (s : State) (p c : Nat) (f : State → Doorbell → Request → State × Option Response) : State :=
  match findTaken s p c with
  | none => s
  | some (d, r) =>
    match f s d r with
    | (s, some resp) => complete s p d.seq resp
    | (s, none) => s

/-- Whether the counter a request needs is lost with its vat (R123, R219). -/
def counterLost (s : State) (st : Option Stream) : Bool :=
  match st with
  | some (.counter c) => decide (vatStateOf s (c / 64) = 3) || decide (2048 ≤ c)
  | _ => false
/-- The statuses beside the common ones that a command of the cells returns (R102, R106). -/
def furtherStatus (c : Nat) : List Nat :=
  match c with
  | 0x0102 => [sRNG_STOPPED, sFAULT_DETECTED]
  | 0x0401 => [sPENDING, sRNG_STOPPED, sFAULT_DETECTED, sEXISTS, sNOT_FOUND, sQUOTA]
  | 0x0402 => [sINTEGRITY, sEXISTS, sNOT_FOUND, sQUOTA]
  | 0x0412 => [sCOUNTER_EXHAUSTED, sNOT_FOUND]
  | 0x0413 => [sCOUNTER_EXHAUSTED, sNOT_FOUND]
  | 0x0501 => [sFAULT_DETECTED, sCOUNTER_EXHAUSTED, sRNG_STOPPED, sNOT_FOUND]
  | 0x0503 => [sFAULT_DETECTED, sCOUNTER_EXHAUSTED, sRNG_STOPPED, sEXISTS, sNOT_FOUND, sQUOTA]
  | 0x0601 => [sCOUNTER_EXHAUSTED, sINTEGRITY, sNOT_FOUND]
  | 0x0602 => [sCOUNTER_EXHAUSTED, sINTEGRITY, sNOT_FOUND]
  | 0x0701 => [sCOUNTER_EXHAUSTED, sRNG_STOPPED, sNOT_FOUND]
  | 0x0702 => [sINTEGRITY, sNOT_FOUND]
  | 0x0903 => [sCARD_ERROR, sCARD_REMOVED_UNKNOWN, sEXISTS, sNOT_FOUND, sINTEGRITY]
  | _ => [sNOT_FOUND]
/-- Whether a command of the cells may complete with a status (R102). -/
def statusListed (c st : Nat) : Bool :=
  decide (st ∈ [sOK, sBAD_COMMAND, sBAD_LENGTH, sBAD_PARAMETER, sNO_AUTHORITY, sTAMPER_HOLD, sWRONG_MODE, sINTERNAL] ++ furtherStatus c)
/-- A status that is not listed for its command is returned as INTERNAL (R277); the response then has no body. -/
def mapStatus (c : Nat) (r : Response) : Response := if statusListed c r.status.toNat then r else respond sINTERNAL c []
/-- The cell that ran a doorbell's ticket writes the completion area and STATUS, and issues DONE (R194, R195, R206). -/
def finishCell (s : State) (p v k t : Nat) (d : Doorbell) (r : Request) (resp : Response) : State :=
  let resp := mapStatus r.command resp
  let s := writeMems s (bufBase (d.buf.getD 0) + 0x1000) ((packWords resp.body).map dataWord)
  let s := writeMem s (ticketBase v t + 28) (dataWord resp.status)
  let s := modPail s p (fun u => { u with queue := changeFirst (fun x => decide (x.seq = d.seq)) (fun x => { x with phase := .done r resp }) u.queue })
  admitWaiting (modCell (cqAppend s v t) (v * 16 + k) (fun c => { c with ticket := none }))
/-- The oldest taken request of a command on a pail for which a test gives an answer. -/
def findOf {α : Type} (s : State) (p c : Nat) (f : Doorbell → Request → Option α) : Option (Doorbell × Request × α) :=
  (getPail s p).queue.findSome? (fun d => match d.phase with
    | .taken r => if r.command = c then (f d r).map (fun x => (d, r, x)) else none
    | _ => none)
/-- The same for a command the cells carry out: the cell program's work on the oldest such request whose ticket a running cell has
taken; its physical vat and the cell are given to `f`. With an answer the cell writes it and issues DONE, which waits while the
completion queue is full (R195). A request whose counter is lost completes without a ticket (R219); one that waits is admitted if it
can be. What the cell programs do, instruction by instruction, the spec does not give: log entry 22. -/
def serveCell (s : State) (p c : Nat) (f : State → Nat → Nat → Doorbell → Request → State × Option Response) : State :=
  match findOf s p c (fun d r => if d.buf = none ∧ counterLost s (streamOf s d r) = true ∧ supHalted s = false then some () else none) with
  | some (d, _, _) => complete s p d.seq (mapStatus c (respond sCOUNTER_EXHAUSTED c []))
  | none =>
    match findOf s p c (fun d _ => runningCell s p d.seq) with
    | none => admitWaiting s
    | some (d, r, v, k, t) =>
      if s.tmp.stall = true ∨ 64 ≤ (getVat s v).cq.length then s
      else match f s v k d r with
      | (s, some resp) => finishCell s p v k t d r resp
      | (s, none) => s
/-- An error response. -/
def failed (s : State) (status : Nat) (r : Request) (detail : Nat := 0) : State × Option Response :=
  (s, some (respond status r.command [] detail))
/-- An OK response with a body. -/
def okWith (s : State) (r : Request) (body : Bytes) : State × Option Response := (s, some (respond sOK r.command body))

end Sys2Proof.Machine
end

