-- ==== Sys2Proof/Machine/FirmKey.lean ====
section
/-!
DEFINITION. Key slots and counters: KEY. and CTR. commands (R122 to R128), and the completion queue as firmware reads it
(R125, R206).
-/
namespace Sys2Proof.Machine

/-! ### Key slots -/

/-- Bytes padded with zeros to a multiple of 8, as key wrap needs. -/
def pad8 (b : Bytes) : Bytes := b ++ zeros ((8 - b.length % 8) % 8)
/-- The format 1 key block of KEY.IMPORT before wrapping. -/
def keyBlock (type curve : Nat) (usage : BitVec 16) (material : Bytes) : Bytes :=
  attrHeader ([BitVec.ofNat 8 type, BitVec.ofNat 8 curve] ++ wordBytes usage) material.length ++ pad8 material
/-- The KCV of a key (KEY.GENERATE): AES and TDES keys have one, others read 0. -/
def kcvOf (type : Nat) (key : Bytes) : Bytes :=
  if 1 ≤ type ∧ type ≤ 5 then (blockEnc type key (zeros (blockLen type))).take 3 else zeros 3
/-- Half the size in bytes of an RSA private type. -/
def rsaHalf (type : Nat) : Nat := if type = 0x10 then 128 else if type = 0x11 then 192 else 256
/-- Bytes of W for n bytes of material, which key wrap pads to a multiple of 8 (R261; DEDUCED, log entry 110). -/
def wrappedLength (n : Nat) : Nat := 24 + (n + 7) / 8 * 8
/-- The 32-byte clear header of a slot's key-store record (R261). -/
def recordHeader (slot : Nat) (k : KeySlot) : Bytes :=
  leBytes 2 slot ++ [BitVec.ofNat 8 k.part, BitVec.ofNat 8 k.state, BitVec.ofNat 8 k.type, BitVec.ofNat 8 k.curve] ++ wordBytes k.usage
    ++ wordBytes k.counter ++ slice k.kcv 0 3 ++ [0] ++ leBytes 2 k.record.length
    ++ zeros 16
/-- Store a key in a slot, wrapped under the owner root (R261). -/
def storeKey (s : State) (slot type curve part : Nat) (usage counter : BitVec 16) (material pub : Bytes) : State :=
  setKey s slot (some { state := 2, type := type, curve := curve, part := part, usage := usage, counter := counter,
                        kcv := kcvOf type material,
                        record := kwWrap (recordKey s slot part) (keyBlock type curve usage material),
                        pub := pub })
/-- 64-byte units a record with n bytes of material takes in bank 2 (R262). -/
def unitsFor (n : Nat) : Nat := (32 + wrappedLength n + 63) / 64
/-- Units a slot holds: a READY one those of its record, a GENERATING one those its key will need (DEDUCED, log entry 110). -/
def slotUnits (k : KeySlot) : Nat :=
  if k.state = 1 then unitsFor (5 * rsaHalf k.type)
  else if k.state = 2 then (32 + k.record.length + 63) / 64 else 0
/-- Units of bank 2 in use, those that sessions of custodian import will need among them (R262). -/
def unitsUsed (s : State) : Nat :=
  s.store.keys.foldl (fun n q => n + (q.2.map slotUnits).getD 0) 0
    + s.fw.quorums.foldl (fun n q => if q.purpose = 2 then n + unitsFor (keyBytesOf q.type) else n) 0
/-- Whether bank 2 has room for a record with n bytes of material (R262). -/
def unitsLeft (s : State) (n : Nat) : Bool := decide (unitsUsed s + unitsFor n ≤ 245760)
/-- The lowest free slot. -/
def lowestSlot (s : State) : Nat → Nat → Option Nat
  | 0, _ => none
  | fuel + 1, i => if getKey s i = none then some i else lowestSlot s fuel (i + 1)
/-- The slot a command asks for, for n bytes of material: EXISTS if it is in use, QUOTA if no slot or too few units are left (R262). -/
def pickSlot (s : State) (want n : Nat) : Except Nat Nat :=
  let slot : Except Nat Nat := if want = 0xFFFF then (match lowestSlot s 65536 0 with
      | some i => .ok i
      | none => .error sQUOTA)
    else if (getKey s want).isSome then .error sEXISTS else .ok want
  match slot with
  | .error e => .error e
  | .ok i => if unitsLeft s n then .ok i else .error sQUOTA
/-- A key as a command sees it: as it was when its ticket was built (R126), else as it is; of the command's partition and
READY, or NOT_FOUND (R105). -/
def seeKey (s : State) (d : Doorbell) (r : Request) (slot : Nat) : Option KeySlot :=
  match keySeen s d slot with
  | some k => if k.part = r.part ∧ k.state = 2 then some k else none
  | none => none
/-- A key that a use needs: found, and its USAGE permits the use (R105, R122). -/
def needKey (s : State) (d : Doorbell) (r : Request) (slot usageBit : Nat) : Except Nat KeySlot :=
  match seeKey s d r slot with
  | none => .error sNOT_FOUND
  | some k => if bit k.usage usageBit then .ok k else .error sNO_AUTHORITY

/-! ### Counters (R123, R127, R128, R274, R275) -/

/-- The reserve of a counter follows a value above it (R275). -/
def keepReserve (s : State) (c : Nat) : State :=
  let v := (counterAt s (phys s (c / 64)) (c % 64)).toNat
  if tget (fun _ => (0 : Nat)) s.store.reserves c < v then
    { s with store := { s.store with reserves := tset (fun _ => (0 : Nat)) s.store.reserves c (min ctrMax (v + 65536)) } }
  else s
/-- Add to a counter: whether it could, and the state (R128). -/
def addCounter (s : State) (c n : Nat) : Bool × State :=
  let (ok, s) := incCounter s (phys s (c / 64)) (c % 64) n
  (ok, keepReserve s c)
/-- A use of a COUNTED key increments its counter first; at its maximum, or lost with a retired vat, the use does not happen (R123). -/
def chargeUse (s : State) (k : KeySlot) : Bool × State :=
  if !bit k.usage 10 then (true, s)
  else if counterLost s (some (.counter k.counter.toNat)) then (false, s) else addCounter s k.counter.toNat 1
/-- A counter of the command's partition (R105). -/
def ownCounter (s : State) (r : Request) (c : Nat) : Bool := decide (counterOwner s c = some r.part)


/-! ### The engines' part in a command (R230 to R248, R255 to R277) -/

/-- A use of a key is charged, or the command ends with COUNTER_EXHAUSTED (R123). -/
def withCharge (s : State) (r : Request) (k : KeySlot) (f : State → State × Option Response) : State × Option Response :=
  match chargeUse s k with
  | (false, s) => failed s sCOUNTER_EXHAUSTED r
  | (true, s) => f s
/-- Random bits of the vat at `v` for a command, or it waits in `s0`, or ends with RNG_STOPPED. -/
def withDraw (s0 s : State) (v bits : Nat) (r : Request) (f : State → State × Option Response) : State × Option Response :=
  match internalDraw s v 3 bits with
  | (.waits, _) => (s0, none)
  | (.stopped, s) => failed s sRNG_STOPPED r
  | (.served, s) => f s
/-- A disagreement of two runs of MAC work: a record of class INTEGRITY against the vat's MAC source (R273). -/
def macMismatch (s : State) (v k : Nat) : State := fault s 4 (vatSource s v 7) .none (masterOfKey s (v * 16 + k)) 0
/-- A job of the MAC unit of the vat at `v` for a command: its blocks with the reseeds they call for (R271), and with `twice` a forced
reseed, the second run, and the compare (R273). -/
def withMac (s0 s : State) (v k blocks : Nat) (twice mismatch : Bool) (r : Request) (f : State → State × Option Response) :
    State × Option Response :=
  let dry := fun (s : State) => failed (macEvent s v k 0 cRNG_STOPPED) sRNG_STOPPED r
  match useBlocks s v blocks with
  | (.waits, _) => (s0, none)
  | (.stopped, s) => dry s
  | (.served, s) =>
    if !twice then f s
    else match reseed s v with
    | (.waits, _) => (s0, none)
    | (.stopped, s) => dry s
    | (.served, s) =>
      match useBlocks s v blocks with
      | (.waits, _) => (s0, none)
      | (.stopped, s) => dry s
      | (.served, s) => if mismatch then failed (macMismatch s v k) sINTERNAL r else f s
/-- A root the unit of a vat must hold: NO_ROOT is INTERNAL (R256, R277). -/
def withRoot (s : State) (v n : Nat) (r : Request) (f : State → State × Option Response) : State × Option Response :=
  if rootLoaded (getVat s v).mac n then f s else failed (macEvent s v 0 0 mNO_ROOT) sINTERNAL r
/-- The material of a stored key, unwrapped under the owner root in the vat at `v` (R261, R263): a record whose check value fails, or
whose TYPE, CURVE and USAGE are not those of its clear header, is INTEGRITY (R277). -/
def withKey (s0 s : State) (v k slot : Nat) (key : KeySlot) (r : Request) (f : State → Bytes → State × Option Response) :
    State × Option Response :=
  withRoot s v 1 r fun s => withMac s0 s v k (kdfBlocks 11 3 256 + kwBlocks key.record.length) false false r fun s =>
    match kwUnwrap (recordKey s slot key.part) key.record with
    | none => failed (macEvent s v k 0 mINTEGRITY) sINTEGRITY r
    | some b =>
      if b.take 4 = [BitVec.ofNat 8 key.type, BitVec.ofNat 8 key.curve] ++ wordBytes key.usage then f s ((b.drop 16).take (u16 b 4))
      else failed (macEvent s v k 0 mINTEGRITY) sINTEGRITY r
/-- The KCV of a key that has one is computed in two runs that are compared: a block each (R271, R273). -/
def withKcv (s0 s : State) (v k type : Nat) (mismatch : Bool) (r : Request) (f : State → State × Option Response) :
    State × Option Response :=
  if 1 ≤ type ∧ type ≤ 5 then withMac s0 s v k 1 true mismatch r f else f s
/-- A key is wrapped into its record and its KCV is computed, each in two runs that are compared (R273), and stored. -/
def withStore (s0 s : State) (v k slot type curve part : Nat) (usage counter : BitVec 16) (material pub : Bytes) (mismatch : Bool)
    (r : Request) (f : State → State × Option Response) : State × Option Response :=
  withRoot s v 1 r fun s =>
    withMac s0 s v k (kdfBlocks 11 3 256 + kwBlocks (wrappedLength material.length)) true mismatch r fun s =>
      withKcv s0 s v k type mismatch r fun s => f (storeKey s slot type curve part usage counter material pub)
/-- The multiplier is granted to a command's job: the cell is the holder, and CHN_SWITCHES counts a change (R247, R254). A command's job
is one step of the model and stands between two intervals of a job that holds the multiplier, whose grant it leaves. -/
def churnTurn (s : State) (v k : Nat) : State :=
  let u := (getVat s v).churn
  if u.busy ∨ u.holder = k then s else modChurn (countReg s (R.CHN_SWITCHES v) 0xFFFF) v (fun u => { u with holder := k })
/-- A churn job of the vat at `v` for a command, submitted by its cell: its grant, its draws, its two runs and their compare, and CHN_OPS
where it ends OK (R241, R242, R248, R254). The descriptor's waddr in the record of a mismatch is a free value. -/
def withChurn (s0 s : State) (v k op : Nat) (draws : List Nat) (mismatch good : Bool) (r : Request) (f : State → State × Option Response) :
    State × Option Response :=
  match drawAll (churnTurn s v k) v 2 draws with
  | (.waits, _, _) => (s0, none)
  | (.stopped, _, s) => failed (eventVat s (R.CHN_EVENT v) 3 v 6) sRNG_STOPPED r
  | (.served, _, s) =>
    if mismatch then
      let (x, s) := drawBits s 32
      failed (mismatchRecord s v k op (BitVec.ofNat 32 x)) sFAULT_DETECTED r
    else f (if good then countReg s (R.CHN_OPS v) 0xFFFF else s)
/-- All draws of an operation that runs on L words or a curve. -/
def allDraws (op l : Nat) (c : Curve) : List Nat := (churnDraws op l c false).1 ++ (churnDraws op l c false).2
/-- Whether a request taken before a doorbell's and not yet carried out passes a test: where the order of two requests matters, they are
carried out as they were taken (R148). -/
def earlierTaken (s : State) (d : Doorbell) (f : Request → Bool) : Bool :=
  s.parlour.pails.any (fun q => q.2.queue.any (fun x => match x.phase with
    | .taken r => decide (x.order < d.order) && f r
    | _ => false))

/-- CTR.ALLOCATE: the lowest-numbered free counter of a vat that is not retired (R127). -/
def ctrAllocate (s : State) (r : Request) : State × Option Response :=
  match (List.range 2048).find? (fun c => decide (counterOwner s c = none) && decide (vatStateOf s (c / 64) ≠ 3)) with
  | none => failed s sQUOTA r
  | some c => okWith (setCounterOwner s c (some r.part)) r (leBytes 2 c ++ leBytes 6 (counterAt s (phys s (c / 64)) (c % 64)).toNat)
/-- CTR_ALLOCATE (R127). -/
def execCtrAllocate (p : Pail) (s : State) : Host.Outcome State Fault Refusal :=
  .next (serve s p.val 0x0411 fun s _ r => ctrAllocate s r)
/-- CTR_READ (R127). -/
def execCtrRead (p : Pail) (s : State) : Host.Outcome State Fault Refusal :=
  .next (serveCell s p.val 0x0412 fun s _ _ _ r =>
    let c := u16 r.body 0
    if ownCounter s r c then okWith s r (leBytes 6 (counterAt s (phys s (c / 64)) (c % 64)).toNat) else failed s sNOT_FOUND r)
/-- CTR_INCREMENT (R127, R128); after a CTR.RELEASE of the same counter taken before it (R148). -/
def execCtrIncrement (p : Pail) (s : State) : Host.Outcome State Fault Refusal :=
  .next (serveCell s p.val 0x0413 fun s _ _ d r =>
    let c := u16 r.body 0
    if earlierTaken s d (fun q => decide (q.command = 0x0414) && decide (u16 q.body 0 = c)) then (s, none)
    else if ownCounter s r c then
      match addCounter s c (u16 r.body 2) with
      | (true, s) => okWith s r (leBytes 6 (counterAt s (phys s (c / 64)) (c % 64)).toNat)
      | (false, s) => failed s sCOUNTER_EXHAUSTED r
    else failed s sNOT_FOUND r)
/-- Whether a counter is bound to a key in some slot (R127). -/
def counterBound (s : State) (c : Nat) : Bool :=
  s.store.keys.any (fun q => match q.2 with
    | some k => bit k.usage 10 && decide (k.counter.toNat = c)
    | none => false)
/-- CTR_RELEASE (R127), after an increment of the same counter taken before it (R148). -/
def execCtrRelease (p : Pail) (s : State) : Host.Outcome State Fault Refusal :=
  .next (serve s p.val 0x0414 fun s d r =>
    let c := u16 r.body 0
    if earlierTaken s d (fun q => decide (q.command = 0x0412 ∨ q.command = 0x0413) && decide (u16 q.body 0 = c)) then (s, none)
    else if !ownCounter s r c then failed s sNOT_FOUND r
    else if counterBound s c then failed s sBAD_PARAMETER r 0x20000
    else okWith (setCounterOwner s c none) r [])

/-! ### KEY.GENERATE (R124, R125) -/

/-- Whether a ticket is the generation ticket of a slot. -/
def isGeneration (s : State) (p t slot : Nat) : Bool :=
  bit (ticketWord s p t 1) 13 && decide ((ticketWord s p t 4).toNat = slot)
/-- A slot's generation has no ticket any more. -/
def endGeneration (s : State) (slot : Nat) : State := 
  { s with fw := { s.fw with gens := s.fw.gens.filter (fun g => g.1 != slot), gensHeld := s.fw.gensHeld.filter (fun g => g.1 != slot) } }
/-- Cancel a slot's generation: its churn job through CHN_CANCEL, and its ticket (R125 step 5, R126); the DONE of a cell that holds the
ticket ends no generation then, not even a later one in the slot. -/
def cancelGeneration (s : State) (slot : Nat) : State :=
  endGeneration ((List.range 34).foldl (fun s p =>
    let s := (List.range 16).foldl (fun s k => match (getCell s (p * 16 + k)).ticket with
      | some t => if isGeneration s p t slot then setVoided (churnCancel s p k).2 p t true else s
      | none => s) s
    ((liveTickets s p).filter (fun t => isGeneration s p t slot)).foldl (fun s t => dropTicket s p t) s) s) slot
/-- The material of an RSA private key, p, q, dp, dq and qinv, and its modulus. -/
def rsaMaterial (half : Nat) (pq : Nat × Nat) : Bytes × Bytes :=
  let (p, q) := pq
  let d := invMod 65537 ((p - 1) * (q - 1))
  (beBytes half p ++ beBytes half q ++ beBytes half (d % (p - 1)) ++ beBytes half (d % (q - 1)) ++ beBytes half (invMod q p),
    beBytes (2 * half) (p * q))
/-- The bytes of a scalar of a curve. -/
def scalarBytes (c : Curve) : Nat := (bitLen c.n + 7) / 8
/-- An uncompressed point (R101). -/
def pointBytes (c : Curve) (q : Option (Nat × Nat)) : Bytes :=
  match q with
  | some (x, y) => [4] ++ beBytes c.bytes x ++ beBytes c.bytes y
  | none => [0]
/-- A point from its uncompressed form, if it is one acceptable on the curve (R130). -/
def pointOf (c : Curve) (b : Bytes) : Option (Nat × Nat) :=
  let x := beNat (slice b 1 c.bytes)
  let y := beNat (slice b (1 + c.bytes) c.bytes)
  if b.length = 1 + 2 * c.bytes ∧ byteAt b 0 = 4 ∧ goodPoint c x y = true then some (x, y) else none

/-- The public key that private material has: the modulus, or the point. -/
def publicOf (s : State) (type curve : Nat) (m : Bytes) : Bytes :=
  if 0x10 ≤ type ∧ type ≤ 0x12 then
    let h := rsaHalf type
    beBytes (2 * h) (beNat (slice m 0 h) * beNat (slice m h h))
  else if type = 0x20 then
    match storeCurve s curve with
    | some c => pointBytes c (ecMul c (beNat m) (basePoint c))
    | none => []
  else []
/-- KEY.GENERATE by cell k of the vat at `v` (R124, R125). -/
def keyGenerate (s : State) (v k : Nat) (r : Request) (compare : Compare) : State × Option Response :=
  let b := r.body
  let type := byteAt b 0
  let usage := BitVec.ofNat 16 (u16 b 2)
  let ctr := u16 b 6
  let rsa := decide (0x10 ≤ type ∧ type ≤ 0x12)
  let need := if rsa then 5 * rsaHalf type else if type = 0x20 then ((storeCurve s (byteAt b 1)).map scalarBytes).getD 0 else keyBytesOf type
  if bit usage 10 && !ownCounter s r ctr then failed s sNOT_FOUND r
  else match pickSlot s (u16 b 4) need with
  | .error e => failed s e r
  | .ok slot =>
    let head := fun (kcv : Bytes) => leBytes 2 slot ++ kcv ++ zeros 3
    let bound := BitVec.ofNat 16 ctr
    let differs := decide (compare = .mac)
    if rsa then
      (setKey s slot (some { state := 1, type := type, curve := 0, part := r.part, usage := usage, counter := bound, kcv := zeros 3,
                             record := [], pub := [] }), some (respond sPENDING r.command (head (zeros 3))))
    else if type = 0x20 then
      match storeCurve s (byteAt b 1) with
      | none => failed s sNOT_FOUND r
      | some c =>
        withChurn s s v k 0x24 (allDraws 0x24 0 c) (decide (compare = .churn)) true r fun t =>
          let (x, t) := drawBits t (bitLen c.n + 64)
          let d := x % (c.n - 1) + 1
          let q := pointBytes c (ecMul c d (basePoint c))
          withStore s t v k slot type (byteAt b 1) r.part usage bound (beBytes (scalarBytes c) d) q differs r fun t => okWith t r (head (zeros 3) ++ q)
    else
      withDraw s s v (8 * keyBytesOf type) r fun t =>
        let (key, t) := drawBytes t (keyBytesOf type)
        withStore s t v k slot type 0 r.part usage bound key [] differs r fun t => okWith t r (head (kcvOf type key))
/-- KEY_GENERATE (R124, R125). -/
def execKeyGenerate (p : Pail) (compare : Compare) (s : State) : Host.Outcome State Fault Refusal :=
  .next (serveCell s p.val 0x0401 fun s v k _ r => keyGenerate s v k r compare)
/-- KEY_GENERATION_TIMEOUT (R125 step 5). -/
def execKeyGenerationTimeout (slot : BitVec 16) (s : State) : Host.Outcome State Fault Refusal :=
  match getKey s slot.toNat with
  | some k => if k.state = 1 then .next (setKey (cancelGeneration s slot.toNat) slot.toNat (some { k with state := 3 })) else .next s
  | none => .next s
/-- The record a generation's cell wrote through RESP_CAP (R125 step 3): W and the KCV of its clear header (R261). -/
def writtenRecord (s : State) (buf : Nat) : Bytes × Bytes :=
  let h := memBytes s (bufBase buf + 0x1000) 32
  ((memBytes s (bufBase buf + 0x1000) (32 + u16 h 14)).drop 32, slice h 10 3)
/-- The DONE of a generation ticket reaches the supervisor (R125 step 4): the record the cell wrote is stored and the slot is READY, or
FAILED if the cell's STATUS is not OK. The public key is that of the material the record holds: DESIGN CHOICE, log entry 17. -/
def generationDone (s : State) (slot status : Nat) : State :=
  match getKey s slot with
  | some k =>
    if k.state ≠ 1 then s
    else if status ≠ 0 then setKey (endGeneration s slot) slot (some { k with state := 3 })
    else
      let (w, kcv) := writtenRecord s (((s.fw.gens.find? (fun g => g.1 == slot)).map (·.2)).getD 0)
      let pub := match kwUnwrap (recordKey s slot k.part) w with
        | some b => publicOf s k.type 0 ((b.drop 16).take (u16 b 4))
        | none => []
      setKey (endGeneration s slot) slot (some { k with state := 2, kcv := kcv, record := w, pub := pub })
  | none => s

/-- The DONE of a generation ticket: that of a cancelled generation is dropped (R125, R126). -/
def ticketDone (s : State) (p t status : Nat) : State :=
  if (p, t) ∈ s.fw.voided then setVoided s p t false else generationDone s (ticketWord s p t 4).toNat status

/-! ### The completion queue (R206) -/

/-- Firmware keeps the reserve of every counter of a logical vat above its value (R275). -/
def keepReserves (s : State) (n : Nat) : State :=
  s.store.counters.foldl (fun s q => if q.1 / 64 = n ∧ q.2.isSome = true then keepReserve s q.1 else s) s
/-- VAT_CQ_POP: firmware reads the oldest completion and matches it to its pail by PAIL and SEQ (R206); a generation ticket
answers no pail (R125); a halted supervisor reads none (R353). Before a completion that moved a counter past its reserve is delivered a new reserve is stored (R275). Of a
command whose work a cell's own program has done the response body is what it wrote through RESP_CAP; how long that is the spec does
not say, so its length is a free value (log entry 8); a STATUS that the command does not return is INTERNAL (R100, R102). -/
def execVatCqPop (vat : VatId) (s : State) : Host.Outcome State Fault Refusal :=
  let v := phys s vat.val
  if supHalted s then .next s
  else
  let (w, s) := cqPop s v
  let s := { s with lastRead := dataWord w }
  if !bit w 15 then .next s
  else
    let t := w.toNat % 1024
    let status := (ticketWord s v t 28).toNat
    let s := keepReserves s vat.val
    if bit (ticketWord s v t 1) 13 then .next (admitWaiting (ticketDone s v t status))
    else
      let pail := fld (ticketWord s v t 1) 5 0
      match (getPail s pail).queue.find? (fun d => decide (d.seq = ticketWord s v t 0) && d.buf.isSome) with
      | none => .next s
      | some d =>
        match d.phase with
        | .done _ resp => .next (admitWaiting (complete s pail d.seq resp))
        | .taken r =>
          let (n, s) := draw16 s
          let body := memBytes s (bufBase (d.buf.getD 0) + 0x1000) (n.toNat % 8177)
          .next (admitWaiting (complete s pail d.seq (mapStatus r.command (respond status r.command body))))
        | _ => .next s

/-! ### KEY.IMPORT, KEY.EXPORT, KEY.DELETE, KEY.INFO, KEY.PUBLIC -/

/-- The material length a type must have (KEY.IMPORT), none where the type or curve is not defined. -/
def materialLen (s : State) (type curve : Nat) : Option Nat :=
  if 1 ≤ type ∧ type ≤ 6 then some (keyBytesOf type)
  else if 0x10 ≤ type ∧ type ≤ 0x12 then some (5 * rsaHalf type)
  else if type = 0x20 then (storeCurve s curve).map scalarBytes
  else none
/-- A format 1 blob unwrapped: type, curve, usage, material (KEY.IMPORT). -/
def openBlob (s : State) (kek blob : Bytes) : Except (Nat × Nat) (Nat × Nat × BitVec 16 × Bytes) :=
  match kwUnwrap kek blob with
  | none => .error (sINTEGRITY, 0)
  | some a =>
    let type := byteAt a 0
    let curve := byteAt a 1
    let n := u16 a 4
    if type = 0x20 ∧ storeCurve s curve = none then .error (sNOT_FOUND, 0)
    else if materialLen s type curve = some n ∧ a.length = 16 + n + (8 - n % 8) % 8 ∧ zeroBytes a 6 16 = true ∧ u16 a 2 < 2048 then
      .ok (type, curve, BitVec.ofNat 16 (u16 a 2), slice a 16 n)
    else .error (sBAD_PARAMETER, 16)
/-- The fixed part of a KEY response: SLOT, KCV. -/
def slotReply (s : State) (slot : Nat) : Bytes := leBytes 2 slot ++ ((getKey s slot).map (·.kcv)).getD (zeros 3) ++ zeros 3
/-- Store an imported key, with the counter its USAGE binds. A COUNTER without COUNTED, or COUNTED without a COUNTER, is refused as
KEY.GENERATE refuses it, in the COUNTER field: DESIGN CHOICE, log entry 123. -/
def importInto (s0 s : State) (v k : Nat) (r : Request) (type curve : Nat) (usage : BitVec 16) (mat pub : Bytes) (mismatch : Bool) :
    State × Option Response :=
  let ctr := u16 r.body 8
  if bit usage 10 ≠ decide (ctr ≠ 0xFFFF) then failed s sBAD_PARAMETER r 8
  else if bit usage 10 && !ownCounter s r ctr then failed s sNOT_FOUND r
  else match pickSlot s (u16 r.body 4) mat.length with
  | .error e => failed s e r
  | .ok slot =>
    withStore s0 s v k slot type curve r.part usage (BitVec.ofNat 16 ctr) mat pub mismatch r fun s => okWith s r (slotReply s slot)
/-- KEY.IMPORT by cell k of the vat at `v`. -/
def keyImport (s : State) (v k : Nat) (d : Doorbell) (r : Request) (mismatch : Bool) : State × Option Response :=
  let b := r.body
  let blob := b.drop 16
  let mask := BitVec.ofNat 16 (u16 b 2)
  match byteAt b 0 with
  | 1 =>
    match needKey s d r (u16 b 6) 6 with
    | .error e => failed s e r
    | .ok w =>
      if 3 < w.type then failed s sBAD_PARAMETER r (0x50000 + 6)
      else withCharge s r w fun t => withKey s t v k (u16 b 6) w r fun t kek =>
        withMac s t v k (kwBlocks blob.length) false false r fun t =>
          match openBlob t kek blob with
          | .error (e, o) => failed t e r o
          | .ok (type, curve, usage, mat) => importInto s t v k r type curve (usage &&& mask) mat (publicOf t type curve mat) mismatch
  | 2 => if blob.length ∈ [256, 384, 512] then importInto s s v k r 0x30 0 (mask &&& 2) blob blob mismatch else failed s sBAD_PARAMETER r 16
  | _ =>
    match storeCurve s (byteAt b 1) with
    | none => failed s sNOT_FOUND r
    | some c =>
      match pointOf c blob with
      | none => failed s sBAD_PARAMETER r (0x30000 + 16)
      | some _ => importInto s s v k r 0x31 (byteAt b 1) (mask &&& 2) blob blob mismatch
/-- KEY_IMPORT. -/
def execKeyImport (p : CheckedPail) (s : State) : Host.Outcome State Fault Refusal :=
  .next (serveCell s p.pail.val 0x0402 fun s v k d r => keyImport s v k d r p.mismatch)
/-- KEY.EXPORT by cell k of the vat at `v`: the key holds EXPORTABLE and the wrapping key WRAP, or NO_AUTHORITY. Only the wrapping key is
charged if it is COUNTED; R123 does not say whether exporting a COUNTED key is a use of that key: DESIGN CHOICE, log entry 106. -/
def keyExport (s : State) (v k : Nat) (d : Doorbell) (r : Request) (mismatch : Bool) : State × Option Response :=
  match needKey s d r (u16 r.body 0) 9, needKey s d r (u16 r.body 2) 5 with
  | .error e, _ => failed s e r
  | _, .error e => failed s e r
  | .ok x, .ok w =>
    if 3 < w.type then failed s sBAD_PARAMETER r (0x50000 + 2)
    else withCharge s r w fun t => withKey s t v k (u16 r.body 0) x r fun t m => withKey s t v k (u16 r.body 2) w r fun t kek =>
      let blob := kwWrap kek (keyBlock x.type x.curve x.usage m)
      withMac s t v k (kwBlocks blob.length) true mismatch r fun t => okWith t r (leBytes 2 blob.length ++ zeros 6 ++ blob)
/-- KEY_EXPORT. -/
def execKeyExport (p : CheckedPail) (s : State) : Host.Outcome State Fault Refusal :=
  .next (serveCell s p.pail.val 0x0403 fun s v k d r => keyExport s v k d r p.mismatch)
/-- KEY_DELETE: the slot is emptied; a generation in it is abandoned (R126). -/
def execKeyDelete (p : Pail) (s : State) : Host.Outcome State Fault Refusal :=
  .next (serve s p.val 0x0404 fun s _ r =>
    let i := u16 r.body 0
    match getKey s i with
    | some k =>
      if k.part ≠ r.part then failed s sNOT_FOUND r
      else okWith (setKey (if k.state = 1 then cancelGeneration s i else s) i none) r []
    | none => failed s sNOT_FOUND r)
/-- KEY_INFO. -/
def execKeyInfo (p : Pail) (s : State) : Host.Outcome State Fault Refusal :=
  .next (serve s p.val 0x0405 fun s _ r =>
    let i := u16 r.body 0
    match getKey s i with
    | some k =>
      if k.part ≠ r.part then failed s sNOT_FOUND r
      else okWith s r (leBytes 2 i ++ [BitVec.ofNat 8 k.state, BitVec.ofNat 8 k.type, BitVec.ofNat 8 k.curve, BitVec.ofNat 8 k.part]
        ++ wordBytes k.usage ++ wordBytes k.counter ++ k.kcv ++ zeros 3)
    | none => failed s sNOT_FOUND r)
/-- KEY_PUBLIC: a GENERATING slot is NOT_FOUND (R124); a key with no public part is BAD_PARAMETER. -/
def execKeyPublic (p : Pail) (s : State) : Host.Outcome State Fault Refusal :=
  .next (serve s p.val 0x0406 fun s d r =>
    match seeKey s d r (u16 r.body 0) with
    | none => failed s sNOT_FOUND r
    | some k => if k.pub = [] then failed s sBAD_PARAMETER r else okWith s r k.pub)

end Sys2Proof.Machine
end

