-- ==== Sys2Proof/Machine/FirmSig.lean ====
section
/-!
DEFINITION. SIG., KA.ECDH, CURVE.LOAD (R129 to R133), MAC. (R134, R135), PIN.TRANSLATE and KEY.TRANSLATE (R136, R137),
RNG.GET (R138).
-/
namespace Sys2Proof.Machine

/-! ### Signatures -/

/-- A digest as the number ECDSA takes: its leftmost bits, as many as the order has (FIPS 186-5). -/
def ecdsaNumber (c : Curve) (digest : Bytes) : Nat :=
  let n := 8 * digest.length
  if bitLen c.n < n then beNat digest / 2 ^ (n - bitLen c.n) else beNat digest
/-- An RSA private operation with material p, q, dp, dq, qinv. -/
def rsaPrivate (mat : Bytes) (half m : Nat) : Bytes :=
  let f := fun i => beNat (slice mat (i * half) half)
  beBytes (2 * half) (rsaCrt (f 0) (f 1) (f 2) (f 3) (f 4) m)
/-- Whether the two blinded passes of an RSA private operation differ by the material itself, as where dp, dq or qinv do not belong to p
and q (R241); the bits of x blind them. -/
def rsaDiffers (mat : Bytes) (half m x : Nat) : Bool :=
  let f := fun i => beNat (slice mat (i * half) half)
  let pass := rsaPass half (f 0) (f 1) (f 2) (f 3) (f 4) m
  decide (pass x ≠ pass (x / 2 ^ (16 * half + 128)))
/-- An ECDSA signature with a nonce drawn as wide as the order and 64 bits (R232); another nonce where one gives 0. -/
def ecdsaTry (c : Curve) (d e : Nat) : Nat → State → Option (Nat × Nat) × State
  | 0, s => (none, s)
  | fuel + 1, s =>
    let (x, s) := drawBits s (bitLen c.n + 64)
    match ecdsaSign c d e (x % (c.n - 1) + 1) with
    | some q => (some q, s)
    | none => ecdsaTry c d e fuel s
/-- Whether a SCHEME matches a key type (R129). -/
def schemeFits (scheme type : Nat) : Bool :=
  if scheme = 3 then decide (type = 0x20) || decide (type = 0x31)
  else (decide (0x10 ≤ type) && decide (type ≤ 0x12)) || decide (type = 0x30)
/-- Whether a private scalar is one the churn takes (R232, R234): RANGE is BAD_PARAMETER with reason 4 (R248). -/
def scalarOk (c : Curve) (mat : Bytes) : Bool := decide (1 ≤ beNat mat) && decide (beNat mat < c.n)
/-- Whether the primes of private RSA material give a modulus of the size of its type (R229): BAD_SIZE is INTERNAL (R248). -/
def primesOk (mat : Bytes) (half : Nat) : Bool := decide (bitLen (beNat (slice mat 0 half) * beNat (slice mat half half)) = 16 * half)
/-- SIG.SIGN by cell k of the vat at `v` (R129). -/
def sigSign (s : State) (v k : Nat) (d : Doorbell) (r : Request) (mismatch : Bool) : State × Option Response :=
  let b := r.body
  let scheme := byteAt b 2
  let slot := u16 b 0
  let digest := if bit r.flags 0 then b.drop 8 else sha256 (b.drop 8)
  let reply := fun (s : State) (sig : Bytes) => okWith s r (leBytes 2 sig.length ++ zeros 6 ++ sig)
  match needKey s d r slot 0 with
  | .error e => failed s e r
  | .ok key =>
    if !schemeFits scheme key.type then failed s sBAD_PARAMETER r 2
    else withCharge s r key fun t => withKey s t v k slot key r fun t mat =>
      if scheme = 3 then
        match storeCurve t key.curve with
        | none => failed t sNOT_FOUND r
        | some c =>
          if !scalarOk c mat then failed t sBAD_PARAMETER r 0x40000
          else withChurn s t v k 0x21 (allDraws 0x21 0 c) mismatch true r fun t =>
            match ecdsaTry c (beNat mat) (ecdsaNumber c digest) 4 t with
            | (some (x, y), t) => reply t (beBytes (scalarBytes c) x ++ beBytes (scalarBytes c) y)
            | (none, t) => failed t sINTERNAL r
      else
        let h := rsaHalf key.type
        if !primesOk mat h then failed t sINTERNAL r
        else
          let (salt, t) := drawBytes t 32
          let m := beNat (if scheme = 1 then pssEncode digest salt (16 * h) else pkcs1Encode digest (2 * h))
          let (x, t) := drawBits t (2 * (16 * h + 128))
          withChurn s t v k 0x11 ((if scheme = 1 then [256] else []) ++ allDraws 0x11 h p256) (mismatch || rsaDiffers mat h m x) true r fun t =>
            reply t (rsaPrivate mat h m)
/-- SIG_SIGN (R129). -/
def execSigSign (p : Pail) (mismatch : Bool) (s : State) : Host.Outcome State Fault Refusal :=
  .next (serveCell s p.val 0x0501 fun s v k d r => sigSign s v k d r mismatch)

/-- Whether a signature verifies under a public key (R129, R130): an RSA signature must have the modulus's length. -/
def verifies1 (scheme : Nat) (curve : Option Curve) (pub digest sig : Bytes) : Bool :=
  if scheme = 3 then
    match curve with
    | none => false
    | some c =>
      let n := scalarBytes c
      decide (sig.length = 2 * n) && ecdsaVerify c (beNat (slice pub 1 c.bytes)) (beNat (slice pub (1 + c.bytes) c.bytes))
        (ecdsaNumber c digest) (beNat (sig.take n)) (beNat (sig.drop n))
  else
    let n := beNat pub
    let m := beBytes pub.length (rsaPub n (beNat sig))
    decide (sig.length = pub.length) && decide (beNat sig < n)
      && (if scheme = 1 then pssVerify m digest 32 (8 * pub.length) else decide (m = pkcs1Encode digest pub.length))
/-- The verification of a signature by cell k of the vat at `v` (R129, R130): VALID in the body, OK in either case; an RSA modulus
the churn refuses is INTERNAL, and a signature out of range ends the job with RANGE, which CHN_OPS does not count (R248, R254). -/
def sigCheck (s0 s : State) (v k : Nat) (r : Request) (scheme curve : Nat) (pub digest sig : Bytes) : State × Option Response :=
  if scheme ≠ 3 ∧ (beNat pub % 2 = 0 ∨ bitLen (beNat pub) ≠ 8 * pub.length) then failed s sINTERNAL r
  else withChurn s0 s v k (if scheme = 3 then 0x22 else 0x12) [] false (decide (scheme = 3) || decide (beNat sig < beNat pub)) r fun s =>
    okWith s r [BitVec.ofNat 8 (b2n (verifies1 scheme (storeCurve s curve) pub digest sig))]
/-- SIG.VERIFY by cell k of the vat at `v`. INPUT is a message, which is hashed: R129 gives the DIGEST flag to SIG.SIGN alone. DESIGN CHOICE,
log entry 124. -/
def sigVerify (s : State) (v k : Nat) (d : Doorbell) (r : Request) : State × Option Response :=
  let b := r.body
  let kl := u16 b 6
  let il := u16 b 8
  let sig := slice b (16 + kl + il) (u16 b 10)
  let scheme := byteAt b 1
  let digest := sha256 (slice b (16 + kl) il)
  let key := slice b 16 kl
  if byteAt b 0 = 0 then
    match needKey s d r (u16 b 4) 1 with
    | .error e => failed s e r
    | .ok x =>
      if !schemeFits scheme x.type then failed s sBAD_PARAMETER r 1
      else withCharge s r x fun t => withKey s t v k (u16 b 4) x r fun t _ => sigCheck s t v k r scheme x.curve x.pub digest sig
  else if scheme = 3 then
    match storeCurve s (byteAt b 2) with
    | none => failed s sNOT_FOUND r
    | some c =>
      if (pointOf c key).isNone then failed s sBAD_PARAMETER r (0x30000 + 16) else sigCheck s s v k r scheme (byteAt b 2) key digest sig
  else sigCheck s s v k r scheme 0 key digest sig
/-- SIG_VERIFY (R129, R130). -/
def execSigVerify (p : Pail) (s : State) : Host.Outcome State Fault Refusal :=
  .next (serveCell s p.val 0x0502 fun s v k d r => sigVerify s v k d r)

/-- KA.ECDH by cell k of the vat at `v` (R132). Its body names no counter to bind, and what COUNTED in OUT_USAGE means the spec does not
say: refused with BAD_PARAMETER at that field, offset 4. DESIGN CHOICE, log entry 99. -/
def kaEcdh (s : State) (v k : Nat) (d : Doorbell) (r : Request) (compare : Compare) : State × Option Response :=
  let b := r.body
  let usage := BitVec.ofNat 16 (u16 b 4)
  let differs := decide (compare = .mac)
  match needKey s d r (u16 b 0) 2 with
  | .error e => failed s e r
  | .ok key =>
    if key.type ≠ 0x20 then failed s sBAD_PARAMETER r 0
    else if bit usage 10 then failed s sBAD_PARAMETER r 4
    else match storeCurve s key.curve with
    | none => failed s sNOT_FOUND r
    | some c =>
      match pointOf c (b.drop 48), pickSlot s (u16 b 6) (keyBytesOf (byteAt b 2)) with
      | none, _ => failed s sBAD_PARAMETER r (0x30000 + 48)
      | _, .error e => failed s e r
      | some q, .ok out =>
        withCharge s r key fun t => withKey s t v k (u16 b 0) key r fun t mat =>
          if !scalarOk c mat then failed t sBAD_PARAMETER r 0x40000
          else withChurn s t v k 0x23 (allDraws 0x23 0 c) (decide (compare = .churn)) (ecMul c (c.h * beNat mat) (some q)).isSome r fun t =>
            match ecMul c (c.h * beNat mat) (some q) with
            | none => failed t sBAD_PARAMETER r (0x30000 + 48)
            | some (x, _) =>
              let n := keyBytesOf (byteAt b 2)
              let out' := kdf (sha256 (beBytes c.bytes x)) (slice b 16 (byteAt b 8)) [BitVec.ofNat 8 r.part] (8 * n)
              withMac s t v k (kdfBlocks (byteAt b 8) 1 (8 * n)) true differs r fun t =>
                withStore s t v k out (byteAt b 2) 0 r.part usage 0xFFFF out' [] differs r fun t => okWith t r (slotReply t out)
/-- KA_ECDH (R132). -/
def execKaEcdh (p : Pail) (compare : Compare) (s : State) : Host.Outcome State Fault Refusal :=
  .next (serveCell s p.val 0x0503 fun s v k d r => kaEcdh s v k d r compare)

/-- The curve of a CURVE.LOAD body. -/
def curveOfBody (b : Bytes) : Curve :=
  let f := byteAt b 1
  let at_ := fun i => beNat (slice b (2 + i * f) f)
  { bytes := f, p := at_ 0, a := at_ 1, b := at_ 2, gx := at_ 3, gy := at_ 4, n := at_ 5, h := byteAt b (2 + 6 * f) }
/-- What a queue of n bits has left when a draw of `need` has waited for it to hold enough, 256 bits at a time (R288). -/
def leftAfter (n need : Nat) : Nat := n + (need - n + 255) / 256 * 256 - need
/-- A draw of the churn for firmware that waits within the step for its queue to fill (R245, R289; DESIGN CHOICE, log entry 131): whether
it was met, which only RNG_STOPPED prevents. -/
def drawPatient (s : State) (p bits : Nat) : Bool × State :=
  match internalDraw s p 2 bits with
  | (.served, s) => (true, s)
  | (.stopped, s) => (false, eventVat s (R.CHN_EVENT p) 3 p 6)
  | (.waits, _) =>
    if (getVat s p).noise.state ≠ 3 then (true, modNoise s p (fun n => { n with bits := leftAfter n.bits bits }))
    else (true, { s with central := { s.central with bits := leftAfter s.central.bits bits } })
/-- Several such draws, one after the other. -/
def drawsPatient (p : Nat) : List Nat → State → Bool × State
  | [], s => (true, s)
  | b :: bs, s =>
    match drawPatient s p b with
    | (true, s) => drawsPatient p bs s
    | (false, s) => (false, s)
/-- How a CURVE_SET that firmware submits ends: the entry is loaded, CURVE_REFUSED with the number of the check, RNG_STOPPED, or
OCCUPIED. -/
inductive CurveTry where
  | loaded
  | refused (check : Nat)
  | stopped
  | occupied
  deriving DecidableEq, Repr
/-- The checks of R239 with the draws of their bases: the one that fails. -/
def curveChecks (s : State) (p : Nat) (c : Curve) : CurveTry × State :=
  let f := List.replicate 32 (16 * c.words)
  if fieldOk c = false then (.refused 1, s)
  else match drawsPatient p f s with
  | (false, s) => (.stopped, s)
  | (true, s) =>
    let (bases, s) := drawBases s c
    match curveStart c bases with
    | some n => (.refused n, s)
    | none =>
      match drawsPatient p f s with
      | (false, s) => (.stopped, s)
      | (true, s) =>
        let (bases, s) := drawBases s c
        match curveRest c bases with
        | some n => (.refused n, s)
        | none => (.loaded, s)
/-- Whether an entry of a churn is loaded or reserved (R236, R237). -/
def entryHeld (s : State) (p i : Nat) : Bool :=
  (tget (fun _ => none) (getVat s p).churn.curves i).isSome || (getVat s p).churn.reserved.getLsbD i
/-- A churn makes its own checks of a curve for firmware (R236, R239, R240): it is loaded into its entry, if that is empty. -/
def tryCurve (s : State) (p i : Nat) (c : Curve) : CurveTry × State :=
  if entryHeld s p i then (.occupied, s)
  else match curveChecks s p c with
  | (.loaded, s) =>
    (.loaded, modChurn (countReg s (R.CHN_OPS p) 0xFFFF) p (fun u => { u with curves := tset (fun _ => none) u.curves i (some c) }))
  | (.refused n, s) => (.refused n, eventVat s (R.CHN_EVENT p) 5 p 6)
  | other => other
/-- A churn that refuses a curve others have accepted is faulty: its vat is left HALTED, and that is reported (R240). -/
def curveFaulty (s : State) (n : Nat) : State :=
  let p := phys s n
  fault (setBit (setVatState s n 5) (R.VAT_CTRL p) 4 false) 3 (vatSource s p 6) .none 512 0
/-- The body field a failed check of CURVE.LOAD concerns (R103): p, G, n, the discriminant's a, or h. -/
def curveField (f check : Nat) : Nat :=
  match check with
  | 2 => 2 + 3 * f
  | 3 => 2 + 5 * f
  | 4 => 2 + f
  | 5 => 2 + 6 * f
  | _ => 2
/-- CURVE_LOAD (R133, R240): every powered vat's churn checks the curve; refused by all, the check the lowest vat names is the reason;
accepted, it goes to bank 3, and a vat whose churn refused it is left HALTED. An entry that a cell's CURVE_SET holds is OCCUPIED (R248).
Where every source has stopped the command ends with INTERNAL, since R106 lists no RNG_STOPPED for it. -/
def execCurveLoad (p : Pail) (s : State) : Host.Outcome State Fault Refusal :=
  .next (serve s p.val 0x0504 fun s _ r =>
    let i := byteAt r.body 0
    let vats := those 34 (fun n => powered s (phys s n))
    if (storeCurve s i).isSome || vats.any (fun n => entryHeld s (phys s n) i) then failed s sEXISTS r
    else
      let c := curveOfBody r.body
      let (bad, stopped, s) := vats.foldl (fun (q : List (Nat × Nat) × Bool × State) n =>
        match tryCurve q.2.2 (phys s n) i c with
        | (.refused e, t) => (q.1 ++ [(n, e)], q.2.1, t)
        | (.stopped, t) => (q.1, true, t)
        | (_, t) => (q.1, q.2.1, t)) ([], false, s)
      if stopped then failed s sINTERNAL r
      else if bad.length = vats.length then
        let e := ((bad.head?).map (·.2)).getD 1
        failed s sBAD_PARAMETER r ((0x0F + e) * 65536 + curveField c.bytes e)
      else
        let s := { s with store := { s.store with curves := tset (fun _ => none) s.store.curves i (some c) } }
        okWith (bad.foldl (fun s q => curveFaulty s q.1) s) r [])

/-! ### MAC.GENERATE, MAC.VERIFY (R134, R135) -/

/-- Whether a key type serves an ALGORITHM (R135). -/
def macKeyFits (alg type : Nat) : Bool :=
  match alg with
  | 1 => decide (1 ≤ type) && decide (type ≤ 3)
  | 2 => decide (type = 4) || decide (type = 5)
  | 3 => decide (1 ≤ type) && decide (type ≤ 5)
  | 4 => decide (type = 4)
  | _ => decide (type = 6)
/-- Why a KSPEC names no key that serves (R134, R135): the status and DETAIL. -/
def kspecRefusal (s : State) (d : Doorbell) (r : Request) (usageBit : Nat) : Option (Nat × Nat) :=
  let b := r.body
  let alg := byteAt b 0
  if byteAt b 4 = 0 then
    match needKey s d r (u16 b 8) usageBit with
    | .error e => some (e, 0)
    | .ok k =>
      if !macKeyFits alg k.type then some (sBAD_PARAMETER, 0x50000 + 8)
      else if macLenOk k.type (byteAt b 2) = false then some (sBAD_PARAMETER, 2) else none
  else if alg ≠ 1 ∧ alg ≠ 5 then some (sBAD_PARAMETER, 0x50000 + 4) else none
/-- The key of a KSPEC that serves: its type and bytes are given to `f` (R134). -/
def withKspec (s0 s : State) (v k : Nat) (d : Doorbell) (r : Request) (f : State → Nat → Bytes → State × Option Response) :
    State × Option Response :=
  let b := r.body
  if byteAt b 4 = 0 then
    match seeKey s d r (u16 b 8) with
    | none => failed s sNOT_FOUND r
    | some key => withCharge s r key fun s => withKey s0 s v k (u16 b 8) key r fun s m => f s key.type m
  else withRoot s v (byteAt b 5) r fun s => withMac s0 s v k (kdfBlocks 10 (1 + byteAt b 6) 256) false false r fun s =>
    f s (if byteAt b 0 = 5 then 6 else 3)
      (kdf (rootKey s (byteAt b 5)) (ascii "KT-DERIVED") (BitVec.ofNat 8 r.part :: slice b 12 (byteAt b 6)) 256)
/-- The check value of an algorithm (R135). -/
def macValue (alg pad type : Nat) (key data : Bytes) : Bytes :=
  match alg with
  | 1 => cmac type key data
  | 2 => cmac type key data
  | 3 => macAlg1 type key pad data
  | 4 => macAlg3 key pad data
  | _ => hmac key data
/-- Cipher or hash blocks of a check value over n bytes (R268, R271): those of the padded data, and the two of algorithm 4's output
transformation. -/
def macBlocks (alg pad type n : Nat) : Nat :=
  let bl := blockLen type
  if alg = 1 ∨ alg = 2 then cmacBlocks bl n else if alg = 5 then (n + 9 + 63) / 64 + 3
  else (if pad = 2 then n / bl + 1 else max 1 ((n + bl - 1) / bl)) + (if alg = 4 then 2 else 0)

/-! The data of a request whose FLAGS bit 1 is set comes through a DMA channel (R134, R400). One such command runs at a time, with
one command buffer in global SRAM, the lowest idle channel, or where none is idle the lowest HALTED one, and entry 1023 of the access table: DESIGN CHOICE, log entry 109; data beyond
the buffer is a free value. -/

/-- The command buffer: its first word and how many words it has. -/
def dmaBuffer : Nat := 0x10300000
def dmaBufferWords : Nat := 0x100000
/-- The access table entry of a channel over the command buffer alone (R400). -/
def bufferEntry (c : Nat) : ActEntry :=
  { zeroEntry with base := BitVec.ofNat 32 dmaBuffer, limit := BitVec.ofNat 32 (dmaBuffer + dmaBufferWords - 1), msetA := dmaMaster c,
                   msetB := dmaMaster c, enable := true, write := true, read := true }
/-- Change the doorbell with a sequence number. -/
def modDoorbell (s : State) (p : Nat) (seq : BitVec 16) (f : Doorbell → Doorbell) : State :=
  modPail s p (fun v => { v with queue := changeFirst (fun x => decide (x.seq = seq)) f v.queue })
/-- Firmware gives a channel the host descriptor of a request (R400): DESC_SPACE and HOSTn_EN of the port that rang the doorbell alone,
the entry over the buffer, and START. -/
def startMacDma (s : State) (p c : Nat) (d : Doorbell) (r : Request) : State :=
  let space := b2n d.aux
  let s := setReg s (R.DMA_CH_CFG c) (BitVec.ofNat 16 (space + 2 ^ (2 + space)))
  let s := applyTable (setShadow (scrub s dmaBuffer (dmaBuffer + dmaBufferWords)) 1023 (bufferEntry c))
  let s := setReg (setQuad s (R.DMA_CH_DESC c 0) (leAt r.body 48 8)) (R.DMA_CH_EVENT c) 0
  dmaStart (modDoorbell s p d.seq (fun x => { x with dma := some c })) c
/-- The channel has done, and is given back: its ports and its entry are withdrawn (R400). -/
def endMacDma (s : State) (p c : Nat) (d : Doorbell) : State :=
  let s := setReg s (R.DMA_CH_CFG c) 2
  modDoorbell (applyTable (setShadow s 1023 zeroEntry)) p d.seq (fun x => { x with dma := none })
/-- A command that ends before its data gives its channel back, which stops (R399, R400). -/
def dropMacDma (s : State) (p : Nat) (d : Doorbell) : State :=
  match d.dma with
  | none => s
  | some c => endMacDma (dmaAbort s c) p c d
/-- Whether some command has a channel. -/
def dmaInUse (s : State) : Bool := s.parlour.pails.any (fun q => q.2.queue.any (fun d => d.dma.isSome))
/-- The data of a MAC request, inline or through a channel, given to `f`; where the transfer failed the command ends with INTEGRITY and
DETAIL holds the channel's STATUS word (R135, R397). -/
def withMacData (s : State) (p : Nat) (d : Doorbell) (r : Request) (f : State → Bytes → State × Option Response) :
    State × Option Response :=
  let n := u32 r.body 44
  if !bit r.flags 1 then f s (slice r.body 48 n)
  else match d.dma with
  | none =>
    if dmaInUse s then (s, none)
    else match ((List.range 64).find? (fun c => decide (dmaState (getDma s c) = 0)))
        <|> ((List.range 64).find? (fun c => decide (dmaState (getDma s c) = 3))) with
      | none => (s, none)
      | some c => (startMacDma s p c d r, none)
  | some c =>
    if (getDma s c).phase ≠ .idle then (s, none)
    else if getBit s (R.DMA_CH_EVENT c) 3 then
      let (x, s) := drawBytes s (n - 2 * dmaBufferWords)
      f (endMacDma s p c d) (memBytes s dmaBuffer (min n (2 * dmaBufferWords)) ++ x)
    else failed (endMacDma s p c d) sINTEGRITY r (getDma s c).status.toNat
/-- MAC.GENERATE and MAC.VERIFY by cell k of the vat at `v` (R135); with FLAGS bit 2 in two runs that are compared (R273). -/
def macCommand (s : State) (p v k : Nat) (d : Doorbell) (r : Request) (verify mismatch : Bool) : State × Option Response :=
  let b := r.body
  let alg := byteAt b 0
  match kspecRefusal s d r (if verify then 4 else 3) with
  | some (e, o) => failed (dropMacDma s p d) e r o
  | none =>
    withMacData s p d r fun t data => withKspec s t v k d r fun t type key =>
      withMac s t v k (macBlocks alg (byteAt b 1) type data.length) (bit r.flags 2) mismatch r fun t =>
        let value := (macValue alg (byteAt b 1) type key data).take (byteAt b 2)
        if verify then okWith t r [BitVec.ofNat 8 (b2n (decide (value = b.drop (b.length - byteAt b 2))))] else okWith t r value
/-- MAC_GENERATE (R135). -/
def execMacGenerate (p : Pail) (mismatch : Bool) (s : State) : Host.Outcome State Fault Refusal :=
  .next (serveCell s p.val 0x0601 fun s v k d r => macCommand s p.val v k d r false mismatch)
/-- MAC_VERIFY (R135). -/
def execMacVerify (p : Pail) (mismatch : Bool) (s : State) : Host.Outcome State Fault Refusal :=
  .next (serveCell s p.val 0x0602 fun s v k d r => macCommand s p.val v k d r true mismatch)

/-! ### PIN.TRANSLATE (R136), blocks as ISO 9564-1 has them: PRESUMED, log entry 11 -/

/-- The nibbles of bytes, high first. -/
def nibbles (b : Bytes) : List Nat := b.flatMap (fun x => [x.toNat / 16, x.toNat % 16])
/-- Bytes from nibbles. -/
def fromNibbles : List Nat → Bytes
  | a :: b :: rest => BitVec.ofNat 8 (a * 16 + b) :: fromNibbles rest
  | _ => []
/-- The digits of a PAN field. -/
def panDigits (b : Bytes) : List Nat := (slice b 8 (byteAt b 6)).map (fun x => x.toNat - 0x30)
/-- The PAN block of formats 0 and 3: four zeros and the twelve rightmost digits but the check digit. -/
def panBlock8 (d : List Nat) : Bytes :=
  let t := d.dropLast
  fromNibbles ([0, 0, 0, 0] ++ t.drop (t.length - 12))
/-- The PAN block of format 4: the length above 12, the digits, zeros. -/
def panBlock16 (d : List Nat) : Bytes := fromNibbles (((d.length - 12) :: d) ++ List.replicate (31 - d.length) 0)
/-- The PIN of a clear PIN field, if it is a valid one of a format: control nibble, length 4-12, digits, fill. -/
def pinOfField (format : Nat) (f : Bytes) : Option (List Nat) :=
  let n := nibbles f
  let len := n.getD 1 0
  let digits := (n.drop 2).take len
  let fill := (n.drop (2 + len)).take (14 - len)
  if n.getD 0 16 = format ∧ 4 ≤ len ∧ len ≤ 12 ∧ digits.all (fun x => decide (x ≤ 9)) = true
    ∧ fill.all (fun x => if format = 0 then decide (x = 15) else if format = 3 then decide (10 ≤ x) else if format = 4 then decide (x = 10) else true) = true
  then some digits else none
/-- The clear PIN in a block (R136). -/
def openPin (format : Nat) (pan : List Nat) (type : Nat) (key block : Bytes) : Option (List Nat) :=
  if format = 4 then pinOfField 4 ((aesDec key (xorB (aesDec key block) (panBlock16 pan))).take 8)
  else
    let c := blockDec type key (block.take 8)
    pinOfField format (if format = 1 then c else xorB c (panBlock8 pan))
/-- The enciphered block of a PIN; `fill` are random nibbles. -/
def sealPin (format : Nat) (pan pin fill : List Nat) (type : Nat) (key : Bytes) : Bytes :=
  let pad := (fill.take (14 - pin.length)).map (fun x =>
    if format = 0 then 15 else if format = 3 then 10 + x % 6 else if format = 4 then 10 else x)
  let f := fromNibbles ([format, pin.length] ++ pin ++ pad)
  if format = 4 then aesEnc key (xorB (aesEnc key (f ++ fromNibbles ((fill.drop 14).take 16))) (panBlock16 pan))
  else blockEnc type key (if format = 1 then f else xorB f (panBlock8 pan)) ++ zeros 8
/-- Whether a key type serves a PIN block format (R136). -/
def pinKeyFits (format type : Nat) : Bool :=
  if format = 4 then decide (1 ≤ type) && decide (type ≤ 3) else decide (type = 4) || decide (type = 5)
/-- PIN.TRANSLATE by cell k of the vat at `v` (R136): the fill of formats 3 and 4 is drawn; the output block is enciphered in two runs
that are compared (R273). -/
def pinTranslate (s : State) (v k : Nat) (d : Doorbell) (r : Request) (mismatch : Bool) : State × Option Response :=
  let b := r.body
  let out := byteAt b 1
  match needKey s d r (u16 b 2) 7, needKey s d r (u16 b 4) 8 with
  | .error e, _ => failed s e r
  | _, .error e => failed s e r
  | .ok ki, .ok ko =>
    if !pinKeyFits (byteAt b 0) ki.type then failed s sBAD_PARAMETER r (0x200000 + 2)
    else if !pinKeyFits out ko.type then failed s sBAD_PARAMETER r (0x200000 + 4)
    else withCharge s r ki fun t => withCharge t r ko fun t =>
      withKey s t v k (u16 b 2) ki r fun t mi => withKey s t v k (u16 b 4) ko r fun t mo =>
        withMac s t v k (if byteAt b 0 = 4 then 2 else 1) false false r fun t =>
          match openPin (byteAt b 0) (panDigits b) ki.type mi (slice b 28 16) with
          | none => failed t sBAD_PARAMETER r (0x210000 + 28)
          | some pin =>
            withDraw s t v (if out = 3 ∨ out = 4 then 128 else 0) r fun t =>
              let (x, t) := drawBytes t 16
              withMac s t v k (if out = 4 then 2 else 1) true mismatch r fun t =>
                okWith t r (sealPin out (panDigits b) pin (nibbles x) ko.type mo)
/-- PIN_TRANSLATE (R136). -/
def execPinTranslate (p : CheckedPail) (s : State) : Host.Outcome State Fault Refusal :=
  .next (serveCell s p.pail.val 0x0701 fun s v k d r => pinTranslate s v k d r p.mismatch)

/-- TDES in ECB mode over the blocks of a blob. -/
def ecb (f : Bytes → Bytes) (b : Bytes) : Bytes := (cut 8 b).flatMap f
/-- The key of a KEY.TRANSLATE blob: type, curve, usage and material, or the status and DETAIL (R137). -/
def openTranslated (s : State) (b kek : Bytes) : Except (Nat × Nat) (Nat × Nat × BitVec 16 × Bytes) :=
  let blob := b.drop 16
  let mask := BitVec.ofNat 16 (u16 b 6)
  if byteAt b 0 = 1 then (openBlob s kek blob).map (fun q => (q.1, q.2.1, q.2.2.1 &&& mask, q.2.2.2))
  else if blob.length = 16 ∨ blob.length = 24 then .ok (if blob.length = 16 then 4 else 5, 0, mask &&& 0xFDFF, ecb (tdesDec kek) blob)
  else .error (sBAD_PARAMETER, 8)
/-- Cipher blocks of a blob in one of the formats of R137. -/
def blobBlocks (format n : Nat) : Nat := if format = 1 then kwBlocks n else n / 8
/-- KEY.TRANSLATE by cell k of the vat at `v` (R137): the output blocks and the KCV are computed in two runs that are compared (R273). -/
def keyTranslate (s : State) (v k : Nat) (d : Doorbell) (r : Request) (mismatch : Bool) : State × Option Response :=
  let b := r.body
  let fits := fun (format type : Nat) => if format = 1 then decide (1 ≤ type) && decide (type ≤ 3) else decide (type = 4) || decide (type = 5)
  match needKey s d r (u16 b 2) 6, needKey s d r (u16 b 4) 5 with
  | .error e, _ => failed s e r
  | _, .error e => failed s e r
  | .ok ki, .ok ko =>
    if !fits (byteAt b 0) ki.type then failed s sBAD_PARAMETER r (0x50000 + 2)
    else if !fits (byteAt b 1) ko.type then failed s sBAD_PARAMETER r (0x50000 + 4)
    else withCharge s r ki fun t => withCharge t r ko fun t =>
      withKey s t v k (u16 b 2) ki r fun t mi => withKey s t v k (u16 b 4) ko r fun t mo =>
        withMac s t v k (blobBlocks (byteAt b 0) (b.length - 16)) false false r fun t =>
          match openTranslated t b mi with
          | .error (e, o) => failed t e r o
          | .ok (type, curve, usage, mat) =>
            let out := if byteAt b 1 = 1 then kwWrap mo (keyBlock type curve usage mat) else ecb (tdesEnc mo) mat
            withMac s t v k (blobBlocks (byteAt b 1) out.length) true mismatch r fun t => withKcv s t v k type mismatch r fun t =>
              okWith t r (leBytes 2 out.length ++ zeros 6 ++ out ++ kcvOf type mat)
/-- KEY_TRANSLATE (R137). -/
def execKeyTranslate (p : CheckedPail) (s : State) : Host.Outcome State Fault Refusal :=
  .next (serveCell s p.pail.val 0x0702 fun s v k d r => keyTranslate s v k d r p.mismatch)

/-! ### Software reads of the central queue (R112, R138, R291) -/

/-- Whether n bytes lie above SOFT_FLOOR now. -/
def softEnough (s : State) (n : Nat) : Bool := decide (getFld s R.RNG_CQ_CFG 11 0 * 256 + 16 * ((n + 1) / 2) ≤ s.central.bits)
/-- Read n bytes for a command: the bytes; none where it waits; or stopped, with what had been read discarded. -/
def readRandom (s : State) (n : Nat) : DrawRes × Bytes × State :=
  if softEnough s n then
    match softBatch s n with
    | (some b, s) => (.served, b, s)
    | (none, s) => (.stopped, [], s)
  else if allStopped s then (.stopped, [], (softBatch s n).2)
  else (.waits, [], s)
/-- RNG_GET (R138). -/
def execRngGet (p : Pail) (s : State) : Host.Outcome State Fault Refusal :=
  .next (serve s p.val 0x0801 fun s _ r =>
    match readRandom s (u16 r.body 0) with
    | (.waits, _, s) => (s, none)
    | (.stopped, _, s) => failed s sRNG_STOPPED r
    | (.served, b, s) => okWith s r b)

end Sys2Proof.Machine
end

