-- ==== Sys2Proof/Machine/Tag.lean ====
section
/-!
DEFINITION. The ear tag (R475 to R497): records in two copies, supervisor writes, repair, and the air interface, whose
Gen2 state machine follows the standard R476 names (PRESUMED, log entry 23).
-/
namespace Sys2Proof.Machine

/-! ### Records (R478 to R481) -/

/-- Words of a record (R478). -/
def tagSize (i : Nat) : Nat := [8, 24, 8, 34, 8, 8, 8, 8, 2, 2, 7, 4].getD i 0
/-- The contents the factory writes for the serial number 0 of State.reset's OTP (R478, R479). -/
def factoryWords (i : Nat) : List (BitVec 16) :=
  if i = 0 then [0, 0, 0, 0, 0x6512, 0x00B0, 0, 0]
  else if i = 10 then [0x3000, 0x4B54, 0x6512, 0, 0, 0, 0]
  else List.replicate (tagSize i) 0
/-- A record as the factory writes it (R479). -/
def recordReset (i : Nat) : TagRecord := { primary := ⟨factoryWords i, some 1⟩, backup := ⟨factoryWords i, some 1⟩ }
/-- A record. -/
def getRecord (s : State) (i : Nat) : TagRecord := tget recordReset s.tag.records i
/-- Set a record. -/
def setRecord (s : State) (i : Nat) (r : TagRecord) : State :=
  { s with tag := { s.tag with records := tset recordReset s.tag.records i r } }
/-- Whether a record is damaged (R481). -/
def TagRecord.damaged (r : TagRecord) : Bool := decide (r.primary.seq = none) && decide (r.backup.seq = none)
/-- Whether the backup is the selected copy (R481). -/
def TagRecord.selBackup (r : TagRecord) : Bool :=
  match r.primary.seq, r.backup.seq with
  | _, none => false
  | none, some _ => true
  | some p, some b => decide (p < b)
/-- The selected copy. -/
def TagRecord.selected (r : TagRecord) : TagCopy := if r.selBackup then r.backup else r.primary
/-- SEQ of the selected copy: an invalid primary SEQ is one less than the backup's, an invalid backup SEQ equal to the
primary's (R481). -/
def TagRecord.seq (r : TagRecord) : BitVec 24 := (if r.selBackup then r.backup.seq else r.primary.seq).getD 0
/-- Whether the copies agree (R484). -/
def TagRecord.agrees (r : TagRecord) : Bool := decide (r.primary = r.backup) && decide (r.primary.seq ≠ none)
/-- The words a read of a record returns. -/
def tagWordsOf (s : State) (i : Nat) : List (BitVec 16) := (getRecord s i).selected.words

/-- An event of the tag: its bit and its source, while main power is present (R494). -/
def tagEvent (s : State) (i : Nat) : State := if hasMain s then eventBit s R.TAG_EVENT i (512 + i) else s
/-- A damaged record is found (R494). -/
def tagDamaged (s : State) : State := if hasMain s then fault (tagEvent s 6) 2 518 .none 581 0 else s
/-- Whether a session holds the tag (R488). -/
def tagSession (s : State) : Bool := decide (s.tag.air.state = 4) || decide (s.tag.air.state = 5)

/-! ### Writes (R482 to R485) -/

/-- The steps that write both copies of a record (R482 steps 2 to 5). -/
def writeSteps (seq : BitVec 24) (ws : List (BitVec 16)) : List TagStep :=
  [⟨true, false, seq, ws⟩, ⟨true, true, seq, []⟩, ⟨false, false, seq, ws⟩, ⟨false, true, seq, []⟩]
/-- The steps that make the copy not selected agree with the selected one (R484). -/
def repairSteps (r : TagRecord) : List TagStep :=
  [⟨!r.selBackup, false, r.seq, r.selected.words⟩, ⟨!r.selBackup, true, r.seq, []⟩]
/-- The steps of a write of new contents: a repair first where the copies disagree; a damaged record gets SEQ 1 (R482,
R484). -/
def stepsFor (r : TagRecord) (ws : List (BitVec 16)) : List TagStep :=
  if r.damaged then writeSteps 1 ws else (if r.agrees then [] else repairSteps r) ++ writeSteps (r.seq + 1) ws
/-- A finished step. -/
def applyStep (r : TagRecord) (t : TagStep) : TagRecord :=
  let c := if t.backup then r.backup else r.primary
  let c := if t.isSeq then { c with seq := some t.seq } else { c with words := t.words }
  if t.backup then { r with backup := c } else { r with primary := c }
/-- A step cut off: a SEQ half written is invalid, words half written are free values (R483). -/
def tearStep (s : State) (i : Nat) (t : TagStep) : State :=
  let r := getRecord s i
  let c := if t.backup then r.backup else r.primary
  if t.isSeq then
    let c := { c with seq := none }
    setRecord s i (if t.backup then { r with backup := c } else { r with primary := c })
  else
    let (n, s) := drawBits s (16 * tagSize i)
    let c := { c with words := (natWords .data (tagSize i) n).map (·.val) }
    setRecord s i (if t.backup then { r with backup := c } else { r with primary := c })
/-- A job cut off. -/
def tearTagJob (s : State) (j : Option TagJob) : State :=
  match j with
  | none => s
  | some j =>
    match j.steps with
    | [] => s
    | t :: _ => tearStep s j.record t
/-- Main power is lost: the supervisor's write or a repair is torn; a field write only if there is no field (R482, R496). -/
def tagMainLost (s : State) : State :=
  let s := { (tearTagJob s s.tag.job) with tag := { (tearTagJob s s.tag.job).tag with job := none, repairs := [] } }
  if s.ext.field then s
  else { (tearTagJob s s.tag.fieldJob) with tag := { (tearTagJob s s.tag.fieldJob).tag with fieldJob := none } }

/-- End a supervisor operation with a CODE: TAG_RESULT, TAG_SEQ and DONE (R494, R497). -/
def tagResult (s : State) (code : Nat) (i : Nat) (copy : Bool) : State :=
  let s := setReg s R.TAG_RESULT (BitVec.ofNat 16 (code * 4096 + b2n copy * 2048))
  let q := (getRecord s i).seq
  let s := if code = 0 then setReg (setReg s (R.TAG_SEQ 0) (q.setWidth 16)) (R.TAG_SEQ 1) ((q >>> 16).setWidth 16) else s
  tagEvent s 4
/-- The check of a supervisor WRITE (R485, R488, R497): the CODE that refuses it. -/
def tagWriteRefused (s : State) (i : Nat) : Option Nat :=
  if i = 0 ∨ 11 < i then some 3
  else if ((4 ≤ i ∧ i ≤ 7) ∨ i = 8) ∧ tagSession s = true then some 1
  else if (getRecord s i).seq = 0xFFFFFF ∧ (getRecord s i).damaged = false then some 2
  else none
/-- What a supervisor WRITE may put into a record: words 0-1 of PASSWORDS stay 0 (R478). -/
def tagContents (i : Nat) (ws : List (BitVec 16)) : List (BitVec 16) :=
  if i = 11 then [0, 0] ++ (ws.drop 2).take 2 else ws.take (tagSize i)
/-- Start a supervisor write (R482). -/
def startTagWrite (s : State) (i : Nat) (ws : List (BitVec 16)) : State :=
  { s with tag := { s.tag with job := some { kind := .supervisor, record := i, steps := stepsFor (getRecord s i) (tagContents i ws) } } }
/-- Write TAG_CMD (R497). While a repair runs the operation waits for no one: the repair's step is done with first (log entry
23). -/
def writeTagCmd (s : State) (v : BitVec 16) : State :=
  let i := fld v 4 0
  if !bit v 15 || s.tag.job.isSome then s
  else if fld v 14 13 = 1 then
    if 11 < i then tagResult s 3 0 false
    else
      let r := getRecord s i
      if r.damaged then tagResult (tagDamaged s) 4 i false
      else tagResult (setRegs s (R.TAG_BUF 0) ((r.selected.words ++ List.replicate 34 0).take 34)) 0 i r.selBackup
  else if fld v 14 13 = 2 then
    match tagWriteRefused s i with
    | some 2 => tagResult (tagEvent s 7) 2 i false
    | some c => tagResult s c i false
    | none => startTagWrite s i ((List.range (tagSize i)).map (fun j => getReg s (R.TAG_BUF j)))
  else s
/-- TAG_READ (R497). -/
def execTagRead (value : BitVec 16) (s : State) : Host.Outcome State Fault Refusal :=
  .next (if hasMain s then writeTagCmd s value else s)
/-- TAG_WRITE (R482, R497). -/
def execTagWrite (value : BitVec 16) (s : State) : Host.Outcome State Fault Refusal :=
  .next (if hasMain s then writeTagCmd s value else s)

/-! ### What a reader hears -/

/-- Bits of words, most significant first. -/
def wordsBits (ws : List (BitVec 16)) : List Bool := ws.flatMap (fun w => (List.range 16).map (fun i => w.getLsbD (15 - i)))
/-- The CRC-16 of the air interface over bits. -/
def airCrc (b : List Bool) : BitVec 16 := ~~~(b.foldl crc16Step 0xFFFF)
/-- A reply with its CRC-16. -/
def replyCrc (s : State) (b : List Bool) : State := send s (.backscatter (b ++ wordsBits [airCrc b]))
/-- A successful access reply: header 0, words, handle. -/
def replyOk (s : State) (ws : List (BitVec 16)) : State := replyCrc s (false :: wordsBits (ws ++ [s.tag.air.handle]))
/-- An error reply: header 1, the code, the handle. -/
def replyError (s : State) (code : Byte) : State :=
  replyCrc s (true :: ((List.range 8).map (fun i => code.getLsbD (7 - i)) ++ wordsBits [s.tag.air.handle]))
/-- A refused field command: counted in TAG_REFUSALS, and the error reply (log entry 114). -/
def replyCounted (s : State) (code : Byte) : State := replyError (countReg s R.TAG_REFUSALS 0xFFFF) code
/-- A field command refused for a reason that R494 names for event REFUSED. -/
def replyRefused (s : State) (code : Byte) : State := replyCounted (tagEvent s 3) code

/-! ### Steps and repair -/

/-- The end of one programming step of a job: the job that goes on, and the state with the effects of commit and end. -/
def stepJob (s : State) (j : TagJob) : Option TagJob × State :=
  match j.steps with
  | [] => (none, s)
  | t :: rest =>
    let s := setRecord s j.record (applyStep (getRecord s j.record) t)
    let s := if j.kind = .field ∧ t.backup = true ∧ t.isSeq = true ∧ rest.length = 2 then tagEvent s 2 else s
    if rest = [] then
      (none, match j.kind with
        | .supervisor => tagResult s 0 j.record (getRecord s j.record).selBackup
        | .repair => tagEvent s 5
        | .field => replyOk s [])
    else (some { j with steps := rest }, s)
/-- TAG_PROGRAM_END (R482, R495): the programming of one copy or one SEQ ends, in the field write in progress or in the supervisor's
write or repair. -/
def tagProgramEnd (s : State) (field : Bool) : State :=
  match (if field then s.tag.fieldJob else s.tag.job) with
  | none => s
  | some j =>
    let (k, s) := stepJob s j
    if field then { s with tag := { s.tag with fieldJob := k } }
    else { s with tag := { s.tag with job := k, repairs := if k = none then s.tag.repairs.erase j.record else s.tag.repairs } }

/-- IDENT as R479 lays it out from the OTP identity record. -/
def identWords (s : State) : List (BitVec 16) := (List.range 4).map (otpWord s) ++ [0x6512, 0x00B0, 0, 0]
/-- TAG_REPAIR (R484): the copies of a record are made to agree: on main power, or under field power while the energy
suffices, which is a free value. A damaged record is only found, but IDENT is rewritten at main power. -/
def tagRepair (s : State) (i : Nat) : State :=
  let r := getRecord s i
  if s.tag.job.isSome ∨ s.tag.fieldJob.isSome ∨ (hasMain s = false ∧ s.ext.field = false) ∨ r.agrees = true then s
  else if r.damaged then
    if i = 0 ∧ hasMain s = true then
      { tagDamaged s with tag := { (tagDamaged s).tag with job := some { kind := .repair, record := 0, steps := writeSteps 1 (identWords s) } } }
    else { tagDamaged s with tag := { (tagDamaged s).tag with repairs := s.tag.repairs.erase i } }
  else
    let (e, s) := if hasMain s then ((1 : BitVec 16), s) else draw16 s
    if e.getLsbD 0 then { s with tag := { s.tag with job := some { kind := .repair, record := i, steps := repairSteps r } } } else s
/-- TAG_REPAIR (R484). -/
def execTagRepair (record : Fin 12) (s : State) : Host.Outcome State Fault Refusal := .next (tagRepair s record.val)
/-- StoredCRC, computed at a power-up from words 1-7 of the EPC bank (R478). -/
def storedCrc (s : State) : BitVec 16 := airCrc (wordsBits (tagWordsOf s 10))
/-- One record made to agree at once (R484): the copy not selected takes the selected contents and SEQ; a damaged record is only
found, but IDENT is rewritten with SEQ 1. -/
def repairWhole (s : State) (i : Nat) : State :=
  let r := getRecord s i
  if r.agrees then s
  else if r.damaged then
    let t := tagDamaged s
    if i = 0 then tagEvent (setRecord t 0 { primary := ⟨identWords s, some 1⟩, backup := ⟨identWords s, some 1⟩ }) 5 else t
  else
    let c : TagCopy := ⟨r.selected.words, some r.seq⟩
    tagEvent (setRecord s i { primary := c, backup := c }) 5
/-- The repairs of a power-up that no TAG_REPAIR has made yet are made: they complete before BOOT step 2 does (R484). -/
def finishRepairs (s : State) : State :=
  let todo := s.tag.repairs
  let j := s.tag.job.filter (fun j => j.kind != .repair)
  todo.foldl repairWhole { s with tag := { s.tag with repairs := [], job := j } }
/-- The tag as main power rises: every record whose copies differ is to be repaired (R484). -/
def tagPowerUp (s : State) : State :=
  { s with tag := { s.tag with repairs := those 12 (fun i => !(getRecord s i).agrees),
                               crc := if s.ext.field then s.tag.crc else storedCrc s } }

/-! ### The field side -/

/-- FIELD_ON: the tag powers up into Ready (R476, R494). -/
def execFieldOn (s : State) : Host.Outcome State Fault Refusal :=
  if s.ext.field then .next s
  else
    let s := { s with ext := { s.ext with field := true } }
    let s := { s with tag := { s.tag with air := airReset, crc := storedCrc s } }
    .next (tagEvent (if !hasMain s ∧ mode s ≠ mVIGIL then setMode s mFIELD else s) 0)
/-- FIELD_LOSS: the session ends and S0 returns to A; a field write is torn unless main power carries it on (R483, R496). With no
supply left the device has no mode (R44). -/
def execFieldLoss (s : State) : Host.Outcome State Fault Refusal :=
  if !s.ext.field then .next s
  else
    let s := { s with ext := { s.ext with field := false } }
    let s := { s with tag := { s.tag with air := airReset, flags := s.tag.flags &&& 0x1E } }
    .next (if hasMain s then s
      else
        let s := if mode s = mFIELD then setMode s 0 else s
        { (tearTagJob s s.tag.fieldJob) with tag := { (tearTagJob s s.tag.fieldJob).tag with fieldJob := none, job := none } })
/-- FLAG_PERSISTENCE_EXPIRY: the flag returns to A or deasserted when the standard's persistence time has run: S1 at any
time, S2, S3 and SL while there is no field. -/
def execFlagPersistenceExpiry (flag : Fin 5) (s : State) : Host.Outcome State Fault Refusal :=
  if flag.val = 1 ∨ (2 ≤ flag.val ∧ s.ext.field = false) then
    .next { s with tag := { s.tag with flags := s.tag.flags &&& ~~~(1 <<< flag.val : BitVec 5) } }
  else .next s

/-- Change the air side. -/
def modAir (s : State) (f : TagAir → TagAir) : State := { s with tag := { s.tag with air := f s.tag.air } }
/-- Set an inventoried flag (true B) or SL. -/
def setFlag (s : State) (i : Nat) (v : Bool) : State :=
  { s with tag := { s.tag with flags := if v then s.tag.flags ||| (1 <<< i : BitVec 5) else s.tag.flags &&& ~~~(1 <<< i : BitVec 5) } }
/-- The TID bank: allocation class, designer, model, serial (R478). -/
def tidWords (s : State) : List (BitVec 16) :=
  [0xE200 ||| (Config.maskDesigner >>> 4).setWidth 16, (Config.maskDesigner.setWidth 16 <<< 12) ||| 0x0651] ++ (List.range 4).map (otpWord s)
/-- The record of a User word and its place in it (R478). -/
def userRecord (w : Nat) : Option (Nat × Nat) :=
  if w < 8 then some (0, w) else if w < 0x20 then some (1, w - 8) else if w < 0x28 then some (2, w - 0x20)
  else if w < 0x4A then some (3, w - 0x28) else if 0x60 ≤ w ∧ w < 0x80 then some (4 + (w - 0x60) / 8, (w - 0x60) % 8)
  else none
/-- Words of a bank: EPC 8, TID 6, User 0x80, Reserved 4 (R478). -/
def bankSize (b : Nat) : Nat := if b = 0 then 4 else if b = 1 then 8 else if b = 2 then 6 else 0x80
/-- A word of a bank as the field reads it; none where its record is damaged. -/
def airWord (s : State) (b w : Nat) : Option (BitVec 16) :=
  if b = 1 then
    if w = 0 then some s.tag.crc else if (getRecord s 10).damaged then none else some ((tagWordsOf s 10).getD (w - 1) 0)
  else if b = 2 then some ((tidWords s).getD w 0)
  else match userRecord w with
    | some (i, j) => if (getRecord s i).damaged then none else some ((tagWordsOf s i).getD j 0)
    | none => some 0

/-- Whether a Select's mask matches a bank's bits; a mask past the end of the bank does not match. -/
def maskMatches (s : State) (a : SelectArgs) : Bool :=
  let n := 16 * bankSize a.bank.val
  decide (a.bank.val ≠ 0) && decide (a.pointer + a.mask.length ≤ n) &&
  (List.range a.mask.length).all (fun i =>
    let p := a.pointer + i
    match airWord s a.bank.val (p / 16) with
    | some w => w.getLsbD (15 - p % 16) == a.mask.getD i false
    | none => false)
/-- What a Select action does to a flag: `some v` sets it to A or asserted (false for sessions) and so on; bit values are B
and asserted. -/
def selectAction (action : Nat) (hit sl old : Bool) : Bool :=
  let on := sl
  let off := !sl
  match action, hit with
  | 0, true => on
  | 0, false => off
  | 1, true => on
  | 2, false => off
  | 3, true => !old
  | 4, true => off
  | 4, false => on
  | 5, true => off
  | 6, false => on
  | 7, false => !old
  | _, _ => old
/-- SELECT: the flag named follows the action, and the tag is Ready. -/
def execSelect (sel : SelectArgs) (s : State) : Host.Outcome State Fault Refusal :=
  if !s.ext.field then .next s
  else if 4 < sel.target.val then .next s
  else
    let i := sel.target.val
    let hit := maskMatches s sel
    let s := setFlag s i (selectAction sel.action.val hit (decide (i = 4)) (s.tag.flags.getLsbD i))
    .next (modAir s (fun a => { a with state := 0, truncate := if sel.truncate && decide (i = 4) && decide (sel.bank.val = 1)
                                                              then some (sel.pointer + sel.mask.length) else none }))

/-- The tag replies with a new RN16 (state Reply) when its slot is 0, else waits in Arbitrate. -/
def enterSlot (s : State) (slot : Nat) : State :=
  if slot = 0 then
    let (rn, s) := draw16 s
    send (modAir s (fun a => { a with state := 2, slot := 0, rn := rn })) (.backscatter (wordsBits [rn]))
  else modAir s (fun a => { a with state := 1, slot := slot })
/-- The inventoried flag of the round's session changes over, as leaving Acknowledged, Open or Secured does. -/
def flipSession (s : State) : State := setFlag s s.tag.air.session (!s.tag.flags.getLsbD s.tag.air.session)
/-- QUERY: a new round (Gen2). -/
def execQuery (q : QueryArgs) (s : State) : Host.Outcome State Fault Refusal :=
  if !s.ext.field then .next s
  else
    let s := if 3 ≤ s.tag.air.state ∧ s.tag.air.session = q.session.val then flipSession s else s
    let f := s.tag.flags
    let selOk := if q.sel.val ≤ 1 then true else f.getLsbD 4 == decide (q.sel.val = 3)
    let s := modAir s (fun a => { a with session := q.session.val, q := q.q.val, half := false })
    if selOk && (f.getLsbD q.session.val == q.target) then
      let (r, s) := draw16 s
      .next (enterSlot s (r.toNat % 2 ^ q.q.val))
    else .next (modAir s (fun a => { a with state := 0 }))
/-- QUERY_ADJUST. -/
def execQueryAdjust (session : Fin 4) (upDn : BitVec 3) (s : State) : Host.Outcome State Fault Refusal :=
  let a := s.tag.air
  if !s.ext.field ∨ a.state = 0 ∨ a.session ≠ session.val ∨ upDn ∉ [(6 : BitVec 3), 0, 3] then .next s
  else if 3 ≤ a.state then .next (modAir (flipSession s) (fun a => { a with state := 0 }))
  else
    let q := if upDn = 6 then min 15 (a.q + 1) else if upDn = 3 then a.q - 1 else a.q
    let s := modAir s (fun a => { a with q := q })
    let (r, s) := draw16 s
    .next (enterSlot s (r.toNat % 2 ^ q))
/-- QUERY_REP. -/
def execQueryRep (session : Fin 4) (s : State) : Host.Outcome State Fault Refusal :=
  let a := s.tag.air
  if !s.ext.field ∨ a.state = 0 ∨ a.session ≠ session.val then .next s
  else if 3 ≤ a.state then .next (modAir (flipSession s) (fun a => { a with state := 0 }))
  else if a.state = 2 then .next (modAir s (fun a => { a with state := 1, slot := 0x7FFF }))
  else .next (enterSlot s ((a.slot + 0x7FFF) % 0x8000))
/-- The tag's answer to a valid ACK: StoredPC, EPC and a CRC-16, or what Select's truncation leaves. -/
def replyEpc (s : State) : State :=
  match s.tag.air.truncate with
  | some n => replyCrc s ((List.replicate 5 false) ++ (wordsBits (s.tag.crc :: tagWordsOf s 10)).drop n)
  | none => replyCrc s (wordsBits (tagWordsOf s 10))
/-- ACK. -/
def execAck (rn : BitVec 16) (s : State) : Host.Outcome State Fault Refusal :=
  let a := s.tag.air
  if !s.ext.field ∨ a.state < 2 then .next s
  else if a.state ≤ 3 then
    if rn = a.rn then .next (replyEpc (modAir s (fun a => { a with state := 3 }))) else .next (modAir s (fun a => { a with state := 1, slot := 0x7FFF }))
  else if rn = a.handle then .next (replyEpc s)
  else .next (modAir s (fun a => { a with state := 1, slot := 0x7FFF }))
/-- NAK: back to Arbitrate. -/
def execNak (s : State) : Host.Outcome State Fault Refusal :=
  if !s.ext.field ∨ s.tag.air.state < 2 then .next s
  else .next (modAir s (fun a => { a with state := 1, slot := 0x7FFF, half := false }))
/-- The access password, words 2-3 of PASSWORDS. -/
def accessPassword (s : State) : BitVec 16 × BitVec 16 := ((tagWordsOf s 11).getD 2 0, (tagWordsOf s 11).getD 3 0)
/-- REQ_RN: from Acknowledged a handle, and Secured where the access password is 0 (R493), else Open; in a session a new
cover word. -/
def execReqRn (rn : BitVec 16) (s : State) : Host.Outcome State Fault Refusal :=
  let a := s.tag.air
  if !s.ext.field then .next s
  else if a.state = 3 ∧ rn = a.rn then
    let (h, s) := draw16 s
    let s := modAir s (fun a => { a with state := if accessPassword s = (0, 0) then 5 else 4, handle := h, half := false })
    .next (tagEvent (replyCrc s (wordsBits [h])) 1)
  else if (a.state = 4 ∨ a.state = 5) ∧ rn = a.handle then
    let (c, s) := draw16 s
    .next (replyCrc (modAir s (fun a => { a with cover := c })) (wordsBits [c]))
  else .next s
/-- Whether a reader in a session names the handle. -/
def inSession (s : State) (rn : BitVec 16) : Bool := s.ext.field && tagSession s && decide (rn = s.tag.air.handle)
/-- ACCESS: two halves of the access password under the cover word; the right ones lead to Secured, a wrong one back to
Arbitrate. -/
def execAccess (halfXor rn : BitVec 16) (s : State) : Host.Outcome State Fault Refusal :=
  if !inSession s rn then .next s
  else
    let half := halfXor ^^^ s.tag.air.cover
    let (hi, lo) := accessPassword s
    if !s.tag.air.half then
      if half = hi then .next (replyCrc (modAir s (fun a => { a with half := true })) (wordsBits [rn]))
      else .next (modAir s (fun a => { a with state := 1, slot := 0x7FFF }))
    else if half = lo then
      .next (tagEvent (replyCrc (modAir s (fun a => { a with half := false, state := 5 })) (wordsBits [rn])) 1)
    else .next (modAir s (fun a => { a with state := 1, slot := 0x7FFF, half := false }))
/-- READ (R478, R484): Reserved is refused with Memory locked, a read past the bank's end with Memory overrun, a damaged
record with Other error. A count of 0 reads to the end of the bank. -/
def execRead (bank : Fin 4) (ptr count : Nat) (rn : BitVec 16) (s : State) : Host.Outcome State Fault Refusal :=
  if !inSession s rn then .next s
  else
    let size := bankSize bank.val
    let n := if count = 0 then size - ptr else count
    if size < ptr + n ∨ size ≤ ptr then .next (replyCounted s 0x03)
    else if bank.val = 0 then .next (replyRefused s 0x04)
    else
      let ws := (List.range n).map (fun i => airWord s bank.val (ptr + i))
      if ws.any (·.isNone) then .next (replyCounted (tagDamaged s) 0x00) else .next (replyOk s (ws.map (·.getD 0)))

/-- The lock bits of the User bank in LOCKS word 0: bit 1 locked, bit 0 permalocked (log entry 23). -/
def userLocks (s : State) : BitVec 16 := (tagWordsOf s 8).getD 0 0
/-- Whether field writes are allowed by the locks (R486). -/
def fieldUnlocked (s : State) : Bool :=
  if s.tag.air.state = 5 then !((userLocks s).getLsbD 0 && (userLocks s).getLsbD 1) else !(userLocks s).getLsbD 1
/-- Start a field write of a record (R482, R485, R488): refused while the supervisor writes it, at the last SEQ, or where the
energy does not suffice, which without main power is a free value. -/
def fieldWrite (s : State) (i : Nat) (ws : List (BitVec 16)) : State :=
  let r := getRecord s i
  if s.tag.fieldJob.isSome ∨ (s.tag.job.any (fun j => decide (j.record = i))) = true then replyRefused s 0x0F
  else if r.damaged then replyCounted (tagDamaged s) 0x00
  else if r.seq = 0xFFFFFF then replyRefused (tagEvent s 7) 0x04
  else
    let (e, s) := if hasMain s then ((1 : BitVec 16), s) else draw16 s
    if e.getLsbD 0 then { s with tag := { s.tag with fieldJob := some { kind := .field, record := i, steps := stepsFor r ws } } }
    else replyRefused s 0x0B
/-- A field write of words at a User address (R486). -/
def fieldWords (s : State) (bank ptr : Nat) (ws : List (BitVec 16)) : State :=
  if bankSize bank < ptr + ws.length then replyCounted s 0x03
  else if bank ≠ 3 then replyRefused s 0x04
  else match userRecord ptr, userRecord (ptr + ws.length - 1) with
  | some (i, j), some (k, _) =>
    if i = k ∧ 4 ≤ i ∧ fieldUnlocked s = true ∧ ws ≠ [] then
      let old := tagWordsOf s i
      fieldWrite s i (old.take j ++ ws ++ old.drop (j + ws.length))
    else replyRefused s 0x04
  | _, _ => replyRefused s 0x04
/-- WRITE: one word under the cover word (R486). -/
def execWrite (bank : Fin 4) (ptr : Nat) (dataXor rn : BitVec 16) (s : State) : Host.Outcome State Fault Refusal :=
  if !inSession s rn then .next s else .next (fieldWords s bank.val ptr [dataXor ^^^ s.tag.air.cover])
/-- BLOCK_WRITE: 1 to 8 words (R486). -/
def execBlockWrite (bank : Fin 4) (ptr : Nat) (words : List (BitVec 16)) (rn : BitVec 16) (s : State) :
    Host.Outcome State Fault Refusal :=
  if !inSession s rn ∨ words = [] ∨ 8 < words.length then .next s else .next (fieldWords s bank.val ptr words)
/-- LOCK (R487), in Secured: mask and action bits are [9:8] kill password, [7:6] access password, [5:4] EPC, [3:2] TID,
[1:0] User (bit 1 lock, bit 0 permalock). Any action on the others but the permalocked one they hold refuses it whole, and
so does one that would change a permalocked User bank. -/
def execLock (mask action : BitVec 10) (rn : BitVec 16) (s : State) : Host.Outcome State Fault Refusal :=
  if !inSession s rn ∨ s.tag.air.state ≠ 5 then .next s
  else
    let others : BitVec 10 := mask &&& 0x3FC
    let old := (userLocks s).setWidth 2
    let m : BitVec 2 := mask.setWidth 2
    let new := (old &&& ~~~m) ||| (action.setWidth 2 &&& m)
    if others &&& ~~~action ≠ 0 ∨ (old.getLsbD 0 = true ∧ new ≠ old) then .next (replyRefused s 0x04)
    else .next (fieldWrite s 8 ((tagWordsOf s 8).set 0 (new.setWidth 16)))
/-- KILL: refused with Other error (R477). -/
def execKill (_halfXor rn : BitVec 16) (s : State) : Host.Outcome State Fault Refusal :=
  if inSession s rn then .next (replyRefused s 0x00) else .next s

/-! ### HEAD, STATUS, TEMP_LOG (R489 to R491) -/

/-- The Herd Book head record: boot number and entry hash of the last entry made; none where HEAD reads invalid (R489). -/
def headRecord (s : State) : Option (Nat × Bytes) :=
  let r := getRecord s 1
  let w := r.selected.words
  let n := (w.getD 0 0).toNat + 65536 * (w.getD 1 0).toNat + 65536 ^ 2 * (w.getD 2 0).toNat
  if r.damaged ∨ n = 0 then none else some (n, ((w.drop 4).take 16).flatMap wordBytes)
/-- HEAD's words for an entry (R489). -/
def headWords (number owner mode : Nat) (hash : Bytes) : List (BitVec 16) :=
  [BitVec.ofNat 16 number, BitVec.ofNat 16 (number / 65536), BitVec.ofNat 16 (number / 65536 ^ 2), BitVec.ofNat 16 (owner * 16 + mode)]
    ++ packWords hash ++ [0, 0, 0, 0]
/-- The sum of all evidence counts. -/
def evidenceSum (s : State) : Nat := (List.range 48).foldl (fun n i => n + evidence s i) 0
/-- Evidence gained since the snapshot of the last entry made (R168). -/
def evidenceGained (s : State) : Nat :=
  (List.range 48).foldl (fun n i => n + (evidence s i - tget (fun _ => (0 : Nat)) s.store.snapshot i)) 0
/-- STATUS's words (R490). `events` is word 2 and `spent` word 0's flag. -/
def statusWords (s : State) (spent : Bool) (mode_ events : Nat) : List (BitVec 16) :=
  let old := tagWordsOf s 2
  [BitVec.ofNat 16 (b2n spent * 0x8000 + mode_), BitVec.ofNat 16 (min 0xFFFF (evidenceSum s)), BitVec.ofNat 16 (min 0xFFFF events),
   old.getD 3 0, old.getD 4 0, 0, 0, 0]
/-- Put the whole of a record at once, with the next SEQ in both copies: a supervisor write that runs through. -/
def putRecord (s : State) (i : Nat) (ws : List (BitVec 16)) : State :=
  let r := getRecord s i
  let q := if r.damaged then 1 else r.seq + 1
  if r.seq = 0xFFFFFF ∧ r.damaged = false then tagEvent s 7 else setRecord s i { primary := ⟨ws, some q⟩, backup := ⟨ws, some q⟩ }
/-- A temperature as 8 signed bits. -/
def temp8 (t : BitVec 16) : BitVec 16 := t &&& 0x00FF
/-- TEMP_LOG_ENTRY (R491): one entry of the ring, and STATUS's lowest and highest temperatures; only in SERVICE and RECOVERY,
and while no supervisor operation of the tag is in progress; a record whose SEQ is used up is not written (R482). -/
def execTempLogEntry (hottest coldest : BitVec 16) (s : State) : Host.Outcome State Fault Refusal :=
  if (mode s ≠ mSERVICE ∧ mode s ≠ mRECOVERY) ∨ s.tag.job.isSome = true then .next s
  else
    let w := tagWordsOf s 3
    let next := fld (w.getD 0 0) 3 0
    let count := min 16 (fld (w.getD 0 0) 12 8 + 1)
    let w := (w.set 0 (BitVec.ofNat 16 (count * 256 + (next + 1) % 16))).set (2 + 2 * next) ((s.bat.timeBase >>> 32).setWidth 16)
    let w := w.set (3 + 2 * next) ((temp8 hottest <<< 8) ||| temp8 coldest)
    let st := tagWordsOf s 2
    let lo := if coldest.toInt < (st.getD 3 0).toInt then coldest else st.getD 3 0
    let hi := if (st.getD 4 0).toInt < hottest.toInt then hottest else st.getD 4 0
    let s := if lo = st.getD 3 0 ∧ hi = st.getD 4 0 then s else putRecord s 2 ((st.set 3 lo).set 4 hi)
    .next (if (tagWriteRefused s 3).isSome then tagEvent s 7 else startTagWrite s 3 w)

end Sys2Proof.Machine
end

