-- ==== Sys2Proof/Machine/FirmDev.lean ====
section
/-!
DEFINITION. DEV., OWN. and PART. commands (R62 to R73, R112 to R121), OTP programming (R562), the tally of R168 and the
resets firmware performs.
-/
namespace Sys2Proof.Machine

/-! ### The tally (R168) and firmware resets -/

/-- The words of the first-error record as FLT_FIRST_0-7 read (R515). -/
def faultWords (s : State) : List (BitVec 16) :=
  match s.flt.first with
  | none => List.replicate 8 0
  | some r =>
    let acc := match r.access with
      | .read => 0
      | .write => 1
      | .fetch => 2
      | .tag => 3
      | .dma => 4
      | .posted => 5
      | .none => 6
    [BitVec.ofNat 16 (r.cls * 4096 + b2n r.posted * 2048 + r.source), BitVec.ofNat 16 (acc * 4096 + r.master.toNat),
     (r.addr >>> 16).setWidth 16, r.addr.setWidth 16, r.stamp.setWidth 16, (r.stamp >>> 16).setWidth 16,
     (r.stamp >>> 32).setWidth 16, BitVec.ofNat 16 s.flt.overflowCount]
/-- Disagreements firmware has counted of a source, those still in TMP_SRC_COUNT included. -/
def disagreesOf (s : State) (i : Nat) : Nat := tget (fun _ => (0 : Nat)) s.fw.disagree i + getFld s (R.TMP_SRC_COUNT i) 7 0
/-- Firmware reads one source's TMP_SRC_COUNT, which clears it, and adds its disagreements to the tally. -/
def tallySource (s : State) (i : Nat) : State :=
  let d := getFld s (R.TMP_SRC_COUNT i) 7 0
  let t := setReg s (R.TMP_SRC_COUNT i) 0
  if d = 0 then t
  else { t with fw := { t.fw with disagree := tset (fun _ => (0 : Nat)) t.fw.disagree i (disagreesOf s i) },
                store := { t.store with tally := { t.store.tally with disagree := t.store.tally.disagree + d } } }
/-- The class counts FLT_CLASS_COUNT holds. -/
def classSum (s : State) : Nat := (List.range 4).foldl (fun n c => n + (getReg s (R.FLT_CLASS_COUNT c)).toNat) 0
/-- Firmware's tally of faults and disagreements goes into bank 3 (R168): the counters that reads clear are read, and a first-error record
that stands latched is taken once. -/
def tallyWrite (s : State) : State :=
  let n := classSum s
  let s := (List.range 4).foldl (fun s c => setReg s (R.FLT_CLASS_COUNT c) 0) s
  let t := s.store.tally
  let first := if t.first = [] ∧ s.flt.first.isSome ∧ s.flt.first ≠ s.fw.tallied then faultWords s else t.first
  let s := { s with store := { s.store with tally := { t with faults := t.faults + n, first := first } }, fw := { s.fw with tallied := s.flt.first } }
  (List.range 48).foldl tallySource s
/-- STATUS follows the evidence counts in SERVICE and RECOVERY (R490). -/
def refreshStatus (s : State) : State :=
  let w := statusWords s false (mode s) (s.store.lastEvents + evidenceGained s)
  if (mode s = mSERVICE ∨ mode s = mRECOVERY) ∧ s.tag.job = none ∧ (w.drop 1).take 2 ≠ ((tagWordsOf s 2).drop 1).take 2
  then putRecord s 2 w else s
/-- TALLY_WRITE (R168): in SERVICE; the same periodic work keeps STATUS (R490). -/
def execTallyWrite (s : State) : Host.Outcome State Fault Refusal :=
  if mode s = mSERVICE then .next (refreshStatus (tallyWrite s)) else if mode s = mRECOVERY then .next (refreshStatus s) else .next s

/-- A firmware reset by Nelgal firmware, which writes its tally first (R53, R168): in every mode but TEST and SPENT, in which it does not
run; a write that is ignored writes none. -/
def firmReset (s : State) (recovery : Bool) : State :=
  firmwareReset (if hasMain s ∧ s.boot.step ≠ 0 ∧ mode s ≠ mTEST ∧ mode s ≠ mSPENT then tallyWrite s else s) recovery
/-- FIRMWARE_RESET (R53): a write of 0xC1A5 to PWR_RESET; the reset an OWN command ends in is this row (log entry 24). -/
def execFirmwareReset (s : State) : Host.Outcome State Fault Refusal := .next (firmReset s false)
/-- RECOVERY_REQUEST_RESET (R53): a write of 0xC1A6. -/
def execRecoveryRequestReset (s : State) : Host.Outcome State Fault Refusal := .next (firmReset s true)
/-- PIN_RESET (R50): SYS_RESET_N held low; a pulse the filter of R535 swallows does nothing. -/
def pinReset (s : State) : State := if hasMain s then resetDevice s 1 false else s

/-! ### OTP programming (R562) -/

/-- The bits of a word that are to read 1 and do not. -/
def bitsToSet (s : State) (o : Nat) (v : BitVec 16) : List (Nat × Nat) := (onesOf (v &&& ~~~(otpWord s o))).map (fun i => (o, i))
/-- Start an OTP program: its bits in order. -/
def startOtp (s : State) (bits : List (Nat × Nat)) (next : OtpThen) : State :=
  { s with fw := { s.fw with otpJob := some { bits := bits, repeated := false, next := next } } }
/-- The bits of a lifecycle fuse (R57). -/
def fuseBits (s : State) (o : Nat) : List (Nat × Nat) := bitsToSet s o 0x00FF
/-- The bits of an owner slot: the hash words, then the CRC word (R63 step 4). -/
def ownerBits (s : State) (slot : Nat) (hash : Bytes) : List (Nat × Nat) :=
  let ws := packWords hash
  let base := 0x20 + 20 * slot
  (List.range 16).flatMap (fun j => bitsToSet s (base + j) (ws.getD j 0)) ++ bitsToSet s (base + 16) (crc16Words ws)
/-- The bits of the hidden seed that a decommissioning has still to program (R73 step 3). -/
def seedBits (s : State) : List (Nat × Nat) :=
  (those 256 (fun i => !s.seedSet.getLsbD i)).map (fun i => (4096 + i / 16, i % 16))
/-- What is left of a program when a bit still reads 0 after its repeat (R562, R64; log entry 92): of an owner slot nothing, since
its CRC word is programmed only once every hash word has been verified; of a fuse or the seed the other bits. -/
def bitsAfterMiss (n : OtpThen) (rest : List (Nat × Nat)) : List (Nat × Nat) :=
  match n with
  | .owner _ _ _ => []
  | _ => rest
/-- OTP_PULSE_END (R562): a pulse ends; the bit is programmed, or has its one repeat. While a dip is in progress no pulse counts
(R530). -/
def execOtpPulseEnd (took : Bool) (s : State) : Host.Outcome State Fault Refusal :=
  match s.fw.otpJob with
  | none => .next s
  | some j =>
    match j.bits with
    | [] => .next s
    | (o, i) :: rest =>
      let next := fun (t : State) (bits : List (Nat × Nat)) (again : Bool) =>
        { t with fw := { t.fw with otpJob := some { j with bits := bits, repeated := again } } }
      if s.ext.dip ≠ none then .next s
      else if took then .next (next (otpPut s o i) rest false)
      else if j.repeated = false then .next (next s j.bits true)
      else .next (next s (bitsAfterMiss j.next rest) false)

/-- Complete the request of a command on a pail, if it has one. -/
def completeCmd (s : State) (p c : Nat) (resp : Response) : State :=
  match findTaken s p c with
  | none => s
  | some (d, _) => complete s p d.seq resp
/-! ### DEV. -/

/-- ACTIVE_VATS of DEV.INFO: logical vats 0-31 that are not retired. -/
def activeVats (s : State) : Nat := (those 32 (fun n => decide (vatStateOf s n ≠ 3))).length
/-- The body of DEV.INFO with a challenge. -/
def infoBody (s : State) (challenge : Bytes) : Bytes :=
  leBytes 2 0x6512 ++ [0xB0, BitVec.ofNat 8 (mode s), 3, BitVec.ofNat 8 (byteAt s.fw.version 1)] ++ slice s.fw.version 2 2
    ++ [BitVec.ofNat 8 (getFld s R.PWR_MODE 12 8), BitVec.ofNat 8 (protection s),
        (match ownerSlot s with
          | some i => BitVec.ofNat 8 i
          | none => 0xFF), BitVec.ofNat 8 (activeVats s)]
    ++ serialBytes s ++ leBytes 6 s.fw.bootNumber ++ zeros 6 ++ challenge ++ sha256 ((identityArea s).take 384)
/-- DEV_INFO (R109, R112). -/
def execDevInfo (p : Pail) (s : State) : Host.Outcome State Fault Refusal :=
  .next (serve s p.val 0x0101 fun s _ r =>
    if mode s = mSPENT then okWith s r (infoBody s (zeros 32))
    else match readRandom s 32 with
    | (.waits, _, s) => (s, none)
    | (.stopped, _, s) => (s, some (respond sRNG_STOPPED r.command (infoBody s (zeros 32))))
    | (.served, c, s) =>
      let old := s.fw.challenges
      let s := { s with fw := { s.fw with challenges := (if 8 ≤ old.length then old.drop 1 else old) ++ [c] } }
      okWith s r (infoBody s c))
/-- HEAD_HASH of DEV.ATTEST and HB.HEAD: of the last entry made, or 0. -/
def headHash (s : State) : Bytes := ((headRecord s).map (·.2)).getD (zeros 32)
/-- A signature by the device identity key (R112, R116), with a salt. -/
def identitySig (msg salt : Bytes) : Bytes :=
  beBytes 384 (Config.identitySign (BitVec.ofNat 256 (beNat (sha256 msg))) (BitVec.ofNat 256 (beNat salt))).toNat
/-- DEV_ATTEST (R112). -/
def execDevAttest (p : Pail) (mismatch : Bool) (s : State) : Host.Outcome State Fault Refusal :=
  .next (serveCell s p.val 0x0102 fun s v k _ r =>
    withChurn s s v k 0x11 (256 :: allDraws 0x11 192 p256) mismatch true r fun s =>
      let (salt, s) := drawBytes s 32
      let msg := serialBytes s ++ leBytes 6 s.fw.bootNumber ++ [BitVec.ofNat 8 (mode s), 0] ++ headHash s
        ++ slice s.fw.configDigest 0 32 ++ r.body
      okWith s r (msg ++ identitySig msg salt))
/-- DEV_RESET (R113). -/
def execDevReset (p : Pail) (s : State) : Host.Outcome State Fault Refusal :=
  .next (serve s p.val 0x0103 fun s _ r => (s, some (respond sOK r.command [] 0 (.devReset (decide (byteAt r.body 0 = 1))))))
/-- DEV_RESET_DELAY (R113). -/
def execDevResetDelay (s : State) : Host.Outcome State Fault Refusal :=
  match s.fw.devResetDue with
  | none => .next s
  | some r => .next (firmReset s r)

/-- Banks 0 to 7 erased, and with them everything firmware keeps in flash (R70, R73). -/
def eraseAll (s : State) : State := { (List.range 8).foldl eraseBank s with store := storeNone }
/-- Steps 2 to 5 of R70. -/
def finishLowering (s : State) : State :=
  let s := eraseAll (clearShare s)
  { s with store := { s.store with level := some 0 }, bat := { s.bat with lowerPending := false } }
/-- Whether OTP is being programmed or a decommissioning is under way: a command that would program OTP waits, and one that a SPEND
response abandons (R76) is not taken up again. -/
def otpBusy (s : State) : Bool := s.fw.otpJob.isSome || s.boot.spendPending || s.fw.spendDue
/-- DEV_SET_PROTECTION (R69, R114). -/
def setProtection (s : State) (p : Nat) (r : Request) : State × Option Response :=
  let want := byteAt r.body 0
  let now := protection s
  if otpBusy s then (s, none)
  else if want = now then okWith s r []
  else if want < now then
    if now = 2 then failed s sNO_AUTHORITY r
    else ({ s with bat := { s.bat with lowerPending := true } }, some (respond sOK r.command [] 0 .lowering))
  else
    let s := writeProt { s with store := { s.store with level := some 1 } } 1
    if want = 1 then okWith s r [] else (startOtp s (fuseBits s oSEALED) (.seal p), none)
/-- DEV_SET_PROTECTION (R69, R114). -/
def execDevSetProtection (p : Pail) (s : State) : Host.Outcome State Fault Refusal :=
  .next (serve s p.val 0x0104 fun s _ r => setProtection s p.val r)
/-- LOWERING (R70): steps 2 to 6, after the completion has been delivered. -/
def execLowering (s : State) : Host.Outcome State Fault Refusal :=
  if s.fw.lowerDue then .next (firmwareReset (finishLowering s) false) else .next s
/-- DEV_SPEND (R73 steps 1 and 2, R115). -/
def execDevSpend (p : Pail) (s : State) : Host.Outcome State Fault Refusal :=
  .next (serve s p.val 0x0105 fun s _ _ =>
    if otpBusy s then (s, none)
    else
      let s := clearShare s
      (startOtp { s with bat := { s.bat with spendLatch := true } } (fuseBits s oSPENT) (.spent p.val), none))
/-- Whether STATUS of the tag bears the SPENT marker (R490). -/
def spentMarked (s : State) : Bool := ((tagWordsOf s 2).getD 0 0).getLsbD 15
/-- Steps 4 to 6 of R73, the ear tag written only if that is still to be done (R74): flash, final head and SPENT marker, battery
domain. -/
def finishSpend (s : State) : State :=
  let s := eraseAll s
  let s := if spentMarked s then s
    else
      let s := match headRecord s with
        | none => s
        | some (n, h) => putRecord s 1 (headWords n ((ownerSlot s).getD 0) ((((tagWordsOf s 1).getD 3 0).toNat) % 16) h)
      putRecord s 2 (statusWords s true 8 ((tagWordsOf s 2).getD 2 0).toNat)
  { s with bat := { State.reset.bat with spendLatch := true, timeBase := s.bat.timeBase } }
/-- BOOT ends in a mode; HOLD and STALL carried across the reset take effect (R503). -/
def endBoot (s : State) (m reason : Nat) : State :=
  let s := resumeHoldStall s
  let s := { s with boot := { s.boot with step := 13, recoveryRequest := false, reason := BitVec.ofNat 5 reason } }
  enterMode (setFld s R.PWR_MODE 12 8 reason) m
/-- The steps of R73 that remain (R74): the SPENT fuse, the seed, then steps 4 to 6 and the firmware reset of step 7, or at BOOT
step 1 the entry into SPENT. -/
def spendOn (s : State) : State :=
  if fuseBlown s oSPENT = false then startOtp s (fuseBits s oSPENT) .decom
  else if seedBits s ≠ [] then startOtp s (seedBits s) .decom
  else if s.boot.step = 1 then endBoot (finishSpend s) mSPENT 0
  else firmwareReset (finishSpend s) false
/-- DECOMMISSIONING (R73): after the delivery of DEV.SPEND's completion, or on a SPEND response (R501). -/
def execDecommissioning (s : State) : Host.Outcome State Fault Refusal :=
  if (s.fw.spendDue ∨ s.boot.spendPending) ∧ s.boot.step ≠ 0 ∧ hasMain s = true ∧ s.ext.dip = none ∧ s.fw.otpJob = none
  then .next (spendOn s) else .next s

/-- What an OTP program ends in: the completion of the command that asked for it, or the next step of R73. A SEALED fuse that did
not take completes with INTERNAL, a SPENT fuse is programmed again (log entry 92). -/
def afterOtp (s : State) (n : OtpThen) : State :=
  match n with
  | .none => s
  | .owner p slot body =>
    let c := if (findTaken s p 0x0201).isSome then 0x0201 else 0x0202
    if slotValid s slot then completeCmd s p c (respond sOK c body 0 .reset) else completeCmd s p c (respond sINTERNAL c [])
  | .seal p =>
    if fuseBlown s oSEALED then completeCmd (writeProt s 2) p 0x0104 (respond sOK 0x0104 []) else completeCmd s p 0x0104 (respond sINTERNAL 0x0104 [])
  | .spent p =>
    if fuseBlown s oSPENT then completeCmd s p 0x0105 (respond sOK 0x0105 [] 0 .spend) else startOtp s (fuseBits s oSPENT) (.spent p)
  | .decom => spendOn s
/-- OTP_PROGRAM_END (R550): every bit is programmed; event 616. The flash erase that follows the seed begins after a dip (R422). -/
def execOtpProgramEnd (s : State) : Host.Outcome State Fault Refusal :=
  match s.fw.otpJob with
  | none => .next s
  | some j =>
    if j.bits = [] ∧ (s.ext.dip = none ∨ j.next ≠ .decom) then
      .next (afterOtp (raise { s with fw := { s.fw with otpJob := none } } 616) j.next)
    else .next s

/-! ### OWN. (R62 to R66, R116, R117) -/

/-- The key that wraps the Herd Book private key (R60): derived from an owner root. The label is a DESIGN CHOICE, log entry
25. -/
def hbWrapKey (root : Bytes) : Bytes := kdf root (ascii "KT-HERDBOOK") [] 256
/-- The vat whose churn generates a Herd Book key: the lowest-numbered powered one, as for its cell 0 (DESIGN CHOICE, log entry 132). -/
def herdVat (s : State) : Nat := phys s (((those 34 (fun n => powered s (phys s n))).head?).getD 0)
/-- One try of the search of R231 for a Herd Book key, with its draws, and where it finds a pair those of the two passes (R241): the
pair, none where it found none, or RNG_STOPPED. -/
def herdTry (s : State) : Except Nat (Option (Nat × Nat)) × State :=
  let p := herdVat s
  let draws := churnDraws 0x13 192 p256 false
  match drawsPatient p draws.1 (churnTurn s p 0) with
  | (false, s) => (.error sRNG_STOPPED, s)
  | (true, s) =>
    match rsaSearch s 192 with
    | (none, s) => (.ok none, s)
    | (some pq, s) =>
      match drawsPatient p draws.2 s with
      | (false, s) => (.error sRNG_STOPPED, s)
      | (true, s) => (.ok (some pq), countReg s (R.CHN_OPS p) 0xFFFF)
/-- The new share, drawn for the key-derivation block (R291), and the key material: the state, the key and the completion body. The
private key is wrapped under the owner root that the new share gives. -/
def herdShare (s : State) (pq : Nat × Nat) (share : Nat) (ownerHashBytes : Bytes) : Except Nat (State × HbKey × Bytes) :=
  let (mat, modulus) := rsaMaterial 192 pq
  let (salt, s) := drawBytes s 32
  let cert := identitySig (modulus ++ serialBytes s ++ ownerHashBytes) salt
  match newShare s (BitVec.ofNat 256 share) with
  | none => .error sINTERNAL
  | some s => .ok (s, { modulus := modulus, cert := cert, keyFrom := 0, wrapped := kwWrap (hbWrapKey (formRoot s 1)) mat }, modulus ++ cert)
/-- The common steps of the three commands: the key pair, by one try of the search at a time, while which goes on the command waits; its
pairwise test, whose failure is FAULT_DETECTED with the churn's record of it (R231, R242, R248); then the share, for whose bits the
command waits. -/
def newHerdBook (s : State) (genOk : Bool) (ownerHashBytes : Bytes) : Except Nat (State × HbKey × Bytes) × State :=
  if !genOk then
    let (x, s) := drawBits (churnTurn s (herdVat s) 0) 32
    (.error sFAULT_DETECTED, mismatchRecord s (herdVat s) 0 0x13 (BitVec.ofNat 32 x))
  else match herdTry s with
  | (.error e, t) => (.error e, t)
  | (.ok none, t) => (.error sPENDING, t)
  | (.ok (some pq), t) =>
    match kdfDraw t 256 with
    | none => if allStopped t then (.error sRNG_STOPPED, t) else (.error sPENDING, s)
    | some (share, t) => (herdShare t pq share ownerHashBytes, t)
/-- A generation that has not finished 10 s after its first try ends the command with INTERNAL (R117); the time base tells. -/
def herdBook (s : State) (p : Nat) (d : Doorbell) (genOk : Bool) (ownerHashBytes : Bytes) :
    Except Nat (State × HbKey × Bytes) × State :=
  let now := s.bat.timeBase.toNat
  if d.since.getD now + 10000000 < now then (.error sINTERNAL, s)
  else newHerdBook (modDoorbell s p d.seq (fun x => { x with since := some (d.since.getD now) })) genOk ownerHashBytes
/-- Partition 0 as a claim or transfer leaves it (R119). -/
def partitionZero : Partition := { key := [], gen := 0, keys := 0, counters := 0, annotations := 0, pails := 64, share := 16 }
/-- OWN.CLAIM (R63): one taken while another claims the device completes with WRONG_MODE once that one has (R76). -/
def ownClaim (s : State) (p : Nat) (d : Doorbell) (r : Request) (genOk : Bool) : State × Option Response :=
  match r.auth with
  | .owner modulus _ =>
    if otpBusy s then (s, none)
    else if (ownerSlot s).isSome then failed s sWRONG_MODE r
    else match herdBook s p d genOk (keyHash modulus), emptySlot s with
    | (.error e, s), _ => if e = sPENDING then (s, none) else failed s e r
    | (.ok _, s), none => failed s sINTERNAL r
    | (.ok (s, k, body), _), some slot =>
      let s := { s with store := { s.store with hbKey := some k, level := some 1 } }
      let s := setPart (writeProt s 1) 0 (some partitionZero)
      (startOtp s (ownerBits s slot (keyHash modulus)) (.owner p slot body), none)
  | _ => failed s sINTERNAL r
/-- OWN_CLAIM (R63). -/
def execOwnClaim (p : Pail) (genOk : Bool) (s : State) : Host.Outcome State Fault Refusal :=
  .next (serve s p.val 0x0201 fun s d r => ownClaim s p.val d r genOk)
/-- Bank 3 after a transfer: the remap record, the reserves, the snapshot and the tally are kept (R65 step 3). -/
def transferStore (s : State) (k : HbKey) : Store :=
  { storeNone with level := some (max 1 (protLevel s)), reserves := s.store.reserves, snapshot := s.store.snapshot,
                   lastEvents := s.store.lastEvents, tally := s.store.tally, staging := s.store.staging, hbKey := some k,
                   configs := s.store.configs.filter (fun q => q.1 == cfgKey 8 0),
                   parts := [(0, some partitionZero)] }
/-- The tag at a transfer (R493): F0 to F3 zero, lock bits that are not permalocked cleared. -/
def transferTag (s : State) : State :=
  let s := (List.range 4).foldl (fun s i => putRecord s (4 + i) (List.replicate (tagSize (4 + i)) 0)) s
  let w := tagWordsOf s 8
  putRecord s 8 (w.map (fun v => if bit v 0 then v else v &&& 0xFFFD))
/-- OWN.TRANSFER (R65). It waits while a program of the ring goes on in bank 7, which it erases (R185, R412). -/
def ownTransfer (s : State) (p : Nat) (d : Doorbell) (r : Request) (genOk : Bool) : State × Option Response :=
  if otpBusy s ∨ s.fw.ring.isSome = true then (s, none)
  else match herdBook s p d genOk (keyHash r.body), emptySlot s with
  | (.error e, s), _ => if e = sPENDING then (s, none) else failed s e r
  | (.ok _, s), none => failed s sINTERNAL r
  | (.ok (s, k, body), _), some slot =>
    let s := { [3, 6, 7].foldl eraseBank s with store := transferStore s k }
    let s := writeProt (transferTag s) 1
    let s := { s with fw := { s.fw with quorums := [], qtickets := [], held := none } }
    (startOtp s (ownerBits s slot (keyHash r.body)) (.owner p slot body), none)
/-- OWN_TRANSFER (R65). -/
def execOwnTransfer (p : Pail) (genOk : Bool) (s : State) : Host.Outcome State Fault Refusal :=
  .next (serve s p.val 0x0202 fun s d r => ownTransfer s p.val d r genOk)
/-- OWN_REKEY (R62). -/
def execOwnRekey (p : Pail) (genOk : Bool) (s : State) : Host.Outcome State Fault Refusal :=
  .next (serve s p.val 0x0203 fun s d r =>
    match herdBook s p.val d genOk ((ownerSlot s).elim (zeros 32) (ownerHash s)) with
    | (.error e, s) => if e = sPENDING then (s, none) else failed s e r
    | (.ok (s, k, body), _) =>
      ({ s with store := { s.store with keys := [], hbKey := some k } }, some (respond sOK r.command body 0 .reset)))

/-! ### PART. (R118 to R121) -/

/-- The modulus of the current owner: the one an owner signature carried, or for a quorum ticket the one that signed the
policy the ticket rests on (log entry 24). -/
def ownerModulus (s : State) (r : Request) : Bytes :=
  match r.auth with
  | .owner m _ => m
  | _ => (s.store.policy.map (·.modulus)).getD []
/-- RSAES-OAEP under the owner's key. -/
def oaepFor (modulus m seed : Bytes) : Bytes :=
  beBytes modulus.length (rsaPub (beNat modulus) (beNat (oaepEncode m seed modulus.length)))
/-- Whether the quotas of partitions 1-15 with new ones for partition i stay within the totals (R119). -/
def quotasFit (s : State) (i : Nat) (b : Bytes) : Bool :=
  let rest := fun (f : Partition → Nat) => quotaSum s f - ((getPart s i).map f).getD 0
  decide (i = 0) || (decide (rest (·.keys) + u32 b 2 ≤ 65536) && decide (rest (·.counters) + u16 b 6 ≤ 2048)
    && decide (rest (·.annotations) + byteAt b 8 ≤ 64))
/-- A partition with the quotas of a body. -/
def withQuotas (q : Partition) (i : Nat) (b : Bytes) : Partition :=
  if i = 0 then { q with pails := byteAt b 9, share := byteAt b 10 }
  else { q with keys := u32 b 2, counters := u16 b 6, annotations := byteAt b 8, pails := byteAt b 9, share := byteAt b 10 }
/-- A new partition key and the response that carries it. The key and the seed of its encryption are software reads (R291); where they
cannot be made, which is RNG_STOPPED, the command ends with INTERNAL, since R106 does not list RNG_STOPPED for it (R277). -/
def newPartKey (s : State) (r : Request) (i : Nat) (q : Partition) : State × Option Response :=
  match readRandom s 64 with
  | (.waits, _, s) => (s, none)
  | (.stopped, _, s) => failed s sINTERNAL r
  | (.served, x, s) => okWith (setPart s i (some { q with key := x.take 32 })) r (oaepFor (ownerModulus s r) (x.take 32) (x.drop 32))
/-- PART_CREATE (R118, R119). The body gives every quota, so the defaults at creation of R118 are used nowhere: DESIGN CHOICE, log
entry 105. -/
def execPartCreate (p : Pail) (s : State) : Host.Outcome State Fault Refusal :=
  .next (serve s p.val 0x0301 fun s _ r =>
    let i := byteAt r.body 0
    if (getPart s i).isSome then failed s sEXISTS r
    else if !quotasFit s i r.body then failed s sQUOTA r
    else newPartKey s r i (withQuotas { partitionZero with gen := 1 } i r.body))
/-- PART_NEW_CREDENTIAL (R118). -/
def execPartNewCredential (p : Pail) (s : State) : Host.Outcome State Fault Refusal :=
  .next (serve s p.val 0x0305 fun s _ r =>
    let i := byteAt r.body 0
    match getPart s i with
    | none => failed s sNOT_FOUND r
    | some q => newPartKey s r i { q with gen := (q.gen + 1) % 65536 })
/-- OVER of PART.STATUS. -/
def overBits (s : State) (i : Nat) (q : Partition) : Nat :=
  b2n (decide (keysQuota s i < keysUse s i)) + 2 * b2n (decide (countersQuota s i < countersUse s i))
    + 4 * b2n (decide (annotationsQuota s i < annotationsUse s i)) + 8 * b2n (decide (q.pails < pailsUse s i))
/-- The PART.STATUS body (R121). -/
def partBody (s : State) (i : Nat) (q : Partition) : Bytes :=
  [BitVec.ofNat 8 i, BitVec.ofNat 8 (overBits s i q)] ++ leBytes 2 q.gen ++ leBytes 4 (keysUse s i) ++ leBytes 4 (keysQuota s i)
    ++ leBytes 4 (countersUse s i) ++ leBytes 4 (countersQuota s i) ++ leBytes 4 (annotationsUse s i)
    ++ leBytes 4 (annotationsQuota s i) ++ leBytes 4 (pailsUse s i) ++ leBytes 4 q.pails ++ leBytes 4 q.share ++ zeros 4
/-- PART_STATUS (R121). -/
def execPartStatus (p : Pail) (s : State) : Host.Outcome State Fault Refusal :=
  .next (serve s p.val 0x0304 fun s _ r =>
    let i := byteAt r.body 0
    match getPart s i with
    | none => failed s sNOT_FOUND r
    | some q => okWith s r (partBody s i q))
/-- PART_SET_QUOTA (R119, R121): OVER in DETAIL as well. -/
def execPartSetQuota (p : Pail) (s : State) : Host.Outcome State Fault Refusal :=
  .next (serve s p.val 0x0303 fun s _ r =>
    let i := byteAt r.body 0
    match getPart s i with
    | none => failed s sNOT_FOUND r
    | some q =>
      if !quotasFit s i r.body then failed s sQUOTA r
      else
        let q := withQuotas q i r.body
        let s := setPart s i (some q)
        (s, some (respond sOK r.command (partBody s i q) (overBits s i q))))
/-- A partition emptied: its key slots with their generations, its counters, its annotations (R118), and its shadow entries in the access
table cleared with CLEAR_PART (R372). -/
def emptyPart (s : State) (i : Nat) : State :=
  let gen := s.store.keys.filterMap (fun q => match q.2 with
    | some k => if k.part = i ∧ k.state = 1 then some q.1 else none
    | none => none)
  let s := clearPart (gen.foldl cancelGeneration s) i
  let keep := fun (o : Option KeySlot) => match o with
    | some k => decide (k.part ≠ i)
    | none => false
  { s with store := { s.store with keys := s.store.keys.filter (fun q => keep q.2),
                                   counters := s.store.counters.filter (fun q => decide (q.2 ≠ some i)),
                                   annotations := s.store.annotations.filter (fun a => decide (a.1 ≠ i)) } }
/-- PART_DELETE (R121). -/
def execPartDelete (p : Pail) (s : State) : Host.Outcome State Fault Refusal :=
  .next (serve s p.val 0x0302 fun s _ r =>
    let i := byteAt r.body 0
    if getPart s i = none then failed s sNOT_FOUND r
    else if 0 < pailsUse s i ∨ s.fw.quorums.any (fun q => decide (q.part = i)) = true then failed s sBAD_PARAMETER r 0x10000
    else okWith (setPart (emptyPart s i) i none) r [])

end Sys2Proof.Machine
end

