-- ==== Sys2Proof/Machine/FirmVat.lean ====
section
/-!
DEFINITION. VAT. commands (R143 to R146, R212 to R218), halted cells (R211), and where firmware puts tickets that must move.
-/
namespace Sys2Proof.Machine

/-! ### Tickets that move (R205, R211, R212) -/

/-- STREAM of a ticket (R194). -/
def ticketStream (s : State) (p t : Nat) : Nat := (ticketWord s p t 4).toNat + 65536 * (ticketWord s p t 5).toNat
/-- Change the doorbell a ticket of a pail answers. -/
def modTicketDoorbell (s : State) (p t : Nat) (f : Doorbell → Doorbell) : State :=
  if bit (ticketWord s p t 1) 13 then s
  else
    let seq := ticketWord s p t 0
    modPail s (fld (ticketWord s p t 1) 5 0) (fun v => { v with queue := changeFirst (fun d => decide (d.seq = seq) && d.buf.isSome) f v.queue })
/-- The supervisor holds a ticket: it leaves the vat, and its request or generation is admitted again when a vat takes it, with the keys
it was built with (R126); a pinned one waits until the vat is ACTIVE again or retired (R211, R212). -/
def holdTicket (s : State) (p t : Nat) : State :=
  let n := logicalOf s p
  let slot := (ticketWord s p t 4).toNat
  let pin := pinned s p t
  let s := if bit (ticketWord s p t 1) 13 then
      let s := endGeneration s slot
      { s with fw := { s.fw with gensHeld := (slot, n) :: s.fw.gensHeld } }
    else s
  dropTicket (modTicketDoorbell s p t (fun d => { d with buf := none, heldFor := if pin then some n else none })) p t
/-- A ticket pushed again gets the time of that push and its new HOME, and STOLEN is clear (R194). -/
def rehome (s : State) (p t n k : Nat) : State :=
  let enq := s.bat.timeBase.toNat
  let s := writeMems s (ticketBase p t + 6) [dataNat enq, dataNat (enq / 65536), dataNat (n * 256 + k)]
  writeMem s (ticketBase p t + 1) (dataWord (putFld (ticketWord s p t 1) 14 14 0))
/-- A ticket of a vat goes onto a deque of the same vat as R205 places it; held where no deque takes it. -/
def replaceTicket (p : Nat) (s : State) (t : Nat) : State :=
  match ticketCell s p (if pinned s p t then some (ticketStream s p t) else none) with
  | some k => if (deque s p k).length < 64 ∧ admits s p = true then dqPush (rehome s p t (logicalOf s p) k) p k t else holdTicket s p t
  | none => holdTicket s p t
/-- An unpinned ticket goes to another vat, keeping its SEQ (R212); held where none takes it. -/
def moveOut (p : Nat) (s : State) (t : Nat) : State :=
  match ticketVat s none with
  | none => holdTicket s p t
  | some n =>
    let q := phys s n
    match fewest s q, freeTicket s q with
    | some k, some u =>
      if (deque s q k).length < 64 then
        let ws := readMems s (ticketBase p t) 32
        dqPush (rehome (writeMems (setVoided (dropTicket s p t) q u false) (ticketBase q u) ws) q u n k) q k u
      else holdTicket s p t
    | _, _ => holdTicket s p t
/-- The tickets of a deque, the oldest first. -/
def oldestFirst (s : State) (p k : Nat) : List Nat := (deque s p k).reverse
/-- Every unpinned ticket of a vat is drained and goes to other vats (R212 step 2); the last DRAIN finds none (R195). -/
def drainUnpinned (s : State) (p : Nat) : State :=
  setResult ((List.range 16).foldl (fun s k => ((oldestFirst s p k).filter (fun t => !pinned s p t)).foldl (moveOut p) s) s) p false false 0
/-- Every deque of a vat is drained: unpinned tickets go to other vats, pinned ones are held (R211). -/
def drainAll (s : State) (p : Nat) : State :=
  let s := drainUnpinned s p
  (List.range 16).foldl (fun s k => (oldestFirst s p k).foldl (fun s t => holdTicket s p t) s) s

/-- The ticket a cell runs ends with INTERNAL (R211 step 2); a generation ends FAILED (R125). -/
def failRunning (s : State) (p k : Nat) : State :=
  match (getCell s (p * 16 + k)).ticket with
  | none => s
  | some t =>
    let s := if bit (ticketWord s p t 1) 13 then ticketDone s p t 0xFF
      else
        let seq := ticketWord s p t 0
        let mine := fun (d : Doorbell) => decide (d.seq = seq) && d.buf.isSome
        let fail := fun (d : Doorbell) => match d.phase with
          | .taken r => { d with phase := .ready (respond sINTERNAL r.command []) }
          | _ => d
        let pail := fld (ticketWord s p t 1) 5 0
        let s := match (getPail s pail).queue.find? mine with
          | some d => dropMacDma s pail d
          | none => s
        modPail s pail (fun v => { v with queue := changeFirst mine fail v.queue })
    modCell s (p * 16 + k) (fun c => { c with ticket := none })
/-- How many cells of a vat are halted. -/
def haltedCount (s : State) (p : Nat) : Nat := (onesOf (getReg s (R.VAT_CELL_HALTED p))).length
/-- R211: a halted cell, or one that passed its ticket limit, whose bit in VAT_WDOG_CELL firmware clears as it handles the bite: DESIGN
CHOICE, log entry 130. -/
def handleHalt (s : State) (n k : Nat) : State :=
  let p := phys s n
  let s := writeCellRun s p (getReg s (R.VAT_CELL_RUN p) &&& ~~~(1 <<< k : BitVec 16))
  let s := setBit (failRunning s p k) (R.VAT_WDOG_CELL p) k false
  let ts := oldestFirst s p k
  let s := ts.foldl (replaceTicket p) (setResult (setDeque s p k []) p false false 0)
  admitWaiting <| if 4 ≤ haltedCount s p ∧ vatStateOf s n = 0 then
    drainAll (setBit (setVatState s n 5) (R.VAT_CTRL p) 4 false) p
  else s
/-- CELL_HALT_HANDLING (R211). -/
def execCellHaltHandling (vat : VatId) (cell : CellIx) (s : State) : Host.Outcome State Fault Refusal :=
  let p := phys s vat.val
  if supHalted s = false ∧ ((getBit s (R.VAT_CELL_HALTED p) cell.val && getBit s (R.VAT_CELL_RUN p) cell.val)
      || getBit s (R.VAT_WDOG_CELL p) cell.val) = true
  then .next (handleHalt s vat.val cell.val) else .next s

/-! ### VAT. commands -/

/-- A command given in a state it is not accepted in (R143). -/
def wrongState (s : State) (r : Request) : State × Option Response := failed s sBAD_PARAMETER r 0x10000
/-- The vat a command names. -/
def vatArg (r : Request) : Nat := u16 r.body 0
/-- VAT_STATUS (R143): FREQ_MHZ is the frequency measured, to the nearest MHz. -/
def execVatStatus (p : Pail) (khz : BitVec 32) (s : State) : Host.Outcome State Fault Refusal :=
  .next (serve s p.val 0x0B01 fun s _ r =>
    let n := vatArg r
    let v := phys s n
    let queued := (List.range 16).foldl (fun c k => c + (deque s v k).length) 0
    let running := (those 16 (fun k => (getCell s (v * 16 + k)).ticket.isSome)).length
    let mhz := if getBit s (R.VAT_CTRL v) 1 then (khz.toNat + 500) / 1000 else 0
    okWith s r ([BitVec.ofNat 8 (vatStateOf s n), BitVec.ofNat 8 v] ++ leBytes 2 mhz ++ leBytes 2 queued ++ leBytes 2 running
      ++ leBytes 4 (min 0xFFFFFFFF (tget (fun _ => (0 : Nat)) s.fw.vatFaults n)) ++ zeros 4))
/-- CELL_RUN is cleared and the vat is QUIESCED (R212 step 4). -/
def quiesced (s : State) (n : Nat) : State := setVatState (writeCellRun s (phys s n) 0) n 2
/-- VAT_QUIESCE (R144, R212). The command goes on until DRAINED or QUIESCE_TIMEOUT; a ticket that a skim has brought meanwhile is drained
too (R219). A HALTED vat is QUIESCED at once (R186), whatever its other cells still run: DESIGN CHOICE, log entry 127. -/
def execVatQuiesce (p : Pail) (s : State) : Host.Outcome State Fault Refusal :=
  .next (serve s p.val 0x0B02 fun s _ r =>
    let n := vatArg r
    if (p.val, n) ∈ s.fw.quiesce then (drainUnpinned s (phys s n), none)
    else if vatStateOf s n = 5 then okWith (quiesced s n) r []
    else if vatStateOf s n ≠ 0 then wrongState s r
    else
      let s := setVatState (setBit s (R.VAT_CTRL (phys s n)) 4 false) n 1
      let s := admitWaiting (drainUnpinned s (phys s n))
      ({ s with fw := { s.fw with quiesce := s.fw.quiesce ++ [(p.val, n)] } }, none))
/-- End a VAT.QUIESCE that waits, with a status. -/
def endQuiesce (s : State) (n status : Nat) : State :=
  match s.fw.quiesce.find? (fun q => q.2 == n) with
  | none => s
  | some q => completeCmd { s with fw := { s.fw with quiesce := s.fw.quiesce.erase q } } q.1 0x0B02 (respond status 0x0B02 [])
/-- DRAINED (R212, R220). -/
def execDrained (vat : VatId) (s : State) : Host.Outcome State Fault Refusal :=
  let p := phys s vat.val
  if !drained s p then .next (if vatStateOf s vat.val = 1 then drainUnpinned s p else s)
  else
    let s := if (getVat s p).drainedSeen then s else raiseVat (modVat s p (fun v => { v with drainedSeen := true })) p 3
    if vatStateOf s vat.val = 1 then .next (endQuiesce (quiesced s vat.val) vat.val sOK) else .next s
/-- QUIESCE_TIMEOUT (R144). -/
def execQuiesceTimeout (vat : VatId) (s : State) : Host.Outcome State Fault Refusal :=
  if vatStateOf s vat.val = 1 then .next (endQuiesce s vat.val sPARTIAL) else .next s

/-- The first waddr of cell image i in global SRAM (R190). -/
def imageBase (i : Nat) : Nat := 0x10080000 + i * 0x8000
/-- Start the loader for an image (R191, R192). -/
def startLoad (s : State) (p i : Nat) : State :=
  let a := imageBase i
  let s := setReg (setReg s (R.VAT_LOAD_ADDR_LO p) (BitVec.ofNat 16 a)) (R.VAT_LOAD_ADDR_HI p) (BitVec.ofNat 16 (a / 65536))
  writeLoadCtrl s p 0x6001
/-- The digest the loader presents (R191). -/
def loadDigest (s : State) (p : Nat) : Bytes := (List.range 16).flatMap (fun j => wordBytes (getReg s (R.VAT_LOAD_DIGEST p j)))
/-- The image record of this boot that a VAT.RELOAD may name (R145). -/
def imageVerified (s : State) (i : Nat) (digest : Bytes) : Bool :=
  s.fw.cells.any (fun c => decide (c.image = i) && decide (c.status = 0) && decide (c.digest = digest))
/-- Whether a RELOAD or a TRIM of a vat goes on. -/
def vatCommandRuns (s : State) (n : Nat) : Bool := s.fw.reload.any (fun q => q.2 == n) || s.fw.trims.any (fun t => t.vat == n)
/-- VAT_RELOAD (R145, R215). One given while another RELOAD or a TRIM of the vat goes on is refused as in a wrong state, and so are
VAT.TRIM, VAT.RETIRE and VAT.RESUME: R143 does not say. DESIGN CHOICE, log entry 108. -/
def execVatReload (p : Pail) (s : State) : Host.Outcome State Fault Refusal :=
  .next (serve s p.val 0x0B03 fun s _ r =>
    let n := vatArg r
    if (p.val, n) ∈ s.fw.reload then (s, none)
    else if vatStateOf s n ≠ 2 ∨ vatCommandRuns s n = true then wrongState s r
    else if !imageVerified s (u16 r.body 2) (r.body.drop 4) then failed s sINTEGRITY r
    else
      let s := startLoad s (phys s n) (u16 r.body 2)
      if (getVat s (phys s n)).loading = none then failed s sINTEGRITY r
      else ({ s with fw := { s.fw with reload := s.fw.reload ++ [(p.val, n)] } }, none))
/-- Curves 4-15 of bank 3 put into logical vat n's churn again after a load, each after the churn's own checks (R240); a churn that
refuses one leaves the vat HALTED, and that is reported. One that gets no random bits stays without the curve. -/
def restoreCurves (s : State) (n : Nat) : State :=
  s.store.curves.foldl (fun s q => match q.2 with
    | none => s
    | some c =>
      match tryCurve s (phys s n) q.1 c with
      | (.refused _, s) => curveFaulty s n
      | (_, s) => s) s
/-- A reload's load has ended (R215). -/
def reloadDone (s : State) (n : Nat) : State :=
  match s.fw.reload.find? (fun q => q.2 == n) with
  | none => s
  | some q =>
    let s := restoreCurves { s with fw := { s.fw with reload := s.fw.reload.erase q } } n
    match findTaken s q.1 0x0B03 with
    | none => s
    | some (d, r) =>
      if loadDigest s (phys s n) = r.body.drop 4 then
        complete { s with fw := { s.fw with vatBad := s.fw.vatBad.erase n,
                                            vatImage := tset (fun _ => (0 : Nat)) s.fw.vatImage n (u16 r.body 2) } }
          q.1 d.seq (respond sOK 0x0B03 [])
      else complete { s with fw := { s.fw with vatBad := n :: s.fw.vatBad.erase n } } q.1 d.seq (respond sINTEGRITY 0x0B03 [])

/-- The VAT_TRIM settings: BOUNDARY to HOLD, the clock stopped and started on a new code (R214). -/
def setTrim (s : State) (p : Nat) (code : BitVec 10) : State := modVat s p (fun v => { v with trim := code, clkStable := false })
/-- VAT_TRIM (R214). Which code gives a frequency the spec does not say: a free value, log entry 27. -/
def execVatTrim (p : Pail) (s : State) : Host.Outcome State Fault Refusal :=
  .next (serve s p.val 0x0B04 fun s _ r =>
    let n := vatArg r
    if s.fw.trims.any (fun t => decide (t.pail = p.val) && decide (t.vat = n)) then (s, none)
    else if vatStateOf s n ≠ 2 ∨ vatCommandRuns s n = true then wrongState s r
    else
      let v := phys s n
      let (x, s) := draw16 s
      let old := (getVat s v).trim
      let s := setTrim (setFld s (R.VAT_CTRL v) 3 2 1) v (x.setWidth 10)
      ({ s with fw := { s.fw with trims := s.fw.trims ++ [⟨p.val, n, u16 r.body 2, old⟩] } }, none))
/-- TRIM_MEASUREMENT_END (R214): off by more than 1 %, the old code is restored and the command ends with INTERNAL. -/
def execTrimMeasurementEnd (vat : VatId) (khz : BitVec 32) (s : State) : Host.Outcome State Fault Refusal :=
  match s.fw.trims.find? (fun t => t.vat == vat.val) with
  | none => .next s
  | some t =>
    let v := phys s vat.val
    let s := setFld { s with fw := { s.fw with trims := s.fw.trims.erase t } } (R.VAT_CTRL v) 3 2 0
    let ok := decide (t.mhz * 990 ≤ khz.toNat) && decide (khz.toNat ≤ t.mhz * 1010)
    let s := if ok then modVat s v (fun u => { u with clkStable := true }) else modVat s v (fun u => { u with trim := t.old, clkStable := true })
    .next (completeCmd s t.pail 0x0B04 (respond (if ok then sOK else sINTERNAL) 0x0B04 []))

/-- The remap record of R218 as the table and the states stand. -/
def remapRecord (s : State) : Bytes :=
  (List.range 34).flatMap (fun n => [BitVec.ofNat 8 (phys s n), BitVec.ofNat 8 (b2n (decide (vatStateOf s n = 3)))])
/-- A vat is closed and powered down (R216 step 2). -/
def powerDown (s : State) (p : Nat) : State :=
  let c := getReg s (R.VAT_CTRL p)
  let s := writeVatCtrl s p (putFld (c &&& 0x000F) 3 2 2)
  let s := writeVatCtrl s p 0x0009
  writeVatCtrl s p 0x0008
/-- The spare VAT.RETIRE takes: 32 or 33 in state SPARE, the lower number where both are; R146 does not say which. DESIGN CHOICE, log
entry 107. -/
def spareOf (s : State) : Option Nat := [32, 33].find? (fun v => decide (vatStateOf s v = 4))
/-- VAT.RETIRE with a spare V whose tests passed: steps 1 to 4 of R216. -/
def retireTo (s : State) (n v : Nat) : State :=
  let pl := phys s n
  let pv := phys s v
  let image := tget (fun _ => (0 : Nat)) s.fw.vatImage n
  let s := restoreCurves (runLoader (abandonAll s pv) pv (imageBase image)) v
  let s := modVat (loadRoots s pv) pv (fun u => { u with clkStable := true })
  let old := (getVat s pl).mac.counters
  let s := powerDown s pl
  let s := swapRemap s n v
  let raiseTo := fun (m : MacUnit) (i : Nat) (x : BitVec 48) =>
    tset (fun _ => 0) m.counters i (BitVec.ofNat 48 (max (tget (fun _ => (0 : BitVec 48)) m.counters i).toNat x.toNat))
  let s := old.foldl (fun s q => modMac s pv (fun m => { m with counters := raiseTo m q.1 q.2 })) s
  let s := setFld s (R.VAT_CTRL pv) 3 2 0
  let halted := decide (vatStateOf s v = 5)
  let s := setVatState (setVatState s n (if halted then 5 else 2)) v 3
  let s := if n = 0 then setBit s (R.MAC_CFG pv) 0 true else s
  { s with fw := { s.fw with vatImage := tset (fun _ => (0 : Nat)) s.fw.vatImage n image, vatBad := s.fw.vatBad.erase n } }
/-- Step 1 of R216 up to its load: the spare at a position is powered, its clock runs, and the tests of its churn and MAC unit run and
end (R253, R278). Which of the two failed, where they did not pass, is a free value. -/
def spareTests (s : State) (p : Nat) (ok : Bool) : State :=
  let s := lateRoots (writeVatCtrl s p 0x000B) p
  let s := writeMacKat (writeChnKat s p 0x8000) p 0x8000
  if ok then macKatEnd (chnKatEnd s p true) p true
  else
    let (x, s) := draw16 s
    let churn := !x.getLsbD 0 || !x.getLsbD 1
    let mac := x.getLsbD 0 || !x.getLsbD 1
    macKatEnd (chnKatEnd s p (!churn)) p (!mac)
/-- VAT_RETIRE (R146, R216); while a VAT_SWAP is in progress it waits, since its own is ignored till then (R188). `katOk` is the outcome of the spare's known-answer tests. -/
def execVatRetire (p : Pail) (katOk : Bool) (s : State) : Host.Outcome State Fault Refusal :=
  .next (serve s p.val 0x0B05 fun s _ r =>
    let n := vatArg r
    let spare := spareOf s
    let left := activeVats s - (if spare.isSome then 0 else 1)
    if vatStateOf s n ≠ 2 ∨ vatCommandRuns s n = true then wrongState s r
    else if left < 24 then failed s sQUOTA r
    else if s.swap.isSome then (s, none)
    else match spare with
    | some v =>
      let pv := phys s v
      let s := spareTests s pv katOk
      if !katOk then failed (powerDown s pv) sINTERNAL r
      else
        let s := retireTo s n v
        okWith (setCfg s 8 0 (some (remapRecord s))) r [BitVec.ofNat 8 pv]
    | none =>
      let s := setVatState (powerDown s (phys s n)) n 3
      okWith (setCfg s 8 0 (some (remapRecord s))) r [0xFF])

/-- The code an oscillator item gives a vat's trim (R142, R521). -/
def trimFromCal (s : State) (n : Nat) : BitVec 10 := (calEffective s (0x0100 + n)).setWidth 10
/-- A vat returns to ACTIVE: its cells that are not halted run. -/
def activate (s : State) (n : Nat) : State :=
  let v := phys s n
  let s := setBit (setVatState s n 0) (R.VAT_CTRL v) 4 true
  let s := writeCellRun s v (~~~(getReg s (R.VAT_CELL_HALTED v)))
  { s with fw := { s.fw with vatFaults := tset (fun _ => (0 : Nat)) s.fw.vatFaults n 0 } }
/-- VAT_RESUME (R142, R143, R215): a vat whose reload failed cannot be resumed. An oscillator offset that CAL.SET has set since takes
effect, over a VAT.TRIM given after it too: DESIGN CHOICE, log entry 126. -/
def execVatResume (p : Pail) (s : State) : Host.Outcome State Fault Refusal :=
  .next (serve s p.val 0x0B06 fun s _ r =>
    let n := vatArg r
    if vatStateOf s n ≠ 2 ∨ n ∈ s.fw.vatBad ∨ vatCommandRuns s n = true then wrongState s r
    else
      let s := if n ∈ s.fw.calDue then setTrim s (phys s n) (trimFromCal s n) else s
      okWith (admitWaiting (activate { s with fw := { s.fw with calDue := s.fw.calDue.erase n } } n)) r [])

end Sys2Proof.Machine
end

