-- ==== Sys2Proof/Machine/FirmCfg.lean ====
section
/-!
DEFINITION. CFG., CAL., FLT. and TMP. commands: configuration records (R141, R183, R218, R376, R379, R436, R445, R450, R505,
R561), calibration (R142), the fault log (R147).
-/
namespace Sys2Proof.Machine

/-! ### Configuration records -/

/-- The record a never set item reads as (R183, R218, R376, R379, R436, R445, R450, R505, R561). -/
def defaultCfg (s : State) (item : Nat) : Bytes :=
  match item with
  | 1 => 1 :: zeros 7
  | 2 => 1 :: zeros 115
  | 3 => zeros 76
  | 4 => [64, 0, 0, 0] ++ (List.range 32).flatMap (fun i => [BitVec.ofNat 8 i, 1, 0, if i = 31 then 10 else 0])
      ++ (List.range 32).flatMap (fun i => [BitVec.ofNat 8 i, 2, 0, 0])
  | 5 => [0xFF, 0, 64, 0, 0, 0, 0, 0]
  | 6 => List.replicate 64 0xFF ++ [16, 0, 0, 0]
  | 7 => [0xFF, 0xFF, 0xFF, 0xFF, 0, 0, 0, 0]
  | 8 => (List.range 34).flatMap (fun n =>
      let p := tget (fun k => k) (factoryRemap s) n
      [BitVec.ofNat 8 p, BitVec.ofNat 8 (b2n (decide (p ∈ retiredPositions s)))])
  | _ => List.replicate 32 0xFF
/-- A record as it is read: the stored one or the default. -/
def cfgRecord (s : State) (item index : Nat) : Bytes := (getCfg s item index).getD (defaultCfg s item)
/-- Whether an ITEM and INDEX exist (R141, R378, R498). -/
def cfgExists (item index : Nat) : Bool :=
  match item with
  | 1 => decide (index < 48) && !srcReserved index
  | 2 => decide (index < 32)
  | 3 => decide (index < 48)
  | 6 => decide (index < 139)
  | _ => (decide (item = 4) || decide (item = 5) || decide (7 ≤ item ∧ item ≤ 9)) && decide (index = 0)
/-- Whether a record has the length of its item. -/
def cfgLengthOk (item : Nat) (d : Bytes) : Bool :=
  match item with
  | 1 => decide (d.length = 8)
  | 2 => decide (d.length = 116)
  | 3 => decide (d.length = 76)
  | 4 => decide (4 ≤ d.length) && decide (d.length = 4 + 4 * byteAt d 0)
  | 5 => decide (d.length = 8)
  | 6 => decide (d.length = 68)
  | 7 => decide (d.length = 8)
  | 8 => decide (d.length = 68)
  | _ => decide (d.length = 32)

/-- The rules of R505; offsets within the body. -/
def tamperRules (s : State) (i : Nat) (d : Bytes) : List ParamRule :=
  [(!srcFused s i, 2, 0x62), (decide (byteAt d 0 < 128), 8, 0x60),
   (decide (byteAt d 1 < if 34 ≤ i ∧ i ≤ 37 then 4 else 2), 9, 0x60),
   (decide (byteAt d 4 = 0) || (decide (byteAt d 4 = 0xD5) && decide (i ≠ 28) && decide (i ≠ 39)), 12, 0x61),
   (zeroBytes d 5 8, 13, 0x60)]
/-- The rules of R436 and R437. -/
def guardRules (d : Bytes) : List ParamRule :=
  let v := byteAt d
  let flags := BitVec.ofNat 16 (v 1)
  let range := fun i => (u32 d (12 + 8 * i), u32 d (16 + 8 * i))
  [rangeRule (v 0) 0 2 8, rangeRule (v 1) 0 15 9, rangeRule (v 2) 0 3 10, rangeRule (v 3) 0 3 11,
   rangeRule (v 4) 10 (if v 2 = 3 then 200 else 133) 12, rangeRule (v 6) 0 32 14,
   (decide (v 7 ≤ 4) && (!bit flags 0 || decide (v 7 ≠ 0)), 15, 0), rangeRule (u16 d 8) 1 5000 16, (zeroBytes d 10 12, 18, 0)]
  ++ (List.range (min 4 (v 7))).map (fun i =>
      (decide ((range i).2 ≠ 0) && decide ((range i).1 + (range i).2 ≤ if bit flags 1 then 2 ^ 32 else 2 ^ 24), 20 + 8 * i, 0))
  ++ (List.range 8).map (fun w => (decide (u16 d (76 + 4 * w) + u16 d (78 + 4 * w) ≤ 0x10000), 84 + 4 * w, 0))
/-- The rules of R445. -/
def deviceRules (d : Bytes) : List ParamRule :=
  let v := byteAt d
  let flags := BitVec.ofNat 16 (v 0)
  [rangeRule (v 0) 0 15 8, ((decide (v 1 = 0) && !bit flags 1) || (decide (8 ≤ v 1) && decide (v 1 ≤ 0x77)), 9, 0),
   rangeRule (v 2) 0 3 10, rangeRule (v 3) 9 0xFE 11, rangeRule (v 4) 0 7 12, rangeRule (v 5) 1 255 13,
   rangeRule (u16 d 6) 1 5000 14, (!bit flags 0 || !zeroBytes d 8 40, 16, 0), (zeroBytes d 72 76, 80, 0)]
/-- The rules of R450. -/
def releaseRules (d : Bytes) : List ParamRule :=
  let v := byteAt d
  [rangeRule (v 0) 0 128 8, rangeRule (v 1) 0 1 9, (zeroBytes d 2 4, 10, 0)]
  ++ (List.range (v 0)).flatMap (fun i =>
      [rangeRule (v (4 + 4 * i)) 0 31 (12 + 4 * i), rangeRule (v (5 + 4 * i)) 0 4 (13 + 4 * i), rangeRule (v (6 + 4 * i)) 0 2 (14 + 4 * i)])
/-- How many requesters an arbiter has (R208, R378); that of the flash link has a ninth for the reads of the window (R426). -/
def arbRequesters (i : Nat) : Nat := if i < 102 then 16 else if i < 138 then 6 else 9
/-- The rules of R379. -/
def arbRules (i : Nat) (d : Bytes) : List ParamRule :=
  (List.range 64).map (fun k => (decide (byteAt d k = 0xFF) || decide (byteAt d k < arbRequesters i), 8 + k, 0x50))
  ++ [(decide (4 ≤ byteAt d 64) && decide (byteAt d 64 ≤ 64), 72, 0x50), (zeroBytes d 65 68, 73, 0)]
/-- The rules of R218. -/
def remapRules (s : State) (d : Bytes) : List ParamRule :=
  let positions := (List.range 34).map (fun n => byteAt d (2 * n))
  let inUse := fun n => decide (byteAt d (2 * n + 1) = 0)
  [(positions.all (fun p => decide (p < 34)) && decide (positions.Nodup)
     && (List.range 34).all (fun n => decide (byteAt d (2 * n + 1) ≤ 1))
     && (List.range 34).all (fun n => !(inUse n && decide (byteAt d (2 * n) ∈ retiredPositions s)))
     && decide (24 ≤ (those 32 inUse).length), 8, 0x70)]
/-- The rules of a record. -/
def cfgRules (s : State) (item index : Nat) (d : Bytes) : List ParamRule :=
  match item with
  | 1 => tamperRules s index d
  | 2 => guardRules d
  | 3 => deviceRules d
  | 4 => releaseRules d
  | 5 => [(decide (1 ≤ byteAt d 0 ∧ byteAt d 0 ≤ 15) || decide (byteAt d 0 = 0xFF), 8, 0), rangeRule (byteAt d 1) 0 1 9,
          rangeRule (u16 d 2) 0 3968 10, (zeroBytes d 4 8, 12, 0)]
  | 6 => arbRules index d
  | 7 => [(decide (byteAt d 4 < 4), 12, 0), (zeroBytes d 5 8, 13, 0)]
  | 8 => remapRules s d
  | _ => (List.range 32).map (fun n => (decide (byteAt d n ≤ 15) || decide (byteAt d n = 0xFF), 8 + n, 0x71))

/-- Write TMP_SRC_CFG and its mirror (R511); RESPONSE bit 0 reads 1. -/
def writeSrcCfg (s : State) (i : Nat) (v : BitVec 16) : State :=
  let w := (v &&& 0x037F) ||| 1
  let s := setReg s (R.TMP_SRC_CFG i) w
  { s with bat := { s.bat with mirror := tset (fun k => if k % 2 = 0 then 1 else 0) s.bat.mirror (2 * i) w } }
/-- Write TMP_SRC_QUIET and its mirror. -/
def writeSrcQuiet (s : State) (i : Nat) (v : BitVec 16) : State :=
  let s := setReg s (R.TMP_SRC_QUIET i) v
  { s with bat := { s.bat with mirror := tset (fun k => if k % 2 = 0 then 1 else 0) s.bat.mirror (2 * i + 1) v } }
/-- A tamper record put into force (R506). -/
def applyTamperRecord (s : State) (i : Nat) (d : Bytes) : State :=
  let s := if byteAt d 4 = 0xD5 then writeTmpFuse s (BitVec.ofNat 16 (0xD500 + i)) else s
  let flags := byteAt d 1
  writeSrcQuiet (writeSrcCfg s i (BitVec.ofNat 16 (flags % 4 * 256 + byteAt d 0))) i (BitVec.ofNat 16 (u16 d 2))
/-- An arbiter's slot table and N put into force (R379). -/
def applyArbRecord (s : State) (i : Nat) (d : Bytes) : State :=
  let slot := fun k => if byteAt d k = 0xFF then (0 : BitVec 16) else BitVec.ofNat 16 (0x8000 + byteAt d k)
  let slots := (List.range 64).foldl (fun t k => tset (fun _ => 0) t (i * 64 + k) (slot k)) s.mesh.slots
  { s with mesh := { s.mesh with slots := slots, interval := tset (fun _ => 16) s.mesh.interval i (BitVec.ofNat 7 (byteAt d 64)) } }
/-- The posting enables put into force (R376). -/
def applyPostRecord (s : State) (d : Bytes) : State :=
  setRegs s (R.MSH_POST_EN 0) [BitVec.ofNat 16 (u16 d 0), BitVec.ofNat 16 (u16 d 2), BitVec.ofNat 16 (byteAt d 4)]
/-- What a record does at the completion (R141): items 0x0001, 0x0006 and 0x0007; the others at the next BOOT. -/
def applyRecord (s : State) (item index : Nat) (d : Bytes) : State :=
  match item with
  | 1 => applyTamperRecord s index d
  | 6 => applyArbRecord s index d
  | 7 => applyPostRecord s d
  | _ => s
/-- A record as bank 3 keeps it: RESPONSE bit 0 is stored as 1 (R505). -/
def storedRecord (item : Nat) (d : Bytes) : Bytes := if item = 1 then d.set 0 (d.getD 0 0 ||| 1) else d

/-- CFG_GET (R141). A record never set is returned as it is read, its default (log entry 29). -/
def execCfgGet (p : Pail) (s : State) : Host.Outcome State Fault Refusal :=
  .next (serve s p.val 0x0A01 fun s _ r =>
    let item := u16 r.body 0
    let index := u16 r.body 2
    if !cfgExists item index then failed s sNOT_FOUND r
    else
      let d := cfgRecord s item index
      okWith s r (leBytes 2 d.length ++ zeros 6 ++ d))
/-- A CFG.SET whose record asks for a disable fuse goes on once that is programmed, with the record's other fields (R506). -/
def fuseSet (s : State) (p : Nat) (r : Request) : State × Option Response :=
  let i := u16 r.body 2
  if srcFused s i then
    okWith (applyTamperRecord { s with fw := { s.fw with fuseWait := s.fw.fuseWait.erase (p, i) } } i ((r.body.drop 8).set 4 0)) r []
  else (s, none)
/-- CFG_SET (R141): the record is checked, stored, and applied where it takes effect at the completion. -/
def cfgSet (s : State) (p : Nat) (r : Request) : State × Option Response :=
  let item := u16 r.body 0
  let index := u16 r.body 2
  let d := r.body.drop 8
  if item = 1 ∧ (p, index) ∈ s.fw.fuseWait then fuseSet s p r
  else if !cfgExists item index then failed s sNOT_FOUND r
  else if !cfgLengthOk item d then failed s sBAD_LENGTH r
  else match (cfgRules s item index d).find? (fun q => !q.1) with
  | some q => failed s sBAD_PARAMETER r (q.2.2 * 65536 + q.2.1)
  | none =>
    let ticket := match r.auth with
      | .ticket _ => true
      | _ => false
    if item = 1 ∧ byteAt d 4 = 0xD5 ∧ ticket = true then failed s sNO_AUTHORITY r
    else
      let s := setCfg s item index (some (storedRecord item d))
      if item = 1 ∧ byteAt d 4 = 0xD5 then
        ({ writeTmpFuse s (BitVec.ofNat 16 (0xD500 + index)) with fw := { s.fw with fuseWait := s.fw.fuseWait ++ [(p, index)] } }, none)
      else okWith (applyRecord s item index d) r []
/-- CFG_SET (R141). -/
def execCfgSet (p : Pail) (s : State) : Host.Outcome State Fault Refusal := .next (serve s p.val 0x0A02 fun s _ r => cfgSet s p.val r)

/-! ### Calibration -/

/-- The owner's offset of a calibration item in bank 3: 0 where none has been set (R142, R522). -/
def userOffset (s : State) (item : Nat) : BitVec 16 := (tget (fun _ => none) s.store.cal item).getD 0
/-- CAL_GET (R142). -/
def execCalGet (p : Pail) (s : State) : Host.Outcome State Fault Refusal :=
  .next (serve s p.val 0x0A03 fun s _ r =>
    let item := u16 r.body 0
    if (calOtp s item).isNone then failed s sNOT_FOUND r
    else okWith s r (wordBytes (calFactory s item) ++ wordBytes (userOffset s item) ++ leBytes 2 (calBound s item)
      ++ wordBytes (calFactory s item + userOffset s item)))
/-- TUNE follows the tag tuning in force (R492). -/
def writeTune (s : State) : State :=
  let w := [calEffective s 0x0400 &&& 0x003F, 0]
  if tagWordsOf s 9 = w then s else putRecord s 9 w
/-- CAL_SET (R142, R521). -/
def execCalSet (p : Pail) (s : State) : Host.Outcome State Fault Refusal :=
  .next (serve s p.val 0x0A04 fun s _ r =>
    let item := u16 r.body 0
    let v := BitVec.ofNat 16 (u16 r.body 2)
    if (calOtp s item).isNone then failed s sNOT_FOUND r
    else if clampOffset (calBound s item) v ≠ v then failed s sBAD_PARAMETER r 2
    else
      let s := { s with store := { s.store with cal := tset (fun _ => none) s.store.cal item (some v) } }
      let s := setOffset s item v
      let n := item - 0x0100
      let s := if 0x0100 ≤ item ∧ n < 34 then { s with fw := { s.fw with calDue := n :: s.fw.calDue.erase n } } else s
      okWith (if item = 0x0400 then writeTune s else s) r [])

/-! ### FLT. and TMP. -/

/-- FLT_READ. -/
def execFltRead (p : Pail) (s : State) : Host.Outcome State Fault Refusal :=
  .next (serve s p.val 0x0C01 fun s _ r =>
    let f := s.flt
    let flags := b2n f.first.isSome + 2 * b2n f.overflow + 4 * b2n f.escalated
    okWith s r ((faultWords s).flatMap wordBytes ++ [BitVec.ofNat 8 flags, 0, 0, 0]
      ++ (List.range 9).flatMap (fun c => leBytes 4 (tget (fun _ => (0 : Nat)) s.rejects c)) ++ leBytes 4 f.total ++ zeros 4))
/-- FLT_ACK (R147): all 48 bits are compared before FLT_ACK is written (R519). -/
def execFltAck (p : Pail) (s : State) : Host.Outcome State Fault Refusal :=
  .next (serve s p.val 0x0C02 fun s _ r =>
    match s.flt.first with
    | some f => if f.stamp.toNat = u48 r.body 0 then okWith (writeFltAck s (f.stamp.setWidth 16)) r [] else failed s sNOT_FOUND r
    | none => failed s sNOT_FOUND r)
/-- TMP_STATUS. -/
def execTmpStatus (p : Pail) (s : State) : Host.Outcome State Fault Refusal :=
  .next (serve s p.val 0x0C03 fun s _ r =>
    okWith s r ((List.range 48).flatMap (fun i =>
      let st := if srcReserved i then 0 else if srcFused s i then 2 else if (getSrc s i).firing then 1 else 0
      [BitVec.ofNat 8 st, (getReg s (R.TMP_SRC_CFG i)).setWidth 8 &&& 0x7F] ++ leBytes 2 (evidence s i)
        ++ leBytes 2 (min 0xFFFF (disagreesOf s i)) ++ [0, 0])))

end Sys2Proof.Machine
end

