-- ==== Sys2Proof/Machine/Flash.lean ====
section
/-!
DEFINITION. The flash controller (R403 to R429): the link, window reads and page buffers, commands, bad blocks and spares.
-/
namespace Sys2Proof.Machine

/-! ### The link (R404, R405) -/

/-- A link transfer failed twice: counted, LINK_ERR, the logic-integrity tamper event (R404). -/
def linkFailed (s : State) : State := fireSource (eventBit (countReg s R.FLC_LINK_ERRS 0xFFFF) R.FLC_COM_EVENT 2 592) 39
/-- The die link is established while main power is present (R405): both dies derive its key, a free value, and the numbers of its
transfers begin (R404). -/
def linkComesUp (s : State) : State :=
  if hasMain s = true ∧ s.flash.linkUp = false then
    let (k, s) := drawBits s 128
    { s with flash := { s.flash with linkUp := true, linkKey := BitVec.ofNat 128 k, linkSeq := 0 } }
  else s

/-! ### Reads (R406 to R412) -/

/-- A transfer that waits is answered: read data with its words, or an error reply (R359). -/
def answerXfer (s : State) (n : Nat) (ws : Option (List Word)) : State :=
  match getXfer s n with
  | none => s
  | some t =>
    setXfer s n (some (match ws with
      | some l => { t with words := l, phase := .reply 8, hop := 0 }
      | none => { t with words := [], phase := .reply 10, cause := some ⟨.bus, some t.addr⟩, hop := 0 }))
/-- The words a waiting read asks for, from the page that holds them. -/
def pageSpan (s : State) (a n : Nat) : List Word :=
  (List.range n).map (fun i => let (b, p, w) := flashPlace (a + i); dataWord (pageWord s b p w))
/-- A waiting read is answered with its words. -/
def serveRead (s : State) (w : FlashWaiter) : State :=
  match w with
  | .xfer n => match getXfer s n with
    | some t => answerXfer s n (some (pageSpan s t.addr.toNat t.len))
    | none => s
  | .bus _ a => let (b, p, i) := flashPlace a.toNat; { s with lastRead := dataWord (pageWord s b p i) }
/-- The master of a waiting read. -/
def waiterMaster (s : State) (w : FlashWaiter) : BitVec 10 :=
  match w with
  | .xfer n => ((getXfer s n).map (·.master)).getD 579
  | .bus m _ => m
/-- The waddr of a waiting read. -/
def waiterAddr (s : State) (w : FlashWaiter) : Nat :=
  match w with
  | .xfer n => ((getXfer s n).map (·.addr.toNat)).getD 0
  | .bus _ a => a.toNat
/-- A waiting read gets an error reply, and its master a BUS fault: a core takes it when the reply arrives, another master's is
recorded (R27, R516). -/
def denyRead (s : State) (w : FlashWaiter) : State :=
  match w with
  | .xfer n => answerXfer s n none
  | .bus m a => busFault s .read m a.toNat
/-- A window read (R405, R409, R412, R425): refused at once, served from a buffer, or waiting for a page load. -/
def windowRead (s : State) (w : FlashWaiter) : State :=
  let (b, p, i) := flashPlace (waiterAddr s w)
  let k := getBank s b
  if !flashOpen s (waiterMaster s w) ∨ s.flash.linkUp = false then denyRead s w
  else if k.job.isSome then denyRead (busyRead s b) w
  else if p ∈ k.buffers then touchBuffer (serveRead (linkGrants s 8 1) w) b p i
  else
    let ls := if k.loads.any (fun l => l.page == p) then k.loads.map (fun l => if l.page = p then { l with waiters := l.waiters ++ [w] } else l)
      else k.loads ++ [{ page := p, waiters := [w] }]
    setBank s b { k with loads := ls }
/-- FLASH_WINDOW_READ: a master reads one word; the access table judges it first (R405, R425). -/
def execFlashWindowRead (master : Master) (waddr : BitVec 32) (s : State) : Host.Outcome State Fault Refusal :=
  let a := waddr.toNat
  match region a with
  | .flash _ _ =>
    if hasMain s = false then .next s
    else match (if flashOpen s master ∨ 582 ≤ master.toNat then checkWord s master a .read false else none) with
      | some (r, e) => .next (tableRefusal s r e .read master a)
      | none => .next (windowRead s (.bus master waddr))
  | _ => .next s

/-- A page load that ends: its page goes into the buffer used least recently and its readers are served (R409 to R411). -/
def loadEnd (s : State) (b : Nat) (l : PageLoad) (retries corrections : Nat) (outcome : FlashOutcome) : State :=
  let s := linkGrants s 8 8
  match outcome with
  | .done =>
    let s := bufferPage s b l.page retries corrections
    l.waiters.foldl (fun s w => let (_, p, i) := flashPlace (waiterAddr s w); touchBuffer (serveRead s w) b p i) s
  | .failed =>
    let s := pageLost s b l.page corrections
    l.waiters.foldl (fun s w =>
      denyRead (fault s 2 (584 + b) .read (waiterMaster s w) (BitVec.ofNat 32 (waiterAddr s w))) w) s
  | .link => linkFailed (l.waiters.foldl denyRead s)
/-- PAGE_LOAD_END (R409 to R411): the bank's oldest page load ends. -/
def execPageLoadEnd (bank : Bank) (retries : Fin 8) (corrections : Fin 41) (outcome : FlashOutcome) (s : State) :
    Host.Outcome State Fault Refusal :=
  match (getBank s bank.val).loads with
  | [] => .next s
  | l :: rest => .next (loadEnd (modBank s bank.val (fun k => { k with loads := rest })) bank.val l retries.val corrections.val outcome)

/-! ### Commands (R413 to R423) -/

/-- CODEs of FLC_RESULT. -/
def fOK : Nat := 0
def fNOT_BLANK : Nat := 1
def fPROGRAM_FAIL : Nat := 2
def fERASE_FAIL : Nat := 3
def fBROWNOUT : Nat := 4
def fBAD_BLOCK : Nat := 5
def fSOURCE : Nat := 6
def fNO_SPARE : Nat := 7
def fLINK : Nat := 8
def fREFUSED : Nat := 9

/-- A command ends: CODE, PULSES for an erase, DONE (R413). -/
def flashResult (s : State) (b code : Nat) (pulses : Option Nat) : State :=
  let s := setFld s (R.FLC_RESULT b) 15 12 code
  let s := match pulses with
    | some n => setFld s (R.FLC_RESULT b) 11 8 n
    | none => s
  eventBit s (R.FLC_EVENT b) 0 (584 + b)
/-- A blocked or ended pulse sets BROWNOUT_HIT (R422). -/
def brownoutHit (s : State) : State := eventBit s R.FLC_COM_EVENT 1 592
/-- A command takes a bank: its buffers and page loads are gone, and the readers that waited are refused (R412). -/
def claimBank (s : State) (b : Nat) : State :=
  setBank ((getBank s b).loads.foldl (fun s l => l.waiters.foldl denyRead s) s) b { buffers := [], loads := [], job := none }
/-- Give a bank its command. -/
def putFlash (s : State) (b : Nat) (j : FlashJob) : State := modBank s b (fun k => { k with job := some j })
/-- A command's CODE is decided before any pulse. -/
def stopFlash (s : State) (b : Nat) (j : FlashJob) (code : Nat) : State := putFlash s b { j with code := some code }
/-- Steps 3 and 4 of PROGRAM (R414): the 2048 source words are read under master 579 and must be DATA, a refused read recorded (R374);
then the detector, and the pulses begin. While the source waits (R188, R214) the command stays at its checks. -/
def readSource (s : State) (b : Nat) (j : FlashJob) : State :=
  match opRead s 579 (regPair s (R.FLC_SRC_LO b) (R.FLC_SRC_HI b)).toNat 2048 with
  | (.waits, s) => putFlash s b j
  | (.refused, s) => stopFlash s b j fSOURCE
  | (.words ws, s) =>
    if !ws.all (fun w => decide (w.tag = .data)) then stopFlash s b j fSOURCE
    else if s.ext.dip.isSome then stopFlash (brownoutHit s) b j fBROWNOUT
    else putFlash (linkGrants s b 8) b { j with phase := 2, data := ws.map (·.val) }
/-- The command as GO accepts it: the checks of R414 to R418 decide a CODE, or the pulses begin. -/
def startFlash (s : State) (b op : Nat) : State :=
  let blk := getFld s (R.FLC_ADDR b) 11 6
  let page := getFld s (R.FLC_ADDR b) 5 0
  let n := b * 64 + blk
  let st := (flashBlock s n).state
  let job : FlashJob := { op := op, block := blk, page := page, phase := 1, code := none, pulses := 0, spare := none, data := [] }
  let put := fun (s : State) (j : FlashJob) => putFlash s b j
  let stop := fun (s : State) c => stopFlash s b job c
  let dip := s.ext.dip.isSome
  let s := put (claimBank s b) job
  if !s.flash.linkUp then stop s fLINK
  else match op with
  | 1 =>
    if !blockUsable s n then stop s fBAD_BLOCK
    else if !pageBlank s b (blk * 64 + page) then stop s fNOT_BLANK
    else readSource s b job
  | 2 =>
    if !blockUsable s n then stop s fBAD_BLOCK
    else if dip then stop (brownoutHit s) fBROWNOUT
    else put s { job with phase := 2 }
  | 3 => stop s (if pageBlank s b (blk * 64 + page) then fOK else fNOT_BLANK)
  | 4 => if st = 0 ∨ st = 1 then stop s fOK else stop s fREFUSED
  | _ =>
    if st ≠ 2 then stop s fREFUSED
    else match freeSpares s with
      | [] => stop s fNO_SPARE
      | x :: _ => if dip then stop (brownoutHit s) fBROWNOUT else put s { job with phase := 2, spare := some x }
/-- A write of FLC_CMD with GO (R413). -/
def flcGo (s : State) (b : Nat) (v : BitVec 16) : State :=
  let op := fld v 3 0
  if !bit v 15 then s
  else if (getBank s b).job.isSome then setBit s (R.FLC_BANK_STATUS b) 14 true
  else if op = 0 ∨ 5 < op ∨ (op = 1 ∧ (getReg s (R.FLC_SRC_LO b)).toNat % 16 ≠ 0) then flashResult s b fREFUSED none
  else startFlash s b op
/-- GO with an OP, from the supervisor. -/
def flashGo (bank : Bank) (op : Nat) (s : State) : State :=
  if hasMain s then flcGo s bank.val (BitVec.ofNat 16 (0x8000 + op)) else s
/-- PROGRAM (R414). -/
def execProgram (bank : Bank) (s : State) : Host.Outcome State Fault Refusal := .next (flashGo bank 1 s)
/-- ERASE (R415). -/
def execErase (bank : Bank) (s : State) : Host.Outcome State Fault Refusal := .next (flashGo bank 2 s)
/-- BLANK_CHECK (R416). -/
def execBlankCheck (bank : Bank) (s : State) : Host.Outcome State Fault Refusal := .next (flashGo bank 3 s)
/-- RETIRE (R418). -/
def execRetire (bank : Bank) (s : State) : Host.Outcome State Fault Refusal := .next (flashGo bank 4 s)
/-- REPLACE (R418). -/
def execReplace (bank : Bank) (s : State) : Host.Outcome State Fault Refusal := .next (flashGo bank 5 s)

/-- One erase pulse with its verify ends (R415, R418). -/
def pulseEnd (s : State) (b : Nat) (j : FlashJob) (verified : Bool) : State :=
  let put := fun (s : State) (j : FlashJob) => putFlash s b j
  let j := { j with pulses := j.pulses + 1 }
  let s := linkGrants s b 1
  if verified then
    let s := if j.op = 2 then erasePhys s (physBlock s (b * 64 + j.block)) else s
    put s { j with phase := 3, code := some fOK }
  else if j.pulses < 12 then put s j
  else if j.op = 2 then put (tearJob s b j) { j with phase := 3, code := some fERASE_FAIL }
  else
    let s := match j.spare with
      | some x => spoilSpare s x
      | none => s
    match freeSpares s with
    | [] => put s { j with phase := 3, code := some fNO_SPARE }
    | x :: _ => put s { j with spare := some x, pulses := 0 }
/-- ERASE_PULSE_END (R415). -/
def execErasePulseEnd (bank : Bank) (verified : Bool) (s : State) : Host.Outcome State Fault Refusal :=
  match (getBank s bank.val).job with
  | none => .next s
  | some j => if (j.op = 2 ∨ j.op = 5) ∧ j.phase = 2 ∧ j.code = none then .next (pulseEnd s bank.val j verified) else .next s

/-- PULSES of the result, for an erase or a replacement (R415). -/
def pulsesOf (j : FlashJob) : Option Nat := if j.op = 2 ∨ j.op = 5 then some j.pulses else none
/-- PULSE_WARN after a whole erase (R415, R422). -/
def pulseWarn (s : State) (b : Nat) (j : FlashJob) (code : Nat) : State :=
  if (j.op = 2 ∨ j.op = 5) ∧ code ≠ fBROWNOUT ∧ code ≠ fLINK ∧ getFld s R.FLC_CFG 15 12 < j.pulses
  then eventBit s (R.FLC_EVENT b) 2 (584 + b) else s
/-- What a CODE does to the tables and the array before it is written (R414, R415, R418). -/
def flashEffect (s : State) (b : Nat) (j : FlashJob) (code : Nat) : State :=
  if code = fOK ∧ j.op = 1 then setPage s (pageKey s b (j.block * 64 + j.page)) j.data
  else if code = fERASE_FAIL then eventBit (tableChange s b j code) (R.FLC_EVENT b) 1 (584 + b)
  else if code = fPROGRAM_FAIL then
    eventBit (tableChange (tearJob s b { j with phase := 2 }) b j code) (R.FLC_EVENT b) 1 (584 + b)
  else tableChange s b j code
/-- The command of a bank ends with a CODE. -/
def finishFlash (s : State) (b : Nat) (j : FlashJob) (code : Nat) : State :=
  let s := pulseWarn (flashEffect s b j code) b j code
  flashResult (modBank s b (fun k => { k with job := none })) b code (pulsesOf j)
/-- A bank's command ends (R413): with the CODE decided; else by the outcome of the pulses and the verify. A link failure during pulses
leaves the page or block torn (R428), and one as the table is written the old table or the new. -/
def flashCommandEnd (s : State) (b : Nat) (outcome : FlashOutcome) : State :=
  match (getBank s b).job with
  | none => s
  | some j =>
    if outcome = .link ∧ (j.code = none ∨ j.op = 3) then linkFailed (finishFlash (tearJob s b j) b j fLINK)
    else if outcome = .link ∧ (j.code = some fOK ∨ j.code = some fERASE_FAIL) ∧ j.op ≠ 1 then
      linkFailed (finishFlash (tearTable s b j) b j fLINK)
    else match j.code with
    | some c => finishFlash s b j c
    | none => if j.op = 1 ∧ j.phase = 1 then readSource s b j else if j.op = 1 then finishFlash (linkGrants s b 8) b j (if outcome = .done then fOK else fPROGRAM_FAIL) else s

/-- A dip begins: pulses in progress end with BROWNOUT, and their page or block is torn (R422, R423). -/
def dipFlash (s : State) : State :=
  (List.range 8).foldl (fun s b =>
    match (getBank s b).job with
    | none => s
    | some j =>
      if j.code = none ∧ j.phase ≠ 1 then
        modBank (brownoutHit (tearJob s b j)) b (fun k => { k with job := some { j with phase := 1, code := some fBROWNOUT } })
      else s) s

/-! ### Registers of the controller -/

/-- FLC_PROT: a write of LEVEL (R424). -/
def execFlcProt (value : BitVec 16) (s : State) : Host.Outcome State Fault Refusal :=
  .next (if hasMain s then writeProt s (fld value 1 0) else s)
/-- The computed registers of the controller (R429). -/
def flcView (s : State) (w : Nat) : Option (BitVec 16) :=
  let shown := flashBlock s (getFld s R.FLC_MAP_SEL 8 0)
  if w = R.FLC_STATUS then
    some (BitVec.ofNat 16 (b2n s.flash.linkUp * 0x8000 + b2n s.ext.dip.isSome * 0x4000 + (freeSpares s).length))
  else if w = R.FLC_MAP then
    some (BitVec.ofNat 16 (shown.state.toNat * 0x4000 + shown.reason.toNat * 0x800 + (match shown.spare with
      | some x => 0x80 + x
      | none => 0)))
  else if w = R.FLC_GROWN_COUNT then
    some (BitVec.ofNat 16 ((s.flash.blocks.filter (fun q => decide (2 ≤ q.2.state.toNat))).length))
  else
    match (List.range 8).find? (fun b => decide (w = R.FLC_BANK_STATUS b)) with
    | some b =>
      match (getBank s b).job with
      | some j => some (BitVec.ofNat 16 (0x8000 + b2n (getBit s w 14) * 0x4000 + j.phase.toNat * 0x1000))
      | none => some (getReg s w)
    | none => none

end Sys2Proof.Machine
end

