-- ==== Sys2Proof/Machine/FirmHb.lean ====
section
/-!
DEFINITION. The Herd Book: the ring of bank 7 (R174 to R177), the last entry made (R166, R167), and the HB. commands (R178 to
R183).
-/
namespace Sys2Proof.Machine

/-! ### The ring -/

/-- Slots of the ring (R174). -/
def ringSlots : Nat := 3968
/-- The page of bank 7 that is slot i: page i mod 64 of block 2 + i / 64. -/
def slotPage (i : Nat) : Nat := 128 + i
/-- The logical block of slot i. -/
def slotBlock (i : Nat) : Nat := 7 * 64 + 2 + i / 64
/-- Whether a slot reads blank. -/
def slotBlank (s : State) (i : Nat) : Bool := pageBlank s 7 (slotPage i)
/-- LENGTH as R170 computes it from the four counts. -/
def entryLength (b : Bytes) : Nat := 256 + 34 * (byteAt b 134 + byteAt b 135 + byteAt b 136 + byteAt b 137) + 384
/-- Whether bytes begin an entry: MAGIC, FORMAT and LENGTH (R168, R170). A torn slot reads as an invalid entry (R185). -/
def entryValid (b : Bytes) : Bool :=
  decide (b.take 6 = [0x48, 0x42, 0x4B, 0x54, 3, 0]) && decide (u16 b 6 = entryLength b) && decide (entryLength b ≤ 4096)
/-- The entry of a slot. The slots of a block that has been retired are lost (R174). -/
def slotEntry (s : State) (i : Nat) : Option Bytes :=
  if slotBlank s i || !blockUsable s (slotBlock i) then none
  else
    let b := pageBytes s 7 (slotPage i)
    if entryValid b then some (b.take (u16 b 6)) else none
/-- BOOT_NUMBER of an entry (R168). -/
def entryNumber (e : Bytes) : Nat := u48 e 8
/-- The entries of the ring with their slots. -/
def ringEntries (s : State) : List (Nat × Bytes) := (List.range ringSlots).filterMap (fun i => (slotEntry s i).map (fun e => (i, e)))
/-- The entry with the greatest boot number. -/
def newestOf : List (Nat × Bytes) → Option (Nat × Bytes)
  | [] => none
  | e :: rest =>
    match newestOf rest with
    | none => some e
    | some f => if entryNumber e.2 < entryNumber f.2 then some f else some e
/-- The newest entry of the ring. -/
def newestEntry (s : State) : Option (Nat × Bytes) := newestOf (ringEntries s)
/-- The newest boot number in the ring, or 0. -/
def newestNumber (s : State) : Nat := ((newestEntry s).map (fun e => entryNumber e.2)).getD 0
/-- The oldest boot number in the ring, or 0. -/
def oldestNumber (s : State) : Nat :=
  match ringEntries s with
  | [] => 0
  | e :: rest => rest.foldl (fun n f => min n (entryNumber f.2)) (entryNumber e.2)
/-- The entry of a boot number in the ring. -/
def findEntry (s : State) (n : Nat) : Option Bytes := ((ringEntries s).find? (fun e => entryNumber e.2 == n)).map (·.2)
/-! ### Acknowledgements (R177) -/

/-- The logical block of acknowledgement block i, 0 or 1. -/
def ackBlock (i : Nat) : Nat := 7 * 64 + i
/-- A page of an acknowledgement block: UP_TO and, to tell a torn page, its complement. The layout is firmware's: DESIGN CHOICE, log
entry 101. -/
def ackPage (n : Nat) : Bytes := leBytes 6 n ++ (leBytes 6 n).map (fun b => ~~~b)
/-- UP_TO of a page that reads correctly. -/
def ackOf (b : Bytes) : Option Nat := if slice b 6 6 = (slice b 0 6).map (fun v => ~~~v) then some (u48 b 0) else none
/-- The acknowledged boot number: the highest UP_TO that reads correctly in either block, or 0. -/
def acked (s : State) : Nat :=
  (List.range 128).foldl (fun n q => if pageBlank s 7 q then n else max n ((ackOf (pageBytes s 7 q)).getD 0)) 0
/-- The first blank page of acknowledgement block i from a page on, if the block may be programmed. -/
def ackRoom (s : State) (i lo : Nat) : Option Nat :=
  if blockUsable s (ackBlock i) then (List.range 64).find? (fun q => decide (lo ≤ q) && pageBlank s 7 (i * 64 + q)) else none
/-- The highest UP_TO that reads correctly in an acknowledgement block, or 0. -/
def ackHighest (s : State) (i : Nat) : Nat :=
  (List.range 64).foldl (fun n q => if pageBlank s 7 (i * 64 + q) then n else max n ((ackOf (pageBytes s 7 (i * 64 + q))).getD 0)) 0
/-- The current acknowledgement block: the one that holds the newest acknowledgement, so that the other is the one erased when it is
full. -/
def ackCurrent (s : State) : Nat :=
  if !blockUsable s (ackBlock 0) then 1
  else if blockUsable s (ackBlock 1) && decide (ackHighest s 0 < ackHighest s 1) then 1 else 0
/-- The page of bank 7 for the next acknowledgement, from page `lo` of block i on: where that block has none left the other one is
erased. -/
def ackPlace (s : State) (i lo : Nat) : Option Nat × State :=
  match ackRoom s i lo with
  | some q => (some (i * 64 + q), s)
  | none => if blockUsable s (ackBlock (1 - i)) then (some ((1 - i) * 64), eraseBlock s (ackBlock (1 - i))) else (none, s)
/-- After PROGRAM_FAIL firmware moves the block's other pages and replaces the block (R155, R420). -/
def replaceMoved (s : State) (n page : Nat) : State :=
  let b := physBlock s n
  let s := retireBlock s n 3
  match freeSpares s with
  | [] => s
  | x :: _ =>
    let keep := (List.range 64).filterMap (fun q => let w := pageWords s (b * 64 + q); if q = page % 64 ∨ w = [] then none else some (q, w))
    let s := mapSpare s n x
    keep.foldl (fun s q => setPage s ((512 + x) * 64 + q.1) q.2) s
/-- The program of a page of bank 7, which ends with `code` where the array decides it: whether it ended OK. -/
def ackProgram (s : State) (q : Nat) (bs : Bytes) (code : BitVec 4) : Bool × State :=
  let ws := packWords (bs ++ List.replicate (4096 - bs.length) 0xFF)
  if s.flash.linkUp = false ∨ s.ext.dip.isSome = true then (false, s)
  else if code = 2 then (false, replaceMoved s (7 * 64 + q / 64) q)
  else if code = 4 ∨ code = 8 then (false, tornPage s (pageKey s 7 q) ws)
  else (true, setPage s (pageKey s 7 q) ws)
/-- The acknowledgement of n: one page, and after a failure the next page once (R177). -/
def recordAck (s : State) (n : Nat) (first second : BitVec 4) : Bool × State :=
  match ackPlace s (ackCurrent s) 0 with
  | (none, s) => (false, s)
  | (some q, s) =>
    match ackProgram s q (ackPage n) first with
    | (true, s) => (true, s)
    | (false, s) =>
      match ackPlace s (q / 64) (q % 64 + 1) with
      | (none, s) => (false, s)
      | (some q, s) => ackProgram s q (ackPage n) second

/-- Persisted entries not yet acknowledged. -/
def unacked (s : State) : Nat := ((ringEntries s).filter (fun e => decide (acked s < entryNumber e.2))).length
/-- Whether every entry a ring block holds has been acknowledged, so that it may be erased (R175); `b` counts from the first
ring block. -/
def blockAcked (s : State) (b : Nat) : Bool :=
  (List.range 64).all (fun j => match slotEntry s (b * 64 + j) with
    | some e => decide (entryNumber e ≤ acked s)
    | none => true)

/-- The next slot from a candidate on: a slot of the block being filled that is not blank is torn and passed over, a retired
block too; the first slot of a block is taken as it is, to be erased first, unless only it is torn (R174, R175, R185). -/
def slotFrom (s : State) : Nat → Nat → Nat
  | 0, c => c
  | fuel + 1, c =>
    let c := c % ringSlots
    if !blockUsable s (slotBlock c) then slotFrom s fuel (c / 64 * 64 + 64)
    else if c % 64 ≠ 0 then (if slotBlank s c then c else slotFrom s fuel (c + 1))
    else if slotBlank s c = false ∧ slotEntry s c = none ∧ slotBlank s (c + 1) = true then c + 1
    else c
/-- The slot the next entry goes to. -/
def nextSlot (s : State) : Nat := slotFrom s 200 (((newestEntry s).map (fun e => e.1 + 1)).getD 0)
/-- Whether the ring is full (R175). -/
def ringIsFull (s : State) : Bool := let c := nextSlot s; decide (c % 64 = 0) && !blockAcked s (c / 64)
/-- Slots that can be written now: to the end of the block being filled, and the blocks after it that may be erased. -/
def freeSlots (s : State) : Nat :=
  let c := nextSlot s
  let here := if c % 64 = 0 then (if blockAcked s (c / 64) then 64 else 0) else ((List.range (64 - c % 64)).filter (fun j => slotBlank s (c + j))).length
  let after := ((List.range 61).map (fun j => (c / 64 + 1 + j) % 62)).filter (fun b => blockUsable s (slotBlock (b * 64)))
  if here = 0 then 0 else here + 64 * (after.takeWhile (blockAcked s)).length

/-! ### The write of an entry (R175, R176)

The entry made stands in global SRAM, `fw.held`, until a slot has it; `fw.ring` is the write that goes on, as a PROGRAM of bank 7. -/

/-- No write goes on: what is held stays held. -/
def ringOff (s : State) : State := { s with fw := { s.fw with ring := none } }
/-- The slot's program is given to the flash controller, or waits while bank 7 is busy, a dip is in progress or the link is down. -/
def ringStart (s : State) (w : RingWrite) (e : Bytes) : State :=
  if (getBank s 7).job.isSome = true ∨ s.ext.dip.isSome = true ∨ s.flash.linkUp = false then
    { s with fw := { s.fw with ring := some { w with begun := false } } }
  else
    let s := linkGrants (claimBank s 7) 7 8
    putFlash { s with fw := { s.fw with ring := some { w with begun := true } } } 7
      { op := 1, block := 2 + w.slot / 64, page := w.slot % 64, phase := 2, code := none, pulses := 0,
        spare := none, data := packWords (e ++ List.replicate (4096 - e.length) 0xFF) }
/-- The write goes to the next slot, whose block is erased before its first slot is written; where the ring is full the entry stays
held. -/
def ringNext (s : State) (fails : Nat) : State :=
  match s.fw.held with
  | none => ringOff s
  | some e =>
    if ringIsFull s then ringOff s
    else
      let c := nextSlot s
      ringStart (if c % 64 = 0 then eraseBlock s (slotBlock c) else s) { slot := c, fails := fails, begun := false } e
/-- A failure of the first kind: the write passes to the next slot once. -/
def ringMiss (s : State) (w : RingWrite) : State := if 0 < w.fails then ringOff s else ringNext s (w.fails + 1)
/-- A write that waits goes on: its slot, if BLANK_CHECK finds it blank, is programmed again, and else counts as a failure. -/
def ringResume (s : State) : State :=
  match s.fw.ring, s.fw.held with
  | some w, some e =>
    if w.begun = true ∨ (getBank s 7).job.isSome = true ∨ s.ext.dip.isSome = true ∨ s.flash.linkUp = false then s
    else if slotBlank s w.slot then ringStart s w e else ringMiss s w
  | _, _ => s
/-- The program of a slot has ended with a CODE. -/
def ringEnded (s : State) (w : RingWrite) (code : Nat) : State :=
  if code = fOK then { s with fw := { s.fw with ring := none, held := none } }
  else if code = fBROWNOUT ∨ code = fLINK then ringResume { s with fw := { s.fw with ring := some { w with begun := false } } }
  else ringMiss s w
/-- What firmware does when bank 7's command ends: its own program is judged by CODE, and a write that waits goes on. -/
def ringStep (s : State) : State :=
  match s.fw.ring with
  | none => s
  | some w =>
    if (getBank s 7).job.isSome then s
    else if w.begun then ringEnded s w (getFld s (R.FLC_RESULT 7) 15 12) else ringResume s
/-- FLASH_COMMAND_END (R413, R175). -/
def execFlashCommandEnd (bank : Bank) (outcome : FlashOutcome) (s : State) : Host.Outcome State Fault Refusal :=
  .next (ringStep (flashCommandEnd s bank.val outcome))
/-- LINK_UP (R405); a write of the ring that waits for the link goes on (R175). -/
def execLinkUp (s : State) : Host.Outcome State Fault Refusal := .next (ringResume (linkComesUp s))
/-- Step 13 of R158: the entry made is written to the ring, or held. -/
def persist (s : State) (e : Bytes) : State := ringNext { s with fw := { s.fw with held := some e } } 0

/-! ### The last entry made -/

/-- Boot number and entry hash of the last entry made: the head record, or where it reads invalid the newest entry of the
ring (R167). -/
def lastMade (s : State) : Option (Nat × Bytes) :=
  if (getRecord s 1).damaged then (newestEntry s).map (fun e => (entryNumber e.2, sha256 e.2)) else headRecord s
/-- HEAD_STATE (R178). -/
def headState (s : State) : Nat :=
  match lastMade s with
  | none => 0
  | some (n, _) =>
    if (findEntry s n).isSome then 1
    else if (s.fw.held.map entryNumber) = some n then 2 else 3
/-- The Herd Book policy in force: the record as the last BOOT found it (R141, R183). -/
def hbPolicy (s : State) : Bytes := s.fw.hbPolicy
/-- The HB.HEAD body (R178). -/
def headBody (s : State) : Bytes :=
  let free := freeSlots s
  let last := (lastMade s).getD (0, zeros 32)
  leBytes 6 last.1 ++ [BitVec.ofNat 8 (headState s), BitVec.ofNat 8 (b2n (decide (free < u16 (hbPolicy s) 2)))] ++ last.2
    ++ leBytes 6 (oldestNumber s) ++ leBytes 6 (acked s) ++ leBytes 2 free ++ leBytes 2 (unacked s) ++ leBytes 6 (newestNumber s)
    ++ zeros 2

/-! ### Commands -/

/-- HB_HEAD (R178). -/
def execHbHead (p : Pail) (s : State) : Host.Outcome State Fault Refusal :=
  .next (serve s p.val 0x0D01 fun s _ r => okWith s r (headBody s))
/-- HB_READ (R179). -/
def execHbRead (p : Pail) (s : State) : Host.Outcome State Fault Refusal :=
  .next (serve s p.val 0x0D02 fun s _ r =>
    match findEntry s (u48 r.body 0) with
    | some e => okWith s r e
    | none =>
      match s.fw.held with
      | some e => if entryNumber e = u48 r.body 0 then (s, some (respond sNOT_PERSISTED r.command e)) else failed s sNOT_FOUND r
      | none => failed s sNOT_FOUND r)
/-- HB_ACK (R177, R180): `first` and `second` are the CODEs the programs of its pages end with. A held entry whose slot is freed is
written before the completion (R176, R185), so the command goes on while that write does. -/
def execHbAck (p : Pail) (first second : BitVec 4) (s : State) : Host.Outcome State Fault Refusal :=
  .next (serve s p.val 0x0D03 fun s _ r =>
    let n := u48 r.body 0
    if s.fw.ring.isSome then (s, none)
    else if newestNumber s < n then failed s sBAD_PARAMETER r 0x400000
    else if n ≤ acked s then okWith s r (headBody s)
    else match recordAck s n first second with
    | (false, s) => failed s sINTERNAL r
    | (true, s) =>
      let s := ringNext s 0
      if s.fw.ring.isSome then (s, none) else okWith s r (headBody s))
/-- HB_ANNOTATE (R170, R181). -/
def execHbAnnotate (p : Pail) (s : State) : Host.Outcome State Fault Refusal :=
  .next (serve s p.val 0x0D04 fun s _ r =>
    let s := { s with store := { s.store with annotations := s.store.annotations ++ [(r.part, r.body.take 1 ++ slice r.body 2 32)] } }
    okWith s r (leBytes 2 (annotationsUse s r.part)))
/-- HB_PUBKEY (R182). -/
def execHbPubkey (p : Pail) (s : State) : Host.Outcome State Fault Refusal :=
  .next (serve s p.val 0x0D05 fun s _ r =>
    okWith s r ((match s.store.hbKey with
      | some k => slice k.modulus 0 384 ++ slice k.cert 0 384 ++ leBytes 6 k.keyFrom
      | none => zeros 774) ++ zeros 2 ++ identityArea s))

end Sys2Proof.Machine
end

