-- ==== Sys2Proof/Machine/FirmUpd.lean ====
section
/-!
DEFINITION. Packages (R149 to R151), staging slots (R152, R563), the UPD. commands (R153 to R157), and the installation at BOOT
(R162 to R165, R567).
-/
namespace Sys2Proof.Machine

/-! ### Staging slots -/

/-- A staging slot's control block: slot 1 is A, bank 4; slot 2 is B, bank 5 (R152). -/
def getStaging (s : State) (i : Nat) : Staging := tget (fun _ => ⟨0, 0, [], 0, 0, 0⟩) s.store.staging i
/-- Set a slot's control block. -/
def setStaging (s : State) (i : Nat) (v : Staging) : State :=
  { s with store := { s.store with staging := tset (fun _ => ⟨0, 0, [], 0, 0, 0⟩) s.store.staging i v } }
/-- The bank of a slot. -/
def slotBank (i : Nat) : Nat := 3 + i
/-- The states of R152, in order from 0. -/
def stEMPTY : Nat := 0
def stRECEIVING : Nat := 1
def stSTAGED : Nat := 2
def stINSTALLING : Nat := 3
def stINSTALLED : Nat := 4
def stSUPERSEDED : Nat := 5
def stFAILED : Nat := 6
/-- Append a state page; a control block with no blank page is erased first (R563). -/
def writeStaging (s : State) (i : Nat) (v : Staging) : State :=
  let old := getStaging s i
  setStaging s i { v with pages := if 64 ≤ old.pages then 1 else old.pages + 1 }
/-- What the pages of a control block still tell once one more is added: those before an erase are gone (R563). -/
def earlierPages (s : State) (i : Nat) : Staging :=
  let v := getStaging s i
  if 64 ≤ v.pages then { v with digest := [], installSeq := 0, outcome := 0 } else v
/-- Write a state that has a digest or none, and an INSTALL_SEQ or 0; what a page does not hold an earlier one tells (log
entry 90). -/
def putState (s : State) (i st : Nat) (digest : Bytes) (seq : Nat) : State :=
  let v := earlierPages s i
  writeStaging s i { v with state := st, digest := if digest = [] then v.digest else digest,
                            installSeq := if seq = 0 then v.installSeq else seq }
/-- Write FAILED with its OUTCOME. -/
def putFailed (s : State) (i outcome : Nat) : State :=
  writeStaging s i { earlierPages s i with state := stFAILED, outcome := outcome }
/-- Erase a slot, its control block included: it is EMPTY. -/
def eraseSlot (s : State) (i : Nat) : State := setStaging (eraseBank s (slotBank i)) i ⟨0, 0, [], 0, 0, 0⟩
/-- Bytes of a slot's package. -/
def slotBytes (s : State) (i off n : Nat) : Bytes := bankBytes s (slotBank i) off n
/-- Pages of a slot that have been programmed. -/
def pagesProgrammed (s : State) (i : Nat) : Nat := ((List.range 4032).filter (fun q => !pageBlank s (slotBank i) q)).length
/-- Whether every page of a package has been programmed (R156). -/
def allProgrammed (s : State) (i total : Nat) : Bool := (List.range ((total + 4095) / 4096)).all (fun q => !pageBlank s (slotBank i) q)

/-! ### UPD. -/

/-- The slot of an open session, if the number is its own. -/
def updSlotOf (s : State) (r : Request) : Option Nat :=
  match s.fw.upd with
  | some (id, i) => if id = u32 r.body 0 then some i else none
  | none => none
/-- UPD_BEGIN (R153, R154). -/
def execUpdBegin (p : Pail) (s : State) : Host.Outcome State Fault Refusal :=
  .next (serve s p.val 0x0E01 fun s _ r =>
    let i := byteAt r.body 0
    if (getStaging s i).state = stINSTALLED then failed s sBAD_PARAMETER r 0x300000
    else if (getStaging s (3 - i)).state = stSTAGED ∨ s.fw.upd.isSome = true then failed s sEXISTS r
    else
      let s := writeStaging (eraseSlot s i) i { state := stRECEIVING, total := u32 r.body 4, digest := [], installSeq := 0, outcome := 0, pages := 0 }
      let id := s.fw.nextId
      okWith { s with fw := { s.fw with upd := some (id, i), nextId := id + 1 } } r (leBytes 4 id))
/-- The INTEGRITY completion of UPD.BLOCK, with the flash controller's CODE (R155). -/
def blockFailed (s : State) (r : Request) (code : Nat) : State × Option Response := failed s sINTEGRITY r (code * 65536)
/-- UPD.BLOCK (R155): `code` is the CODE the program ends with where the array decides it. -/
def updBlock (s : State) (r : Request) (code : BitVec 4) : State × Option Response :=
  match updSlotOf s r with
  | none => failed s sNOT_FOUND r
  | some i =>
    let off := u32 r.body 4
    let len := u16 r.body 8
    let total := (getStaging s i).total
    if total ≤ off then failed s sBAD_PARAMETER r 4
    else if total < off + len ∨ (len < 4096 ∧ off + len ≠ total) then failed s sBAD_PARAMETER r 8
    else
      let bank := slotBank i
      let page := off / 4096
      let n := bank * 64 + page / 64
      if !blockUsable s n then blockFailed s r 5
      else if !pageBlank s bank page then failed s sEXISTS r
      else if !s.flash.linkUp then blockFailed s r 8
      else if s.ext.dip.isSome then blockFailed s r 4
      else
        let data := packWords (r.body.drop 16 ++ List.replicate (4096 - len) 0xFF)
        if code = 2 then blockFailed (replaceMoved s n page) r 2
        else if code = 4 ∨ code = 8 then blockFailed (tornPage s (pageKey s bank page) data) r code.toNat
        else okWith (setPage s (pageKey s bank page) data) r []
/-- UPD_BLOCK (R155). -/
def execUpdBlock (p : Pail) (code : BitVec 4) (s : State) : Host.Outcome State Fault Refusal :=
  .next (serve s p.val 0x0E02 fun s _ r => updBlock s r code)
/-- UPD_STATUS (R156). -/
def execUpdStatus (p : Pail) (s : State) : Host.Outcome State Fault Refusal :=
  .next (serve s p.val 0x0E03 fun s _ r =>
    let i := byteAt r.body 0
    let v := getStaging s i
    let svn := if pageBlank s (slotBank i) 0 then 0 else leAt (pageBytes s (slotBank i) 0) 8 2
    okWith s r ([BitVec.ofNat 8 v.state, BitVec.ofNat 8 v.outcome] ++ leBytes 2 svn ++ leBytes 4 v.total
      ++ leBytes 4 (pagesProgrammed s i) ++ leBytes 4 v.installSeq ++ slice v.digest 0 32))
/-- UPD_COMMIT (R156): `readable` says that every page could be read (R411). -/
def execUpdCommit (p : Pail) (readable : Bool) (s : State) : Host.Outcome State Fault Refusal :=
  .next (serve s p.val 0x0E04 fun s _ r =>
    match updSlotOf s r with
    | none => failed s sNOT_FOUND r
    | some i =>
      let total := (getStaging s i).total
      if !allProgrammed s i total then failed s sBAD_PARAMETER r 0x310000
      else
        let s := { s with fw := { s.fw with upd := none } }
        if !readable ∨ s.flash.linkUp = false then failed s sINTEGRITY r
        else
          let digest := sha256 (slotBytes s i 0 total)
          okWith (putState s i stSTAGED digest 0) r digest)
/-- UPD_ABORT (R157). -/
def execUpdAbort (p : Pail) (s : State) : Host.Outcome State Fault Refusal :=
  .next (serve s p.val 0x0E05 fun s _ r =>
    let i := byteAt r.body 0
    if (getStaging s i).state = stINSTALLED then failed s sBAD_PARAMETER r 0x300000
    else
      let s := if (s.fw.upd.map (·.2)) = some i then { s with fw := { s.fw with upd := none } } else s
      okWith (eraseSlot s i) r [])

/-! ### Packages -/

/-- A component entry (R149). -/
structure Component where
  type : Nat
  image : Nat
  offset : Nat
  length : Nat
  digest : Bytes
  /-- Reserved bytes are 0. -/
  clean : Bool
  deriving DecidableEq, Repr
/-- Component entry i of a header. -/
def component (h : Bytes) (i : Nat) : Component :=
  let e := slice h (64 + 48 * i) 48
  { type := byteAt e 0, image := byteAt e 1, offset := u32 e 4, length := u32 e 8, digest := slice e 16 32,
    clean := zeroBytes e 2 4 && zeroBytes e 12 16 }
/-- N_COMP, if it is in its range. -/
def nComp (h : Bytes) : Nat := u16 h 6
/-- The components of a header. -/
def components (h : Bytes) : List Component := (List.range (nComp h)).map (component h)
/-- Whether a component's fields have the values R149 gives them. -/
def Component.ok (c : Component) (total : Nat) : Bool :=
  c.clean && (decide (c.type = 1) || decide (c.type = 2)) && (if c.type = 1 then decide (c.image = 0) else decide (c.image ≤ 15))
    && decide (c.offset % 4096 = 0) && decide (4096 ≤ c.offset) && decide (c.length ≤ if c.type = 1 then 0x200000 else 0x10000)
    && decide (c.offset + c.length ≤ total)
/-- Whether two components share a byte. -/
def Component.meets (a b : Component) : Bool :=
  decide (a.offset < b.offset + b.length) && decide (b.offset < a.offset + a.length)
/-- Whether no two of a list meet. -/
def noneMeet : List Component → Bool
  | [] => true
  | c :: rest => rest.all (fun d => !c.meets d) && noneMeet rest
/-- The cell components, in header order. -/
def cellComponents (h : Bytes) : List Component := (components h).filter (fun c => c.type == 2)
/-- The supervisor component. -/
def supComponent (h : Bytes) : Option Component := (components h).find? (fun c => c.type == 1)
/-- Well formed (R150). -/
def wellFormedPkg (h : Bytes) : Bool :=
  decide (h.take 6 = [0x4E, 0x4C, 0x47, 0x50, 3, 0]) && decide (1 ≤ nComp h) && decide (nComp h ≤ 17) && decide (byteAt h 10 = 3)
    && zeroBytes h 14 16 && zeroBytes h 20 64 && zeroBytes h 2416 4096
    && zeroBytes h (64 + 48 * nComp h) 880
    && (components h).all (fun c => c.ok (u32 h 16))
    && decide (((components h).filter (fun c => c.type == 1)).length = 1)
    && decide (((cellComponents h).map (·.image)).Nodup)
    && noneMeet (components h)
/-- The vendor conditions: signature, and the key's hash as the boot ROM holds it. -/
def vendorOk (h : Bytes) : Bool :=
  pssCheck (slice h 880 384) (h.take 880) (slice h 1264 384) && decide (keyHash (slice h 880 384) = beBytes 32 Config.firmwareKeyHash.toNat)
/-- The owner conditions: signature, and the key's hash in the current owner slot. -/
def ownerOk (s : State) (h : Bytes) : Bool :=
  pssCheck (slice h 1648 384) (h.take 880) (slice h 2032 384)
    && (match ownerSlot s with
      | some i => decide (keyHash (slice h 1648 384) = ownerHash s i)
      | none => false)

/-- The manifest: the header page of bank 0 (R151). -/
def manifest (s : State) : Bytes := pageBytes s 0 0
/-- The supervisor component where R151 puts it: bank 0 from byte 4096. -/
def activeSupervisor (s : State) : Bytes := ((supComponent (manifest s)).map (fun c => bankBytes s 0 4096 c.length)).getD []
/-- Cell component k of the manifest where R151 puts it: bank 1 from byte k x 65,536, k counted among the cell components in
header order. DEDUCED, log entry 31. -/
def activeCell (s : State) (k : Nat) (c : Component) : Bytes := bankBytes s 1 (k * 65536) c.length
/-- The cell components of the manifest with their numbers. -/
def manifestCells (s : State) : List (Nat × Component) := ((cellComponents (manifest s)).zipIdx).map (fun q => (q.2, q.1))
/-- Whether the active image verifies at step 5 (R150, R405). -/
def activeVerifies (s : State) : Bool :=
  s.flash.linkUp && wellFormedPkg (manifest s) && vendorOk (manifest s)
    && (match supComponent (manifest s) with
      | some c => decide (sha256 (activeSupervisor s) = c.digest)
      | none => false)
/-- SVN of a header. -/
def svnOf (h : Bytes) : Nat := u16 h 8
/-- The reference SVN for judging slot i (R567): that of the manifest where the active image verifies, or the highest of any other slot
INSTALLED or SUPERSEDED. `failed` says that the active image counts as failing, whatever bank 0 holds: it has failed at step 5, or is
treated so after an installation or a resume that failed (R163, R165). -/
def referenceSvn (s : State) (i : Nat) (failed : Bool) : Nat :=
  if !failed && activeVerifies s then svnOf (manifest s)
  else
    let j := 3 - i
    let st := (getStaging s j).state
    if st = stINSTALLED ∨ st = stSUPERSEDED then svnOf (pageBytes s (slotBank j) 0) else 0
/-- Whether the slot's package verifies for installation: the outcome code that refuses it, or 0 (R150, R164). -/
def judgeSlot (s : State) (i : Nat) (checkDigest readable failed : Bool) : Nat :=
  let v := getStaging s i
  let h := pageBytes s (slotBank i) 0
  if !readable then 7
  else if (checkDigest && decide (sha256 (slotBytes s i 0 v.total) ≠ v.digest)) || !wellFormedPkg h || decide (u32 h 16 ≠ v.total) then 2
  else if !vendorOk h then 3
  else if !ownerOk s h then 4
  else if svnOf h < referenceSvn s i failed then 5
  else if !(components h).all (fun c => decide (sha256 (slotBytes s i c.offset c.length) = c.digest)) then 6
  else 0

/-! ### Installation (R162 to R165) -/

/-- Program bytes into a bank from a page on. -/
def programRun (bank : Nat) : Nat → Nat → Bytes → State → State
  | 0, _, _, s => s
  | fuel + 1, page, bs, s =>
    match bs with
    | [] => s
    | _ => programRun bank fuel (page + 1) (bs.drop 4096) (programBytes s bank page (bs.take 4096))
/-- Step 3: banks 0 and 1 erased, the header page and components copied as R151 places them. -/
def copyPackage (s : State) (i : Nat) : State :=
  let h := pageBytes s (slotBank i) 0
  let part := fun (c : Component) => slotBytes s i c.offset c.length
  let s1 := programBytes (eraseBank (eraseBank s 0) 1) 0 0 h
  let s2 := match supComponent h with
    | some c => programRun 0 512 1 (part c) s1
    | none => s1
  (cellComponents h).zipIdx.foldl (fun t q => programRun 1 16 (16 * q.2) (part q.1) t) s2
/-- The highest INSTALL_SEQ found in either slot. -/
def topInstallSeq (s : State) : Nat := max (getStaging s 1).installSeq (getStaging s 2).installSeq
/-- Steps 3 to 5 of R162 from a slot that verifies and is INSTALLING; `copyOk` says that every component's DIGEST matches in its new
place. The outcome is 1, or 8 where the copy fails. A restoration leaves out step 5 (R163). -/
def copyFrom (s : State) (i : Nat) (copyOk supersede : Bool) : Nat × State :=
  let d := (getStaging s i).digest
  let seq := topInstallSeq s + 1
  let s := copyPackage s i
  if !copyOk then (8, putFailed s i 8)
  else
    let s := putState s i stINSTALLED d seq
    (1, if supersede && decide ((getStaging s (3 - i)).state = stINSTALLED) then putState s (3 - i) stSUPERSEDED [] 0 else s)
/-- Steps 2 to 5 of R162: INSTALLING is written first. -/
def installFrom (s : State) (i : Nat) (copyOk supersede : Bool) : Nat × State :=
  copyFrom (putState s i stINSTALLING (getStaging s i).digest 0) i copyOk supersede
/-- What step 4 did to the update fields of the entry. -/
def noteUpdate (s : State) (i outcome : Nat) (digest : Bytes) : State :=
  { s with fw := { s.fw with updSlot := i, updOutcome := outcome, updDigest := digest } }
/-- The slot in a state, if one is. -/
def slotIn (s : State) (st : Nat) : Option Nat := [1, 2].find? (fun i => decide ((getStaging s i).state = st))
/-- Two INSTALLED slots: the one with the lower INSTALL_SEQ becomes SUPERSEDED (R165). -/
def settleInstalled (s : State) : State :=
  let a := getStaging s 1
  let b := getStaging s 2
  if a.state = stINSTALLED ∧ b.state = stINSTALLED then putState s (if a.installSeq < b.installSeq then 1 else 2) stSUPERSEDED [] 0 else s
/-- Step 4 of R158: a torn installation is resumed, which repeats steps 1 and 3 to 5 (R165), or a STAGED slot installed (R162); whether
the active image is to be treated as failing to verify. -/
def installStep (s : State) (readable copyOk : Bool) : Bool × State :=
  let s := settleInstalled s
  match slotIn s stINSTALLING with
  | some i =>
    let d := (getStaging s i).digest
    let bad := judgeSlot s i true readable false
    if bad ≠ 0 then (true, noteUpdate (putFailed s i bad) i bad d)
    else
      let (o, s) := copyFrom s i copyOk true
      (decide (o ≠ 1), noteUpdate s i o d)
  | none =>
    match slotIn s stSTAGED with
    | none => (false, s)
    | some i =>
      let d := (getStaging s i).digest
      let bad := judgeSlot s i true readable false
      if bad ≠ 0 then (false, noteUpdate (putFailed s i bad) i bad d)
      else
        let (o, s) := installFrom s i copyOk true
        (decide (o ≠ 1), noteUpdate s i o d)
/-- Step 5's restoration from the INSTALLED slot (R163), outcome 9: the active image has failed to verify. -/
def restoreStep (s : State) (readable copyOk : Bool) : State :=
  match slotIn s stINSTALLED with
  | none => s
  | some i =>
    let d := (getStaging s i).digest
    let bad := judgeSlot s i false readable true
    if bad ≠ 0 then noteUpdate (putFailed s i bad) i bad d
    else
      let (o, s) := installFrom s i copyOk false
      noteUpdate s i (if o = 1 then 9 else o) d

end Sys2Proof.Machine
end

