-- ==== Sys2Proof/Machine/Platform.lean ====
section
/-!
DEFINITION. The platform ports (R430 to R455): flash-guard ports, device ports, control ports, and the time reference.
-/
namespace Sys2Proof.Machine

/-! ### Flash-guard ports (R434 to R442) -/

/-- MODE_NOW of a port: 0 HOLD, 1 PASS, 2 GUARD, 3 MEASURE. -/
def modeNow (s : State) (p : Nat) : Nat := getFld s (R.FGP_STATUS p) 15 14
/-- Whether the upstream CS# of a port is low. -/
def upCs (s : State) (p : Nat) : Bool := getBit s (R.FGP_STATUS p) 12
/-- Whether CTP_GATE.OPEN is 1 (R432). -/
def gateOpen (s : State) : Bool := getBit s R.CTP_GATE 0
/-- MODE_NOW follows MODE (R435). -/
def applyMode (s : State) (p : Nat) : State :=
  setBit (setFld s (R.FGP_STATUS p) 15 14 (getFld s (R.FGP_CTRL p) 1 0)) (R.FGP_STATUS p) 13 false
/-- A write of MODE (R432, R435): 3 is stored as 0; PASS or GUARD has no effect while OPEN is 0; while the upstream CS# is low,
or the port measures (log entry 32), the change is PENDING. -/
def writeMode (s : State) (p v : Nat) : State :=
  let v := if v = 3 then 0 else v
  if v ≠ 0 ∧ gateOpen s = false then s
  else
    let s := setFld s (R.FGP_CTRL p) 1 0 v
    if upCs s p ∨ modeNow s p = 3 then setBit s (R.FGP_STATUS p) 13 true else applyMode s p
/-- GO: a measurement begins, in HOLD only (R435, R438). -/
def startMeasure (s : State) (p : Nat) : State := if modeNow s p = 0 then setFld s (R.FGP_STATUS p) 15 14 3 else s
/-- A write of FGP_CTRL. -/
def writeGuardCtrl (s : State) (p : Nat) (v : BitVec 16) : State :=
  let s := writeMode s p (fld v 1 0)
  if bit v 15 then startMeasure s p else s
/-- A measurement ends with a RESULT: MEASURED or FAILED, and the port returns to HOLD (R438). -/
def measureResult (s : State) (p result : Nat) : State :=
  let s := setFld (setFld s (R.FGP_STATUS p) 15 14 0) (R.FGP_STATUS p) 3 0 result
  let s := eventBit s (R.FGP_EVENT p) (if result = 1 then 0 else 1) (320 + 2 * p)
  if getBit s (R.FGP_STATUS p) 13 && !upCs s p then applyMode s p else s
/-- The bytes a measurement reads: the LENGTHs of the ranges used. -/
def measuredLength (s : State) (p : Nat) : Nat :=
  ((List.range (min 4 (getFld s (R.FGP_MLIMIT p) 15 13))).map (fun r =>
    (regPair s (R.FGP_RANGE p (4 * r + 2)) (R.FGP_RANGE p (4 * r + 3))).toNat)).sum
/-- MEASURE: GO of a port. -/
def execMeasure (port : GuardPort) (s : State) : Host.Outcome State Fault Refusal :=
  .next (if hasMain s then startMeasure s port.val else s)
/-- MEASUREMENT_END (R438): `data` is what the flash returned for the ranges, in record order, or none where its
identification or the data strobe failed. -/
def execMeasurementEnd (port : GuardPort) (data : Option Bytes) (s : State) : Host.Outcome State Fault Refusal :=
  let p := port.val
  if modeNow s p ≠ 3 then .next s
  else match data with
    | none => .next (measureResult s p 2)
    | some bs =>
      if bs.length = measuredLength s p then .next (measureResult (setRegs s (R.FGP_DIGEST p 0) (packWords (sha256 bs))) p 1)
      else .next s
/-- MEASURE_TIME_LIMIT (R438): RESULT 3. -/
def execMeasureTimeLimit (port : GuardPort) (s : State) : Host.Outcome State Fault Refusal :=
  .next (if modeNow s port.val = 3 then measureResult s port.val 3 else s)
/-- FGP_MODE_WRITE (R435). -/
def execFgpModeWrite (port : GuardPort) (value : BitVec 16) (s : State) : Host.Outcome State Fault Refusal :=
  .next (if hasMain s then writeMode s port.val (fld value 1 0) else s)
/-- The upstream CS# rises: a pending change takes effect (R435). -/
def csRise (s : State) (p : Nat) : State :=
  let s := setBit s (R.FGP_STATUS p) 12 false
  if getBit s (R.FGP_STATUS p) 13 && decide (modeNow s p ≠ 3) then applyMode s p else s

/-- The opcodes that always carry four address bytes (R440). -/
def longOps : List Byte := [0x12, 0x21, 0x34, 0x3E, 0x5C, 0xDC]
/-- The span a judged command touches: its first byte and its last (R440). -/
def guardSpan (op : Byte) (a : Nat) : Option (Nat × Nat) :=
  let area := fun (k : Nat) => some (a / k * k, a / k * k + k - 1)
  if op ∈ [(0x02 : Byte), 0x12, 0x32, 0x34, 0x3E] then some (a, a)
  else if op ∈ [(0x20 : Byte), 0x21] then area 0x1000
  else if op ∈ [(0x52 : Byte), 0x5C] then area 0x8000
  else if op ∈ [(0xD8 : Byte), 0xDC] then area 0x10000
  else none
/-- Whether a span lies inside one window (R440). -/
def inWindow (s : State) (p lo hi : Nat) : Bool :=
  (List.range 8).any (fun w =>
    let st := (getReg s (R.FGP_WIN p (2 * w))).toNat
    let n := (getReg s (R.FGP_WIN p (2 * w + 1))).toNat
    decide (n ≠ 0) && decide (st * 4096 ≤ lo) && decide (hi < (st + n) * 4096))
/-- Whether an opcode is one of EXTRA_OPS. -/
def extraOp (s : State) (p : Nat) (op : Byte) : Bool :=
  decide (op ≠ 0) && (List.range 4).any (fun j => let x := getReg s (R.FGP_XOP p j); decide (x.setWidth 8 = op) || decide ((x >>> 8).setWidth 8 = op))
/-- The address a command carries: 3 bytes, or 4 (R440). -/
def guardAddr (s : State) (p : Nat) (op : Byte) (a : Nat) : Nat :=
  if op ∈ longOps ∨ getBit s (R.FGP_GCFG p) 9 = true then a else a % 2 ^ 24
/-- Whether the port refuses a command (R440). -/
def guardRefuses (s : State) (p : Nat) (op : Byte) (a : Nat) : Bool :=
  if op = 0x60 ∨ op = 0xC7 ∨ extraOp s p op = true then true
  else if op ∈ [(0x01 : Byte), 0x11, 0x31, 0x71, 0x72] then !getBit s (R.FGP_GCFG p) 11
  else match guardSpan op (guardAddr s p op a) with
    | some (lo, hi) => !inWindow s p lo hi
    | none => false
/-- A log entry (R442): the oldest is overwritten when all 16 are in use. -/
def guardLog (s : State) (p : Nat) (allowed : Bool) (op : Byte) (a : Nat) : State :=
  let e := getFld s (R.FGP_LOG_HEAD p) 3 0
  let used := getBit s (R.FGP_LOG p (4 * e)) 15
  let ws := [BitVec.ofNat 16 (0x8000 + b2n allowed * 0x4000 + op.toNat), BitVec.ofNat 16 a, BitVec.ofNat 16 (a / 65536),
    (s.bat.timeBase >>> 16).setWidth 16]
  let s := setFld (setRegs s (R.FGP_LOG p (4 * e)) ws) (R.FGP_LOG_HEAD p) 3 0 (e + 1)
  if used then setBit s (R.FGP_LOG_HEAD p) 15 true else s
/-- A refusal counts, sets BLOCKED and is logged (R442). -/
def guardRefused (s : State) (p : Nat) (op : Byte) (a : Nat) : State :=
  let s := eventBit (countReg s (R.FGP_BLOCKED p) 0xFFFF) (R.FGP_EVENT p) 2 (321 + 2 * p)
  guardLog s p false op (if (guardSpan op 0).isSome then guardAddr s p op a else 0)
/-- What of a command the downstream side carries: the opcode, and the address where R440 judges one; `whole` is false where the port
refuses it at the opcode (R441; log entry 113). -/
def guardBytes (s : State) (p : Nat) (op : Byte) (a : Nat) (whole : Bool) : Bytes :=
  let n := if op ∈ longOps ∨ getBit s (R.FGP_GCFG p) 9 = true then 4 else 3
  op :: (if whole && (guardSpan op 0).isSome then beBytes n a else [])
/-- GUARD_COMMAND: the upstream CS# falls and the master sends a command (R434, R440 to R442). In HOLD and MEASURE it is ignored, in PASS
and GUARD it reaches the flash; a refused one is cut off at the last bit its judgement depends on (R441). -/
def execGuardCommand (port : GuardPort) (opcode : Byte) (addr : BitVec 32) (s : State) : Host.Outcome State Fault Refusal :=
  let p := port.val
  if hasMain s = false ∨ upCs s p = true then .next s
  else
    let t := setBit s (R.FGP_STATUS p) 12 true
    let passed := Sent.port "FGP" p (guardBytes s p opcode addr.toNat true)
    if modeNow s p = 0 ∨ modeNow s p = 3 then .next t
    else if modeNow s p = 1 then .next (send t passed)
    else if guardRefuses s p opcode addr.toNat then
      .next (send (guardRefused t p opcode addr.toNat) (.port "FGP_CUT" p (guardBytes s p opcode addr.toNat (!extraOp s p opcode))))
    else if (guardSpan opcode 0).isSome ∧ getBit s (R.FGP_GCFG p) 10 = true then
      .next (send (guardLog t p true opcode (guardAddr s p opcode addr.toNat)) passed)
    else .next (send t passed)

/-! ### Device ports (R443 to R448) -/

/-- An event bit of a device port: TX_DONE and RX_DONE raise MESSAGE, BUS_ERR and IBI raise BUS. -/
def dvpEvent (s : State) (p i : Nat) : State := eventBit s (R.DVP_EVENT p) i ((if i ≤ 1 then 384 else 385) + 2 * p)
/-- Whether a message or address assignment is in progress. -/
def dvpBusy (s : State) (p : Nat) : Bool := getBit s (R.DVP_STATUS p) 15
/-- LAST of a device port. -/
def setLast (s : State) (p n : Nat) : State := setFld s (R.DVP_STATUS p) 13 12 n
/-- A message ends without a reply that can be used. -/
def dvpFailed (s : State) (p last : Nat) : State := dvpEvent (setBit (setLast s p last) (R.DVP_STATUS p) 15 false) p 1
/-- SEND (R444): the transmit buffer is read under master 580 and sent. A length outside 1 to 8192 or a refused read ends the
message with LAST 3; SEND while BUSY has no effect (log entry 33). -/
def dvpSend (s : State) (p : Nat) : State :=
  let n := getFld s (R.DVP_TX_LEN p) 13 0
  let a := (regPair s (R.DVP_TX_ADDR p 0) (R.DVP_TX_ADDR p 1)).toNat
  if dvpBusy s p then s
  else if n = 0 ∨ 8192 < n then dvpFailed s p 3
  else match opRead s 580 a ((n + 1) / 2) with
    | (.waits, s) => s
    | (.refused, s) => dvpFailed s p 3
    | (.words ws, s) => dvpEvent (setBit (send s (.port "DVP" p ((unpackWords ws).take n))) (R.DVP_STATUS p) 15 true) p 0
/-- ADDRESS (R446 step 1): the responder takes an address or none answers. -/
def dvpAddress (s : State) (p : Nat) (acked : Bool) : State :=
  if dvpBusy s p then s
  else if acked then setLast (setBit s (R.DVP_STATUS p) 14 true) p 0
  else dvpEvent (setLast (setBit s (R.DVP_STATUS p) 14 false) p 1) p 2
/-- A reply (R444), once its buffer does not wait (R188, R214): the receive buffer is written with words tagged DATA under master 580; a longer reply than 8192 bytes is
discarded with LAST 3. -/
def dvpReceive (s : State) (p : Nat) (bytes : Bytes) (err : Bool) : State :=
  let a := (regPair s (R.DVP_RX_ADDR p 0) (R.DVP_RX_ADDR p 1)).toNat
  if !dvpBusy s p then s
  else if err then dvpFailed (dvpEvent s p 2) p 3
  else if 8192 < bytes.length then dvpFailed s p 3
  else
    match opWrite s 580 a ((packWords bytes).map dataWord) with
    | (.waits, s) => s
    | (.done, s) => dvpFailed (setFld s (R.DVP_RX_LEN p) 13 0 bytes.length) p 0
    | (_, s) => dvpFailed s p 3
/-- No reply within DVP_TIMEOUT: LAST 2. -/
def dvpTimeout (s : State) (p : Nat) : State := if dvpBusy s p then dvpFailed s p 2 else s
/-- SEND. -/
def execSend (port : DevPort) (s : State) : Host.Outcome State Fault Refusal :=
  .next (if hasMain s then dvpSend s port.val else s)
/-- IBI (R448, R454): acknowledged and counted with IBI_EN outside an exchange; refused with NACK without IBI_EN. -/
def execIbi (port : DevPort) (s : State) : Host.Outcome State Fault Refusal :=
  let p := port.val
  if !hasMain s then .next s
  else if !getBit s (R.DVP_CFG p) 13 then .next (dvpEvent s p 2)
  else if dvpBusy s p then .next s
  else .next (dvpEvent (countReg s (R.DVP_IBI_COUNT p) 0xFFFF) p 3)

/-! ### Control ports (R449) -/

/-- CTP_GATE (R432): writing 1 sets OPEN; nothing but a reset clears it. -/
def writeGate (s : State) (v : BitVec 16) : State := if bit v 0 then setBit s R.CTP_GATE 0 true else s
/-- CTP_GATE. -/
def execCtpGate (value : BitVec 16) (s : State) : Host.Outcome State Fault Refusal := .next (if hasMain s then writeGate s value else s)
/-- CTP_OUT (R449). -/
def execCtpOut (port : CtlPort) (value : BitVec 16) (s : State) : Host.Outcome State Fault Refusal :=
  .next (if hasMain s then setReg s (R.CTP_OUT port.val) (value &&& 7) else s)
/-- The pins of a control port as CTP_IN shows them (R449): outputs are driven only while OPEN is 1. -/
def ctpPins (s : State) (p : Nat) : BitVec 16 :=
  let out := getReg s (R.CTP_OUT p)
  let o := gateOpen s
  let aux := if o && getBit s (R.CTP_CFG p) 2 then bit out 2 else s.ext.ctpAux.getLsbD p
  BitVec.ofNat 16 (b2n (o && bit out 0) * 8 + b2n (o && bit out 1) * 4 + b2n aux * 2 + b2n (s.ext.ctpStat.getLsbD p))
/-- STAT_EDGE (R449): the level of STAT changes; a selected edge sets STAT_EDGE and raises 612. -/
def execStatEdge (port : CtlPort) (level : Bool) (s : State) : Host.Outcome State Fault Refusal :=
  let p := port.val
  let m : BitVec 32 := 1 <<< p
  if s.ext.ctpStat.getLsbD p = level then .next s
  else
    let s := { s with ext := { s.ext with ctpStat := if level then s.ext.ctpStat ||| m else s.ext.ctpStat &&& ~~~m } }
    if hasMain s ∧ getBit s (R.CTP_CFG p) (if level then 0 else 1) = true then .next (eventBit s (R.CTP_EVENT p) 0 612) else .next s

/-! ### The time reference (R452, R453) -/

/-- PPS_LOCKED. -/
def ppsLocked (s : State) : Bool := getBit s R.CLK_TREF_STATUS 15
/-- Lock is lost: counted in MISSED, event 613 (R453). -/
def ppsLost (s : State) : State :=
  if ppsLocked s then raise (countFld (setBit s R.CLK_TREF_STATUS 15 false) R.CLK_TREF_STATUS 7 0) 613 else s
/-- The slew that brings an edge at a time of the time base onto the nearest multiple of 1,000,000 µs. -/
def slewFor (t : Nat) : Int := let r : Int := t % 1000000; if r < 500000 then -r else 1000000 - r
/-- PPS_EDGE (R453): a rising edge at a time in µs of the reference's own count. -/
def execPpsEdge (atUs : Nat) (s : State) : Host.Outcome State Fault Refusal :=
  if !hasMain s then .next s
  else
    let good := match s.pps.last with
      | some l => decide (l + 999950 ≤ atUs) && decide (atUs ≤ l + 1000050)
      | none => false
    let run := if good then min 4 (s.pps.run + 1) else 0
    let s := { s with pps := { s.pps with last := some atUs, run := run } }
    let s := if !good then ppsLost s else if run = 4 ∧ ppsLocked s = false then raise (setBit s R.CLK_TREF_STATUS 15 true) 613 else s
    .next (if ppsLocked s then { s with pps := { s.pps with slew := slewFor s.bat.timeBase.toNat } } else { s with pps := { s.pps with slew := 0 } })
/-- PPS_TIMEOUT (R453): no edge within 1,000,050 µs of the last. -/
def execPpsTimeout (s : State) : Host.Outcome State Fault Refusal :=
  if hasMain s ∧ s.pps.last.isSome = true then .next (ppsLost { s with pps := { last := none, run := 0, slew := 0, since := 0 } }) else .next s
/-- XTAL_STATUS_CHANGE (R452, R453): event 613. -/
def execXtalStatusChange (ok : Bool) (s : State) : Host.Outcome State Fault Refusal :=
  let s := { s with ext := { s.ext with xtalOk := ok } }
  if hasMain s ∧ getBit s R.CLK_TREF_STATUS 14 ≠ ok then .next (raise (setBit s R.CLK_TREF_STATUS 14 ok) 613) else .next s
/-- One tick of the time base, 1 µs (R452, R453): while main power or VBAT keeps it; in VIGIL only with the crystal. A slew
skips or repeats one tick in a thousand at most. -/
def tick (s : State) : State :=
  let p := s.pps
  let advance := fun (s : State) (n : Nat) => { s with bat := { s.bat with timeBase := s.bat.timeBase + BitVec.ofNat 48 n } }
  if hasMain s then
    if p.slew ≠ 0 ∧ 999 ≤ p.since then
      if 0 < p.slew then advance { s with pps := { p with slew := p.slew - 1, since := 0 } } 2
      else { s with pps := { p with slew := p.slew + 1, since := 0 } }
    else advance { s with pps := { p with since := min 999 (p.since + 1) } } 1
  else if s.ext.vbat && s.ext.xtalOk then advance s 1
  else s

end Sys2Proof.Machine
end

