-- ==== Sys2Proof/Machine/Boot.lean ====
section
/-!
DEFINITION. The BOOT sequence (R158 to R161, R566) from the end of scrubbing to the mode it leads to: the boot ROM's steps, the
loading and testing of the vats, platform measurement, the Herd Book entry (R166 to R173), and the release of the platform
(R433, R451). `Boot.step` is the step of R158 that BOOT waits in, 15 while release steps wait, and 13 once BOOT has ended.
-/
namespace Sys2Proof.Machine

/-! ### Reasons and the end of BOOT -/

/-- REASONs of PWR_MODE (R42). -/
def rNO_IMAGE : Nat := 1
def rIMAGE_BAD : Nat := 2
def rKEY_SHARE_LOST : Nat := 3
def rSELF_TEST : Nat := 4
def rOWNER_REQUEST : Nat := 5
def rLOWERED : Nat := 6

/-- The step BOOT has got to. -/
def setStep (s : State) (n : Nat) : State := { s with boot := { s.boot with step := n } }
/-- BOOT ends in RECOVERY before any release (R159, R160). -/
def bootFails (s : State) (reason : Nat) (monitor : Bool) : State :=
  endBoot { s with fw := { s.fw with monitor := monitor } } mRECOVERY reason
/-- The REASON BOOT ends with, 0 for SERVICE: a failure's before a request's (R159). -/
def bootReason (s : State) : Nat :=
  if s.fw.failReason ≠ 0 then s.fw.failReason else if s.boot.recoveryRequest then rOWNER_REQUEST else 0

/-! ### Step 14: service modes and release (R433, R451) -/

/-- Whether a flash-guard port's mode change waits. -/
def anyPending (s : State) : Bool := (List.range 32).any (fun p => getBit s (R.FGP_STATUS p) 13)
/-- What a step of the release order does (R450). -/
def releaseAction (s : State) (port action : Nat) : State :=
  match action with
  | 1 => setBit s (R.CTP_OUT port) 1 true
  | 2 => setBit s (R.CTP_OUT port) 0 true
  | 3 => setBit (setBit s (R.CTP_CFG port) 2 true) (R.CTP_OUT port) 2 true
  | 4 => setBit (setBit s (R.CTP_CFG port) 2 true) (R.CTP_OUT port) 2 false
  | _ => s
/-- Whether a step's wait is over at once: no time, or the level is there. -/
def waitMet (s : State) (port wait time : Nat) : Bool :=
  if wait = 0 then decide (time = 0) else s.ext.ctpStat.getLsbD port == decide (wait = 1)
/-- Carry out steps until one waits: its wait stands first in the list. -/
def runRelease (s : State) : List (Nat × Nat × Nat) → State
  | [] => endBoot { s with fw := { s.fw with release := [] } } (if bootReason s = 0 then mSERVICE else mRECOVERY) (bootReason s)
  | (port, action, wt) :: rest =>
    let s := releaseAction s port action
    if waitMet s port (wt / 256) (wt % 256) then runRelease s rest
    else setStep { s with fw := { s.fw with release := (port, action, wt) :: rest } } 15
/-- The steps of the release order (R450). -/
def releaseSteps (s : State) : List (Nat × Nat × Nat) :=
  let d := cfgRecord s 4 0
  (List.range (byteAt d 0)).map (fun i => (byteAt d (4 + 4 * i), byteAt d (5 + 4 * i), byteAt d (6 + 4 * i) * 256 + byteAt d (7 + 4 * i)))
/-- Once no mode change waits: FGP_LOCK and the release order, or on an unclaimed device the pass-through defaults and UNCLAIMED, a
recovery request of the reset notwithstanding: R45 and PWR_RESET name RECOVERY, R161 ends the BOOT of a device with no owner in
UNCLAIMED. DESIGN CHOICE, log entry 95. -/
def releaseGo (s : State) : State :=
  if anyPending s then s
  else if ownerSlot s = none then
    endBoot ((List.range 32).foldl (fun s p => setReg s (R.CTP_OUT p) ((getReg s (R.CTP_OUT p)) ||| 3)) s) mUNCLAIMED 0
  else runRelease (setBit s R.FGP_LOCK 0 true) (releaseSteps s)
/-- SERVICE_MODE of a flash-guard port's record (R436); PASS on an unclaimed device (R433). -/
def serviceMode (s : State) (p : Nat) : Nat := if ownerSlot s = none then 1 else byteAt (cfgRecord s 2 p) 0
/-- Step 14 begins: OPEN, then every flash-guard port's mode. -/
def startRelease (s : State) : State :=
  let s := writeGate s 1
  let s := (List.range 32).foldl (fun s p => writeMode s p (serviceMode s p)) s
  releaseGo (setStep s 14)
/-- The end of BOOT after step 12: released, or held in RECOVERY (R160). A BOOT in which step 12 has not been carried out releases
nothing, whatever RECOVERY_RELEASE says, since step 14 follows step 12 (R158, R159; DEDUCED, log entry 102). -/
def releaseOrHold (s : State) : State :=
  let r := bootReason s
  if r = 0 ∨ byteAt (hbPolicy s) 1 = 1 then startRelease s else endBoot s mRECOVERY r
/-- RELEASE_WAIT_END (R451): a wait ends, or one for STAT times out: a record, and with ON_TIMEOUT 1 the end of the order. -/
def execReleaseWaitEnd (met : Bool) (s : State) : Host.Outcome State Fault Refusal :=
  if s.boot.step ≠ 15 then .next s
  else match s.fw.release with
  | [] => .next s
  | (port, _, wt) :: rest =>
    if wt / 256 = 0 ∨ waitMet s port (wt / 256) (wt % 256) = true then .next (runRelease s rest)
    else if met then .next s
    else
      let s := fault s 2 612 .none 580 0
      .next (runRelease s (if byteAt (cfgRecord s 4 0) 1 = 1 then [] else rest))
/-- UPSTREAM_CS_RISE (R433, R435, R451): a pending mode takes effect; BOOT goes on when none is PENDING. -/
def execUpstreamCsRise (port : GuardPort) (s : State) : Host.Outcome State Fault Refusal :=
  let s := csRise s port.val
  .next (if s.boot.step = 14 then releaseGo s else s)

/-! ### Steps 10 to 13: the entry (R168 to R173) -/

/-- The signing vats (R566): logical 0-31, loaded, tested and not HALTED. -/
def signingVats (s : State) : List Nat := those 32 (fun n => decide (vatStateOf s n = 0) && (getVat s (phys s n)).churn.katPass
  && (getVat s (phys s n)).mac.katPass)
/-- A record of R171. -/
def configItem (item index : Nat) (d : Bytes) : Bytes := leBytes 2 item ++ leBytes 2 index ++ leBytes 2 d.length ++ [0, 0] ++ d
/-- A curve as CURVE.LOAD brought it (R133). -/
def curveBody (i : Nat) (c : Curve) : Bytes :=
  [BitVec.ofNat 8 i, BitVec.ofNat 8 c.bytes] ++ [c.p, c.a, c.b, c.gx, c.gy, c.n].flatMap (beBytes c.bytes) ++ [BitVec.ofNat 8 c.h]
/-- CONFIG_DIGEST (R171). The DATA of the policy and of a curve is the body of the command that brought it: DESIGN CHOICE, log
entry 35. -/
def configDigest (s : State) : Bytes :=
  let recs := s.store.configs.flatMap (fun q => match q.2 with
    | some d => configItem (q.1 / 65536) (q.1 % 65536) d
    | none => [])
  let pol := match s.store.policy with
    | some p => configItem 0x100 0 p.body
    | none => []
  let curves := s.store.curves.flatMap (fun q => match q.2 with
    | some c => configItem 0x101 q.1 (curveBody q.1 c)
    | none => [])
  let cal := s.store.cal.flatMap (fun q => match q.2 with
    | some v => configItem 0x102 q.1 (wordBytes v)
    | none => [])
  sha256 (recs ++ pol ++ curves ++ cal)
/-- Whether a flash-guard port's record enables measurement. -/
def fgpMeasured (s : State) (p : Nat) : Bool := bit (BitVec.ofNat 16 (byteAt (cfgRecord s 2 p) 1)) 0
/-- Whether a device port's record enables measurement. -/
def dvpMeasured (s : State) (p : Nat) : Bool := bit (BitVec.ofNat 16 (byteAt (cfgRecord s 3 p) 0)) 0
/-- Bytes 0-33 of a port's record: STATUS 2 and above leave the digest 0 (R169). -/
def portRecord (p status : Nat) (digest : Bytes) : Bytes :=
  [BitVec.ofNat 8 p, BitVec.ofNat 8 status] ++ (if status ≤ 1 then slice digest 0 32 else zeros 32)
/-- A flash-guard port's record (R439). -/
def fgpRecord (s : State) (p : Nat) : Bytes :=
  let d := (List.range 16).flatMap (fun j => wordBytes (getReg s (R.FGP_DIGEST p j)))
  let ref := slice (cfgRecord s 2 p) 44 32
  let result := getFld s (R.FGP_STATUS p) 3 0
  portRecord p (if result = 1 then (if ref ≠ zeros 32 ∧ ref ≠ d then 1 else 0) else if result = 3 then 3 else 2) d
/-- What the exchange of a device port ended with, once it has. -/
def dvpResult (s : State) (p : Nat) : Option (Nat × Bytes) := tget (fun _ => none) s.fw.dvp p
/-- The records of an entry before its annotations (R169). -/
def portRecords (s : State) : Bytes × Nat × Nat × Nat :=
  let f := those 32 (fgpMeasured s)
  let d := those 48 (dvpMeasured s)
  let cell := fun (c : CellRec) => [BitVec.ofNat 8 c.image, BitVec.ofNat 8 c.status] ++ slice c.digest 0 32
  let dev := fun p => let q := (dvpResult s p).getD (3, []); portRecord p q.1 q.2
  (s.fw.cells.flatMap cell ++ f.flatMap (fgpRecord s) ++ d.flatMap dev, s.fw.cells.length, f.length, d.length)
/-- The annotations that fit (R170). -/
def annotationsFit (s : State) (records : Nat) : List (Nat × Bytes) := s.store.annotations.take ((4096 - 640 - 34 * records) / 34)
/-- BRIDGE, LINK_BOOT_NUMBER, LINK_HASH and PREV_HASH (R173). -/
def entryLinks (s : State) : Bool × Nat × Bytes × Bytes :=
  match lastMade s with
  | none => (false, 0, zeros 32, zeros 32)
  | some (n, h) =>
    match findEntry s n with
    | some e => (false, 0, zeros 32, sha256 e)
    | none =>
      match newestEntry s with
      | some (_, e) => (true, entryNumber e, sha256 e, h)
      | none => (true, 0, zeros 32, h)
/-- A list of bits as a number, bit 0 first. -/
def bitsNat (l : List Bool) : Nat := l.foldr (fun b n => b2n b + 2 * n) 0
/-- VATS_OUT (R168): physical positions whose vat is retired or HALTED. -/
def vatsOut (s : State) : Nat :=
  bitsNat ((List.range 34).map (fun p => let v := vatStateOf s (logicalOf s p); decide (v = 3) || decide (v = 5)))
/-- The entry without its signature (R168 to R171). -/
def buildEntry (s : State) : Bytes :=
  let (recs, nc, nf, nd) := portRecords s
  let ann := annotationsFit s (nc + nf + nd)
  let (bridge, linkN, linkH, prev) := entryLinks s
  let reason := bootReason s
  let t := s.store.tally
  let n8 := BitVec.ofNat 8
  let len := 256 + 34 * (nc + nf + nd + ann.length) + 384
  let flags := b2n bridge + 2 * b2n (decide (ann.length < s.store.annotations.length)) + 4 * b2n (ppsLocked s)
  let fired := bitsNat ((List.range 48).map (fun i => decide (tget (fun _ => (0 : Nat)) s.store.snapshot i < evidence s i)))
  [0x48, 0x42, 0x4B, 0x54, 3, 0] ++ leBytes 2 len ++ leBytes 6 s.fw.bootNumber ++ [n8 (if reason = 0 then 4 else 5), n8 reason]
    ++ serialBytes s ++ leBytes 6 s.bat.timeBase.toNat ++ [n8 flags, n8 ((ownerSlot s).getD 0)] ++ prev ++ configDigest s
    ++ slice s.fw.supDigest 0 32 ++ slice s.fw.version 0 4 ++ leBytes 2 s.fw.svn ++ [n8 nc, n8 nf, n8 nd, n8 ann.length, 0, 0]
    ++ leBytes 6 linkN ++ [n8 s.fw.updSlot, n8 s.fw.updOutcome] ++ linkH ++ slice s.fw.updDigest 0 32 ++ leBytes 6 fired
    ++ wordBytes (getReg s R.PWR_RSTCAUSE) ++ leBytes 4 (min 0xFFFFFFFF (evidenceGained s)) ++ leBytes 4 (min 0xFFFFFFFF t.disagree)
    ++ leBytes 4 (min 0xFFFFFFFF t.faults) ++ slice (t.first.flatMap wordBytes) 0 16 ++ leBytes 5 (vatsOut s)
    ++ [n8 (those 32 (fun n => decide (vatStateOf s n = 0))).length, 0, 0]
    ++ recs ++ ann.flatMap (fun a => n8 a.1 :: slice a.2 0 33)

/-- ENTRY_BUILD (R158 step 10): when every measurement has ended; the entry goes to the lowest signing vat (R566). The evidence counts it
tells of are kept, so that what is programmed later is in the next entry (R168). -/
def execEntryBuild (s : State) : Host.Outcome State Fault Refusal :=
  let measuring := (List.range 32).any (fun p => decide (modeNow s p = 3))
  let exchanging := (List.range 48).any (fun p => dvpMeasured s p && (dvpResult s p).isNone)
  if s.boot.step ≠ 10 ∨ measuring = true ∨ exchanging = true then .next s
  else
    let s := tallyWrite s
    let e := buildEntry s
    let snap := (List.range 48).foldl (fun t i => tset (fun _ => (0 : Nat)) t i (evidence s i)) s.store.snapshot
    .next (setStep { s with fw := { s.fw with entry := some e, snapNow := snap, configDigest := configDigest s, signVat := (signingVats s).head?, attempts := 0 } } 11)

/-- The head record's words for the entry being made (R489). -/
def entryHead (s : State) (e : Bytes) : List (BitVec 16) :=
  headWords (entryNumber e) ((ownerSlot s).getD 0) (byteAt e 14) (sha256 e)
/-- Step 12: HEAD's write begins, or waits for a repair in progress; a refused write is tried three times (R159). -/
def commitHead (s : State) : State :=
  match s.fw.entry with
  | none => s
  | some e =>
    if s.tag.job.isSome then s
    else match tagWriteRefused s 1 with
      | some _ => bootFails { s with fw := { s.fw with entry := none, tagTries := 3 } } rSELF_TEST false
      | none => startTagWrite s 1 (entryHead s e)
/-- The next signing vat upward, returning to the lowest (R566). -/
def nextSigner (s : State) (n : Nat) : Option Nat :=
  match (signingVats s).find? (fun m => decide (n < m)) with
  | some m => some m
  | none => (signingVats s).head?
/-- A vat's churn has come to the end of signing the entry (R158 step 11, R159, R172): the salt and the draws of the two runs, then their
compare (R241, R242). The cell that submits the job is cell 0, and the descriptor's waddr in a record is a free value. A draw that no
source can meet counts as one of the three attempts: DESIGN CHOICE, log entry 128. -/
def signEntry (s : State) (n : Nat) (mismatch : Bool) : State :=
  let p := phys s n
  match s.fw.entry, s.store.hbKey.bind (fun k => kwUnwrap (hbWrapKey (rootKey s 1)) k.wrapped) with
  | some e, some mat =>
    match drawAll (churnTurn s p 0) p 2 (256 :: allDraws 0x11 192 p256) with
    | (.waits, _, _) => s
    | (.stopped, _, s) => retry (eventVat s (R.CHN_EVENT p) 3 p 6) n
    | (.served, _, s) =>
      if mismatch then
        let (x, s) := drawBits s 32
        retry (mismatchRecord s p 0 0x11 (BitVec.ofNat 32 x)) n
      else
        let s := countReg s (R.CHN_OPS p) 0xFFFF
        let (salt, s) := drawBytes s 32
        let full := e ++ rsaPrivate mat 192 (beNat (pssEncode (sha256 e) salt (16 * 192)))
        commitHead (setStep { s with fw := { s.fw with entry := some full, signVat := none } } 12)
  | _, _ => s
where retry (s : State) (n : Nat) : State :=
  if 2 ≤ s.fw.attempts then bootFails { s with fw := { s.fw with entry := none, signVat := none } } rSELF_TEST false
  else { s with fw := { s.fw with attempts := s.fw.attempts + 1, signVat := nextSigner s n } }
/-- CHURN_JOB_END (R158 step 11, R227): the job that holds the multiplier, or the signing of the entry where the churn is given
none by a cell. -/
def execChurnJobEnd (vat : VatId) (mismatch : Bool) (s : State) : Host.Outcome State Fault Refusal :=
  let p := phys s vat.val
  if s.boot.step = 11 ∧ s.fw.signVat = some vat.val ∧ (getVat s p).churn.busy = false then .next (signEntry s vat.val mismatch)
  else .next (churnJobEnd s p mismatch)

/-- The entry has been made (R166): snapshot and tally start anew, its annotations are gone, KEY_FROM and PWR_RSTCAUSE follow,
and it goes to the ring; then step 14 (R158, R53). -/
def entryMade (s : State) (e : Bytes) : State :=
  let n := entryNumber e
  let now := fun i => tget (fun _ => (0 : Nat)) s.fw.snapNow i
  let gained := (List.range 48).foldl (fun n i => n + (now i - tget (fun _ => (0 : Nat)) s.store.snapshot i)) 0
  let key := s.store.hbKey.map (fun k => if k.keyFrom = 0 then { k with keyFrom := n } else k)
  let st := { s.store with snapshot := s.fw.snapNow, lastEvents := min 0xFFFFFFFF gained, tally := { faults := 0, disagree := 0, first := [] },
                           annotations := s.store.annotations.drop (byteAt e 137), hbKey := key }
  let s := setReg { s with store := st, fw := { s.fw with entry := none } } R.PWR_RSTCAUSE 0
  releaseOrHold (persist s e)
/-- TAG_PROGRAM_END (R482, R158 step 12): a programming step of the tag ends; HEAD's commit makes the entry, and STATUS is
written after HEAD (R490). -/
def execTagProgramEnd (field : Bool) (s : State) : Host.Outcome State Fault Refusal :=
  let wasHead := decide ((s.tag.job.map (·.record)) = some 1)
  let s := tagProgramEnd s field
  let s := if s.boot.step ≠ 12 then s
    else match s.fw.entry with
      | none => s
      | some e =>
        if tagWordsOf s 1 = entryHead s e ++ List.replicate (24 - (entryHead s e).length) 0 ∨ tagWordsOf s 1 = entryHead s e
        then entryMade s e
        else if s.tag.job = none then commitHead s else s
  .next (if wasHead ∧ s.tag.job = none ∧ 12 ≤ s.boot.step then putRecord s 2 (statusWords s false (mode s) (s.store.lastEvents + evidenceGained s)) else s)

/-! ### Steps 7 and 9: vats and platform measurement -/

/-- Step 7 has ended (R158, R159, R561, R566): the failures it leaves, and what comes next. Where a cell component fails and fewer than 24
vats pass while one can sign, REASON is IMAGE_BAD: R566 orders the two only where none can. DESIGN CHOICE, log entry 129. -/
def afterTests (s : State) : State :=
  let passed := (signingVats s).length
  let imageBad := s.fw.cells.any (fun c => c.status != 0) || s.fw.cells.isEmpty
  let reason := if imageBad then rIMAGE_BAD else if passed < 24 then rSELF_TEST else 0
  let s := { s with fw := { s.fw with failReason := reason } }
  if ownerSlot s = none then (if reason = 0 then startRelease s else bootFails s reason false)
  else if passed = 0 then bootFails s reason false
  else setStep s 10
/-- Step 7 ends when no load and no test is left. -/
def checkTests (s : State) : State := if s.boot.step = 7 ∧ s.fw.loadWait = [] ∧ s.fw.katWait = [] then afterTests s else s
/-- LOAD_COMPLETE (R191): in BOOT the curves of bank 3 are loaded (R240) and the tests of the vat's churn and MAC unit begin;
a reload's end is judged (R215). -/
def execLoadComplete (vat : VatId) (s : State) : Host.Outcome State Fault Refusal :=
  let n := vat.val
  let p := phys s n
  if (getVat s p).loading = none then .next s
  else
    let s := reloadDone (loadComplete s p) n
    if s.boot.step = 7 ∧ n ∈ s.fw.loadWait then
      let s := { s with fw := { s.fw with loadWait := s.fw.loadWait.erase n, katWait := s.fw.katWait ++ [n] } }
      .next (checkTests (writeMacKat (writeChnKat (restoreCurves s n) p 0x8000) p 0x8000))
    else .next s
/-- Both tests of a vat have ended: it takes tickets, or is left HALTED (R159, or by R240). -/
def testsEnd (s : State) (n : Nat) : State :=
  let v := getVat s (phys s n)
  if n ∉ s.fw.katWait ∨ v.churn.kat = true ∨ v.mac.kat = true then s
  else
    let s := { s with fw := { s.fw with katWait := s.fw.katWait.erase n } }
    let s := if v.churn.katPass && v.mac.katPass then (if vatStateOf s n = 5 then s else activate s n)
      else setVatState { s with fw := { s.fw with katFailed := n :: s.fw.katFailed } } n 5
    checkTests s
/-- CHURN_KAT_END (R158 step 7, R253). -/
def execChurnKatEnd (vat : VatId) (pass : Bool) (s : State) : Host.Outcome State Fault Refusal :=
  .next (testsEnd (chnKatEnd s (phys s vat.val) pass) vat.val)
/-- MAC_KAT_END (R158 step 7, R278). -/
def execMacKatEnd (vat : VatId) (pass : Bool) (s : State) : Host.Outcome State Fault Refusal :=
  .next (testsEnd (macKatEnd s (phys s vat.val) pass) vat.val)

/-- A flash-guard port's registers as its record says (R438). -/
def loadGuard (s : State) (p : Nat) : State :=
  match getCfg s 2 p with
  | none => s
  | some d =>
    let v := byteAt d
    let fl := BitVec.ofNat 16 (v 1)
    let w := fun (n : Nat) => BitVec.ofNat 16 n
    let s := setReg s (R.FGP_MCFG p) (w (v 4 * 256 + b2n (bit fl 1) * 128 + v 2 * 32))
    let s := setReg (setReg s (R.FGP_MREAD p) (w (v 5 * 256 + v 6))) (R.FGP_MLIMIT p) (w (v 7 * 0x2000 + u16 d 8))
    let s := setReg s (R.FGP_GCFG p) (w (v 3 * 0x1000 + b2n (bit fl 2) * 0x800 + b2n (bit fl 3) * 0x400 + b2n (bit fl 1) * 0x200))
    let s := setRegs s (R.FGP_RANGE p 0) ((List.range 16).map (fun j => w (u16 d (12 + 2 * j))))
    let s := setRegs s (R.FGP_WIN p 0) ((List.range 16).map (fun j => w (u16 d (76 + 2 * j))))
    setRegs s (R.FGP_XOP p 0) ((List.range 4).map (fun j => w (u16 d (108 + 2 * j))))
/-- A device port's registers as its record says (R445). -/
def loadDevice (s : State) (p : Nat) : State :=
  match getCfg s 3 p with
  | none => s
  | some d =>
    let fl := byteAt d 0
    let s := setReg s (R.DVP_CFG p) (BitVec.ofNat 16 (fl / 2 % 2 * 0x8000 + fl / 4 % 2 * 0x4000 + fl / 8 % 2 * 0x2000 + byteAt d 2 * 0x800 + byteAt d 1))
    setReg (setReg s (R.DVP_EID p) (BitVec.ofNat 16 (byteAt d 3))) (R.DVP_TIMEOUT p) (BitVec.ofNat 16 (u16 d 6))
/-- Step 9 begins on every port. -/
def startMeasurement (s : State) : State :=
  let s := (List.range 32).foldl (fun s p => let s := loadGuard s p; if fgpMeasured s p then startMeasure s p else s) s
  (List.range 48).foldl loadDevice s

/-- Whether a device port's exchange of step 9 is still to be made. -/
def dvpOpen (s : State) (p : Nat) : Bool :=
  decide (7 ≤ s.boot.step) && decide (s.boot.step ≤ 10) && dvpMeasured s p && (dvpResult s p).isNone
/-- The exchange of a device port ends with a STATUS (R447). -/
def dvpDone (s : State) (p status : Nat) (digest : Bytes) : State :=
  { s with fw := { s.fw with dvp := tset (fun _ => none) s.fw.dvp p (some (status, digest)) } }
/-- The step of R446 whose reply a port awaits, 2 to 7; 0 before. -/
def dvpStep (s : State) (p : Nat) : Nat := tget (fun _ => (0 : Nat)) s.fw.dvpStep p
/-- Firmware sends a message of step k of R446: its first byte is the MCTP message type (R444), and the rest, which DSP0236 and SPDM 1.2
lay down, a free value (log entry 28). -/
def spdmSend (s : State) (p k : Nat) : State :=
  let (body, s) := drawBytes s 32
  let s := { s with fw := { s.fw with dvpStep := tset (fun _ => (0 : Nat)) s.fw.dvpStep p k } }
  dvpEvent (setBit (send s (.port "DVP" p ((if k = 2 then 0x00 else 0x05) :: body))) (R.DVP_STATUS p) 15 true) p 0
/-- Firmware goes on to step k of R446. GET_MEASUREMENTS carries a nonce of 32 bytes, a software read of the central queue
(R291), and waits for them. -/
def spdmAsk (s : State) (p k : Nat) : State :=
  if k ≠ 7 then spdmSend s p k
  else if softEnough s 32 = false then { s with fw := { s.fw with dvpStep := tset (fun _ => (0 : Nat)) s.fw.dvpStep p 7 } }
  else spdmSend (softBatch s 32).2 p 7
/-- Whether a port waits for its nonce. -/
def nonceWaits (s : State) (p : Nat) : Bool := dvpOpen s p && decide (dvpStep s p = 7) && !dvpBusy s p
/-- A new session root that is due is drawn for the key-derivation block once the central queue holds its 256 bits and no internal draw
waits, and loaded into every powered unit (R291, R501). -/
def renewRoot (s : State) : State :=
  match (if s.fw.rootDue then kdfDraw s 256 else none) with
  | none => s
  | some (x, s) =>
    let s := { s with fw := { s.fw with rootDue := false } }
    let s := setBit { s with sessionRoot := BitVec.ofNat 256 x } R.MAC_ROOTS 2 true
    (List.range 34).foldl (fun s p => if powered s p then modMac s p (fun m => { m with sessionRoot := true }) else s) s
/-- The central queue has been refilled: a session root that is due is drawn (R501), and the lowest port that waits for its nonce goes
on (R446). -/
def queueServed (s : State) : State :=
  let s := renewRoot s
  match (List.range 48).find? (nonceWaits s) with
  | some p => spdmAsk s p 7
  | none => s
/-- ADDRESS (R446 step 1). In BOOT the messages of R446 follow. -/
def execAddress (port : DevPort) (acked : Bool) (s : State) : Host.Outcome State Fault Refusal :=
  let p := port.val
  if !hasMain s ∨ dvpBusy s p = true then .next s
  else
    let t := dvpAddress s p acked
    if dvpOpen s p then .next (if acked then spdmAsk t p 2 else dvpDone t p 3 [])
    else .next t
/-- The verdict on a MEASUREMENTS response (R447): whether the chain and the signature hold follows from SPDM 1.2, which the
spec names and does not give, so it is a free value, as is the comparison with REF_DIGEST (log entry 28). -/
def judgeSpdm (s : State) (p : Nat) (bytes : Bytes) : State :=
  let (r, s) := draw16 s
  let ref := slice (cfgRecord s 3 p) 40 32
  let status := if r.getLsbD 0 then 4 else if r.getLsbD 1 then 5 else if ref ≠ zeros 32 ∧ r.getLsbD 2 = true then 1 else 0
  dvpDone s p status (if status ≤ 1 then sha256 bytes else [])
/-- A reply within the exchange (R446): an ERROR or an offer that falls short ends it with STATUS 4; ResponseNotReady, or a chain that
has more portions, repeats the step; else the next step follows, and the last reply is judged. Which, is free (log entry 28). -/
def spdmReply (s : State) (p : Nat) (bytes : Bytes) : State :=
  let k := dvpStep s p
  let (r, s) := draw16 s
  if r.getLsbD 1 then spdmSend s p k
  else if 7 ≤ k then judgeSpdm s p bytes
  else if r.getLsbD 0 then dvpDone s p 4 []
  else spdmAsk s p (k + 1)
/-- DVP_REPLY (R444, R446, R447). -/
def execDvpReply (port : DevPort) (bytes : Bytes) (err : Bool) (s : State) : Host.Outcome State Fault Refusal :=
  let p := port.val
  if dvpOpen s p ∧ dvpBusy s p = true then
    if err then .next (dvpDone (dvpFailed (dvpEvent s p 2) p 3) p 4 [])
    else if 8192 < bytes.length then .next (dvpDone (dvpFailed s p 3) p 4 [])
    else .next (spdmReply (dvpFailed (setFld s (R.DVP_RX_LEN p) 13 0 bytes.length) p 0) p bytes)
  else .next (dvpReceive s p bytes err)
/-- DVP_REPLY_TIMEOUT (R447, R455): no reply within DVP_TIMEOUT, or TIME_LIMIT passes while the nonce is awaited. -/
def execDvpReplyTimeout (port : DevPort) (s : State) : Host.Outcome State Fault Refusal :=
  let p := port.val
  if dvpOpen s p ∧ (dvpBusy s p = true ∨ nonceWaits s p = true) then .next (dvpDone (dvpTimeout s p) p 3 []) else .next (dvpTimeout s p)

/-! ### Steps 1 to 7 (R158, R161) -/

/-- A region of the access table that every master of a range may use. -/
def rangeEntry (base limit hi : Nat) (locked read write secret : Bool) : ActEntry :=
  let b := BitVec.ofNat 32 base
  let l := BitVec.ofNat 32 limit
  let m := BitVec.ofNat 10 hi
  { zeroEntry with base := b, limit := l, msetB := m, enable := true, lock := locked, secretOk := secret, write := write, read := read }
/-- A region of form OWN_CELL (2) or OWN_VAT (3), with an offset window or none (P 0). -/
def ownEntry (form base limit p lo hi : Nat) (write secret : Bool) : ActEntry :=
  let e := rangeEntry base limit 0 false true write secret
  let f := BitVec.ofNat 2 form
  { e with form := f, p := BitVec.ofNat 5 p, offLo := BitVec.ofNat 16 lo, offHi := BitVec.ofNat 16 hi }
/-- The boot record area, read-only and locked (R158). -/
def bootRecordEntry : ActEntry := rangeEntry 0x10000000 0x100000FF 1023 true true false false
/-- The image area, read-only and locked (R190). -/
def imageEntry : ActEntry := rangeEntry 0x10080000 0x100FFFFF 1023 true true false false
/-- The regions firmware gives logical vat n: data stores (R304, the note to R373), tickets, deque area (R193), working
memory. -/
def vatEntries (n : Nat) : List ActEntry :=
  let w := windowBase n
  [ownEntry 2 (w + 0x20000) (w + 0x3FFFF) 13 0 0x1FFD true true, ownEntry 2 (w + 0x20000) (w + 0x3FFFF) 13 0x1FFE 0x1FFF false false,
   ownEntry 3 (w + 0xC0000) (w + 0xC7FFF) 5 0x1C 0x1C true false, ownEntry 3 (w + 0xC0000) (w + 0xC7FFF) 5 0 0x1B false false,
   ownEntry 3 (w + 0xC0000) (w + 0xC7FFF) 5 0x1D 0x1F false false, rangeEntry (w + 0xC8000) (w + 0xC87FF) 1023 false true false false,
   ownEntry 3 (w + 0xC8800) (w + 0xFFFFF) 0 0 0 true true]
/-- Put entries into the shadow table from a number on. -/
def putEntries (s : State) (i : Nat) : List ActEntry → State
  | [] => s
  | e :: es => putEntries (setShadow s i e) (i + 1) es
/-- The access table as firmware programs it at step 7. The spec gives the regions of the vats and of the images and leaves entry numbers,
the working areas of partitions and the buffers of requests to firmware: DESIGN CHOICE, log entry 34. -/
def firmwareTable (s : State) : State :=
  let es := imageEntry :: rangeEntry 0x10040000 0x1007FFFF 511 false true true false
    :: rangeEntry 0x10100000 0x102FFFFF 511 false true true false :: (List.range 32).flatMap vatEntries
  applyTable (putEntries s 1 es)

/-- Power as the remap binds the positions: one that changes between running and spare is powered up or down, the others go on as they
are, their noise sources too (R221, R286). -/
def rebindVats (s : State) : State :=
  (List.range 34).foldl (fun s n =>
    let p := phys s n
    let on := decide (n < 32)
    if powered s p = on then s
    else modNoise (setReg s (R.VAT_CTRL p) (if on then 0x0003 else 0x0008)) p (fun x => { x with state := if on then 1 else 0 })) s
/-- The remap of bank 3 put into force (R217). -/
def applyRemap (s : State) : State :=
  match getCfg s 8 0 with
  | none => s
  | some d =>
    let t := (List.range 34).foldl (fun t n => tset (fun k => k) t n (byteAt d (2 * n))) ([] : Tbl Nat)
    rebindVats { s with remap := t }
/-- STATEs of the vats as BOOT finds them: retired by the record or the factory, spare, or to be loaded (R186, R217). A retired
vat is powered down. -/
def bootStates (s : State) : State :=
  let d := cfgRecord s 8 0
  (List.range 34).foldl (fun s n =>
    let out := decide (byteAt d (2 * n + 1) = 1) || decide (phys s n ∈ retiredPositions s)
    if out then
      let p := phys s n
      modNoise (setReg (setVatState s n 3) (R.VAT_CTRL p) 0x0008) p (fun x => { x with state := 0 })
    else if 32 ≤ n then setVatState s n 4 else s) s
/-- The oscillators that run have settled: CLK_STABLE. -/
def clocksSettled (s : State) : State :=
  (List.range 34).foldl (fun s p => if getBit s (R.VAT_CTRL p) 1 then modVat s p (fun v => { v with clkStable := true }) else s) s
/-- Step 2 (R48, R49, R161, R424): the boot number, read-out protection, and the Herd Book policy from here on (R141). -/
def bootStep2 (s : State) : State :=
  let s := finishRepairs (clocksSettled (bootStates (applyRemap (writeProt s (protLevel s)))))
  let s := { s with fw := { s.fw with hbPolicy := cfgRecord s 5 0 } }
  if ownerSlot s = none then s
  else
    let m := max (max s.bat.bootCounter.toNat (newestNumber s)) (((headRecord s).map (·.1)).getD 0)
    { s with bat := { s.bat with bootCounter := BitVec.ofNat 48 (m + 1) }, fw := { s.fw with bootNumber := m + 1 } }
/-- Whether bank 0 is blank. -/
def bank0Blank (s : State) : Bool := (List.range 64).all (fun b => let k := physBlock s b; s.flash.pages.all (fun q => q.1 / 64 != k))
/-- REASON where no image verifies (R159, R405). -/
def noImageReason (s : State) : Nat :=
  if s.flash.linkUp && bank0Blank s then (if s.store.level = some 0 then rLOWERED else rNO_IMAGE) else rIMAGE_BAD
/-- Steps 4 and 5: installation, verification, restoration. Whether an image verifies, and the state. -/
def bootImage (s : State) (c : BootChecks) : Bool × State :=
  let (bad, s) := if ownerSlot s = none then (false, s) else installStep s c.install.readable c.install.copied
  if !bad && activeVerifies s then (true, s)
  else
    let s := restoreStep s c.restore.readable c.restore.copied
    (decide (s.fw.updOutcome = 9) && activeVerifies s, s)
/-- The rest of step 5: the supervisor component loaded as CODE and started, its measurement in the boot record area (R158). The boot ROM
sets EVB and MASK before (R352): MASK to 1, and which EVB is a free value (DEDUCED, log entry 133). -/
def startSupervisor (s : State) : State :=
  let sup := activeSupervisor s
  let h := manifest s
  let s := writeMems s 0 ((packWords sup).map (fun v => (⟨.code, v⟩ : Word)))
  let s := writeMems s 0x10000000 ((packWords (sha256 sup)).map dataWord)
  let s := applyTable (setShadow s 0 bootRecordEntry)
  let (evb, s) := draw16 s
  let s := setCell s supKey { supReset with main := zeroBank, evb := evb, mask := true }
  { s with fw := { s.fw with supDigest := sha256 sup, version := slice h 10 4, svn := svnOf h } }
/-- A new session root from the central queue (R59 step 4). -/
def newSessionRoot (s : State) : State :=
  let (v, s) := drawBits s 256
  { s with sessionRoot := BitVec.ofNat 256 v, central := { s.central with bits := s.central.bits - 256 } }
/-- Records of bank 3 that firmware puts into force at BOOT (R141, R217, R522): tamper sources, arbiters, posting, offsets. -/
def applyRecords (s : State) : State :=
  let s := s.store.configs.foldl (fun s q => match q.2 with
    | some d => applyRecord s (q.1 / 65536) (q.1 % 65536) d
    | none => s) s
  s.store.cal.foldl (fun s q => match q.2 with
    | some v => setOffset s q.1 v
    | none => s) s
/-- Step 6: the roots are formed and loaded (R59, R255, R161); the owner root only on a claimed device. -/
def loadAllRoots (s : State) (owner : Bool) : State :=
  let root := fun n => BitVec.ofNat 256 (beNat (formRoot s n))
  let s := { s with identityRoot := root 0, ownerRoot := if owner then root 1 else 0 }
  let s := setReg (newSessionRoot s) R.MAC_ROOTS (if owner then 7 else 5)
  (List.range 34).foldl (fun s p => if powered s p then loadRoots s p else s) s
/-- A cell component judged, and copied where it is good (R158 step 7, R190, R192). -/
def placeCell (s : State) (q : Nat × Component) : State :=
  let bytes := activeCell s q.1 q.2
  let a := imageBase q.2.image
  let listed := fun (s : State) (status : Nat) =>
    let r : CellRec := { image := q.2.image, status := status, digest := sha256 bytes, len := q.2.length }
    { s with fw := { s.fw with cells := s.fw.cells.filter (fun c => decide (c.image < q.2.image)) ++ [r]
                                        ++ s.fw.cells.filter (fun c => decide (q.2.image < c.image)) } }
  let t := listed (writeMems s a ((packWords bytes).map dataWord)) 0
  if sha256 bytes ≠ q.2.digest then listed s 1 else if imageOk t a then t else listed s 2
/-- The image a logical vat runs (R561): what the map names if the manifest holds it, else the lowest-numbered. -/
def imageFor (s : State) (n : Nat) : Option Nat :=
  let want := byteAt (cfgRecord s 9 0) n
  if s.fw.cells.any (fun c => c.image == want) then some want else s.fw.cells.head?.map (·.image)
/-- Load a logical vat, or leave it HALTED where its image is bad (R159). -/
def bootLoad (s : State) (n : Nat) : State :=
  if vatStateOf s n = 3 then s
  else
    let good := fun i => s.fw.cells.any (fun c => c.image == i && c.status == 0)
    match imageFor s n with
    | none => setVatState s n 5
    | some i =>
      let s := { s with fw := { s.fw with vatImage := tset (fun _ => (0 : Nat)) s.fw.vatImage n i } }
      if !good i then setVatState s n 5
      else
        let t := startLoad s (phys s n) i
        if (getVat t (phys s n)).loading = none then setVatState t n 5
        else { t with fw := { t.fw with loadWait := t.fw.loadWait ++ [n] } }
/-- Counters raised to their reserves (R275). -/
def raiseReserves (s : State) : State :=
  s.store.reserves.foldl (fun s q => setCounter s (phys s (q.1 / 64)) (q.1 % 64) (BitVec.ofNat 48 q.2)) s
/-- The oscillators of the running vats on the codes their calibration items give (R142, R521). -/
def trimVats (s : State) : State :=
  (List.range 34).foldl (fun s n =>
    let code := trimFromCal s n
    if getBit s (R.VAT_CTRL (phys s n)) 1 then modVat s (phys s n) (fun v => { v with trim := code }) else s) s
/-- Steps 7 and 9 begin (R158); the unit of logical vat 0 serves the identity root (R257). -/
def bootVats (s : State) : State :=
  let s := (manifestCells s).foldl placeCell (setBit (trimVats s) (R.MAC_CFG (phys s 0)) 0 true)
  let s := raiseReserves (firmwareTable s)
  let s := (List.range 32).foldl bootLoad (writeTune s)
  let s := if ownerSlot s = none then s else startMeasurement s
  checkTests (setStep s 7)
/-- Step 6 and on: the session root is drawn, for which BOOT waits until the central queue holds its bits (R59, R291); a device with an
owner checks the share and unwraps the Herd Book key (R61). -/
def bootStep6 (s : State) : State :=
  if s.central.bits < 256 then s
  else if ownerSlot s = none then bootVats (applyRecords (loadAllRoots s false))
  else if shareOk s = false ∨ (s.store.hbKey.bind (fun k => kwUnwrap (hbWrapKey (formRoot s 1)) k.wrapped)).isNone = true then
    bootFails (setBit (loadAllRoots (applyRecords s) false) R.PWR_RSTCAUSE 5 true) rKEY_SHARE_LOST false
  else bootVats (applyRecords (loadAllRoots s true))
/-- Whether a self-test of step 3 fails (R158, R284, R520, R565): the engines of the supervisor, the calibration record, the factory
retirement record, or the start-up test of a noise source. -/
def selfTestFails (s : State) : Bool :=
  !s.boot.checks.selfTest || !calCrcOk s || !retireOk s
    || (List.range 34).any (fun p => let n := (getVat s p).noise; decide (n.state = 3) && n.atStartup)
/-- Steps 3 to 6: step 3 goes on until the start-up test of every source has ended. -/
def bootStep3 (s : State) : State :=
  if (List.range 34).any (fun p => decide ((getVat s p).noise.state = 1)) = true then s
  else if selfTestFails s = true then bootFails s rSELF_TEST true
  else
    let (ok, s) := bootImage s s.boot.checks
    if ok then bootStep6 (setStep (startSupervisor s) 6) else bootFails s (noImageReason s) true
/-- BOOT goes on from the step in which it waits for the noise sources or for the central queue. -/
def bootResume (s : State) : State := if s.boot.step = 3 then bootStep3 s else if s.boot.step = 6 then bootStep6 s else s
/-- STARTUP_TEST_END (R284). -/
def execStartupTestEnd (vat : VatId) (s : State) : Host.Outcome State Fault Refusal := .next (bootResume (sourceStarts s (phys s vat.val)))
/-- HEALTH_TEST_FAILURE (R285). -/
def execHealthTestFailure (vat : VatId) (test : HealthTest) (s : State) : Host.Outcome State Fault Refusal :=
  .next (bootResume (sourceFails s (phys s vat.val) test))
/-- CENTRAL_QUEUE_REFILL (R290). -/
def execCentralQueueRefill (s : State) : Host.Outcome State Fault Refusal := .next (bootResume (queueServed (refillCentral s)))
/-- A supervisor write of the tag that the reset cut off (log entry 23). -/
def tearSupervisorWrite (s : State) : State :=
  if (s.tag.job.map (·.kind)) = some .supervisor then
    { (tearTagJob s s.tag.job) with tag := { (tearTagJob s s.tag.job).tag with job := none } }
  else s
/-- Step 1 (R71, R74, R513): the latch, then a pending lowering; whether the device is spent, and has R74 to complete. -/
def bootStep1 (s : State) : Bool × State :=
  let s := applyLatch (tearSupervisorWrite s)
  let s := if s.bat.lowerPending then finishLowering s else s
  (s.bat.spendLatch || fuseBlown s oSPENT, s)
/-- Whether step 1 waits: increments of the latch are to be programmed, and a dip lets no pulse begin (R513, R562). -/
def latchWaits (s : State) : Bool := s.ext.dip.isSome && s.bat.latch.any (fun q => decide (0 < q.2.evidence))
/-- SCRUB_COMPLETE (R51, R158): the boot ROM's steps 1 and 2, and on from there. The oscillators that run have settled by then. -/
def execScrubComplete (selfTest : Bool) (install restore : SlotChecks) (s : State) : Host.Outcome State Fault Refusal :=
  if !hasMain s ∨ s.boot.step ≠ 0 ∨ latchWaits s = true then .next s
  else
  let s := clocksSettled s
  if mode s = mTEST then .next (setStep s 13)
  else
    let (spent, s) := bootStep1 (setStep { s with boot := { s.boot with checks := ⟨selfTest, install, restore⟩ } } 1)
    if spent then .next (spendOn (writeProt s (protLevel s)))
    else .next (bootStep3 (setStep (bootStep2 s) 3))

end Sys2Proof.Machine
end

