-- ==== Sys2Proof/Machine/Cards.lean ====
section
/-!
DEFINITION. The card slots (R456 to R474): activation and the answer to reset, parameter selection, exchanges under T=0 and
T=1, deactivation and removal.
-/
namespace Sys2Proof.Machine

/-! ### A slot -/

/-- A slot's engine after reset. -/
def slotReset : CardSlot := { cmd := [], gathered := [], turns := 0, retries := 0, clockStop := 0, unsent := [], clkDiv := 20 }
/-- What a slot's engine holds. -/
def getSlot (s : State) (i : Nat) : CardSlot := tget (fun _ => slotReset) s.cards i
/-- Set what a slot's engine holds. -/
def setSlot (s : State) (i : Nat) (c : CardSlot) : State := { s with cards := tset (fun _ => slotReset) s.cards i c }
/-- CODEs of CSL_RESULT (R471). -/
def kOK : Nat := 0
def kNO_CARD : Nat := 1
def kNO_ATR : Nat := 2
def kATR_ERROR : Nat := 3
def kPARITY : Nat := 4
def kTIMEOUT : Nat := 5
def kPROTOCOL : Nat := 6
def kOVERCURRENT : Nat := 7
def kREMOVED_BEFORE : Nat := 8
def kREMOVED_UNKNOWN : Nat := 9
def kTOO_LONG : Nat := 10
def kREFUSED : Nat := 11
/-- Set a bit of CSL_EVENT and raise its source if it was 0 (R474). -/
def cslEvent (s : State) (i b : Nat) : State := eventBit s (R.CSL_EVENT i) b ((if b ≤ 2 then 480 else 481) + 2 * i)
/-- STATE of a slot: 0 IDLE, 1 ACTIVATING, 2 READY, 3 EXCHANGE. -/
def cslState (s : State) (i : Nat) : Nat := getFld s (R.CSL_STATUS i) 15 13
/-- Set STATE and BUSY. -/
def setCslState (s : State) (i st : Nat) : State :=
  setBit (setFld s (R.CSL_STATUS i) 15 13 st) (R.CSL_STATUS i) 12 (decide (st = 1 ∨ st = 3))
/-- Whether an operation is in progress. -/
def cslBusy (s : State) (i : Nat) : Bool := getBit s (R.CSL_STATUS i) 12
/-- An operation ends with a CODE: DONE (R471). -/
def cslResult (s : State) (i code : Nat) : State := cslEvent (setFld s (R.CSL_RESULT i) 15 12 code) i 0
/-- The deactivation sequence (R468): the state is IDLE, the clock no longer counts as stopped. Its 15 µs are not shown. -/
def cslDeactivate (s : State) (i : Nat) : State := cslEvent (setBit (setCslState s i 0) (R.CSL_STATUS i) 9 false) i 2
/-- A held DEACTIVATE is carried out once the operation has ended; it ends with OK (R470, R473). -/
def releaseHeld (s : State) (i : Nat) : State :=
  if getBit s (R.CSL_STATUS i) 8 then
    cslResult (cslDeactivate (setBit s (R.CSL_STATUS i) 8 false) i) i kOK
  else s
/-- An operation ends in a state; `off` says that the card is deactivated first. -/
def cslEnd (s : State) (i st code : Nat) (off : Bool) : State :=
  let s := if off then cslDeactivate s i else setCslState s i st
  releaseHeld (cslResult s i code) i
/-- Clear CSL_RX and RX_LEN (R474). -/
def clearRx (s : State) (i : Nat) : State :=
  setFld (setRegs s (R.CSL_RX i 0) (List.replicate 129 0)) (R.CSL_RESULT i) 8 0 0
/-- Whether a card is judged present (R460). -/
def cardPresent (s : State) (i : Nat) : Bool := s.ext.cards.getLsbD i

/-! ### Activation (R461) -/

/-- A class begins: power, the clock that ACT_DIV sets (R458), and reset at 372/1. -/
def beginClass (s : State) (i : Nat) (classB : Bool) : State :=
  let s := setSlot s i { getSlot s i with clkDiv := getFld s (R.CSL_CFG i) 6 0 }
  setReg (setBit (setCslState s i 1) (R.CSL_STATUS i) 11 classB) (R.CSL_PARAMS i) 0x1100
/-- ACTIVATE: refused while BUSY (R473), NO_CARD outside IDLE or without a card. With neither class enabled no rule gives a
CODE: a free value (log entry 37). -/
def cslActivate (s : State) (i : Nat) : State :=
  if cslBusy s i then cslResult s i kREFUSED
  else if cslState s i ≠ 0 ∨ cardPresent s i = false then cslResult s i kNO_CARD
  else
    let s := clearRx s i
    if getBit s (R.CSL_CFG i) 15 then beginClass s i false
    else if getBit s (R.CSL_CFG i) 14 then beginClass s i true
    else
      let (r, s) := draw16 s
      cslResult s i (fld r 3 0)
/-- A class has failed: deactivation, then class B if class C failed and class B may be used, else the end with `code`. -/
def classFailed (s : State) (i code : Nat) : State :=
  let s := cslDeactivate s i
  if getBit s (R.CSL_STATUS i) 11 = false ∧ getBit s (R.CSL_CFG i) 14 = true then beginClass s i true
  else releaseHeld (cslResult s i code) i
/-- ACTIVATE (R461): the supervisor writes ACTIVATE. -/
def execActivate (slot : Slot) (s : State) : Host.Outcome State Fault Refusal := .next (if hasMain s then cslActivate s slot.val else s)
/-- NO_ATR (R461 step 5). -/
def execNoAtr (slot : Slot) (s : State) : Host.Outcome State Fault Refusal :=
  .next (if cslState s slot.val = 1 then classFailed s slot.val kNO_ATR else s)
/-- ATR_CHARACTER_TIMEOUT (R462): the ATR fails, and the activation with it. -/
def execAtrCharacterTimeout (slot : Slot) (s : State) : Host.Outcome State Fault Refusal :=
  .next (if cslState s slot.val = 1 then cslEnd s slot.val 0 kATR_ERROR true else s)

/-! ### The answer to reset (R462) -/

/-- One group of interface characters: the protocol T that the TD before it names (none for the first), and TA, TB, TC, TD. -/
structure AtrGroup where
  t : Option Nat
  ta : Option Nat
  tb : Option Nat
  tc : Option Nat
  td : Option Nat
  deriving DecidableEq, Repr
/-- Take one character if it is announced: `none` where it is missing. -/
def takeChar (present : Bool) (bs : Bytes) : Option (Option Nat × Bytes) :=
  if present then
    match bs with
    | b :: rest => some (some b.toNat, rest)
    | [] => none
  else some (none, bs)
/-- The groups of interface characters, with what follows them: Y announces TA, TB, TC and TD of the next group. -/
def atrGroups : Nat → Option Nat → Nat → Bytes → Option (List AtrGroup × Bytes)
  | 0, _, _, _ => none
  | fuel + 1, t, y, bs =>
    match takeChar (y.testBit 0) bs with
    | none => none
    | some (ta, bs) =>
      match takeChar (y.testBit 1) bs with
      | none => none
      | some (tb, bs) =>
        match takeChar (y.testBit 2) bs with
        | none => none
        | some (tc, bs) =>
          match takeChar (y.testBit 3) bs with
          | none => none
          | some (td, bs) =>
            let g : AtrGroup := { t := t, ta := ta, tb := tb, tc := tc, td := td }
            match td with
            | none => some ([g], bs)
            | some d => (atrGroups fuel (some (d % 16)) (d / 16) bs).map (fun r => (g :: r.1, r.2))
/-- An accepted ATR: its groups, or none where R462 refuses it. TCK is due where a TD names any T but 0 (ISO/IEC 7816-3). -/
def parseAtr (a : Bytes) : Option (List AtrGroup) :=
  match a with
  | ts :: t0 :: rest =>
    if (ts = 0x3B ∨ ts = 0x3F) ∧ a.length ≤ 33 then
      match atrGroups 33 none (t0.toNat / 16) rest with
      | none => none
      | some (gs, tail) =>
        let tck := gs.any (fun g => decide (g.t ≠ none) && decide (g.t ≠ some 0))
        let sum := (a.drop 1).foldl (fun (x b : Byte) => x ^^^ b) 0
        if tail.length = t0.toNat % 16 + b2n tck ∧ (tck = false ∨ sum = 0) then some gs else none
    else none
  | _ => none

/-- Fi by its index (ISO/IEC 7816-3); 0 for the reserved ones. -/
def fiValue (i : Nat) : Nat := [372, 372, 558, 744, 1116, 1488, 1860, 0, 0, 512, 768, 1024, 1536, 2048, 0, 0].getD i 0
/-- Di by its index; 0 for those the slots do not support (R457). -/
def diValue (i : Nat) : Nat := [0, 1, 2, 4, 8, 16, 32, 0, 12, 20, 0, 0, 0, 0, 0, 0].getD i 0
/-- fmax in kHz by the index of Fi (ISO/IEC 7816-3, PRESUMED, log entry 115); 0 for the reserved ones. -/
def fmaxOf (i : Nat) : Nat := [4000, 5000, 6000, 8000, 12000, 16000, 20000, 0, 0, 5000, 7500, 10000, 15000, 20000, 0, 0].getD i 0
/-- n of the card clock once the parameters are selected (R458): the smallest whose frequency is not above Fi's fmax nor MAX_DIV's. -/
def clkDivFor (fi maxDiv : Nat) : Nat :=
  match fmaxOf fi with
  | 0 => max 4 maxDiv
  | f => max (max 4 maxDiv) ((80000 + f - 1) / f)
/-- Whether a pair, FI x 16 + DI, meets R457: Fi/Di of 16 or more. -/
def pairOk (v : Nat) : Bool :=
  decide (fiValue (v / 16) ≠ 0) && decide (diValue (v % 16) ≠ 0) && decide (16 * diValue (v % 16) ≤ fiValue (v / 16))
/-- PPS1 (R463): TA1's pair, or the fastest pair with the same Fi, or 0x11. -/
def ppsPair (ta1 : Nat) : Nat :=
  if pairOk ta1 then ta1
  else match greatest (fun d => diValue d) (those 16 (fun d => pairOk (ta1 / 16 * 16 + d))) with
    | some d => ta1 / 16 * 16 + d
    | none => 0x11

/-- What R462 takes from an ATR. -/
structure AtrParams where
  ta1 : Option Nat
  n : Nat
  ta2 : Option Nat
  protocols : List Nat
  wi : Nat
  ifsc : Nat
  bwi : Nat
  cwi : Nat
  crc : Bool
  global : Option Nat
  deriving DecidableEq, Repr
/-- The parameters of an accepted ATR, with the defaults of R462. -/
def atrParams (gs : List AtrGroup) : AtrParams :=
  let first := gs.head?
  let second := (gs.drop 1).head?
  let late := fun t => (gs.drop 2).filter (fun g => decide (g.t = some t))
  let ts := gs.filterMap (·.t)
  { ta1 := first.bind (·.ta), n := (first.bind (·.tc)).getD 0, ta2 := second.bind (·.ta),
    protocols := if ts.isEmpty then [0] else ts.filter (· ≤ 1), wi := (second.bind (·.tc)).getD 10,
    ifsc := ((late 1).findSome? (·.ta)).getD 32, bwi := ((late 1).findSome? (·.tb)).getD 0x4D / 16,
    cwi := ((late 1).findSome? (·.tb)).getD 0x4D % 16, crc := decide (((late 1).findSome? (·.tc)).getD 0 % 2 = 1),
    global := (late 15).findSome? (·.ta) }
/-- Parameter selection (R463): the protocol and the pair in use, or none for ATR_ERROR. "bit 5" of TA2 is counted as R3
counts it (log entry 38). -/
def selectParams (q : AtrParams) (ppsEn ppsEcho : Bool) : Option (Nat × Nat) :=
  match q.ta2 with
  | some a =>
    let pair := if a / 32 % 2 = 0 then q.ta1.getD 0x11 else 0x11
    if a % 16 ≤ 1 ∧ pairOk pair = true then some (a % 16, pair) else none
  | none =>
    match q.protocols with
    | [] => none
    | t :: _ =>
      match q.ta1 with
      | none => some (t, 0x11)
      | some v => if v = 0x11 ∨ ppsEn = false ∨ ppsEcho = false then some (t, 0x11) else some (t, ppsPair v)
/-- The registers that show the parameters in use. -/
def showParams (s : State) (i t pair : Nat) (q : AtrParams) : State :=
  let s := setBit s (R.CSL_STATUS i) 10 (decide (t = 1))
  let s := setReg s (R.CSL_PARAMS i) (BitVec.ofNat 16 (pair * 256 + q.n))
  let s := setReg s (R.CSL_PROT i) (BitVec.ofNat 16 ((if t = 1 then q.ifsc else q.wi) * 256 + q.bwi * 16 + q.cwi / 2 * 2 + b2n q.crc))
  setReg s (R.CSL_PROT2 i) (BitVec.ofNat 16 (q.cwi % 2))
/-- An ATR has come in whole: it is stored, parsed and followed by parameter selection. -/
def atrComplete (s : State) (i : Nat) (atr : Bytes) (intact ppsEcho ifsOk : Bool) : State :=
  let held := atr.take 33
  let s := setReg (setRegs s (R.CSL_ATR i 0) (packWords (held ++ zeros (34 - held.length)))) (R.CSL_ATR_LEN i) (BitVec.ofNat 16 held.length)
  match (if intact then parseAtr atr else none) with
  | none => cslEnd s i 0 kATR_ERROR true
  | some gs =>
    let q := atrParams gs
    let clsC := match q.global with
      | some g => g.testBit 2
      | none => true
    if getBit s (R.CSL_STATUS i) 11 = false ∧ clsC = false then
      let (r, t) := draw16 s
      if getBit s (R.CSL_CFG i) 14 then classFailed s i kNO_ATR else classFailed t i (fld r 3 0)
    else match selectParams q (getBit s (R.CSL_CFG i) 13) ppsEcho with
      | none => cslEnd s i 0 kATR_ERROR true
      | some (t, pair) =>
        let n := clkDivFor (pair / 16) (getFld s (R.CSL_MAXDIV i) 6 0)
        let s := setSlot (showParams s i t pair q) i { slotReset with clockStop := BitVec.ofNat 2 (q.global.getD 0 / 64), clkDiv := n }
        if t = 1 ∧ ifsOk = false then cslEnd s i 0 kPROTOCOL true
        else releaseHeld (cslResult (cslEvent (setCslState s i 2) i 1) i kOK) i
/-- ATR_COMPLETE (R462, R463): `intact` says that no character stayed in error after 4 repetitions, `ppsEcho` that a PPS was
echoed exactly, `ifsOk` that S(IFS request) was answered within 3 attempts. -/
def execAtrComplete (slot : Slot) (atr : Bytes) (intact ppsEcho ifsOk : Bool) (s : State) : Host.Outcome State Fault Refusal :=
  .next (if cslState s slot.val = 1 then atrComplete s slot.val atr intact ppsEcho ifsOk else s)

/-! ### Exchanges (R464 to R466) -/

/-- The bytes of a command APDU as T=0 carries it: the 5-byte header, and the data of cases 3 and 4 (R465). -/
def t0Bytes (a : Bytes) : Bytes :=
  if a.length = 4 then a ++ [0] else if a.length = 5 then a else a.take (5 + (a.getD 4 0).toNat)
/-- EXCHANGE: REFUSED outside READY or with a TX_LEN outside 4-261. Under T=0 the header is sent, and the data wait for the card's
procedure bytes (R465). -/
def cslExchange (s : State) (i : Nat) : State :=
  let n := getFld s (R.CSL_TX_LEN i) 8 0
  if cslState s i ≠ 2 ∨ n < 4 ∨ 261 < n then cslResult s i kREFUSED
  else
    let a := ((List.range 131).flatMap (fun j => wordBytes (getReg s (R.CSL_TX i j)))).take n
    let cmd := if getBit s (R.CSL_STATUS i) 10 then a else t0Bytes a
    let out := if getBit s (R.CSL_STATUS i) 10 then cmd else cmd.take 5
    let s := setBit (setCslState (clearRx s i) i 3) (R.CSL_STATUS i) 9 false
    send (setSlot s i { getSlot s i with cmd := cmd, gathered := [], turns := 0, retries := 0, unsent := cmd.drop out.length })
      (.port "CSL" i out)
/-- EXCHANGE (R465): the supervisor writes EXCHANGE. -/
def execExchange (slot : Slot) (s : State) : Host.Outcome State Fault Refusal := .next (if hasMain s then cslExchange s slot.val else s)
/-- The response data and SW1 SW2 are placed in CSL_RX and the exchange ends; TOO_LONG past 258 bytes. -/
def putResponse (s : State) (i : Nat) (bs : Bytes) : State :=
  if 258 < bs.length then cslEnd s i 2 kTOO_LONG false
  else cslEnd (setFld (setRegs s (R.CSL_RX i 0) (packWords bs)) (R.CSL_RESULT i) 8 0 bs.length) i 2 kOK false
/-- Another turn of R465, the 17th ending the exchange with PROTOCOL. -/
def t0Turn (s : State) (i : Nat) (cmd data : Bytes) : State :=
  let c := getSlot s i
  if 16 ≤ c.turns then cslEnd s i 2 kPROTOCOL false
  else send (setSlot s i { c with cmd := cmd, gathered := c.gathered ++ data, turns := c.turns + 1, unsent := [] }) (.port "CSL" i cmd)
/-- The card's answer under T=0: 61xx and 6Cxx lead to another turn. -/
def t0Answer (s : State) (i : Nat) (bs : Bytes) : State :=
  let c := getSlot s i
  let sw1 := bs.getD (bs.length - 2) 0
  let sw2 := bs.getD (bs.length - 1) 0
  if sw1 = 0x61 then t0Turn s i [c.cmd.getD 0 0, 0xC0, 0, 0, sw2] (bs.take (bs.length - 2))
  else if sw1 = 0x6C then t0Turn s i (c.cmd.take 4 ++ [sw2]) []
  else putResponse s i (c.gathered ++ bs)
/-- A procedure byte of the card under T=0 (R465): INS sends all remaining data, its complement one byte, 0x60 restarts the waiting
time. -/
def t0Procedure (s : State) (i : Nat) (x : Byte) : State :=
  let c := getSlot s i
  let ins := c.cmd.getD 1 0
  let n := if x = 0x60 then 0 else if x = ins then c.unsent.length else if x = ~~~ins then min 1 c.unsent.length else 0
  if n = 0 then s else send (setSlot s i { c with unsent := c.unsent.drop n }) (.port "CSL" i (c.unsent.take n))
/-- Add to the fields of CSL_ERRS, saturating. -/
def addErrs (s : State) (i parity blocks : Nat) : State :=
  let w := R.CSL_ERRS i
  setFld (setFld s w 15 8 (min 255 (getFld s w 15 8 + parity))) w 7 0 (min 255 (getFld s w 7 0 + blocks))
/-- CARD_RESPONSE (R464 to R466): the bytes of the card's answer with SW1 SW2, the characters repeated or signalled in error
and the R-blocks sent meanwhile; under T=0 one byte alone is a procedure byte. `fatal` says under T=0 that a character was in error a fifth time, under T=1 that the card
aborted (S(ABORT request)). -/
def execCardResponse (slot : Slot) (bytes : Bytes) (parity : Nat) (fatal : Bool) (blocks : Nat) (s : State) :
    Host.Outcome State Fault Refusal :=
  let i := slot.val
  let t1 := getBit s (R.CSL_STATUS i) 10
  if cslState s i ≠ 3 then .next s
  else
    let s := addErrs s i parity (if t1 then blocks else 0)
    if fatal then .next (cslEnd s i 2 (if t1 then kPROTOCOL else kPARITY) false)
    else if bytes.length < 2 then .next (if t1 then s else bytes.foldl (fun s x => t0Procedure s i x) s)
    else .next (if t1 then putResponse s i bytes else t0Answer s i bytes)
/-- CARD_WAITING_TIMEOUT: TIMEOUT under T=0; under T=1 up to 3 R-blocks, then up to 3 S(RESYNCH request), then deactivation
with PROTOCOL (R464, R466). -/
def execCardWaitingTimeout (slot : Slot) (s : State) : Host.Outcome State Fault Refusal :=
  let i := slot.val
  if cslState s i ≠ 3 then .next s
  else if getBit s (R.CSL_STATUS i) 10 = false then .next (cslEnd s i 2 kTIMEOUT false)
  else
    let c := getSlot s i
    if 6 ≤ c.retries then .next (cslEnd s i 0 kPROTOCOL true)
    else .next (setSlot (if c.retries < 3 then addErrs s i 0 1 else s) i { c with retries := c.retries + 1 })

/-! ### Deactivation, removal, overcurrent, clock stop (R459, R460, R467 to R470) -/

/-- DEACTIVATE: held while an operation is in progress (R470). -/
def cslDeact (s : State) (i : Nat) : State :=
  if cslBusy s i then setBit s (R.CSL_STATUS i) 8 true else cslResult (cslDeactivate s i) i kOK
/-- DEACTIVATE (R468): the supervisor writes DEACTIVATE. -/
def execDeactivate (slot : Slot) (s : State) : Host.Outcome State Fault Refusal := .next (if hasMain s then cslDeact s slot.val else s)
/-- A write of CSL_CTRL. -/
def writeCslCtrl (s : State) (i : Nat) (v : BitVec 16) : State :=
  let s := if bit v 15 then cslActivate s i else s
  let s := if bit v 14 then cslExchange s i else s
  if bit v 13 then cslDeact s i else s
/-- CARD_INSERTION (R460). -/
def execCardInsertion (slot : Slot) (s : State) : Host.Outcome State Fault Refusal :=
  let i := slot.val
  if hasMain s = false ∨ cardPresent s i = true then .next s
  else .next (cslEvent { s with ext := { s.ext with cards := s.ext.cards ||| (1 <<< i : BitVec 16) } } i 3)
/-- CARD_REMOVAL (R469): `before` says that the first character of the command had not been sent. -/
def execCardRemoval (slot : Slot) (before : Bool) (s : State) : Host.Outcome State Fault Refusal :=
  let i := slot.val
  if hasMain s = false ∨ cardPresent s i = false then .next s
  else
    let s := cslEvent { s with ext := { s.ext with cards := s.ext.cards &&& ~~~(1 <<< i : BitVec 16) } } i 4
    match cslState s i with
    | 1 => .next (cslEnd s i 0 kNO_CARD true)
    | 2 => .next (cslDeactivate s i)
    | 3 => .next (cslEnd s i 0 (if before then kREMOVED_BEFORE else kREMOVED_UNKNOWN) true)
    | _ => .next s
/-- OVERCURRENT (R459): while VCC is on. -/
def execOvercurrent (slot : Slot) (s : State) : Host.Outcome State Fault Refusal :=
  let i := slot.val
  if cslState s i = 0 then .next s
  else
    let s := cslEvent s i 5
    .next (if cslBusy s i then cslEnd s i 0 kOVERCURRENT true else cslDeactivate s i)
/-- CLOCK_STOP (R467): between exchanges, where CLKSTOP_EN and the ATR's indicator allow it. -/
def execClockStop (slot : Slot) (s : State) : Host.Outcome State Fault Refusal :=
  let i := slot.val
  .next (if cslState s i = 2 ∧ getBit s (R.CSL_CFG i) 12 = true ∧ (getSlot s i).clockStop ≠ 0 then setBit s (R.CSL_STATUS i) 9 true else s)

end Sys2Proof.Machine
end

