-- ==== Sys2Proof/Machine/Bus.lean ====
section
/-!
DEFINITION. Register space as masters see it: what a register reads as (R6, R7, R9), what a write does (R6, R8, R10), and an
access of one word at its destination (R27 to R31, R35, R81).
-/
namespace Sys2Proof.Machine

/-! ### Where a register is -/

/-- The waddr of the physical instance. -/
def physReg (s : State) (w : Nat) : Nat := if vatInst w then w - regInst w * 0x1000 + phys s (regInst w) * 0x1000 else w

/-! ### Computed registers -/

/-- A number as the value of a register. -/
def asReg (n : Nat) : Option (BitVec 16) := some (BitVec.ofNat 16 n)
/-- The VAT_ registers that show the vat's state (R221). -/
def vatView (s : State) (w : Nat) : Option (BitVec 16) :=
  if regOff w < 0x22 then asReg (phys s (regOff w))
  else if regOff w = 0x41 then asReg (b2n (getBit s w 1) * 2 + b2n s.swap.isSome)
  else if regOff w < 0x1000 then none
  else
    let p := regInst w
    let v := getVat s p
    match regOff w % 0x1000 with
    | 0x01 =>
      let busy := v.skim.isSome
      asReg (b2n (powered s p) * 0x8000 + b2n (v.clkStable && getBit s (R.VAT_CTRL p) 1) * 0x4000 + boundary s p * 0x1000
        + b2n (drained s p) * 0x800 + b2n busy * 0x400 + min 1023 (outstanding s p))
    | 0x04 => some (summary 0 (fun k => decide (k ∈ v.waiters)))
    | 0x42 => asReg (b2n v.loading.isSome * 0x8000 + b2n v.loadErr * 0x4000 + b2n v.loadDone * 0x2000)
    | o =>
      if 0x20 ≤ o ∧ o < 0x30 then
        asReg (((deque s p (o - 0x20)).filter (pinned s p)).length * 0x100 + (deque s p (o - 0x20)).length)
      else none
/-- The CHN_ registers that show the churn's state (R254). -/
def chnView (s : State) (w : Nat) : Option (BitVec 16) :=
  let c := (getVat s (regInst w)).churn
  let jobs := those 16 (fun k => (tget (fun _ => none) c.jobs k).isSome)
  match regOff w % 0x1000 with
  | 0 => asReg (b2n c.busy * 0x8000 + c.holder * 0x100 + (jobs.length - b2n c.busy))
  | 1 => some (summary 0 (fun k => decide (k ∈ jobs)))
  | 6 => some (summary 0 (fun i => decide (1 ≤ i ∧ i ≤ 3) || (decide (4 ≤ i) && (tget (fun _ => none) c.curves i).isSome)))
  | 7 => asReg (b2n c.kat * 0x4000 + b2n c.katPass * 0x2000 + b2n c.katFail * 0x1000)
  | _ => none
/-- The MAC_ registers that show the unit's state (R279). -/
def macView (s : State) (w : Nat) : Option (BitVec 16) :=
  let u := (getVat s (regInst w)).mac
  if regOff w < 0x1000 then none
  else match regOff w % 0x1000 with
  | 0 => asReg (b2n u.busy * 0x8000 + u.holder * 0x100 + min 255 u.sinceReseed)
  | 1 => some (summary 0 (fun k => (tget (fun _ => none) u.jobs k).isSome))
  | 6 => asReg (b2n u.kat * 0x4000 + b2n u.katPass * 0x2000 + b2n u.katFail * 0x1000)
  | _ => none
/-- The RNG_ registers that show sources and queues (R294). -/
def rngView (s : State) (w : Nat) : Option (BitVec 16) :=
  if w = R.RNG_CQ_STATUS then asReg (b2n (allStopped s) * 0x8000 + b2n (getBit s w 14) * 0x4000 + s.central.bits / 256)
  else if 4 ≤ regOff w ∧ regOff w < 7 then
    some (summary (16 * (regOff w - 4)) (fun n => decide (n < 34) && decide ((getVat s (phys s n)).noise.state = 3)))
  else if 0x1000 ≤ regOff w ∧ regOff w % 0x1000 = 0 then
    let n := (getVat s (regInst w)).noise
    asReg (n.state.toNat * 0x4000 + n.cause.toNat * 0x1000 + b2n n.atStartup * 0x800 + n.bits / 256)
  else none
/-- The arbiter MSH_ARB_SEL names, and the output whose g MSH_ARB_STATUS shows: output 0, or a router's lowest. -/
def selArb (s : State) : Nat × Nat :=
  let i := getFld s R.MSH_ARB_SEL 7 0
  (i, if 102 ≤ i ∧ i < 138 then ((List.range 6).find? (outputExists (i - 102))).getD 0 else 0)
/-- The MSH_ registers that show the mesh's state (R387). -/
def mshView (s : State) (w : Nat) : Option (BitVec 16) :=
  let (i, o) := selArb s
  if w = R.MSH_ARB_CFG then asReg (arbN s i)
  else if w = R.MSH_ARB_STATUS then asReg ((getArb s i o).g.toNat % 64)
  else if 0x40 ≤ regOff w ∧ regOff w < 0x80 then some (arbSlot s i (regOff w - 0x40))
  else if 0x84 ≤ regOff w ∧ regOff w < 0x87 then
    some (summary (16 * (regOff w - 0x84)) (fun r => decide (r < 36) && decide (getFld s (R.MSH_RTR_WDOG r) 5 0 ≠ 0)))
  else if 0x1000 ≤ regOff w ∧ regOff w % 0x1000 = 0 then
    let r := regInst w
    some ((summary 0 (fun o => decide (o < 6) && outputExists r o)) <<< 8
      ||| summary 0 (fun o => decide (o < 6) && decide (tget (fun _ => 0) s.mesh.held (r * 8 + o) ≠ 0)))
  else none
/-- The ACT_ registers that show the tables (R387). -/
def actView (s : State) (w : Nat) : Option (BitVec 16) :=
  let pair := fun (f : Nat × Nat → Nat) => match s.act.overlap with
    | some q => asReg (0x8000 + f q)
    | none => asReg 0
  match regOff w with
  | 1 => asReg (b2n s.act.applying * 0x8000 + b2n (decide (s.act.shadow ≠ s.act.applied)) * 0x4000 + b2n (getBit s w 13) * 0x2000
      + b2n s.act.overlap.isSome * 0x1000 + (s.act.applied.filter (fun q => q.2.enable)).length)
  | 3 => pair (·.1)
  | 4 => pair (·.2)
  | _ => none
/-- The TAG_ register that shows the tag's state (R497). -/
def tagView (s : State) (w : Nat) : Option (BitVec 16) :=
  if w = R.TAG_STATUS then
    let repairing := match s.tag.job with
      | some j => decide (j.kind = .repair)
      | none => false
    let busy := match s.tag.job with
      | some j => decide (j.kind = .supervisor)
      | none => false
    asReg (b2n s.ext.field * 0x8000 + b2n (tagSession s) * 0x4000 + b2n busy * 0x2000
      + b2n (decide (s.tag.repairs = []) && !repairing) * 0x1000 + s.tag.air.state * 0x100)
  else none
/-- The TMP_ registers that show sources and evidence (R514). -/
def tmpView (s : State) (w : Nat) : Option (BitVec 16) :=
  match regOff w with
  | 0 => asReg (b2n (getBit s w 2) * 4 + b2n s.tmp.stall * 2 + b2n s.tmp.hold)
  | 7 =>
    let waits := decide (s.tmp.queue ≠ []) || decide (s.tmp.fuseJobs ≠ [])
    asReg (b2n (waits && s.ext.dip.isNone) * 0x8000 + b2n (waits && s.ext.dip.isSome) * 0x4000 + min 255 s.tmp.queue.length)
  | o =>
    if 1 ≤ o ∧ o < 4 then some (summary (16 * (o - 1)) (fun i => (getSrc s i).firing))
    else if 4 ≤ o ∧ o < 7 then some (summary (16 * (o - 4)) (fun i => srcFused s i))
    else if 0x100 ≤ o ∧ o < 0x1C0 ∧ o % 4 = 2 then
      let i := (o - 0x100) / 4
      let t := getSrc s i
      asReg ((if srcFused s i then 2 else b2n t.firing) * 0x4000 + b2n t.detA * 0x2000 + b2n t.detB * 0x1000
        + b2n (getBit s w 11) * 0x800 + b2n (getBit s w 10) * 0x400 + b2n (decide (240 ≤ evidence s i)) * 0x200
        + b2n t.settling * 0x100)
    else none
/-- The FLT_ registers that show the collector's state (R519). -/
def fltView (s : State) (w : Nat) : Option (BitVec 16) :=
  let o := regOff w
  if o < 8 then some ((faultWords s).getD o 0)
  else match o with
  | 8 => asReg (b2n s.flt.first.isSome * 0x8000 + b2n s.flt.overflow * 0x4000 + b2n s.flt.escalated * 0x2000 + b2n s.flt.storm * 0x1000)
  | 0xA => asReg s.flt.total
  | 0xB => asReg (s.flt.total / 65536)
  | _ => none
/-- The lowest enabled pending source routed to a line (R554). -/
def lineSource (s : State) (l : Nat) : Option Nat :=
  (List.range 640).find? (fun n => s.evc.pend.getLsbD n && bit (getReg s (R.EVC_ROUTE n)) 15
    && decide (fld (getReg s (R.EVC_ROUTE n)) 4 0 = l))
/-- The EVC_ registers that show pending sources and lines (R554). -/
def evcView (s : State) (w : Nat) : Option (BitVec 16) :=
  let o := regOff w
  if o = 0 then match (List.range 32).find? (lineAsserted s) with
    | some l => asReg (0x8000 + l)
    | none => asReg 0
  else if o < 3 then some (summary (16 * (o - 1)) (lineAsserted s))
  else if 0x10 ≤ o ∧ o < 0x30 then match lineSource s (o - 0x10) with
    | some n => asReg (0x8000 + n)
    | none => asReg 0
  else if 0x40 ≤ o ∧ o < 0x68 then some (summary (16 * (o - 0x40)) (fun n => s.evc.pend.getLsbD n))
  else if 0x70 ≤ o ∧ o < 0x74 then some (summary (16 * (o - 0x70)) (fun n => s.evc.pails.getLsbD n))
  else none
/-- The CAL_ registers of the selected item (R524). -/
def calView (s : State) (w : Nat) : Option (BitVec 16) :=
  let i := (getReg s R.CAL_ITEM).toNat
  match regOff w with
  | 1 => some (calFactory s i)
  | 2 => some (calOffset s i)
  | 3 => asReg (calBound s i)
  | 4 => some (calEffective s i)
  | 5 => asReg (b2n (getBit s w 15) * 0x8000 + b2n ((calSources i).any (fun j => (getSrc s j).settling)) * 0x4000
      + b2n (!calCrcOk s) * 0x2000 + b2n (getBit s w 12) * 0x1000)
  | _ => none
/-- The registers of the ports and slots that show pins and modes (R449, R455, R474). -/
def portView (s : State) (w : Nat) : Option (BitVec 16) :=
  let o := regOff w
  match regBlock w with
  | 9 => if 1 ≤ o ∧ o < 3 then some (summary (16 * (o - 1)) (fun p => decide (modeNow s p = 3))) else none
  | 11 =>
    if 2 ≤ o ∧ o < 4 then some (summary (16 * (o - 2)) (fun p => s.ext.ctpStat.getLsbD p))
    else if 0x1000 ≤ o ∧ o % 0x1000 = 2 then some (ctpPins s (regInst w)) else none
  | 12 =>
    if o = 0 then some s.ext.cards else if o = 1 then some (summary 0 (fun i => decide (cslState s i ≠ 0))) else none
  | _ => none
/-- What a register that is not simply stored reads as, by the waddr of its physical instance. -/
def regView (s : State) (w : Nat) : Option (BitVec 16) :=
  match regBlock w with
  | 2 => chnView s w
  | 3 => macView s w
  | 4 => rngView s w
  | 5 => mshView s w
  | 6 => actView s w
  | 7 => dmaView s w
  | 8 => flcView s w
  | 13 => tagView s w
  | 14 => tmpView s w
  | 15 => fltView s w
  | 16 => evcView s w
  | 17 => if regOff w = 0 then some (s.bat.timeBase.setWidth 16) else none
  | 18 => vatView s w
  | 20 => calView s w
  | _ => portView s w
/-- What a register reads as, without the effects of the read. -/
def peekReg (s : State) (w : Nat) : BitVec 16 :=
  if regBlock w = 1 then prlRead s w
  else match regView s (physReg s w) with
  | some v => v
  | none => getReg s (physReg s w)

/-! ### Reading a register (R6, R9) -/

/-- The RC bits of a register are cleared by a read that returns them. -/
def clearRc (s : State) (w : Nat) : State :=
  match regSpec w with
  | some r => if r.rc = 0 then s else setReg s w (getReg s w &&& ~~~r.rc)
  | none => s
/-- Read a register by its logical waddr: its value, and the state after the read. VAT_CQ_POP removes a completion (R199),
RNG_CQ_DATA removes bits (R291), CLK_TB(0) latches CLK_TB(1) and CLK_TB(2) (R455), PRL_RING_DROPPED clears. -/
def readReg (s : State) (w : Nat) : BitVec 16 × State :=
  let pw := physReg s w
  if regBlock w = 1 then
    (prlRead s w, if regOff w = 0x12 then { s with parlour := { s.parlour with dropped := 0 } } else s)
  else if w = R.RNG_CQ_DATA then softRead s
  else if vatInst w = true ∧ regBlock w = 18 ∧ regOff w % 0x1000 = 0x13 then cqPop s (regInst pw)
  else if w = R.CLK_TB 0 then
    (s.bat.timeBase.setWidth 16, setRegs s (R.CLK_TB 1) [(s.bat.timeBase >>> 16).setWidth 16, (s.bat.timeBase >>> 32).setWidth 16])
  else (peekReg s w, clearRc s pw)

/-! ### Writing a register (R6, R8, R10) -/

/-- A write to the stored bits of a register by their types; `locked` says that its RWL bits are locked. -/
def writeTyped (s : State) (w : Nat) (v : BitVec 16) (locked : Bool) : State :=
  match regSpec w with
  | none => s
  | some r =>
    let m := if locked then r.rw else r.rw ||| r.rwl
    let old := getReg s w
    setReg s w (((old &&& ~~~m) ||| (v &&& m)) &&& ~~~(v &&& r.w1c))
/-- A field's value held to a range. -/
def clampTo (lo hi n : Nat) : Nat := max lo (min hi n)
/-- A write to the VAT_ block. -/
def writeVatReg (s : State) (w : Nat) (v : BitVec 16) : State :=
  let p := regInst w
  if w = R.VAT_SWAP then writeVatSwap s v
  else if regOff w < 0x1000 then writeTyped s w v false
  else match regOff w % 0x1000 with
  | 0x00 => writeVatCtrl s p v
  | 0x02 => writeCellRun s p v
  | 0x10 => dqPush s p (fld v 13 10) (fld v 9 0)
  | 0x11 => dqDrain s p (fld v 3 0)
  | 0x42 => writeLoadCtrl s p v
  | _ => writeTyped s w v false
/-- A write to the CHN_ block. -/
def writeChnReg (s : State) (w : Nat) (v : BitVec 16) : State :=
  match regOff w % 0x1000 with
  | 2 => writeChnCancel s (regInst w) v
  | 7 => writeChnKat s (regInst w) v
  | _ => writeTyped s w v false
/-- A write to the MAC_ block; MAC_CFG.LOCK is set and never cleared (R279). -/
def writeMacReg (s : State) (w : Nat) (v : BitVec 16) : State :=
  let p := regInst w
  if regOff w < 0x1000 then s
  else match regOff w % 0x1000 with
  | 0x02 => writeMacCancel s p v
  | 0x04 => writeTyped s w (if getBit s w 15 then v ||| 0x8000 else v) (getBit s w 15)
  | 0x06 => writeMacKat s p v
  | 0x11 => writeCtrCmd s p v
  | _ => writeTyped s w v false
/-- A write to the RNG_ block, with the limits of its fields (R294). -/
def writeRngReg (s : State) (w : Nat) (v : BitVec 16) : State :=
  if w = R.RNG_CQ_CFG then setReg s w (BitVec.ofNat 16 (min 2048 (fld v 11 0)))
  else if 0x1000 ≤ regOff w ∧ regOff w % 0x1000 = 1 then setReg s w (BitVec.ofNat 16 (min 128 (fld v 7 0)))
  else writeTyped s w v false
/-- A write of MSH_SWDOG_KICK: the key restarts the count, of which the device shows nothing (log entry 7). -/
def swdogKick (s : State) (_v : BitVec 16) : State := s
/-- Whether a transfer is the one of a master that stands at a router output. -/
def standsAt (s : State) (m : BitVec 10) (r o : Nat) (t : Transfer) : Bool :=
  decide (t.master = m) && !t.abandoned && (match xferHead s t with
    | some (x, y, _) => decide (x = r) && decide (y = o)
    | none => false)
/-- The transfer held at a router output is discarded and its master told: a core's by an error reply that has no way left to go, a
BUS fault or a refusal of a posted write (R384); a channel fails with BUS (R398); another master's access is recorded (R27). -/
def abortXfer (s : State) (r o : Nat) (m : BitVec 10) : State :=
  if 513 ≤ m.toNat ∧ m.toNat < 577 then dmaBusFails s (m.toNat - 513)
  else match s.mesh.xfers.find? (fun q => match q.2 with
      | some t => standsAt s m r o t
      | none => false) with
  | some (n, some t) =>
    setXfer s n (some { t with words := [], phase := .reply 10, cause := some ⟨.bus, some t.addr⟩, hop := 64 })
  | _ => if 577 ≤ m.toNat then busFault s .none m 0 else s
/-- A write of MSH_RTR_ABORT (R384): each named output that holds a transfer lets go of it. -/
def routerAbort (s : State) (r : Nat) (v : BitVec 16) : State :=
  (List.range 6).foldl (fun s o =>
    let h := tget (fun _ => (0 : Nat)) s.mesh.held (r * 8 + o)
    if bit v o ∧ h ≠ 0 then
      abortXfer { s with mesh := { s.mesh with held := tset (fun _ => 0) s.mesh.held (r * 8 + o) 0 } } r o (BitVec.ofNat 10 (h - 1))
    else s) s
/-- A write to the MSH_ block (R387). -/
def writeMshReg (s : State) (w : Nat) (v : BitVec 16) : State :=
  let (i, _) := selArb s
  if w = R.MSH_REPLY_LIMIT then setReg s w (BitVec.ofNat 16 (max 1 (fld v 7 0)))
  else if w = R.MSH_POST_EN 2 then setReg s w (v &&& 3)
  else if w = R.MSH_ARB_SEL then setReg s w (BitVec.ofNat 16 (min 138 (fld v 7 0)))
  else if w = R.MSH_ARB_CFG then
    { s with mesh := { s.mesh with interval := tset (fun _ => 16) s.mesh.interval i (BitVec.ofNat 7 (clampTo 4 64 (fld v 6 0))) } }
  else if 0x40 ≤ regOff w ∧ regOff w < 0x80 then
    { s with mesh := { s.mesh with slots := tset (fun _ => 0) s.mesh.slots (i * 64 + (regOff w - 0x40)) (v &&& 0x801F) } }
  else if w = R.MSH_SWDOG_KICK then swdogKick s v
  else if 0x1000 ≤ regOff w ∧ regOff w % 0x1000 = 3 then routerAbort s (regInst w) v
  else writeTyped s w v false
/-- A write of ACT_CTRL: WRITE, LOAD, CLEAR_PART and APPLY, in that order where several bits are set (log entry 39). -/
def writeActCtrl (s : State) (v : BitVec 16) : State :=
  let s := if bit v 14 then actWrite s else s
  let s := if bit v 13 then actLoad s else s
  let s := if bit v 12 then clearPart s (fld v 11 8) else s
  if bit v 15 then requestApply s else s
/-- The bits of word w of an access table entry that are no Reserved field (R364). -/
def entryMask : Nat → BitVec 16
  | 4 => 0xC3FF
  | 5 => 0x03FF
  | 6 => 0xFC0F
  | 7 => 0x001F
  | _ => 0xFFFF
/-- A write to the ACT_ block (R371, R387); Reserved fields of a staged entry keep 0 (R7, R364). -/
def writeActReg (s : State) (w : Nat) (v : BitVec 16) : State :=
  if w = R.ACT_CTRL then writeActCtrl s v
  else if 0x10 ≤ regOff w ∧ regOff w < 0x1A then setReg s w (v &&& entryMask (regOff w - 0x10))
  else writeTyped s w v false
/-- A write to the DMA_ block: DESC_SPACE 3 is stored as 2; it and DMA_CH_DESC keep their value while the channel runs
(R402). -/
def writeDmaReg (s : State) (w : Nat) (v : BitVec 16) : State :=
  let c := regInst w
  let runs := decide ((getDma s c).phase ≠ .idle)
  if regOff w < 0x1000 then s
  else match regOff w % 0x1000 with
  | 0 => writeDmaCtrl s c v
  | 1 =>
    let space := if runs then descSpace s c else min 2 (fld v 1 0)
    setReg s w ((v &&& 0x000C) ||| BitVec.ofNat 16 space)
  | o => if 4 ≤ o ∧ o < 8 ∧ runs then s else writeTyped s w v false
/-- A write to the FLC_ block (R429). -/
def writeFlcReg (s : State) (w : Nat) (v : BitVec 16) : State :=
  let b := regInst w
  let busy := (getBank s b).job.isSome
  if w = R.FLC_PROT then writeProt s (fld v 1 0)
  else if w = R.FLC_CFG then
    let warn := fld v 15 12
    setReg s w (BitVec.ofNat 16 ((if warn = 0 ∨ 12 ≤ warn then 11 else warn) * 0x1000 + clampTo 1 40 (fld v 5 0)))
  else if regOff w < 0x1000 then writeTyped s w v false
  else match regOff w % 0x1000 with
  | 0 => flcGo s b v
  | 1 => if busy then setFld s w 5 0 (fld v 5 0) else writeTyped s w v false
  | 2 => if busy then s else writeTyped s w v false
  | 3 => if busy then s else writeTyped s w v false
  | _ => writeTyped s w v false
/-- A write of DVP_CTRL: whether the responder acknowledges an address is the outside world's: a free bit here, an operand in
the row ADDRESS. -/
def writeDvpCtrl (s : State) (p : Nat) (v : BitVec 16) : State :=
  let s := if bit v 15 then dvpSend s p else s
  if bit v 14 then
    let (r, s) := draw16 s
    dvpAddress s p (r.getLsbD 0)
  else s
/-- A write to the FGP_, DVP_, CTP_ or CSL_ block (R455, R474). FGP_LOCK and CTP_GATE are set and never cleared. -/
def writePortReg (s : State) (w : Nat) (v : BitVec 16) : State :=
  let i := regInst w
  let inst := decide (0x1000 ≤ regOff w)
  let o := regOff w % 0x1000
  match regBlock w with
  | 9 =>
    if inst then (if o = 0 then writeGuardCtrl s i v else writeTyped s w v (getBit s R.FGP_LOCK 0))
    else if w = R.FGP_LOCK then (if bit v 0 then setBit s w 0 true else s) else s
  | 10 => if inst ∧ o = 0 then writeDvpCtrl s i v else writeTyped s w v false
  | 11 => if inst then writeTyped s w v false else if w = R.CTP_GATE then writeGate s v else s
  | 12 =>
    if !inst then s
    else if o = 0 then writeCslCtrl s i v
    else if o = 1 then
      let n := fld v 6 0
      setReg s w ((v &&& 0xF800) ||| BitVec.ofNat 16 (if 4 ≤ n ∧ n ≤ 80 then n else 20))
    else if 0x100 ≤ o ∧ o < 0x200 ∧ cslState s i = 3 then s
    else writeTyped s w v false
  | _ => s
/-- A write to the TAG_ block: TAG_BUF keeps its words while the supervisor's operation runs (R497). -/
def writeTagReg (s : State) (w : Nat) (v : BitVec 16) : State :=
  if w = R.TAG_CMD then writeTagCmd s v
  else if 0x10 ≤ regOff w ∧ bit (peekReg s R.TAG_STATUS) 13 then s
  else writeTyped s w v false
/-- A write to the TMP_ block (R514). -/
def writeTmpReg (s : State) (w : Nat) (v : BitVec 16) : State :=
  let o := regOff w
  if w = R.TMP_FUSE then writeTmpFuse s v
  else if 0x100 ≤ o ∧ o % 4 = 0 then writeSrcCfg s ((o - 0x100) / 4) v
  else if 0x100 ≤ o ∧ o % 4 = 1 then writeSrcQuiet s ((o - 0x100) / 4) v
  else writeTyped s w v false
/-- A write to the FLT_ block (R519). -/
def writeFltReg (s : State) (w : Nat) (v : BitVec 16) : State :=
  if w = R.FLT_ACK then writeFltAck s v
  else if w = R.FLT_STORM_CFG then setReg s w (BitVec.ofNat 16 (max 1 (fld v 15 8) * 0x100 + max 1 (fld v 7 0)))
  else writeTyped s w v false
/-- A write to the EVC_ block: pending bits written 1 are cleared (R554). -/
def writeEvcReg (s : State) (w : Nat) (v : BitVec 16) : State :=
  let o := regOff w
  if 0x40 ≤ o ∧ o < 0x68 then
    { s with evc := { s.evc with pend := s.evc.pend &&& ~~~(v.setWidth 640 <<< (16 * (o - 0x40))) } }
  else if 0x70 ≤ o ∧ o < 0x74 then
    { s with evc := { s.evc with pails := s.evc.pails &&& ~~~(v.setWidth 64 <<< (16 * (o - 0x70))) } }
  else writeTyped s w v false
/-- A write to the CAL_ block (R524). -/
def writeCalReg (s : State) (w : Nat) (v : BitVec 16) : State :=
  match regOff w with
  | 0 => writeCalItem s v
  | 2 => writeCalOffset s v
  | _ => writeTyped s w v false
/-- A write of a DATA word to a register, by its logical waddr, under a master that the access table allows. -/
def writeReg (s : State) (m : BitVec 10) (w : Nat) (v : BitVec 16) : State :=
  let pw := physReg s w
  match regBlock w with
  | 0 => if w = R.PWR_RESET then (if v = 0xC1A5 then firmReset s false else if v = 0xC1A6 then firmReset s true else s) else writeTyped s w v false
  | 1 => prlWrite s m w v
  | 2 => writeChnReg s pw v
  | 3 => writeMacReg s pw v
  | 4 => writeRngReg s pw v
  | 5 => writeMshReg s w v
  | 6 => writeActReg s w v
  | 7 => writeDmaReg s w v
  | 8 => writeFlcReg s w v
  | 13 => writeTagReg s w v
  | 14 => writeTmpReg s w v
  | 15 => writeFltReg s w v
  | 16 => writeEvcReg s w v
  | 17 => writeTyped s w v false
  | 18 => writeVatReg s pw v
  | 20 => writeCalReg s w v
  | _ => writePortReg s w v

/-! ### One word at its destination -/

/-- How an access of one word fares at its destination. -/
inductive Answer where
  | word (w : Word)
  | tag
  | bus
  deriving DecidableEq, Repr
/-- Read one word of a waddr (R27 to R31): RAM with its tag, OTP, a flash bank that is not busy, or a register. -/
def destRead (s : State) (a : Nat) : Answer × State :=
  if isHole s a false then (.bus, s)
  else match region a with
  | .register =>
    let (v, s) := readReg s a
    (.word (dataWord v), s)
  | .otp o => (.word (dataWord (otpWord s o)), s)
  | .flash b o =>
    if !s.flash.linkUp then (.bus, s)
    else if (getBank s b).job.isSome then (.bus, busyRead s b)
    else (.word (dataWord (pageWord s b (o / 2048) (o % 2048))), s)
  | _ => (.word (ramWord s (physAddr s a)), s)
/-- Write one word at a waddr: a register takes DATA only (R8), a pail area too (R81), and a CODE word of RAM is not
overwritten (R303 check 6) but by a loader write (R369). -/
def destWrite (s : State) (m : BitVec 10) (a : Nat) (w : Word) (loader : Bool) : Answer × State :=
  if isHole s a true then (.bus, s)
  else match region a with
  | .register => if w.tag = .data then (.word w, writeReg s m a w.val) else (.tag, s)
  | .pailArea => if w.tag = .data then (.word w, writeMem s a w) else (.tag, s)
  | .otp _ => (.bus, s)
  | .flash _ _ => (.bus, s)
  | _ =>
    if (readMem s (physAddr s a)).tag = .code ∧ loader = false then (.tag, s)
    else (.word w, writeMem s (physAddr s a) w)

/-! ### Reads of RC registers and writes of registers as commands -/

/-- A master reads a register: refused by the access table (R9: nothing is cleared), a bus fault, or the value. -/
def regRead (m : Master) (w : Nat) (s : State) : State :=
  if hasMain s = false ∨ accessWaits s w = true then s
  else match checkWord s m w .read false with
  | some (r, e) => tableRefusal s r e .read m w
  | none =>
    match destRead s w with
    | (.word v, s) => { s with lastRead := v }
    | (_, s) => { busFault s .read m w with lastRead := zeroWord }
/-- Whether a master is a PCIe port: it reaches the Parlour's registers through BAR0 and nothing else, without the table (R79, R363). -/
def isPort (m : BitVec 10) : Bool := decide (m = 577) || decide (m = 578)
/-- A port's write of half a 32-bit register of BAR0 (R5, R79); nothing arrives while the port is not there (R96). -/
def portWrite (m : Master) (w : Nat) (v : BitVec 16) (s : State) : State :=
  if portLive s (portOf (decide (m = 578))) = true ∧ regBlock w = 1 ∧ regOff w < 0x800 ∧ region w = .register then prlWrite s m w v else s
/-- A master writes a register: refused (R38, R367, R370), a tag fault (R8), a bus fault (R27), or carried out. -/
def regWrite (m : Master) (w : Nat) (v : Word) (s : State) : State :=
  if hasMain s = false ∨ accessWaits s w = true then s
  else if isPort m then portWrite m w v.val s
  else match checkWord s m w .write (isSecret v) with
  | some (r, e) => tableRefusal s r e .write m w
  | none =>
    match destWrite s m w v false with
    | (.word _, s) => s
    | (.tag, s) => fault s 1 578 .tag m (BitVec.ofNat 32 w)
    | (.bus, s) => busFault s .write m w
/-- REGISTER_WRITE (R6, R8). A waddr that is no register is one R27 describes; RAM and pail areas hold no register. -/
def execRegisterWrite (master : Master) (waddr : BitVec 32) (word : Word) (s : State) : Host.Outcome State Fault Refusal :=
  .next (if isRam s waddr.toNat then s else regWrite master waddr.toNat word s)
/-- PRL_RING_DROPPED (R6): a read through a port; while the device is being reset it returns 0 (R96). -/
def execPrlRingDropped (port : PciePort) (s : State) : Host.Outcome State Fault Refusal :=
  .next (if portLive s port then { s with lastRead := dataWord s.parlour.dropped, parlour := { s.parlour with dropped := 0 } }
    else readsZero s (!hasMain s || (getPort s port).inReset))
/-- VAT_SKIM_COUNT (R6): a read. -/
def execVatSkimCount (master : Master) (vat : VatId) (s : State) : Host.Outcome State Fault Refusal :=
  .next (regRead master (R.VAT_SKIM_COUNT vat.val) s)
/-- CHN_MISMATCH (R6): a read. -/
def execChnMismatch (master : Master) (vat : VatId) (s : State) : Host.Outcome State Fault Refusal :=
  .next (regRead master (R.CHN_MISMATCH vat.val) s)
/-- CHN_OPS (R6): a read. -/
def execChnOps (master : Master) (vat : VatId) (s : State) : Host.Outcome State Fault Refusal :=
  .next (regRead master (R.CHN_OPS vat.val) s)
/-- CHN_SWITCHES (R6): a read. -/
def execChnSwitches (master : Master) (vat : VatId) (s : State) : Host.Outcome State Fault Refusal :=
  .next (regRead master (R.CHN_SWITCHES vat.val) s)
/-- MAC_RESEEDS (R6): a read. -/
def execMacReseeds (master : Master) (vat : VatId) (s : State) : Host.Outcome State Fault Refusal :=
  .next (regRead master (R.MAC_RESEEDS vat.val) s)
/-- RNG_RCT_PEAK (R6): a read. -/
def execRngRctPeak (master : Master) (vat : VatId) (s : State) : Host.Outcome State Fault Refusal :=
  .next (regRead master (R.RNG_RCT_PEAK vat.val) s)
/-- RNG_APT_PEAK (R6): a read. -/
def execRngAptPeak (master : Master) (vat : VatId) (s : State) : Host.Outcome State Fault Refusal :=
  .next (regRead master (R.RNG_APT_PEAK vat.val) s)
/-- RNG_FALLBACK (R6): a read. -/
def execRngFallback (master : Master) (vat : VatId) (s : State) : Host.Outcome State Fault Refusal :=
  .next (regRead master (R.RNG_FALLBACK vat.val) s)
/-- MSH_BIC_COUNT (R6): a read. -/
def execMshBicCount (master : Master) (s : State) : Host.Outcome State Fault Refusal :=
  .next (regRead master (R.MSH_BIC_COUNT) s)
/-- MSH_LATE (R6): a read. -/
def execMshLate (master : Master) (s : State) : Host.Outcome State Fault Refusal :=
  .next (regRead master (R.MSH_LATE) s)
/-- MSH_RTR_AGE_MAX (R6): a read. -/
def execMshRtrAgeMax (master : Master) (router : Router) (s : State) : Host.Outcome State Fault Refusal :=
  .next (regRead master (R.MSH_RTR_AGE_MAX router.val) s)
/-- MSH_RTR_GRANTS (R6): a read. -/
def execMshRtrGrants (master : Master) (router : Router) (output : Fin 6) (s : State) : Host.Outcome State Fault Refusal :=
  .next (regRead master (R.MSH_RTR_GRANTS router.val output.val) s)
/-- ACT_VIOL_COUNT (R6): a read. -/
def execActViolCount (master : Master) (s : State) : Host.Outcome State Fault Refusal :=
  .next (regRead master (R.ACT_VIOL_COUNT) s)
/-- DMA_CH_COUNT (R6): a read. -/
def execDmaChCount (master : Master) (ch : DmaCh) (s : State) : Host.Outcome State Fault Refusal :=
  .next (regRead master (R.DMA_CH_COUNT ch.val) s)
/-- FLC_LINK_ERRS (R6): a read. -/
def execFlcLinkErrs (master : Master) (s : State) : Host.Outcome State Fault Refusal :=
  .next (regRead master (R.FLC_LINK_ERRS) s)
/-- FLC_RETRY_COUNT (R6): a read. -/
def execFlcRetryCount (master : Master) (bank : Bank) (s : State) : Host.Outcome State Fault Refusal :=
  .next (regRead master (R.FLC_RETRY_COUNT bank.val) s)
/-- FLC_CORR_MAX (R6): a read. -/
def execFlcCorrMax (master : Master) (bank : Bank) (s : State) : Host.Outcome State Fault Refusal :=
  .next (regRead master (R.FLC_CORR_MAX bank.val) s)
/-- FLC_BUSY_READS (R6): a read. -/
def execFlcBusyReads (master : Master) (bank : Bank) (s : State) : Host.Outcome State Fault Refusal :=
  .next (regRead master (R.FLC_BUSY_READS bank.val) s)
/-- FGP_BLOCKED (R6): a read. -/
def execFgpBlocked (master : Master) (port : GuardPort) (s : State) : Host.Outcome State Fault Refusal :=
  .next (regRead master (R.FGP_BLOCKED port.val) s)
/-- DVP_IBI_COUNT (R6): a read. -/
def execDvpIbiCount (master : Master) (port : DevPort) (s : State) : Host.Outcome State Fault Refusal :=
  .next (regRead master (R.DVP_IBI_COUNT port.val) s)
/-- CLK_TREF_STATUS (R6): a read. -/
def execClkTrefStatus (master : Master) (s : State) : Host.Outcome State Fault Refusal :=
  .next (regRead master (R.CLK_TREF_STATUS) s)
/-- CLK_TB(0) (R6): a read. -/
def execClkTb (master : Master) (s : State) : Host.Outcome State Fault Refusal :=
  .next (regRead master (R.CLK_TB 0) s)
/-- CSL_ERRS (R6): a read. -/
def execCslErrs (master : Master) (slot : Slot) (s : State) : Host.Outcome State Fault Refusal :=
  .next (regRead master (R.CSL_ERRS slot.val) s)
/-- TAG_REFUSALS (R6): a read. -/
def execTagRefusals (master : Master) (s : State) : Host.Outcome State Fault Refusal :=
  .next (regRead master (R.TAG_REFUSALS) s)
/-- TMP_SRC_COUNT (R6): a read. -/
def execTmpSrcCount (master : Master) (source : Fin 48) (s : State) : Host.Outcome State Fault Refusal :=
  .next (regRead master (R.TMP_SRC_COUNT source.val) s)
/-- FLT_RECOVERIES (R6): a read. -/
def execFltRecoveries (master : Master) (s : State) : Host.Outcome State Fault Refusal :=
  .next (regRead master (R.FLT_RECOVERIES) s)
/-- FLT_CLASS_COUNT (R6): a read. -/
def execFltClassCount (master : Master) (cls : Fin 4) (s : State) : Host.Outcome State Fault Refusal :=
  .next (regRead master (R.FLT_CLASS_COUNT cls.val) s)

/-! ### ACT_CTRL as commands (R371, R372) -/

/-- APPLY (R371). -/
def execApply (s : State) : Host.Outcome State Fault Refusal := .next (if hasMain s then requestApply s else s)
/-- WRITE (R371). -/
def execActWrite (s : State) : Host.Outcome State Fault Refusal := .next (if hasMain s then actWrite s else s)
/-- LOAD (R371). -/
def execActLoad (s : State) : Host.Outcome State Fault Refusal := .next (if hasMain s then actLoad s else s)
/-- CLEAR_PART (R372). -/
def execClearPart (part : Fin 16) (s : State) : Host.Outcome State Fault Refusal := .next (if hasMain s then clearPart s part.val else s)

end Sys2Proof.Machine
end

