-- ==== Sys2Proof/Machine/DmaMove.lean ====
section
/-!
DEFINITION. What a DMA channel moves (R388 to R401): descriptor fetches and their checks, bursts, write-backs, host time-outs.
-/
namespace Sys2Proof.Machine

/-! ### Reaching internal memory -/

/-- A channel reads one word: allowed, answered, and tagged DATA or CODE (R388, R391). -/
def dmaReadWord (s : State) (m : BitVec 10) (a : Nat) : Except DmaFail (BitVec 16) × State :=
  if flashShut s m a then (.error ⟨dBUS, a, none⟩, s)
  else match checkWord s m a .read false with
  | some (r, e) => (.error ⟨dACCESS, a, some (r, e)⟩, s)
  | none =>
    match destRead s a with
    | (.word w, t) => if w.tag = .data ∨ w.tag = .code then (.ok w.val, t) else (.error ⟨dTAG, a, none⟩, s)
    | (_, t) => (.error ⟨dBUS, a, none⟩, t)
/-- The words of one part, read in order; the first that is not answered fails it. -/
def dmaReadWords (s : State) (m : BitVec 10) (a : Nat) : Nat → Except DmaFail (List (BitVec 16)) × State
  | 0 => (.ok [], s)
  | n + 1 =>
    match dmaReadWord s m a with
    | (.error f, s) => (.error f, s)
    | (.ok w, s) =>
      match dmaReadWords s m (a + 1) n with
      | (.ok ws, s) => (.ok (w :: ws), s)
      | (.error f, s) => (.error f, s)
/-- One part of a read: judged whole before any of it is read (R368); what other parts gave stays (R30), and the first failure of
the access is the one reported. -/
def dmaReadPart (m : BitVec 10) (st : Except DmaFail (List (BitVec 16)) × State) (part : Nat × Nat) :
    Except DmaFail (List (BitVec 16)) × State :=
  let (acc, s) := st
  let first := fun (f : DmaFail) => match acc with
    | .error g => Except.error g
    | .ok _ => Except.error f
  match (if flashShut s m part.1 then none else checkRange s m part.1 part.2 .read false) with
  | some (x, r, e) => (first ⟨if r = .secret then dTAG else dACCESS, x, some (r, e)⟩, s)
  | none =>
    match pagesNow m .dma s (windowPages part.1 part.2) with
    | (some x, s) => (first ⟨dBUS, x, none⟩, s)
    | (none, s) =>
      match acc, dmaReadWords s m part.1 part.2 with
      | .ok ws, (.ok vs, s) => (.ok (ws ++ vs), s)
      | .error g, (_, s) => (.error g, s)
      | .ok _, (.error f, s) => (.error f, s)
/-- Words from a waddr upwards, part by part. -/
def dmaRead (s : State) (m : BitVec 10) (a n : Nat) : Except DmaFail (List (BitVec 16)) × State :=
  (granules a n (n + 1)).foldl (dmaReadPart m) (.ok [], s)
/-- A read that meets a mismatch of the integrity code (R361): the part that meets it is a free value (log entry 122); those before it
are read. -/
def dmaReadBroken (s : State) (m : BitVec 10) (a n : Nat) : DmaFail × State :=
  let parts := granules a n (n + 1)
  let (r, s) := draw16 s
  let i := r.toNat % parts.length
  match (parts.take i).foldl (dmaReadPart m) (.ok [], s) with
  | (.error f, s) => (f, s)
  | (.ok _, s) => (⟨dINTEGRITY, (parts.getD i (a, n)).1, none⟩, noteMismatch s 4 m)
/-- Why the destination does not take a word of a channel: nothing answers there, or a target that is not tagged DATA (R391). -/
def dmaMayWrite (s : State) (a : Nat) : Option DmaFail :=
  if isHole s a true then some ⟨dBUS, a, none⟩
  else if isRam s a ∧ (readMem s (physAddr s a)).tag ≠ .data then some ⟨dTAG, a, none⟩ else none
/-- Write one part: judged whole at its egress (R367, R368), then by its destination; none of its words unless every word may be
written. -/
def dmaWritePart (s : State) (m : BitVec 10) (a : Nat) (ws : List (BitVec 16)) : Option DmaFail × State :=
  match checkRange s m a ws.length .write false with
  | some (x, r, e) => (some ⟨if r = .secret then dTAG else dACCESS, x, some (r, e)⟩, s)
  | none =>
    match (List.range ws.length).findSome? (fun i => dmaMayWrite s (a + i)) with
    | some f => (some f, s)
    | none => (none, (List.range ws.length).foldl (fun s i => (destWrite s m (a + i) (dataWord (ws.getD i 0)) false).2) s)

/-! ### The ports of a channel -/

/-- Whether a channel may use a host port (R389). -/
def hostOpen (s : State) (c space : Nat) : Bool :=
  let port : PciePort := if space = 0 then .host else .aux
  getBit s (R.DMA_CH_CFG c) (2 + space) && (getPort s port).busMaster && portLive s port
/-- The port of a host space. -/
def spacePort (space : Nat) : PciePort := if space = 0 then .host else .aux

/-! ### Descriptor fetch (R392 to R394) -/

/-- The elements of a list in a descriptor. -/
def elemsAt (b : Bytes) (off : Nat) : Nat → List (BitVec 64 × Nat)
  | 0 => []
  | n + 1 => (BitVec.ofNat 64 (leAt b off 8), leAt b (off + 8) 4) :: elemsAt b (off + 16) n
/-- Whether an internal element keeps check 6 of R394. -/
def elementOk (e : BitVec 64 × Nat) : Bool :=
  let a := e.1.toNat
  decide (a < 2 ^ 32) && decide (e.2 % 2 = 0) && decide (a + e.2 / 2 ≤ 2 ^ 32)
/-- Whether an internal destination element overlaps the flash window: check 7 of R394. -/
def overFlash (e : BitVec 64 × Nat) : Bool :=
  decide (0 < e.2) && decide (e.1.toNat < 0x24000000) && decide (0x20000000 < e.1.toNat + e.2 / 2)
/-- The first element of an internal side that a test picks, with its side. -/
def findElement (side : DmaSide) (dst : Bool) (bad : BitVec 64 × Nat → Bool) : Option (Nat × Bool) :=
  if side.space = 2 then (side.elems.findIdx? bad).map (fun i => (i, dst)) else none
/-- The length of a descriptor in bytes: its header alone where the numbers of elements are not valid. -/
def descLength (b : Bytes) : Nat :=
  let ns := leAt b 14 1
  let nd := leAt b 15 1
  if 1 ≤ ns ∧ ns ≤ 15 ∧ 1 ≤ nd ∧ nd ≤ 15 then 32 + 16 * (ns + nd) else 32
/-- The copy a channel works from. -/
def descOf (b : Bytes) : DmaDesc :=
  let ns := leAt b 14 1
  let nd := leAt b 15 1
  { control := BitVec.ofNat 32 (leAt b 0 4),
    src := { space := leAt b 12 1, elems := elemsAt b 32 ns },
    dst := { space := leAt b 13 1, elems := elemsAt b (32 + 16 * ns) nd },
    next := BitVec.ofNat 64 (leAt b 16 8), total := leAt b 24 4, moved := 0 }
/-- Checks 2 to 7 of R394 on a descriptor: the element that fails one and its side; checks of the whole descriptor name
element 0 of the source (log entry 36). -/
def descBad (b : Bytes) : Option (Nat × Bool) :=
  let d := descOf b
  let ns := leAt b 14 1
  let nd := leAt b 15 1
  let sum := fun (l : List (BitVec 64 × Nat)) => (l.map (·.2)).foldl (· + ·) 0
  if leAt b 0 4 % 2 ^ 29 ≠ 0 ∨ leAt b 28 4 ≠ 0 ∨ 2 < d.src.space ∨ 2 < d.dst.space ∨ ns = 0 ∨ 15 < ns ∨ nd = 0 ∨ 15 < nd then some (0, false)
  else if (List.range (ns + nd)).any (fun i => decide (leAt b (32 + 16 * i + 12) 4 ≠ 0)) then some (0, false)
  else if d.src.space ≠ 2 ∧ d.dst.space ≠ 2 then some (0, false)
  else if d.total < 2 ∨ d.total % 2 ≠ 0 then some (0, false)
  else if sum d.src.elems ≠ d.total ∨ sum d.dst.elems ≠ d.total then some (0, false)
  else (findElement d.src false (fun e => !elementOk e)).or
    ((findElement d.dst true (fun e => !elementOk e)).or (findElement d.dst true overFlash))
/-- The RESIDUE a refused descriptor is written back with (R394). -/
def badResidue (total : Nat) : Nat := if total < 2 ∨ total % 2 ≠ 0 then 0 else total
/-- The bytes of a descriptor in internal memory: the header, then the elements (R392). -/
def fetchInternal (s : State) (c a : Nat) : Except DmaFail Bytes × State :=
  match dmaRead s (dmaMaster c) a 16 with
  | (.error f, s) => (.error f, s)
  | (.ok h, s) =>
    let hb := h.flatMap wordBytes
    match dmaRead s (dmaMaster c) (a + 16) ((descLength hb - 32) / 2) with
    | (.error f, s) => (.error f, s)
    | (.ok e, s) => (.ok (hb ++ e.flatMap wordBytes), s)
/-- A fetched descriptor is checked (R394, R396). -/
def takeDesc (s : State) (c : Nat) (b : Bytes) : State :=
  let d := descOf b
  let s1 := modDma s c (fun x => { x with desc := some d })
  if d.control.getLsbD 31 = false then
    dmaEvent (modDma s c (fun x => { x with phase := .idle, stopping := false, desc := none, status := BitVec.ofNat 32 (leAt b 4 4) })) c 4
  else match descBad b with
  | some (i, side) => beginWriteBack s1 c dBAD_DESC i side (badResidue d.total)
  | none => modDma s1 c (fun x => { x with phase := .move })
/-- DESCRIPTOR_FETCH (R394): the read of a descriptor completes. `hostBytes` are the bytes host memory answers, or an error
completion; `mismatch` says that an internal read met a mismatch of the integrity code. -/
def execDescriptorFetch (ch : DmaCh) (hostBytes : Option Bytes) (mismatch : Bool) (s : State) : Host.Outcome State Fault Refusal :=
  let c := ch.val
  let a := regQuad s (R.DMA_CH_CUR c 0)
  let space := descSpace s c
  if (getDma s c).phase ≠ .fetch then .next s
  else if space < 2 then
    match (if hostOpen s c space then hostBytes else none) with
    | none => .next (fetchFails s c ⟨dHOST, 0, none⟩)
    | some b => .next (takeDesc s c (slice b 0 (descLength (slice b 0 32))))
  else if accessWaits s a then .next s
  else if mismatch then
    .next (fetchFails (noteMismatch s 4 (dmaMaster c)) c ⟨dINTEGRITY, a, none⟩)
  else
    match fetchInternal s c a with
    | (.error f, s) => .next (fetchFails s c f)
    | (.ok b, s) => .next (takeDesc s c b)

/-! ### Bursts (R395) -/

/-- The length of the next burst (R395): at most 256 bytes, no 256-byte boundary of either address, no element end. -/
def burstLength (d : DmaDesc) : Nat :=
  let (_, sa, sn) := locate d.src.space d.src.elems 0 d.moved
  let (_, da, dn) := locate d.dst.space d.dst.elems 0 d.moved
  min (min (256 - sa % 256) (256 - da % 256)) (min sn dn)
/-- The words of internal byte addresses b to b + n - 1: the first, and how many. -/
def wordSpan (b n : Nat) : Nat × Nat := (b / 2, (b + n - 1) / 2 + 1 - b / 2)
/-- Bytes put at a byte address into the words read there before; a word written in half keeps its other half (log entry
36). -/
def mergeBytes (old : Bytes) (skip : Nat) (b : Bytes) : List (BitVec 16) :=
  packWords (old.take skip ++ b ++ old.drop (skip + b.length))
/-- The word a half write leaves the other half of: the word stored there, or in register space the one the register shows (R390). -/
def oldWord (s : State) (a : Nat) : BitVec 16 :=
  match region a with
  | .register => peekReg s a
  | _ => (readMem s (physAddr s a)).val
/-- The parts of a burst in order: how many bytes of the burst the parts written hold, and the failure that ends it. -/
def writeParts (s : State) (c first : Nat) (ws : List (BitVec 16)) : List (Nat × Nat) → Nat → Nat × Option DmaFail × State
  | [], done => (done, none, s)
  | (a, k) :: rest, done =>
    match dmaWritePart s (dmaMaster c) a ((ws.drop (a - first)).take k) with
    | (some f, s) => (done, some f, s)
    | (none, s) => writeParts s c first ws rest (done + k)
/-- The source bytes of a burst, or its failure. -/
def readSide (s : State) (c : Nat) (d : DmaDesc) (n : Nat) (hostBytes : Option Bytes) (mismatch : Bool) : Except DmaFail Bytes × State :=
  let (_, sa, _) := locate d.src.space d.src.elems 0 d.moved
  if d.src.space < 2 then
    match (if hostOpen s c d.src.space then hostBytes else none) with
    | none => (.error ⟨dHOST, 0, none⟩, s)
    | some b => (.ok (slice b 0 n), s)
  else
    let (w, k) := wordSpan sa n
    if mismatch then
      let (f, s) := dmaReadBroken s (dmaMaster c) w k
      (.error f, s)
    else match dmaRead s (dmaMaster c) w k with
    | (.error f, s) => (.error f, s)
    | (.ok ws, s) => (.ok (slice (ws.flatMap wordBytes) (sa % 2) n), s)
/-- Write a burst to the destination: bytes written, the failure, and the state. The part that meets a mismatch of the integrity code is
a free value (log entry 122); those before it stand (R395). -/
def writeSide (s : State) (c : Nat) (d : DmaDesc) (b : Bytes) (mismatch : Bool) : Nat × Option DmaFail × State :=
  let (_, da, _) := locate d.dst.space d.dst.elems 0 d.moved
  if d.dst.space < 2 then
    if hostOpen s c d.dst.space then (b.length, none, send s (.hostWrite (spacePort d.dst.space) (BitVec.ofNat 64 da) b))
    else (0, some ⟨dHOST, 0, none⟩, s)
  else
    let (w, k) := wordSpan da b.length
    let old := (List.range k).flatMap (fun i => wordBytes (oldWord s (w + i)))
    let ws := mergeBytes old (da % 2) b
    let parts := granules w k (k + 1)
    let whole := fun (q : Nat × Option DmaFail × State) => (min b.length (2 * q.1 - da % 2), q.2.1, q.2.2)
    if mismatch then
      let (r, s) := draw16 s
      let i := r.toNat % parts.length
      match writeParts s c w ws (parts.take i) 0 with
      | (done, none, s) => whole (done, some ⟨dINTEGRITY, (parts.getD i (w, k)).1, none⟩, noteMismatch s 3 (dmaMaster c))
      | q => whole q
    else whole (writeParts s c w ws parts 0)
/-- A burst's waddrs lie where accesses wait now. -/
def burstHeld (s : State) (d : DmaDesc) : Bool :=
  let (_, sa, _) := locate d.src.space d.src.elems 0 d.moved
  let (_, da, _) := locate d.dst.space d.dst.elems 0 d.moved
  (decide (d.src.space = 2) && accessWaits s (sa / 2)) || (decide (d.dst.space = 2) && accessWaits s (da / 2))
/-- One burst (R395): the whole of it is read, then written; all moved, the descriptor completes. -/
def runBurst (s : State) (c : Nat) (d : DmaDesc) (hostBytes : Option Bytes) (mismatch : Option Bool) : State :=
  let (si, _, _) := locate d.src.space d.src.elems 0 d.moved
  let (di, _, _) := locate d.dst.space d.dst.elems 0 d.moved
  let n := burstLength d
  match readSide s c d n hostBytes (mismatch == some false) with
  | (.error f, s) => burstFails s c f si false (d.total - d.moved)
  | (.ok b, s) =>
    let (k, f, s) := writeSide s c d b (mismatch == some true)
    let d := { d with moved := d.moved + k }
    let s := modDma s c (fun x => { x with desc := some d })
    match f with
    | some f => burstFails s c f di true (d.total - d.moved)
    | none => if d.total ≤ d.moved then beginWriteBack s c dOK 0 false 0 else s
/-- BURST (R395, R398). `hostBytes` are the bytes host memory answers, or none where it answers an error; `mismatch` says that
the integrity code failed at an internal source (false) or destination (true). No burst is issued while STALL is in force
(R501), and one for a vat whose boundary is HOLD waits (R401). -/
def execBurst (ch : DmaCh) (hostBytes : Option Bytes) (mismatch : Option Bool) (s : State) : Host.Outcome State Fault Refusal :=
  let c := ch.val
  match (getDma s c).phase, (getDma s c).desc with
  | .move, some d =>
    if s.tmp.stall ∨ burstHeld s d = true then .next s
    else .next (runBurst s c d hostBytes mismatch)
  | _, _ => .next s

/-! ### Write-back (R397 to R399) -/

/-- The descriptor has been written back: the registers and events, and how the channel goes on (R396, R398, R399). -/
def writtenBack (s : State) (c : Nat) (d : DmaDesc) (status residue : BitVec 32) : State :=
  let code := status.toNat / 2 ^ 28
  let s := setRegs s (R.DMA_CH_RESIDUE c 0) [residue.setWidth 16, (residue >>> 16).setWidth 16]
  let s := modDma s c (fun x => { x with lastCode := BitVec.ofNat 4 code })
  let s := if d.control.getLsbD 30 then dmaEvent s c 0 else s
  if code = dOK then
    let s := countReg s (R.DMA_CH_COUNT c) 0xFFFF
    if d.control.getLsbD 29 then beginFetch s c d.next.toNat
    else dmaEvent (modDma s c (fun x => { x with phase := .idle, stopping := false, desc := none })) c 3
  else if code = dABORTED then
    dmaEvent (modDma s c (fun x => { x with phase := .idle, stopping := false, desc := none })) c 1
  else dmaHalt s c
/-- The two steps in internal memory: words 2 to 5, in parts (R30, R35), then word 1 with OWN cleared (R397). -/
def writeBackInternal (s : State) (c a : Nat) (d : DmaDesc) (status residue : BitVec 32) : Option DmaFail × State :=
  let step1 := [status.setWidth 16, (status >>> 16).setWidth 16, residue.setWidth 16, (residue >>> 16).setWidth 16]
  match writeParts s c (a + 2) step1 (granules (a + 2) 4 5) 0 with
  | (_, some f, s) => (some f, s)
  | (_, none, s) => dmaWritePart s (dmaMaster c) (a + 1) [(d.control >>> 16).setWidth 16 &&& 0x7FFF]
/-- The two steps in host memory: bytes 4 to 11, then bytes 0 to 3 (R397). -/
def writeBackHost (s : State) (space a : Nat) (d : DmaDesc) (status residue : BitVec 32) : State :=
  let port := spacePort space
  let s := send s (.hostWrite port (BitVec.ofNat 64 (a + 4)) (leBytes 4 status.toNat ++ leBytes 4 residue.toNat))
  send s (.hostWrite port (BitVec.ofNat 64 a) (leBytes 4 (d.control.toNat % 2 ^ 31)))
/-- DESCRIPTOR_WRITE_BACK (R397). `hostOk` says that the port takes the writes of a host descriptor; `mismatch` that an internal
write met a mismatch of the integrity code. -/
def execDescriptorWriteBack (ch : DmaCh) (hostOk mismatch : Bool) (s : State) : Host.Outcome State Fault Refusal :=
  let c := ch.val
  let a := regQuad s (R.DMA_CH_CUR c 0)
  let space := descSpace s c
  match (getDma s c).phase, (getDma s c).desc with
  | .writeBack status residue, some d =>
    if space < 2 then
      if hostOk && hostOpen s c space then .next (writtenBack (writeBackHost s space a d status residue) c d status residue)
      else .next (writeBackFails s c ⟨dHOST, 0, none⟩)
    else if accessWaits s a then .next s
    else if mismatch then .next (writeBackFails (noteMismatch s 3 (dmaMaster c)) c ⟨dINTEGRITY, a + 2, none⟩)
    else
      match writeBackInternal s c a d status residue with
      | (some f, s) => .next (writeBackFails s c f)
      | (none, s) => .next (writtenBack s c d status residue)
  | _, _ => .next s

/-- HOST_COMPLETION_TIMEOUT (R398): a read of host memory that waits has no completion within 50 ms. -/
def execHostCompletionTimeout (ch : DmaCh) (s : State) : Host.Outcome State Fault Refusal :=
  let c := ch.val
  match (getDma s c).phase, (getDma s c).desc with
  | .fetch, _ => .next (if descSpace s c < 2 then fetchFails s c ⟨dHOST, 0, none⟩ else s)
  | .move, some d =>
    if d.src.space < 2 then
      .next (burstFails s c ⟨dHOST, 0, none⟩ (locate d.src.space d.src.elems 0 d.moved).1 false (d.total - d.moved))
    else .next s
  | _, _ => .next s

/-- A channel's access to a vat whose HOLD lasts too long completes as a bus fault (R214). -/
def dmaHoldEnds (s : State) (c p : Nat) : State :=
  let at_ := fun a => heldAt s a && decide (decodePos s a = some p)
  let a := regQuad s (R.DMA_CH_CUR c 0)
  match (getDma s c).phase, (getDma s c).desc with
  | .fetch, _ => if descSpace s c = 2 ∧ at_ a = true then fetchFails s c ⟨dBUS, a, none⟩ else s
  | .move, some d =>
    let (si, sa, _) := locate d.src.space d.src.elems 0 d.moved
    let (di, da, _) := locate d.dst.space d.dst.elems 0 d.moved
    if d.src.space = 2 ∧ at_ (sa / 2) = true then burstFails s c ⟨dBUS, sa / 2, none⟩ si false (d.total - d.moved)
    else if d.dst.space = 2 ∧ at_ (da / 2) = true then burstFails s c ⟨dBUS, da / 2, none⟩ di true (d.total - d.moved)
    else s
  | .writeBack _ _, _ => if descSpace s c = 2 ∧ at_ a = true then writeBackFails s c ⟨dBUS, a + 2, none⟩ else s
  | .idle, _ => s
  | .move, none => s

end Sys2Proof.Machine
end

