-- ==== Sys2Proof/Machine/Mesh.lean ====
section
/-!
DEFINITION. Transfers on the mesh (R355 to R362, R375): requests at their destination, replies at their requester, posted
refusals, time limits and watchdogs (R383 to R385), boundaries in HOLD (R214).
-/
namespace Sys2Proof.Machine

/-! ### How a transfer ends at its core -/

/-- The access type of a transfer for a record (R515). -/
def xferAccess (t : Transfer) : AccessType := if t.ty = 0 then .read else if t.ty = 2 then .posted else .write
/-- A posted write is refused or lost (R361, R375): an imprecise record, and FENCE sees it. `entry` is the refusing entry. -/
def postedRefused (s : State) (t : Transfer) (entry : Option Nat) : State :=
  let s := fault s 1 579 .posted t.master (match entry with
    | some i => BitVec.ofNat 32 i
    | none => 0xFFFF) true
  postedEnd s t.core true
/-- One part of a core's access is answered with its words or a fault; the last part completes the access. A core that no
longer waits takes nothing. -/
def partEnd (s : State) (t : Transfer) (r : Except SyncFault (List Word)) : State :=
  match (getCell s t.core).wait with
  | .mem w =>
    let w : MemWait := { w with parts := w.parts - 1 }
    let w : MemWait := match r with
      | .ok ws => { w with data := w.data ++ (List.range ws.length).map (fun i => (t.offset + i, ws.getD i zeroWord)) }
      | .error f => { w with fault := w.fault <|> some f }
    if w.parts = 0 then finishMem s t.core (t.addr.toNat - t.offset) w
    else modCell s t.core (fun c => { c with wait := .mem w })
  | _ => s
/-- A transfer completes with a fault at its master, or as a refused posted write (R361, R362). -/
def xferFails (s : State) (t : Transfer) (f : SyncFault) : State :=
  if t.ty = 2 then postedRefused s t none else partEnd s t (.error f)
/-- A transfer that got no answer it can use: BUS at its address (R361, R362). -/
def xferLost (s : State) (t : Transfer) : State := xferFails s t ⟨.bus, some t.addr⟩
/-- The outputs a master held are let go when its transfer moves on (R384). -/
def releaseOutputs (s : State) (m : BitVec 10) : State :=
  { s with mesh := { s.mesh with held := s.mesh.held.filter (fun q => q.2 != m.toNat + 1) } }

/-! ### At the destination (R360, R361) -/

/-- The words a receiver makes of words sent with errors: `none` where one fails its check bits. -/
def receiveWords (ws : List Word) (err : List (BitVec 25)) : Option (List Word) :=
  let r := (List.range ws.length).map (fun i => receiveWord (codeWord (ws.getD i zeroWord) ^^^ err.getD i 0))
  if r.all (·.isSome) then some (r.map (·.getD zeroWord)) else none
/-- How a destination takes one word of a write: the cause of a refusal (R8, R27, R81, R303 check 6). -/
def meshMayWrite (s : State) (a : Nat) (w : Word) : Option Cause :=
  if isHole s a true then some .bus
  else match region a with
  | .register => if w.tag = .data then none else some .tag
  | .pailArea => if w.tag = .data then none else some .tag
  | _ => if (readMem s (physAddr s a)).tag = .code then some .tag else none
/-- An error reply to a transfer, with the request's ADDR (R359): the cause, and the waddr of the word refused. -/
def errorReply (s : State) (n : Nat) (t : Transfer) (a : Nat) (cause : Cause) : State :=
  setXfer s n (some { t with words := [], phase := .reply 10, cause := some ⟨cause, some (BitVec.ofNat 32 a)⟩, hop := 0 })
/-- A write at its destination: the whole part or nothing (R368). `a` is the waddr that names its destination now (R188). -/
def serveWrite (s : State) (n : Nat) (t : Transfer) (a : Nat) (err : List (BitVec 25)) : State :=
  match receiveWords t.words err with
  | none => fireSource (errorReply (noteMismatch s 3 t.master) n t t.addr.toNat .bus) 39
  | some ws =>
    match (List.range ws.length).findSome? (fun i => (meshMayWrite s (a + i) (ws.getD i zeroWord)).map (fun c => (t.addr.toNat + i, c))) with
    | some (x, c) => errorReply s n t x c
    | none =>
      let s := (List.range ws.length).foldl (fun s i => (destWrite s t.master (a + i) (ws.getD i zeroWord) false).2) s
      setXfer s n (some { t with words := [], phase := .reply 9, hop := 0 })
/-- Words of a read at its destination: the words, or the offset of the first that is not answered. A register is asked whether it
answers: its value and the effect of the read are those at the reply (`replyWords`). -/
def destReads (s : State) (a n : Nat) : Except Nat (List Word) :=
  match (List.range n).find? (fun i => decide ((destRead s (a + i)).1 = .bus)) with
  | some i => .error i
  | none => .ok ((List.range n).map (fun i => match (destRead s (a + i)).1 with
      | .word w => w
      | _ => zeroWord))
/-- A read at its destination: flash answers through its controller, a stored word whose check bits fail refuses the part. -/
def serveRequestRead (s : State) (n : Nat) (t : Transfer) (a : Nat) (err : List (BitVec 25)) : State :=
  match region a with
  | .flash _ _ => windowRead (setXfer s n (some { t with phase := .atFlash })) (.xfer n)
  | _ =>
    if isRam s a ∧ (receiveWords (readMems s (physAddr s a) t.len) err).isNone = true then
      fireSource (errorReply (noteMismatch s 4 t.master) n t t.addr.toNat .bus) 39
    else match destReads s a t.len with
    | .ok ws => setXfer s n (some { t with words := ws, phase := .reply 8, hop := 0 })
    | .error i => errorReply s n t (t.addr.toNat + i) .bus
/-- The 62 header bits of a transfer as they are received (R359). -/
def sentHeader (t : Transfer) (ty : BitVec 4) (err : BitVec 62) : BitVec 62 :=
  codeHeader (headerBits t.addr t.master ty (BitVec.ofNat 4 (t.len - 1))) ^^^ err
/-- The MASTER field as received. -/
def receivedMaster (h : BitVec 62) : BitVec 10 := (h >>> 20).setWidth 10
/-- A request reaches its destination with a good header (R360), if nothing on its way holds it; `t` has the header as received. -/
def arrive (s : State) (n : Nat) (t : Transfer) (err : List (BitVec 25)) : State :=
  let s := travel (releaseOutputs s t.master) n (allRounds s)
  match getXfer s n with
  | none => s
  | some u =>
    let t := { t with hop := u.hop, age := u.age }
    let a := waddrNow s t.addr.toNat t.pos
    if (xferHead s u).isSome ∨ heldAt s a = true then s
    else if t.ty = 0 then serveRequestRead s n t a err else serveWrite s n t a err
/-- The egress checker judges the header it receives (R38, R360): a reserved master is handled as an egress mismatch, another refusal
as R367 states. -/
def egressJudges (s : State) (t : Transfer) : Option (SyncFault × Option (Refuse × Option Nat)) :=
  if t.ty = 0 then egress s t.master t.addr.toNat t.len false false else egressStore s t.master t.addr.toNat t.words
/-- MESH_REQUEST (R360, R361). `hdrErr` and `wordErr` are the bits of the header and of each word that arrive changed (for a
read, those of the stored words); `atEgress` says that the egress checker already meets them. A transfer to a vat in HOLD
waits (R214), and a posted write the table refuses never leaves (POSTED_WRITE_REFUSAL). -/
def execMeshRequest (xfer : Nat) (atEgress : Bool) (hdrErr : BitVec 62) (wordErr : List (BitVec 25)) (s : State) :
    Host.Outcome State Fault Refusal :=
  match getXfer s xfer with
  | none => .next s
  | some t =>
    if !travels s t then .next s
    else
      let t := { t with judged := true }
      let s := setXfer s xfer (some t)
      let h := sentHeader t t.ty hdrErr
      match receiveHeader h with
      | none =>
        if atEgress then .next (fireSource (xferLost (setXfer (noteMismatch s 1 (receivedMaster h)) xfer none) t) 39)
        else .next (fireSource (setXfer (noteMismatch s 2 (receivedMaster h)) xfer (some { t with phase := .lost })) 39)
      | some g =>
        let u := { t with addr := (g >>> 18).setWidth 32, master := (g >>> 8).setWidth 10 }
        let u := if u.addr = t.addr then u else { u with pos := decodePos s u.addr.toNat }
        match (if atEgress ∧ hdrErr ≠ 0 then egressJudges s u else none) with
        | some (f, note) =>
          let s := noteEgress (setXfer s xfer none) note
          if 582 ≤ u.master.toNat then .next (fireSource (xferLost (noteMismatch s 1 u.master) t) 39)
          else if t.ty = 2 then .next (postedRefused s t (note.bind (·.2)))
          else .next (partEnd s t (.error f))
        | none => .next (arrive s xfer u wordErr)

/-! ### At the requester (R360 to R362) -/

/-- The words of a reply and the state once they have reached the master. A register gives its value and has its read effect here, at
once: RC fields are cleared, a queue gives up its word, and a reply that is lost or late clears nothing (R9; DEDUCED, log entry 91). -/
def replyWords (s : State) (t : Transfer) : List Word × State :=
  let a := waddrNow s t.addr.toNat t.pos
  if t.phase = .reply 8 ∧ region a = .register then
    match destRead s a with
    | (.word w, u) => ([w], u)
    | (_, _) => (t.words, s)
  else (t.words, s)
/-- A reply with a good header and good words completes the part (R30, R305). -/
def replyArrives (s : State) (t : Transfer) (ty : BitVec 4) (ws : List Word) : State :=
  if ty = 10 then xferFails s t (t.cause.getD ⟨.bus, some t.addr⟩)
  else if t.ty = 2 then postedEnd s t.core false
  else if ty = 8 then partEnd s t (.ok ws)
  else partEnd s t (.ok [])
/-- MESH_REPLY (R360 to R362): the reply goes back as far as it can (R355, R386), and once it has passed its last output its requester
takes it. -/
def execMeshReply (xfer : Nat) (hdrErr : BitVec 62) (wordErr : List (BitVec 25)) (s : State) : Host.Outcome State Fault Refusal :=
  match getXfer s xfer with
  | none => .next s
  | some t =>
    match t.phase with
    | .reply ty =>
      let s := travelBack (releaseOutputs s t.master) xfer (allRounds s)
      if (((getXfer s xfer).map (xferHead s)).join).isSome then .next s
      else
        let s := setXfer s xfer none
        let h := sentHeader t ty hdrErr
        let (ws, u) := replyWords s t
        if t.abandoned then .next (countReg s R.MSH_LATE 0xFFFF)
        else match receiveHeader h, receiveWords ws wordErr with
        | some _, some ws => .next (replyArrives u t ty ws)
        | _, _ => .next (fireSource (xferLost (noteMismatch s 5 (receivedMaster h)) t) 39)
    | _ => .next s

/-- POSTED_WRITE_REFUSAL (R375): the egress check refuses a posted write after its cell has gone on; one it has let pass is not judged
again (R386). -/
def execPostedWriteRefusal (xfer : Nat) (s : State) : Host.Outcome State Fault Refusal :=
  match getXfer s xfer with
  | none => .next s
  | some t =>
    if t.ty ≠ 2 ∨ t.phase ≠ .request ∨ t.abandoned ∨ t.judged then .next s
    else match egressStore s t.master t.addr.toNat t.words with
    | none => .next s
    | some (_, note) => .next (postedRefused (noteEgress (setXfer s xfer none) note) t (note.bind (·.2)))

/-- REPLY_TIMEOUT (R362): the master waits no longer; the mesh event and a record; a later reply is late. -/
def execReplyTimeout (xfer : Nat) (s : State) : Host.Outcome State Fault Refusal :=
  match getXfer s xfer with
  | none => .next s
  | some t =>
    if t.abandoned then .next s
    else
      let s := setXfer s xfer (if t.phase = .lost then none else some { t with abandoned := true })
      .next (xferLost (raise (fault s 2 580 (xferAccess t) t.master t.addr) 580) t)

/-! ### Watchdogs (R383 to R385) -/

/-- LINK_WATCHDOG_BITE (R383): a transfer of `master` holds the output past LIMIT. -/
def execLinkWatchdogBite (router : Router) (output : Fin 6) (master : Master) (s : State) : Host.Outcome State Fault Refusal :=
  let r := router.val
  if hasMain s = false ∨ outputExists r output.val = false ∨ getFld s (R.MSH_RTR_WDOG_CFG r) 7 0 = 0 then .next s
  else
    let s := { s with mesh := { s.mesh with held := tset (fun _ => 0) s.mesh.held (r * 8 + output.val) (master.toNat + 1) } }
    .next (fault (raise (setBit s (R.MSH_RTR_WDOG r) output.val true) 581) 3 581 .none master 0)
/-- MSH_RTR_ABORT (R384). -/
def execMshRtrAbort (router : Router) (value : BitVec 16) (s : State) : Host.Outcome State Fault Refusal :=
  .next (if hasMain s then routerAbort s router.val value else s)
/-- SUPERVISOR_WATCHDOG_BITE (R385): LIMIT ms pass without a kick; a LIMIT of 0 disables the count. -/
def execSupervisorWatchdogBite (s : State) : Host.Outcome State Fault Refusal :=
  if hasMain s = false ∨ getReg s R.MSH_SWDOG_CFG = 0 then .next s
  else .next (fault (raise (setBit s R.MSH_SWDOG_STATUS 0 true) 582) 3 582 .none 512 0)
/-- MSH_SWDOG_KICK (R385). -/
def execMshSwdogKick (value : BitVec 16) (s : State) : Host.Outcome State Fault Refusal :=
  .next (if hasMain s then swdogKick s value else s)

/-- Whether any of n words lies in a vat whose boundary is HOLD. -/
def spanHeld (s : State) (p a n : Nat) : Bool :=
  (granules a n (n + 1)).any (fun q => heldAt s q.1 && decide (decodePos s q.1 = some p))
/-- The engines' jobs at q that wait at the boundary of the vat at p end with ACCESS (R214, R227): one that holds its results, and a MAC
job whose input waits. -/
def engineHoldEnds (p q : Nat) (s : State) : State :=
  let u := (getVat s q).churn
  let s := match (tget (fun _ => none) u.jobs u.holder).bind (fun j => j.results.map (fun r => (j, r))) with
    | some (j, r) =>
      let det := if spanHeld s p (capOf j.keyCap).base r.1.length then 1 else if spanHeld s p (capOf j.outCap).base r.2.length then 3 else 0
      if u.busy ∧ (det ≠ 0 ∨ spanHeld s p j.descr.toNat 20 = true) then churnGrant (churnEnd s q u.holder j.descr.toNat cACCESS det true) q
      else s
    | none => s
  match macHolder s q with
  | some (k, j) =>
    let left := jobInWords j - j.input.length
    match j.results with
    | some r =>
      if spanHeld s p (capOf j.outCap).base r.1.length || spanHeld s p j.descr.toNat 24 then
        macGrant (macEnd s q k j.descr.toNat cACCESS 3 true) q
      else s
    | none => if spanHeld s p ((capOf j.inCap).base + j.input.length) (min 512 left) then macFail s q k j.descr.toNat cACCESS else s
  | none => s
/-- BOUNDARY_HOLD_TIMEOUT (R214): what has waited at the boundary of a vat in HOLD for 2 ms completes as bus faults: transfers get
an error reply, channels fail with BUS, jobs of engines end with ACCESS. -/
def execBoundaryHoldTimeout (vat : VatId) (s : State) : Host.Outcome State Fault Refusal :=
  let p := phys s vat.val
  if hasMain s = false ∨ boundary s p ≠ 1 ∨ powered s p = false then .next s
  else
    let s := s.mesh.xfers.foldl (fun s q => match q.2 with
      | some t => if t.pos = some p ∧ t.phase = .request ∧ heldAt s (waddrNow s t.addr.toNat t.pos) = true
          then errorReply s q.1 t t.addr.toNat .bus else s
      | none => s) s
    let s := (List.range 34).foldl (fun s q => engineHoldEnds p q s) s
    .next ((List.range 64).foldl (fun s c => dmaHoldEnds s c p) s)

end Sys2Proof.Machine
end

