-- ==== Sys2Proof/Machine/Block.lean ====
section
/-!
DEFINITION. The block instructions BMOV, BFILL and MFEED (R318 to R320). One command begins one word of the loop of R319, so that
whatever R320 lets happen between two words happens between two commands; an access that crosses the mesh ends the word's command, and
the word goes on with the reply (R312).
-/
namespace Sys2Proof.Machine

/-- The formats of the block instructions: gd, gs, gn, cdst and csrc, three different registers, legal selectors (R318). -/
def blockLegal (core : Core) (fill : Bool) (p : BitVec 32) : Bool :=
  let k := if core.val = 512 then supKey else 0
  decide (pf p 0 = 0) && decide (pf p 20 ≠ pf p 16) && decide (pf p 20 ≠ pf p 12) && decide (pf p 16 ≠ pf p 12)
    && baseLegal k (pf p 8) && (if fill then decide (pf p 4 = 0) else baseLegal k (pf p 4))

/-- The common part (R318): registers DATA (the fill value may be SECRET), a count of 0 does nothing, else `word` begins the word. -/
def blockStep (s : State) (k : Nat) (c : Cell) (p : BitVec 32) (word : State) : State :=
  if (getG c (pf p 20)).tag ≠ .data ∨ (getG c (pf p 12)).tag ≠ .data ∨ (pOp p ≠ 0x71 ∧ (getG c (pf p 16)).tag ≠ .data) then
    syncFault s k ⟨.tag, none⟩ .tag
  else if (getG c (pf p 12)).val = 0 then setCell s k (advance c)
  else word
/-- The source word of BMOV and MFEED is read, and the word goes on with it. -/
def blockBegin (s : State) (k : Nat) (c : Cell) (p : BitVec 32) : State :=
  match blockRead s k (baseCap s k c (pf p 4)) (getG c (pf p 16)).val.toNat pREAD .blockSrc with
  | (.wait, s) => s
  | (.fault f acc note, s) => blockFault s k f acc note
  | (.word x, s) => blockSource s k p x

/-- BMOV gd, gs, gn, cdst, csrc (R318). -/
def execBmov (core : Core) (s : State) : Host.Outcome State Fault Refusal :=
  .next (cellInstr s core (fun p => decide (pOp p = 0x70)) (blockLegal core false) fun s k c p =>
    blockStep s k c p (blockBegin s k c p))
/-- BFILL gd, gs, gn, cdst (R318). -/
def execBfill (core : Core) (s : State) : Host.Outcome State Fault Refusal :=
  .next (cellInstr s core (fun p => decide (pOp p = 0x71)) (blockLegal core true) fun s k c p =>
    blockStep s k c p (blockWrite s k p (getG c (pf p 16))))
/-- MFEED gd, gs, gn, cdst, csrc (R318): the exclusive-OR, SECRET if either word is; the source is read first (log entry 43). -/
def execMfeed (core : Core) (s : State) : Host.Outcome State Fault Refusal :=
  .next (cellInstr s core (fun p => decide (pOp p = 0x72)) (blockLegal core false) fun s k c p =>
    blockStep s k c p (blockBegin s k c p))

end Sys2Proof.Machine
end

