-- ==== Sys2Proof/Machine/FirmCus.lean ====
section
/-!
DEFINITION. Custodian quorum: CUS. commands (R139, R140).
-/
namespace Sys2Proof.Machine

/-- 30 minutes of the time base (R139). -/
def sessionTime : Nat := 1800000000
/-- A body's custodian records: ID, then X and Y. -/
def custodiansOf (b : Bytes) : List (Bytes × Bytes) :=
  (List.range (byteAt b 1)).map (fun i => (slice b (56 + 66 * i) 2, slice b (58 + 66 * i) 64))
/-- CUS_POLICY (R139): it replaces the policy and ends every session; a custodian's point must be one of P-256 (log entry 30). -/
def execCusPolicy (p : Pail) (s : State) : Host.Outcome State Fault Refusal :=
  .next (serve s p.val 0x0901 fun s _ r =>
    let b := r.body
    let pol : Policy := { m := byteAt b 0, aid := slice b 4 (byteAt b 2), cla := b.getD 20 0, ins := b.getD 21 0,
                          codes := (List.range (byteAt b 22)).map (fun i => u16 b (24 + 2 * i)), custodians := custodiansOf b,
                          body := b, modulus := ownerModulus s r }
    okWith { s with store := { s.store with policy := some pol }, fw := { s.fw with quorums := [] } } r [])
/-- A session of the command's partition (R105). -/
def findQuorum (s : State) (r : Request) (id : Nat) : Option Quorum :=
  s.fw.quorums.find? (fun q => decide (q.id = id) && decide (q.part = r.part))
/-- Remove a session. -/
def dropQuorum (s : State) (id : Nat) : State := { s with fw := { s.fw with quorums := s.fw.quorums.filter (fun q => q.id != id) } }
/-- CUS_BEGIN (R139): an import needs units of bank 2 for its key (R262). Its body has no counter to bind, and what COUNTED in USAGE
means the spec does not say: accepted, and the key is bound to 0xFFFF, no counter, so that it cannot be used. DESIGN CHOICE, log entry
99. -/
def execCusBegin (p : Pail) (s : State) : Host.Outcome State Fault Refusal :=
  .next (serve s p.val 0x0902 fun s _ r =>
    let b := r.body
    match s.store.policy with
    | none => failed s sNOT_FOUND r
    | some pol =>
      if 4 ≤ s.fw.quorums.length ∨ (byteAt b 0 = 2 ∧ unitsLeft s (keyBytesOf (byteAt b 2)) = false) then failed s sQUOTA r
      else match readRandom s 64 with
      | (.waits, _, s) => (s, none)
      | (.stopped, _, s) => failed s sRNG_STOPPED r
      | (.served, x, s) =>
        let (k, s) := drawBits s 320
        let priv := k % (p256.n - 1) + 1
        let point := (pointBytes p256 (ecMul p256 priv (basePoint p256))).drop 1
        let q : Quorum := { id := s.fw.nextId, part := r.part, purpose := byteAt b 0, type := byteAt b 2,
                            usage := BitVec.ofNat 16 (u16 b 4), slot := BitVec.ofNat 16 (u16 b 6), target := slice b 8 32,
                            challenge := x.take 32, priv := priv, point := point,
                            ends := s.bat.timeBase.toNat + sessionTime, got := [] }
        let s := { s with fw := { s.fw with quorums := s.fw.quorums ++ [q], nextId := s.fw.nextId + 1 } }
        okWith s r (leBytes 4 q.id ++ q.challenge ++ point ++ leBytes 2 pol.m))
/-- The data a card signs (CUS.CARD): SESSION, CHALLENGE, PURPOSE, EPHEMERAL. -/
def cardData (q : Quorum) : Bytes := leBytes 4 q.id ++ q.challenge ++ [BitVec.ofNat 8 q.purpose] ++ q.point
/-- A component that a card wrapped under the ECDH of its registered key and EPHEMERAL. -/
def openComponent (q : Quorum) (xy blob : Bytes) : Option Bytes :=
  match ecMul p256 q.priv (some (beNat (xy.take 32), beNat (xy.drop 32))) with
  | some (x, _) => kwUnwrap (sha256 (beBytes 32 x)) blob
  | none => none
/-- A response body of CUS.CARD. -/
def cardBody (id : Bytes) (collected m ticket slot : Nat) (kcv : Bytes) : Bytes :=
  slice id 0 2 ++ [BitVec.ofNat 8 collected, BitVec.ofNat 8 m] ++ leBytes 4 ticket ++ leBytes 2 slot ++ slice kcv 0 3 ++ zeros 3
/-- The session is complete (R140) and ends: a ticket is issued, or the components are combined and stored. A slot asked for that is in
use by now is EXISTS; where no slot or too few units of bank 2 are left the command completes with QUOTA (R262). -/
def quorumDone (s0 s : State) (v k : Nat) (r : Request) (q : Quorum) (id : Bytes) (m : Nat) (mismatch : Bool) : State × Option Response :=
  let s := dropQuorum s q.id
  if q.purpose = 1 then
    let t : QTicket := { id := s.fw.nextId, digest := q.target, ends := q.ends }
    okWith { s with fw := { s.fw with qtickets := s.fw.qtickets ++ [t], nextId := s.fw.nextId + 1 } } r (cardBody id m m t.id 0 [])
  else
    let key := q.got.foldl (fun k g => xorB k g.2) (zeros (keyBytesOf q.type))
    match pickSlot s q.slot.toNat (keyBytesOf q.type) with
    | .error e => failed s e r
    | .ok slot =>
      withStore s0 s v k slot q.type 0 q.part q.usage 0xFFFF key [] mismatch r fun s => okWith s r (cardBody id m m 0 slot (kcvOf q.type key))
/-- The component of an answer: none for an authorisation; of an import it must unwrap to a key of the session's type. -/
def componentOf (q : Quorum) (xy blob : Bytes) : Option Bytes :=
  if q.purpose = 1 then some [] else (openComponent q xy blob).filter (fun k => decide (k.length = keyBytesOf q.type))
/-- A card's answer counted, by cell k of the vat at `v` (R140). -/
def contribute (s : State) (v k : Nat) (r : Request) (pol : Policy) (q : Quorum) (answer : Bytes) (mismatch : Bool) : State × Option Response :=
  let id := answer.take 2
  let sig := slice answer 2 64
  match pol.custodians.find? (fun c => c.1 == id) with
  | none => failed s sNO_AUTHORITY r
  | some c =>
    withChurn s s v k 0x22 [] false true r fun t =>
      let e := beNat (sha256 (cardData q))
      let good := ecdsaVerify p256 (beNat (c.2.take 32)) (beNat (c.2.drop 32)) e (beNat (sig.take 32)) (beNat (sig.drop 32))
      if !good then failed t sNO_AUTHORITY r
      else if q.got.any (fun g => g.1 == id) then failed t sEXISTS r
      else withChurn s t v k 0x23 (if q.purpose = 1 then [] else allDraws 0x23 0 p256) false true r fun t =>
        match componentOf q c.2 (answer.drop 66) with
        | none => failed t sINTEGRITY r
        | some x =>
          let q := { q with got := q.got ++ [(id, x)] }
          let t := { t with fw := { t.fw with quorums := t.fw.quorums.map (fun y => if y.id = q.id then q else y) } }
          if pol.m ≤ q.got.length then quorumDone s t v k r q id pol.m mismatch
          else okWith t r (cardBody id q.got.length pol.m 0 0 [])

/-! ### The exchange with the card (R140, R471) -/

/-- The request of CUS.CARD goes over to a stage. -/
def cardStage (s : State) (p : Nat) (d : Doorbell) (x : CardStage) : State × Option Response :=
  (modDoorbell s p d.seq (fun y => { y with card := x }), none)
/-- Firmware clears DONE of a slot before it commands it. -/
def clearDone (s : State) (i : Nat) : State := setBit s (R.CSL_EVENT i) 0 false
/-- A command APDU is sent to a slot's card. -/
def sendApdu (s : State) (i : Nat) (apdu : Bytes) : State :=
  cslExchange (setFld (setRegs (clearDone s i) (R.CSL_TX i 0) (packWords apdu)) (R.CSL_TX_LEN i) 8 0 apdu.length) i
/-- SELECT by AID (ISO/IEC 7816-4: PRESUMED, log entry 111). -/
def selectApdu (pol : Policy) : Bytes := [0x00, 0xA4, 0x04, 0x00, BitVec.ofNat 8 pol.aid.length] ++ pol.aid
/-- The answer command: its header from the policy, and the data the card signs (R139, R140). -/
def answerApdu (pol : Policy) (q : Quorum) : Bytes :=
  [pol.cla, pol.ins, 0, 0, BitVec.ofNat 8 (cardData q).length] ++ cardData q ++ [0]
/-- An operation of a slot that failed ends the command with its CODE in DETAIL bits [31:16] (R471). -/
def slotFailedWith (s : State) (r : Request) (code : Nat) : State × Option Response :=
  failed s (if code = kREMOVED_UNKNOWN then sCARD_REMOVED_UNKNOWN else if code = kREFUSED then sINTERNAL else sCARD_ERROR) r (code * 0x10000)
/-- Whether another CUS.CARD uses a slot. -/
def slotInUse (s : State) (d : Doorbell) (i : Nat) : Bool :=
  s.parlour.pails.any (fun q => q.2.queue.any (fun x => match x.phase with
    | .taken r => decide (r.command = 0x0903) && decide (byteAt r.body 4 = i) && decide (x.card ≠ .start) && decide (x.order ≠ d.order)
    | _ => false))
/-- The response in CSL_RX: data and status word, none where it is shorter than a status word. -/
def slotAnswer (s : State) (i : Nat) : Option (Bytes × Nat) :=
  let n := getFld s (R.CSL_RESULT i) 8 0
  let b := ((List.range 129).flatMap (fun j => wordBytes (getReg s (R.CSL_RX i j)))).take n
  if n < 2 then none else some (b.take (n - 2), beNat (b.drop (n - 2)))
/-- CUS.CARD by cell k of the vat at `v`, one stage at a time (R140): the card is activated if it is not active, its application
selected, the answer command sent; each operation of the slot ends before the next. An answer of the wrong length, or a status word
other than 0x9000, is a failed exchange. -/
def cusCard (s : State) (p v k : Nat) (d : Doorbell) (r : Request) (mismatch : Bool) : State × Option Response :=
  let i := byteAt r.body 4
  match findQuorum s r (u32 r.body 0), s.store.policy with
  | some q, some pol =>
    let select := fun (s : State) => cardStage (sendApdu s i (selectApdu pol)) p d .select
    let ended := getBit s (R.CSL_EVENT i) 0
    let code := getFld s (R.CSL_RESULT i) 15 12
    match d.card with
    | .start =>
      if slotInUse s d i then (s, none)
      else if cslState s i = 2 then select s
      else if cslState s i = 0 then cardStage (cslActivate (clearDone s i) i) p d .activate
      else (s, none)
    | .activate => if !ended then (s, none) else if code ≠ kOK then slotFailedWith s r code else select s
    | .select =>
      if !ended then (s, none)
      else if code ≠ kOK then slotFailedWith s r code
      else match slotAnswer s i with
      | some (_, 0x9000) => cardStage (sendApdu s i (answerApdu pol q)) p d .answer
      | _ => failed s sCARD_ERROR r
    | .answer =>
      if !ended then (s, none)
      else if code ≠ kOK then slotFailedWith s r code
      else match slotAnswer s i with
      | some (b, 0x9000) =>
        if b.length < 66 ∨ (q.purpose = 1 ∧ b.length ≠ 66) then failed s sCARD_ERROR r else contribute s v k r pol q b mismatch
      | _ => failed s sCARD_ERROR r
  | _, _ => failed s sNOT_FOUND r
/-- CUS_CARD (R140). `mismatch` says that the two runs of the key's WRAP differ (R273). -/
def execCusCard (p : Pail) (mismatch : Bool) (s : State) : Host.Outcome State Fault Refusal :=
  .next (serveCell s p.val 0x0903 fun s v k d r => cusCard s p.val v k d r mismatch)
/-- CUS_STATUS. -/
def execCusStatus (p : Pail) (s : State) : Host.Outcome State Fault Refusal :=
  .next (serve s p.val 0x0904 fun s _ r =>
    match findQuorum s r (u32 r.body 0), s.store.policy with
    | some q, some pol =>
      let ids := (List.range 16).flatMap (fun i => ((q.got[i]?).map (·.1)).getD [0xFF, 0xFF])
      okWith s r ([BitVec.ofNat 8 q.purpose, BitVec.ofNat 8 q.got.length, BitVec.ofNat 8 pol.m, 0]
        ++ leBytes 4 ((q.ends - s.bat.timeBase.toNat) / 1000000) ++ ids)
    | _, _ => failed s sNOT_FOUND r)
/-- CUS_END: the components are discarded and a held slot is released (R120). -/
def execCusEnd (p : Pail) (s : State) : Host.Outcome State Fault Refusal :=
  .next (serve s p.val 0x0905 fun s _ r =>
    match findQuorum s r (u32 r.body 0) with
    | some q => okWith (dropQuorum s q.id) r []
    | none => failed s sNOT_FOUND r)
/-- SESSION_TIMEOUT (R139): 30 minutes after CUS.BEGIN. -/
def execSessionTimeout (session : BitVec 32) (s : State) : Host.Outcome State Fault Refusal :=
  match s.fw.quorums.find? (fun q => q.id == session.toNat) with
  | some q => if q.ends ≤ s.bat.timeBase.toNat then .next (dropQuorum s q.id) else .next s
  | none => .next s

end Sys2Proof.Machine
end

