-- ==== Sys2Proof/Machine/Power.lean ====
section
/-!
DEFINITION. Power: release, pin reset, dips, loss of main power and of VBAT (R44, R45, R50 to R53, R527 to R532), and the
JTAG instructions (R67, R556).
-/
namespace Sys2Proof.Machine

/-- The battery domain is lost (R44, R61): everything it holds, and the time base starts at 0. -/
def loseBattery (s : State) : State := { s with bat := { State.reset.bat with lost := true } }
/-- The mode without main power (R45): VIGIL from UNCLAIMED, BOOT, SERVICE and RECOVERY while VBAT is valid, and not once the SPENT
fuse is programmed (R46); else FIELD if there is a field, or none. -/
def modeWithoutMain (s : State) (from_ : Nat) : Nat :=
  if s.ext.vbat ∧ fuseBlown s oSPENT = false ∧ from_ ∈ [mUNCLAIMED, mBOOT, mSERVICE, mRECOVERY] then mVIGIL
  else if s.ext.field then mFIELD else 0
/-- A torn bit of the evidence counter, of a disable fuse or of an OTP program reads 0 or 1 (R509, R64, R562): a free bit. -/
def tearOtp (s : State) : State :=
  let s := match s.tmp.queue with
    | [] =>
      match s.tmp.fuseJobs with
      | [] => s
      | i :: _ =>
        let o := 0x100 + 16 * i + 15
        let (e, s) := draw16 s
        match e.getLsbD 0, (List.range 8).find? (fun b => !bit (otpWord s o) b) with
        | true, some b => otpSet s o b
        | _, _ => s
    | i :: rest =>
      let (e, s) := draw16 s
      match e.getLsbD 0, evidenceBit s i with
      | true, some (o, b) => otpSet { s with tmp := { s.tmp with queue := rest } } o b
      | _, _ => s
  match s.fw.otpJob with
  | some { bits := (o, b) :: _, .. } =>
    let (e, s) := draw16 s
    if e.getLsbD 0 then otpPut s o b else s
  | _ => s
/-- The sources that run in VIGIL and fire as main power is lost keep firing (R512). -/
def vigilFiring (s : State) : BitVec 48 :=
  (List.range 48).foldl (fun v i =>
    if srcVigil i && ((getSrc s i).firing || s.bat.firing.getLsbD i) then v ||| (1 <<< i : BitVec 48) else v) 0

/-- The flash die loses its power with the main rails: no link, and no key of one (R404, R405). -/
def unlink (s : State) : State := { s with flash := { s.flash with linkUp := false, linkKey := 0, linkSeq := 0 } }
/-- POWER_ON_RELEASE (R45, R50, R51, R528, R53). Without the crystal source 10 fires at the release (R549). -/
def execPowerOnRelease (s : State) : Host.Outcome State Fault Refusal :=
  if hasMain s then .next s
  else
    let m := mode s
    let t := tagPowerUp (unlink (volatileReset s))
    let cause : Nat := 1 + b2n (decide (m = mVIGIL)) * 16 + b2n s.bat.lost * 32
    let t := setReg t R.PWR_RSTCAUSE (BitVec.ofNat 16 cause)
    let t := setReg t R.PWR_MODE (BitVec.ofNat 16 (if m ≠ mVIGIL ∧ fuseBlown t oTEST_EXIT = false then mTEST else mBOOT))
    let t := { t with rejects := [], parlour := parlourReset, bat := { t.bat with lost := false },
                      ext := { t.ext with mainPower := true, dip := none, dipHeld := [], dipDisagree := [] } }
    .next (if t.ext.xtalOk then t else fireSource t 10)

/-- PIN_RESET (R50): a low pulse of SYS_RESET_N shorter than 1 µs is ignored, one of 10 µs or more resets (R543); what one
between them does is a free bit, log entry 41. -/
def execPinReset (lowNs : Nat) (s : State) : Host.Outcome State Fault Refusal :=
  if lowNs < 1000 then .next s
  else if 10000 ≤ lowNs then .next (pinReset s)
  else
    let (e, s) := draw16 s
    .next (if e.getLsbD 0 then pinReset s else s)

/-- DIP_BEGIN (R530): pulses of the flash controller end (R422); OTP and evidence pulses do not count until the dip ends
(R507, R562). -/
def execDipBegin (rail : Fin 9) (s : State) : Host.Outcome State Fault Refusal :=
  if !hasMain s ∨ s.ext.dip.isSome = true then .next s
  else .next (dipFlash { s with ext := { s.ext with dip := some rail.val } })

/-- DIP_END (R531): the held detections are judged and fire their sources; a write of the ring that waits for the dip's end goes on
(R175). -/
def execDipEnd (s : State) : Host.Outcome State Fault Refusal :=
  if s.ext.dip.isNone then .next s
  else
    let held := s.ext.dipHeld
    let late := s.ext.dipDisagree
    let s := { s with ext := { s.ext with dip := none, dipHeld := [], dipDisagree := [] } }
    .next (ringResume (startEpisodes (late.foldl disagreeNow s) (episodeSources s held)))

/-- MAIN_POWER_LOSS (R45, R530, R531): only a dip still in progress becomes a loss. What is unprogrammed or in force passes
into the latch (R511), the main domain is reset, and the battery domain is lost with an invalid VBAT (R532). -/
def execMainPowerLoss (s : State) : Host.Outcome State Fault Refusal :=
  if !hasMain s ∨ s.ext.dip.isNone = true then .next s
  else
    let m := mode s
    let f := vigilFiring s
    let t := unlink (volatileReset (tagMainLost (latchAll (tearOtp s))))
    let t := { t with tmp := State.reset.tmp,
                      ext := { t.ext with mainPower := false, dip := none, dipHeld := [], dipDisagree := [] },
                      bat := { t.bat with firing := f }, parlour := parlourReset }
    let t := if t.ext.vbat then t else loseBattery t
    .next (setMode t (modeWithoutMain t m))

/-- VBAT_LOSS (R532, R549): with main power the cell may be removed and nothing is lost, but source 38 fires; without it the battery domain is lost,
and VIGIL ends (R45). -/
def execVbatLoss (s : State) : Host.Outcome State Fault Refusal :=
  let t := { s with ext := { s.ext with vbat := false } }
  if hasMain s then .next (fireSource t 38)
  else .next (setMode (loseBattery t) (modeWithoutMain t (mode s)))

/-! ### JTAG (R67, R556, R557) -/

/-- Whether supervisor and cell debug is open: the Open level, or TEST whatever the level (R67, R557). -/
def debugOpen (s : State) : Bool := hasMain s && decide (s.boot.step ≠ 0) && (decide (mode s = mTEST) || decide (protection s = 0))
/-- A debug write of a word: no word becomes CODE by it and no CODE word is overwritten (R31). -/
def debugWrite (s : State) (a : BitVec 32) (w : Word) : State :=
  if w.tag = .code then fault s 1 578 .tag 512 a
  else match destWrite s 512 a.toNat w false with
  | (.word _, s) => s
  | (.tag, s) => fault s 1 578 .tag 512 a
  | (.bus, s) => busFault s .write 512 a.toNat
/-- JTAG_INSTRUCTION (R67). IDCODE, BYPASS and SAMPLE/PRELOAD are served at every level, EXTEST at Open and Closed, debug at Open;
a debug read of a SECRET word returns 0x0000 DATA. A debug access is not judged by the access table; one at an address that does
not exist is a bus fault (R27), and one that would write CODE or over CODE a tag fault (R31), both under master 512 (log entry
44). -/
def execJtagInstruction (op : JtagOp) (s : State) : Host.Outcome State Fault Refusal :=
  if hasMain s = false then .next s
  else match op with
  | .idcode => .next (send s (.port "jtag" 0 (leBytes 4 Config.idcode.toNat)))
  | .bypass => .next s
  | .samplePreload => .next s
  | .extest pins =>
    .next (if protection s = 2 ∧ mode s ≠ mTEST then s else send s (.port "boundary" 0 (leBytes (Nat.log2 pins / 8 + 1) pins)))
  | .debugRead a =>
    if debugOpen s then
      match destRead s a.toNat with
      | (.word w, s) => .next { s with lastRead := if isSecret w then zeroWord else w }
      | (_, s) => .next { busFault s .read 512 a.toNat with lastRead := zeroWord }
    else .next s
  | .debugWrite a w => .next (if debugOpen s then debugWrite s a w else s)

end Sys2Proof.Machine
end

