-- ==== Sys2Proof/Machine/Dispatch.lean ====
section
/-!
DEFINITION. One arm for each command: the direct call of its meaning.
-/
namespace Sys2Proof.Machine

/-- A command's effect on everything but the queue. -/
def exec (i : Instr) (s : State) : Host.Outcome State Fault Refusal :=
  match i with
  | .powerOnRelease => Sys2Proof.Machine.execPowerOnRelease s
  | .pinReset lowNs => Sys2Proof.Machine.execPinReset lowNs s
  | .firmwareReset => Sys2Proof.Machine.execFirmwareReset s
  | .recoveryRequestReset => Sys2Proof.Machine.execRecoveryRequestReset s
  | .pcieFundamentalReset port => Sys2Proof.Machine.execPcieFundamentalReset port s
  | .functionLevelReset port => Sys2Proof.Machine.execFunctionLevelReset port s
  | .pcieResetEnd port => Sys2Proof.Machine.execPcieResetEnd port s
  | .scrubComplete selfTest install restore => Sys2Proof.Machine.execScrubComplete selfTest install restore s
  | .entryBuild => Sys2Proof.Machine.execEntryBuild s
  | .releaseWaitEnd met => Sys2Proof.Machine.execReleaseWaitEnd met s
  | .dipBegin rail => Sys2Proof.Machine.execDipBegin rail s
  | .dipEnd => Sys2Proof.Machine.execDipEnd s
  | .mainPowerLoss => Sys2Proof.Machine.execMainPowerLoss s
  | .vbatLoss => Sys2Proof.Machine.execVbatLoss s
  | .otpPulseEnd took => Sys2Proof.Machine.execOtpPulseEnd took s
  | .otpProgramEnd => Sys2Proof.Machine.execOtpProgramEnd s
  | .hostPailWrite port off bytes => Sys2Proof.Machine.execHostPailWrite port off bytes s
  | .bar0BadAccess port off isWrite => Sys2Proof.Machine.execBar0BadAccess port off isWrite s
  | .doorbell port p value => Sys2Proof.Machine.execDoorbell port p value s
  | .pailEventTake p => Sys2Proof.Machine.execPailEventTake p s
  | .responseDelivery p => Sys2Proof.Machine.execResponseDelivery p s
  | .ringEntryWrite => Sys2Proof.Machine.execRingEntryWrite s
  | .ringWriteError => Sys2Proof.Machine.execRingWriteError s
  | .respDone p => Sys2Proof.Machine.execRespDone p s
  | .clrOverflow p => Sys2Proof.Machine.execClrOverflow p s
  | .ringEn value => Sys2Proof.Machine.execRingEn value s
  | .statusIntEn value => Sys2Proof.Machine.execStatusIntEn value s
  | .prlRingTail value => Sys2Proof.Machine.execPrlRingTail value s
  | .msixUnmask port vector => Sys2Proof.Machine.execMsixUnmask port vector s
  | .bmcSidebandWrite => Sys2Proof.Machine.execBmcSidebandWrite s
  | .uartReceive byte => Sys2Proof.Machine.execUartReceive byte s
  | .devInfo p => Sys2Proof.Machine.execDevInfo p s
  | .devAttest p mismatch => Sys2Proof.Machine.execDevAttest p mismatch s
  | .devReset p => Sys2Proof.Machine.execDevReset p s
  | .devResetDelay => Sys2Proof.Machine.execDevResetDelay s
  | .devSetProtection p => Sys2Proof.Machine.execDevSetProtection p s
  | .lowering => Sys2Proof.Machine.execLowering s
  | .devSpend p => Sys2Proof.Machine.execDevSpend p s
  | .decommissioning => Sys2Proof.Machine.execDecommissioning s
  | .ownClaim p genOk => Sys2Proof.Machine.execOwnClaim p genOk s
  | .ownTransfer p genOk => Sys2Proof.Machine.execOwnTransfer p genOk s
  | .ownRekey p genOk => Sys2Proof.Machine.execOwnRekey p genOk s
  | .partCreate p => Sys2Proof.Machine.execPartCreate p s
  | .partDelete p => Sys2Proof.Machine.execPartDelete p s
  | .partSetQuota p => Sys2Proof.Machine.execPartSetQuota p s
  | .partStatus p => Sys2Proof.Machine.execPartStatus p s
  | .partNewCredential p => Sys2Proof.Machine.execPartNewCredential p s
  | .keyGenerate p compare => Sys2Proof.Machine.execKeyGenerate p compare s
  | .keyGenerationTimeout slot => Sys2Proof.Machine.execKeyGenerationTimeout slot s
  | .keyImport p => Sys2Proof.Machine.execKeyImport p s
  | .keyExport p => Sys2Proof.Machine.execKeyExport p s
  | .keyDelete p => Sys2Proof.Machine.execKeyDelete p s
  | .keyInfo p => Sys2Proof.Machine.execKeyInfo p s
  | .keyPublic p => Sys2Proof.Machine.execKeyPublic p s
  | .ctrAllocate p => Sys2Proof.Machine.execCtrAllocate p s
  | .ctrRead p => Sys2Proof.Machine.execCtrRead p s
  | .ctrIncrement p => Sys2Proof.Machine.execCtrIncrement p s
  | .ctrRelease p => Sys2Proof.Machine.execCtrRelease p s
  | .sigSign p mismatch => Sys2Proof.Machine.execSigSign p mismatch s
  | .sigVerify p => Sys2Proof.Machine.execSigVerify p s
  | .kaEcdh p compare => Sys2Proof.Machine.execKaEcdh p compare s
  | .curveLoad p => Sys2Proof.Machine.execCurveLoad p s
  | .macGenerate p mismatch => Sys2Proof.Machine.execMacGenerate p mismatch s
  | .macVerify p mismatch => Sys2Proof.Machine.execMacVerify p mismatch s
  | .pinTranslate p => Sys2Proof.Machine.execPinTranslate p s
  | .keyTranslate p => Sys2Proof.Machine.execKeyTranslate p s
  | .rngGet p => Sys2Proof.Machine.execRngGet p s
  | .cusPolicy p => Sys2Proof.Machine.execCusPolicy p s
  | .cusBegin p => Sys2Proof.Machine.execCusBegin p s
  | .cusCard p mismatch => Sys2Proof.Machine.execCusCard p mismatch s
  | .cusStatus p => Sys2Proof.Machine.execCusStatus p s
  | .cusEnd p => Sys2Proof.Machine.execCusEnd p s
  | .sessionTimeout session => Sys2Proof.Machine.execSessionTimeout session s
  | .cfgGet p => Sys2Proof.Machine.execCfgGet p s
  | .cfgSet p => Sys2Proof.Machine.execCfgSet p s
  | .calGet p => Sys2Proof.Machine.execCalGet p s
  | .calSet p => Sys2Proof.Machine.execCalSet p s
  | .vatStatus p khz => Sys2Proof.Machine.execVatStatus p khz s
  | .vatQuiesce p => Sys2Proof.Machine.execVatQuiesce p s
  | .drained vat => Sys2Proof.Machine.execDrained vat s
  | .quiesceTimeout vat => Sys2Proof.Machine.execQuiesceTimeout vat s
  | .vatReload p => Sys2Proof.Machine.execVatReload p s
  | .vatTrim p => Sys2Proof.Machine.execVatTrim p s
  | .trimMeasurementEnd vat khz => Sys2Proof.Machine.execTrimMeasurementEnd vat khz s
  | .boundaryHoldTimeout vat => Sys2Proof.Machine.execBoundaryHoldTimeout vat s
  | .vatRetire p katOk => Sys2Proof.Machine.execVatRetire p katOk s
  | .vatResume p => Sys2Proof.Machine.execVatResume p s
  | .fltRead p => Sys2Proof.Machine.execFltRead p s
  | .fltAck p => Sys2Proof.Machine.execFltAck p s
  | .tmpStatus p => Sys2Proof.Machine.execTmpStatus p s
  | .hbHead p => Sys2Proof.Machine.execHbHead p s
  | .hbRead p => Sys2Proof.Machine.execHbRead p s
  | .hbAck p first second => Sys2Proof.Machine.execHbAck p first second s
  | .hbAnnotate p => Sys2Proof.Machine.execHbAnnotate p s
  | .hbPubkey p => Sys2Proof.Machine.execHbPubkey p s
  | .updBegin p => Sys2Proof.Machine.execUpdBegin p s
  | .updBlock p code => Sys2Proof.Machine.execUpdBlock p code s
  | .updStatus p => Sys2Proof.Machine.execUpdStatus p s
  | .updCommit p readable => Sys2Proof.Machine.execUpdCommit p readable s
  | .updAbort p => Sys2Proof.Machine.execUpdAbort p s
  | .tallyWrite => Sys2Proof.Machine.execTallyWrite s
  | .tempLogEntry hottest coldest => Sys2Proof.Machine.execTempLogEntry hottest coldest s
  | .push vat value => Sys2Proof.Machine.execPush vat value s
  | .drain vat value => Sys2Proof.Machine.execDrain vat value s
  | .vatCqPop vat => Sys2Proof.Machine.execVatCqPop vat s
  | .skimRequest vat => Sys2Proof.Machine.execSkimRequest vat s
  | .skimServe vat => Sys2Proof.Machine.execSkimServe vat s
  | .skimReply vat => Sys2Proof.Machine.execSkimReply vat s
  | .skimBackoffEnd vat => Sys2Proof.Machine.execSkimBackoffEnd vat s
  | .holdLimitBite vat unit cell => Sys2Proof.Machine.execHoldLimitBite vat unit cell s
  | .ticketLimitBite vat cell => Sys2Proof.Machine.execTicketLimitBite vat cell s
  | .cellHaltHandling vat cell => Sys2Proof.Machine.execCellHaltHandling vat cell s
  | .vatSwap value => Sys2Proof.Machine.execVatSwap value s
  | .swapComplete => Sys2Proof.Machine.execSwapComplete s
  | .vatLoad vat value => Sys2Proof.Machine.execVatLoad vat value s
  | .loadComplete vat => Sys2Proof.Machine.execLoadComplete vat s
  | .vatCtrlWrite vat value => Sys2Proof.Machine.execVatCtrlWrite vat value s
  | .vatCellRun vat value => Sys2Proof.Machine.execVatCellRun vat value s
  | .yieldPoint vat => Sys2Proof.Machine.execYieldPoint vat s
  | .churnJobEnd vat mismatch => Sys2Proof.Machine.execChurnJobEnd vat mismatch s
  | .chnCancel vat value => Sys2Proof.Machine.execChnCancel vat value s
  | .chnKat vat value => Sys2Proof.Machine.execChnKat vat value s
  | .churnKatEnd vat pass => Sys2Proof.Machine.execChurnKatEnd vat pass s
  | .macGrantPoint vat => Sys2Proof.Machine.execMacGrantPoint vat s
  | .macJobEnd vat => Sys2Proof.Machine.execMacJobEnd vat s
  | .macCancel vat value => Sys2Proof.Machine.execMacCancel vat value s
  | .macKat vat value => Sys2Proof.Machine.execMacKat vat value s
  | .macKatEnd vat pass => Sys2Proof.Machine.execMacKatEnd vat pass s
  | .macCtrRead vat => Sys2Proof.Machine.execMacCtrRead vat s
  | .macCtrIncrement vat => Sys2Proof.Machine.execMacCtrIncrement vat s
  | .raise vat => Sys2Proof.Machine.execRaise vat s
  | .aptWindowComplete vat rctRun aptCount => Sys2Proof.Machine.execAptWindowComplete vat rctRun aptCount s
  | .healthTestFailure vat test => Sys2Proof.Machine.execHealthTestFailure vat test s
  | .startupTestEnd vat => Sys2Proof.Machine.execStartupTestEnd vat s
  | .centralQueueRefill => Sys2Proof.Machine.execCentralQueueRefill s
  | .internalDraw vat => Sys2Proof.Machine.execInternalDraw vat s
  | .rngCqData => Sys2Proof.Machine.execRngCqData s
  | .add core => Sys2Proof.Machine.execAdd core s
  | .adc core => Sys2Proof.Machine.execAdc core s
  | .sub core => Sys2Proof.Machine.execSub core s
  | .sbc core => Sys2Proof.Machine.execSbc core s
  | .and core => Sys2Proof.Machine.execAnd core s
  | .or core => Sys2Proof.Machine.execOr core s
  | .xor core => Sys2Proof.Machine.execXor core s
  | .andn core => Sys2Proof.Machine.execAndn core s
  | .shl core => Sys2Proof.Machine.execShl core s
  | .shr core => Sys2Proof.Machine.execShr core s
  | .sar core => Sys2Proof.Machine.execSar core s
  | .rol core => Sys2Proof.Machine.execRol core s
  | .mul core => Sys2Proof.Machine.execMul core s
  | .mulh core => Sys2Proof.Machine.execMulh core s
  | .csel core => Sys2Proof.Machine.execCsel core s
  | .mov core => Sys2Proof.Machine.execMov core s
  | .addi core => Sys2Proof.Machine.execAddi core s
  | .andi core => Sys2Proof.Machine.execAndi core s
  | .ori core => Sys2Proof.Machine.execOri core s
  | .xori core => Sys2Proof.Machine.execXori core s
  | .shli core => Sys2Proof.Machine.execShli core s
  | .shri core => Sys2Proof.Machine.execShri core s
  | .sari core => Sys2Proof.Machine.execSari core s
  | .roli core => Sys2Proof.Machine.execRoli core s
  | .movi core => Sys2Proof.Machine.execMovi core s
  | .cmp core => Sys2Proof.Machine.execCmp core s
  | .tst core => Sys2Proof.Machine.execTst core s
  | .cmpi core => Sys2Proof.Machine.execCmpi core s
  | .tsti core => Sys2Proof.Machine.execTsti core s
  | .ld core => Sys2Proof.Machine.execLd core s
  | .st core => Sys2Proof.Machine.execSt core s
  | .ldx core => Sys2Proof.Machine.execLdx core s
  | .stx core => Sys2Proof.Machine.execStx core s
  | .cld core => Sys2Proof.Machine.execCld core s
  | .cst core => Sys2Proof.Machine.execCst core s
  | .cmov core => Sys2Proof.Machine.execCmov core s
  | .cbound core => Sys2Proof.Machine.execCbound core s
  | .cperm core => Sys2Proof.Machine.execCperm core s
  | .cinc core => Sys2Proof.Machine.execCinc core s
  | .cget core => Sys2Proof.Machine.execCget core s
  | .cclr core => Sys2Proof.Machine.execCclr core s
  | .cmake core => Sys2Proof.Machine.execCmake core s
  | .b core => Sys2Proof.Machine.execB core s
  | .br core => Sys2Proof.Machine.execBr core s
  | .callL core => Sys2Proof.Machine.execCallL core s
  | .retL core => Sys2Proof.Machine.execRetL core s
  | .callm core => Sys2Proof.Machine.execCallm core s
  | .retm core => Sys2Proof.Machine.execRetm core s
  | .far core => Sys2Proof.Machine.execFar core s
  | .bmov core => Sys2Proof.Machine.execBmov core s
  | .bfill core => Sys2Proof.Machine.execBfill core s
  | .mfeed core => Sys2Proof.Machine.execMfeed core s
  | .csub core => Sys2Proof.Machine.execCsub core s
  | .csubC core => Sys2Proof.Machine.execCsubC core s
  | .cwait core => Sys2Proof.Machine.execCwait core s
  | .cwaitW core => Sys2Proof.Machine.execCwaitW core s
  | .msub core => Sys2Proof.Machine.execMsub core s
  | .msubC core => Sys2Proof.Machine.execMsubC core s
  | .mwait core => Sys2Proof.Machine.execMwait core s
  | .mwaitW core => Sys2Proof.Machine.execMwaitW core s
  | .take core => Sys2Proof.Machine.execTake core s
  | .takeW core => Sys2Proof.Machine.execTakeW core s
  | .done core => Sys2Proof.Machine.execDone core s
  | .rdraw core => Sys2Proof.Machine.execRdraw core s
  | .nop core => Sys2Proof.Machine.execNop core s
  | .halt core => Sys2Proof.Machine.execHalt core s
  | .retx core => Sys2Proof.Machine.execRetx core s
  | .fence core => Sys2Proof.Machine.execFence core s
  | .mfsr core => Sys2Proof.Machine.execMfsr core s
  | .mtsr core => Sys2Proof.Machine.execMtsr core s
  | .exceptionEntry core => Sys2Proof.Machine.execExceptionEntry core s
  | .meshRequest xfer atEgress hdrErr wordErr => Sys2Proof.Machine.execMeshRequest xfer atEgress hdrErr wordErr s
  | .meshReply xfer hdrErr wordErr => Sys2Proof.Machine.execMeshReply xfer hdrErr wordErr s
  | .postedWriteRefusal xfer => Sys2Proof.Machine.execPostedWriteRefusal xfer s
  | .replyTimeout xfer => Sys2Proof.Machine.execReplyTimeout xfer s
  | .linkWatchdogBite router output master => Sys2Proof.Machine.execLinkWatchdogBite router output master s
  | .mshRtrAbort router value => Sys2Proof.Machine.execMshRtrAbort router value s
  | .supervisorWatchdogBite => Sys2Proof.Machine.execSupervisorWatchdogBite s
  | .mshSwdogKick value => Sys2Proof.Machine.execMshSwdogKick value s
  | .apply => Sys2Proof.Machine.execApply s
  | .actWrite => Sys2Proof.Machine.execActWrite s
  | .actLoad => Sys2Proof.Machine.execActLoad s
  | .clearPart part => Sys2Proof.Machine.execClearPart part s
  | .dmaStart ch => Sys2Proof.Machine.execDmaStart ch s
  | .dmaAbort ch => Sys2Proof.Machine.execDmaAbort ch s
  | .descriptorFetch ch hostBytes mismatch => Sys2Proof.Machine.execDescriptorFetch ch hostBytes mismatch s
  | .burst ch hostBytes mismatch => Sys2Proof.Machine.execBurst ch hostBytes mismatch s
  | .descriptorWriteBack ch hostOk mismatch => Sys2Proof.Machine.execDescriptorWriteBack ch hostOk mismatch s
  | .hostCompletionTimeout ch => Sys2Proof.Machine.execHostCompletionTimeout ch s
  | .linkUp => Sys2Proof.Machine.execLinkUp s
  | .flashWindowRead master waddr => Sys2Proof.Machine.execFlashWindowRead master waddr s
  | .pageLoadEnd bank retries corrections outcome => Sys2Proof.Machine.execPageLoadEnd bank retries corrections outcome s
  | .program bank => Sys2Proof.Machine.execProgram bank s
  | .erase bank => Sys2Proof.Machine.execErase bank s
  | .erasePulseEnd bank verified => Sys2Proof.Machine.execErasePulseEnd bank verified s
  | .blankCheck bank => Sys2Proof.Machine.execBlankCheck bank s
  | .retire bank => Sys2Proof.Machine.execRetire bank s
  | .replace bank => Sys2Proof.Machine.execReplace bank s
  | .flashCommandEnd bank outcome => Sys2Proof.Machine.execFlashCommandEnd bank outcome s
  | .flcProt value => Sys2Proof.Machine.execFlcProt value s
  | .measure port => Sys2Proof.Machine.execMeasure port s
  | .measurementEnd port data => Sys2Proof.Machine.execMeasurementEnd port data s
  | .measureTimeLimit port => Sys2Proof.Machine.execMeasureTimeLimit port s
  | .fgpModeWrite port value => Sys2Proof.Machine.execFgpModeWrite port value s
  | .upstreamCsRise port => Sys2Proof.Machine.execUpstreamCsRise port s
  | .guardCommand port opcode addr => Sys2Proof.Machine.execGuardCommand port opcode addr s
  | .send port => Sys2Proof.Machine.execSend port s
  | .address port acked => Sys2Proof.Machine.execAddress port acked s
  | .dvpReply port bytes err => Sys2Proof.Machine.execDvpReply port bytes err s
  | .dvpReplyTimeout port => Sys2Proof.Machine.execDvpReplyTimeout port s
  | .ibi port => Sys2Proof.Machine.execIbi port s
  | .ctpGate value => Sys2Proof.Machine.execCtpGate value s
  | .ctpOut port value => Sys2Proof.Machine.execCtpOut port value s
  | .statEdge port level => Sys2Proof.Machine.execStatEdge port level s
  | .ppsEdge atUs => Sys2Proof.Machine.execPpsEdge atUs s
  | .ppsTimeout => Sys2Proof.Machine.execPpsTimeout s
  | .xtalStatusChange ok => Sys2Proof.Machine.execXtalStatusChange ok s
  | .activate slot => Sys2Proof.Machine.execActivate slot s
  | .atrComplete slot atr intact ppsEcho ifsOk => Sys2Proof.Machine.execAtrComplete slot atr intact ppsEcho ifsOk s
  | .noAtr slot => Sys2Proof.Machine.execNoAtr slot s
  | .exchange slot => Sys2Proof.Machine.execExchange slot s
  | .cardResponse slot bytes parity fatal blocks => Sys2Proof.Machine.execCardResponse slot bytes parity fatal blocks s
  | .cardWaitingTimeout slot => Sys2Proof.Machine.execCardWaitingTimeout slot s
  | .deactivate slot => Sys2Proof.Machine.execDeactivate slot s
  | .cardInsertion slot => Sys2Proof.Machine.execCardInsertion slot s
  | .cardRemoval slot before => Sys2Proof.Machine.execCardRemoval slot before s
  | .overcurrent slot => Sys2Proof.Machine.execOvercurrent slot s
  | .clockStop slot => Sys2Proof.Machine.execClockStop slot s
  | .fieldOn => Sys2Proof.Machine.execFieldOn s
  | .fieldLoss => Sys2Proof.Machine.execFieldLoss s
  | .select sel => Sys2Proof.Machine.execSelect sel s
  | .query q => Sys2Proof.Machine.execQuery q s
  | .queryAdjust session upDn => Sys2Proof.Machine.execQueryAdjust session upDn s
  | .queryRep session => Sys2Proof.Machine.execQueryRep session s
  | .ack rn => Sys2Proof.Machine.execAck rn s
  | .nak => Sys2Proof.Machine.execNak s
  | .reqRn rn => Sys2Proof.Machine.execReqRn rn s
  | .access halfXor rn => Sys2Proof.Machine.execAccess halfXor rn s
  | .read bank ptr count rn => Sys2Proof.Machine.execRead bank ptr count rn s
  | .write bank ptr dataXor rn => Sys2Proof.Machine.execWrite bank ptr dataXor rn s
  | .blockWrite bank ptr words rn => Sys2Proof.Machine.execBlockWrite bank ptr words rn s
  | .lock mask action rn => Sys2Proof.Machine.execLock mask action rn s
  | .kill halfXor rn => Sys2Proof.Machine.execKill halfXor rn s
  | .tagRead value => Sys2Proof.Machine.execTagRead value s
  | .tagWrite value => Sys2Proof.Machine.execTagWrite value s
  | .tagProgramEnd field => Sys2Proof.Machine.execTagProgramEnd field s
  | .tagRepair record => Sys2Proof.Machine.execTagRepair record s
  | .tamperEpisodeStart sources detA detB => Sys2Proof.Machine.execTamperEpisodeStart sources detA detB s
  | .tamperEpisodeEnd source => Sys2Proof.Machine.execTamperEpisodeEnd source s
  | .disagreement source => Sys2Proof.Machine.execDisagreement source s
  | .quietPeriodEnd source => Sys2Proof.Machine.execQuietPeriodEnd source s
  | .evidenceProgramEnd took => Sys2Proof.Machine.execEvidenceProgramEnd took s
  | .tmpFuse value => Sys2Proof.Machine.execTmpFuse value s
  | .fltAckRegister value => Sys2Proof.Machine.execFltAckRegister value s
  | .stormEnd => Sys2Proof.Machine.execStormEnd s
  | .calOffset value => Sys2Proof.Machine.execCalOffset value s
  | .settlingEnd item => Sys2Proof.Machine.execSettlingEnd item s
  | .prlRingDropped port => Sys2Proof.Machine.execPrlRingDropped port s
  | .vatSkimCount master vat => Sys2Proof.Machine.execVatSkimCount master vat s
  | .chnMismatch master vat => Sys2Proof.Machine.execChnMismatch master vat s
  | .chnOps master vat => Sys2Proof.Machine.execChnOps master vat s
  | .chnSwitches master vat => Sys2Proof.Machine.execChnSwitches master vat s
  | .macReseeds master vat => Sys2Proof.Machine.execMacReseeds master vat s
  | .rngRctPeak master vat => Sys2Proof.Machine.execRngRctPeak master vat s
  | .rngAptPeak master vat => Sys2Proof.Machine.execRngAptPeak master vat s
  | .rngFallback master vat => Sys2Proof.Machine.execRngFallback master vat s
  | .mshBicCount master => Sys2Proof.Machine.execMshBicCount master s
  | .mshLate master => Sys2Proof.Machine.execMshLate master s
  | .mshRtrAgeMax master router => Sys2Proof.Machine.execMshRtrAgeMax master router s
  | .mshRtrGrants master router output => Sys2Proof.Machine.execMshRtrGrants master router output s
  | .actViolCount master => Sys2Proof.Machine.execActViolCount master s
  | .dmaChCount master ch => Sys2Proof.Machine.execDmaChCount master ch s
  | .flcLinkErrs master => Sys2Proof.Machine.execFlcLinkErrs master s
  | .flcRetryCount master bank => Sys2Proof.Machine.execFlcRetryCount master bank s
  | .flcCorrMax master bank => Sys2Proof.Machine.execFlcCorrMax master bank s
  | .flcBusyReads master bank => Sys2Proof.Machine.execFlcBusyReads master bank s
  | .fgpBlocked master port => Sys2Proof.Machine.execFgpBlocked master port s
  | .dvpIbiCount master port => Sys2Proof.Machine.execDvpIbiCount master port s
  | .clkTrefStatus master => Sys2Proof.Machine.execClkTrefStatus master s
  | .clkTb master => Sys2Proof.Machine.execClkTb master s
  | .cslErrs master slot => Sys2Proof.Machine.execCslErrs master slot s
  | .tagRefusals master => Sys2Proof.Machine.execTagRefusals master s
  | .tmpSrcCount master source => Sys2Proof.Machine.execTmpSrcCount master source s
  | .fltRecoveries master => Sys2Proof.Machine.execFltRecoveries master s
  | .fltClassCount master cls => Sys2Proof.Machine.execFltClassCount master cls s
  | .registerWrite master waddr word => Sys2Proof.Machine.execRegisterWrite master waddr word s
  | .jtagInstruction op => Sys2Proof.Machine.execJtagInstruction op s
  | .configurationSpaceWrite port op => Sys2Proof.Machine.execConfigurationSpaceWrite port op s
  | .atrCharacterTimeout slot => Sys2Proof.Machine.execAtrCharacterTimeout slot s
  | .flagPersistenceExpiry flag => Sys2Proof.Machine.execFlagPersistenceExpiry flag s

end Sys2Proof.Machine
end

