-- ==== Sys2Proof/WellFormed.lean ====
section
/-!
DEFINITION. Which operands a command can come with: the bounds the spec sets on what the outside world sends and on what a
moment in the device can hold. A command out of these bounds is no event the spec describes; `exec` answers a next state for it
too.
-/
namespace Sys2Proof

/-- Whether a waddr lies in register space (R24). -/
def inRegisterSpace (a : Nat) : Bool := decide (0x30000000 ≤ a) && decide (a < 0x3F000000)
/-- Whether a waddr lies in the flash window (R24). -/
def inFlashWindow (a : Nat) : Bool := decide (0x20000000 ≤ a) && decide (a < 0x24000000)
/-- A host write TLP: 1 to 512 bytes on the host port, 256 on the auxiliary port, inside BAR2 (R39, R77, R80). -/
def tlpOk (port : PciePort) (off : Nat) (bytes : Bytes) : Bool :=
  decide (0 < bytes.length) && decide (bytes.length ≤ (if port = .host then 512 else 256)) && decide (off + bytes.length ≤ 0x100000)
/-- Error bits come one per word of a transfer, 16 at most (R357). -/
def wordErrOk (e : List (BitVec 25)) : Bool := decide (e.length ≤ 16)

/-- The bounds on a command's operands. -/
def Instr.wf : Instr → Bool
  | .hostPailWrite port off bytes => tlpOk port off bytes
  | .bar0BadAccess _ off _ => decide (off < 0x1000)
  | .meshRequest _ _ _ wordErr => wordErrOk wordErr
  | .meshReply _ _ wordErr => wordErrOk wordErr
  | .descriptorFetch _ hostBytes _ => hostBytes.all (fun x => decide (32 ≤ x.length) && decide (x.length ≤ 512))
  | .burst _ hostBytes _ => hostBytes.all (fun x => decide (x.length ≤ 256))
  | .flashWindowRead _ waddr => inFlashWindow waddr.toNat
  | .registerWrite _ waddr _ => inRegisterSpace waddr.toNat
  | .atrComplete _ atr _ _ _ => decide (2 ≤ atr.length) && decide (atr.length ≤ 33)
  | .cardResponse _ bytes _ _ _ => decide (2 ≤ bytes.length)
  | .blockWrite _ _ words _ => decide (1 ≤ words.length) && decide (words.length ≤ 8)
  | .tamperEpisodeStart sources detA detB => decide (sources ≠ []) && decide sources.Nodup && (detA || detB)
  | _ => true

end Sys2Proof
end

