-- ==== Sys2Proof/Safety.lean ====
section
/-!
DEFINITION. What the statements about the machine are said in: that a command is carried out, what it leaves as it was, and the
form every reachable state keeps.
-/
namespace Sys2Proof.Machine

/-! ### Carrying out a command -/

/-- The command is carried out, and the state after it has the property P. -/
def Answers (c : Instr) (s : State) (P : State → Prop) : Prop := ∃ t, exec c s = .next t ∧ P t
/-- The command is carried out and leaves the state as it was. -/
def Idles (c : Instr) (s : State) : Prop := exec c s = .next s
/-- A run stops nowhere: k steps from s answer a next state. -/
def RunsFor (k : Nat) (s : State) : Prop := ∃ t, Host.Core.run Sys2Proof.core k s = .next t

/-! ### What is left as it was -/

/-- Every word of RAM reads as before. -/
def SameMem (s t : State) : Prop := ∀ a, readMem t a = readMem s a
/-- Every word of RAM outside `n` words from `a` reads as before. -/
def SameMemBut (s t : State) (a n : Nat) : Prop := ∀ x, (x < a ∨ a + n ≤ x) → readMem t x = readMem s x
/-- The stored part of every register but those listed is as before. -/
def SameRegsBut (s t : State) (ws : List Nat) : Prop := ∀ w, w ∉ ws → getReg t w = getReg s w
/-- Every core but one is as before. -/
def SameCellsBut (s t : State) (k : Nat) : Prop := ∀ j, j ≠ k → getCell t j = getCell s j
/-- Nothing but one core has changed. -/
def OnlyCell (s t : State) (k : Nat) : Prop := t = setCell s k (getCell t k)

/-- RAM, the registers but those listed, and every core are as before. -/
def Quiet (s t : State) (ws : List Nat) : Prop := SameMem s t ∧ SameRegsBut s t ws ∧ ∀ j, getCell t j = getCell s j

/-! ### Registers and requests -/

/-- A master's read of a register that waits for no swap or boundary (R188, R214), that the access table allows and something answers. -/
def ReadAllowed (s : State) (m : Master) (w : Nat) : Prop :=
  hasMain s = true ∧ accessWaits s w = false ∧ checkWord s m w .read false = none ∧ isHole s w false = false
/-- A read returned what the register held, and cleared its RC bits, if it has any, and nothing else (R6). -/
def ReadCleared (s t : State) (w : Nat) : Prop :=
  t.lastRead = dataWord (peekReg s w)
    ∧ (∀ r, regSpec (physReg s w) = some r → getReg t (physReg s w) = getReg s (physReg s w) &&& ~~~r.rc)
    ∧ Quiet s t [physReg s w] ∧ t.evc = s.evc ∧ t.flt = s.flt
/-- A write of a register by a master that is no PCIe port, that waits for no swap or boundary (R188, R214), that the access table allows
and something answers. -/
def WriteAllowed (s : State) (m : Master) (w : Nat) (secret : Bool) : Prop :=
  hasMain s = true ∧ isPort m = false ∧ accessWaits s w = false ∧ checkWord s m w .write secret = none ∧ isHole s w true = false
/-- A write by the supervisor's firmware to a register reaches it: the main domain has power, nothing makes the access wait (R188, R214), and
something answers there (R29). -/
def SupReaches (s : State) (w : Nat) : Prop := s.ext.mainPower = true ∧ accessWaits s w = false ∧ isHole s w true = false
/-- The first record of the fault collector is a new one of a class, source, access type, master and address (R515, R518). -/
def Latched (s t : State) (cls source : Nat) (acc : AccessType) (m : BitVec 10) (a : BitVec 32) : Prop :=
  s.flt.first = none → ∃ r, t.flt.first = some r ∧ r.cls = cls ∧ r.source = source ∧ r.access = acc ∧ r.master = m ∧ r.addr = a

/-- Firmware carries out a request of command c that a pail has had taken. -/
def Taken (s : State) (p : Pail) (c : Nat) (d : Doorbell) (r : Request) : Prop := findTaken s p.val c = some (d, r)
/-- The request's doorbell is completed with a response, and its pail has not changed otherwise. -/
def Completed (s t : State) (p : Pail) (d : Doorbell) (r : Response) : Prop :=
  getPail t p.val = { getPail s p.val with
    queue := changeFirst (fun x => decide (x.seq = d.seq)) (fun x => { x with phase := .ready r }) (getPail s p.val).queue }
/-- A running cell carries out a request of command c of a pail: no older request of that command has lost its counter (R219), cell
`k` of the vat at `v` has taken its ticket `t`, no STALL is in force, and the completion queue has room (R195). -/
def TakenCell (s : State) (p : Pail) (c : Nat) (d : Doorbell) (r : Request) (v k t : Nat) : Prop :=
  findOf s p.val c (fun d r => if d.buf = none ∧ counterLost s (streamOf s d r) = true ∧ supHalted s = false then some () else none) = none
    ∧ findOf s p.val c (fun d _ => runningCell s p.val d.seq) = some (d, r, v, k, t) ∧ s.tmp.stall = false ∧ (getVat s v).cq.length < 64
/-- Random bits that masking `blocks` blocks may call for: a reseed of 256 after every 256 blocks (R271). -/
def maskBits (blocks : Nat) : Nat := 256 * ((blocks + 255) / 256)
/-- The same for MAC work that runs twice, with the reseed before its second run (R273). -/
def twiceBits (blocks : Nat) : Nat := 256 + 2 * maskBits blocks
/-- The same for unwrapping a key's record under the owner root (R261). -/
def openBits (key : KeySlot) : Nat := maskBits (kdfBlocks 11 3 256 + kwBlocks key.record.length)
/-- The same for wrapping `n` bytes of material into a record, and for a KCV. -/
def storeBits (n : Nat) : Nat := twiceBits (kdfBlocks 11 3 256 + kwBlocks (wrappedLength n)) + twiceBits 1
/-- The engines of the vat at `v` can work: its queue holds `n` bits, its source has not stopped and no draw of its engines waits, its MAC
unit has lost no reseed and stands within 256 blocks of its last one (R271, R288, R289). -/
def Fed (s : State) (v n : Nat) : Prop :=
  (getVat s v).noise.state ≠ 3 ∧ n ≤ (getVat s v).noise.bits ∧ (getVat s v).wants = [] ∧ (getVat s v).mac.dry = false
    ∧ (getVat s v).mac.sinceReseed < 256
/-- The MAC unit of the vat at `v` holds the owner root (R256). -/
def HasOwnerRoot (s : State) (v : Nat) : Prop := (getVat s v).mac.ownerRoot = true
/-- All that work of a vat's engines for a command changes: bits of its queue and the free values drawn, what the MAC unit has counted
since its last reseed, the cell that last held the multiplier, and the counts MAC_RESEEDS, CHN_OPS and CHN_SWITCHES. -/
def EnginesRan (s w : State) (v : Nat) : Prop :=
  (∃ regs vats fresh, w = { s with regs := regs, vats := vats, fresh := fresh }) ∧ SameRegsBut s w [R.MAC_RESEEDS v, R.CHN_OPS v, R.CHN_SWITCHES v]
    ∧ (∀ q, q ≠ v → getVat w q = getVat s q)
    ∧ ∃ b n h, getVat w v =
        { getVat s v with
          noise := { (getVat s v).noise with bits := b }
          mac := { (getVat s v).mac with sinceReseed := n }
          churn := { (getVat s v).churn with holder := h } }
/-- The vat at `v` holds the owner root, under which a READY slot's record unwraps to a key block (R261) with the slot's TYPE, CURVE and
USAGE (R263) and the material m. -/
def OpensTo (s : State) (v slot : Nat) (key : KeySlot) (m : Bytes) : Prop :=
  HasOwnerRoot s v ∧ ∃ b, kwUnwrap (recordKey s slot key.part) key.record = some b ∧
    b.take 4 = [BitVec.ofNat 8 key.type, BitVec.ofNat 8 key.curve] ++ wordBytes key.usage ∧ m = (b.drop 16).take (u16 b 4)
/-- The key that the KSPEC of a request names: its type and bytes, the state `u` once its use has been charged, and the random bits
that forming it may call for (R134). -/
def KspecKey (s : State) (v : Nat) (d : Doorbell) (r : Request) (type : Nat) (key : Bytes) (u : State) (n : Nat) : Prop :=
  let b := r.body
  (byteAt b 4 = 0 ∧ ∃ k, seeKey s d r (u16 b 8) = some k ∧ type = k.type ∧ chargeUse s k = (true, u) ∧ OpensTo s v (u16 b 8) k key
      ∧ n = openBits k)
    ∨ (byteAt b 4 ≠ 0 ∧ rootLoaded (getVat s v).mac (byteAt b 5) = true ∧ u = s ∧ type = (if byteAt b 0 = 5 then 6 else 3)
      ∧ key = kdf (rootKey s (byteAt b 5)) (ascii "KT-DERIVED") (BitVec.ofNat 8 r.part :: slice b 12 (byteAt b 6)) 256
      ∧ n = maskBits (kdfBlocks 10 (1 + byteAt b 6) 256))
/-- The cell has written a response and issued DONE; all else the command did is state w (R194, R206). -/
def CellDone (t w : State) (p : Pail) (v k tk : Nat) (d : Doorbell) (r : Request) (resp : Response) : Prop :=
  t = finishCell w p.val v k tk d r resp
/-- The cell's two runs on an engine differed, which has been recorded; the engines have done nothing else since state u (R242, R273). -/
def Differed (t u : State) (op : Nat) (p : Pail) (v k tk : Nat) (d : Doorbell) (r : Request) : Prop :=
  ∃ w x, EnginesRan u w v ∧ CellDone t (mismatchRecord w v k op x) p v k tk d r (respond sFAULT_DETECTED r.command [])
def MacDiffered (t u : State) (p : Pail) (v k tk : Nat) (d : Doorbell) (r : Request) : Prop :=
  ∃ w, EnginesRan u w v ∧ CellDone t (macMismatch w v k) p v k tk d r (respond sINTERNAL r.command [])
/-- A request is refused or fails with a status, and nothing but its completion changes. -/
def FailsWith (s t : State) (p : Pail) (d : Doorbell) (r : Request) (status detail : Nat) : Prop :=
  t = complete s p.val d.seq (respond status r.command [] detail)
/-- A reset of R50 has begun: scrubbing, RAM and the main domain at their reset values, PREV and MODE, PWR_RSTCAUSE with
the reset's bit; OTP is kept (R50, R53). -/
def ResetBegan (s t : State) (causeBit : Nat) : Prop :=
  t.boot.step = 0 ∧ (∀ a, readMem t a = readMem State.reset a) ∧ t.cells = State.reset.cells ∧ t.otp = s.otp ∧ t.fw = State.reset.fw
    ∧ getReg t R.PWR_MODE = BitVec.ofNat 16 (mode s * 16 + if mode s = mTEST then mTEST else mBOOT)
    ∧ getReg t R.PWR_RSTCAUSE = getReg s R.PWR_RSTCAUSE ||| BitVec.ofNat 16 (2 ^ causeBit)

/-! ### Cores -/

/-- A core stands before the instruction p: it may execute, waits for nothing, has no fault to take, and fetches p. -/
def Stands (s : State) (core : Core) (p : BitVec 32) : Prop :=
  coreReady s (coreKey s core) = true ∧ fetch s (coreKey s core) = .word p
/-- What an instruction leaves of a core that changes no more than registers g, flags and pc of the executing bank (and lets a
cause held back by R349 be taken): the other bank, the capability registers, lk, EVB, the exception state. -/
def CoreFrame (c c' : Cell) : Prop :=
  { c' with main := c.main, shadow := c.shadow, hold := c.hold } = c ∧ (cur c').c = (cur c).c
    ∧ (if c.inShadow then c'.main = c.main else c'.shadow = c.shadow)
/-- The pc after an instruction that goes on to the next (R301): the 12-bit index rises by 1, the PAGE stays. -/
def nextPc (c : Cell) : BitVec 20 := withIndex (getPc c) (pcIndex (getPc c) + 1)
/-- An instruction wrote register d alone, and went on. -/
def WroteG (c c' : Cell) (d : Nat) (w : Word) : Prop :=
  getG c' d = w ∧ (∀ r, r ≠ d → getG c' r = getG c r) ∧ getPc c' = nextPc c ∧ CoreFrame c c'
/-- The word an instruction writes (R308): SECRET if any value read was. -/
def tagged (secret : Bool) (v : BitVec 16) : Word := ⟨if secret then .secret else .data, v⟩
/-- What R308 says of an instruction that writes d and all flags: the result v, Z and N of it, C, V and FT. -/
def AluWrote (c c' : Cell) (d : Nat) (secret : Bool) (v : BitVec 16) (carry overflow : Bool) : Prop :=
  WroteG c c' d (tagged secret v) ∧ getFlags c' = ⟨decide (v = 0), v.msb, carry, overflow, secret⟩
/-- No g register changed, and the instruction went on with the flags given. -/
def FlagsWrote (c c' : Cell) (f : Flags) : Prop :=
  (∀ r, getG c' r = getG c r) ∧ getFlags c' = f ∧ getPc c' = nextPc c ∧ CoreFrame c c'
/-- A core stands before an instruction of opcode op. -/
def StandsOp (s : State) (core : Core) (op : Nat) (p : BitVec 32) : Prop := Stands s core p ∧ pOp p = op
/-- A fault is recorded at the core and taken next: the cause, the waddr that XADDR will hold, 0 for none; nothing else of the core changes
while MASK is 0 (R306, R337). -/
def FaultsAt (s t : State) (k : Nat) (cause : Cause) (addr : Option (BitVec 32)) : Prop :=
  getCell t k = { getCell s k with pend := some ⟨cause, addr⟩, wait := .none } ∧ SameCellsBut s t k ∧ SameMem s t

/-- What a read of the word at a waddr gives a core (R303). -/
def wordAt (s : State) (a : Nat) : Word := ramWord s (physAddr s a)
/-- A read of n words from a waddr that a core makes without the mesh, in no swap (R188), and that every check of R303 allows. -/
def LocalRead (s : State) (k a n : Nat) : Prop :=
  (∀ i, i < n → isLocal s k (a + i) = true ∧ postedAt s k (a + i) = false) ∧ swapHolds s a = false
    ∧ ∀ q ∈ splitParts a n, egress s (masterOfKey s k) (a + q.1) q.2 false false = none
/-- A store of words from a waddr that a core makes without the mesh, in no swap, and that every check of R303 allows: the parts are
allowed, and no target word is tagged CODE. -/
def LocalWrite (s : State) (k a : Nat) (ws : List Word) : Prop :=
  (∀ i, i < ws.length → isLocal s k (a + i) = true ∧ (readMem s (physAddr s (a + i))).tag ≠ .code) ∧ swapHolds s a = false
    ∧ ∀ q ∈ splitParts a ws.length, egressStore s (masterOfKey s k) (a + q.1) ((ws.drop q.1).take q.2) = none
/-- Words stand in memory from a waddr upwards, and every other word reads as before. -/
def Stored (s t : State) (a : Nat) (ws : List Word) : Prop :=
  (∀ i, i < ws.length → readMem t (physAddr s (a + i)) = ws.getD i zeroWord)
    ∧ ∀ x, (∀ i, i < ws.length → x ≠ physAddr s (a + i)) → readMem t x = readMem s x
/-- What a local access leaves: every register, and every core but its own. -/
def AccessFrame (s t : State) (k : Nat) : Prop := SameRegsBut s t [] ∧ SameCellsBut s t k ∧ t.pending = s.pending

/-! ### The form every state keeps -/

/-- The memory's canonical form: addresses strictly rising, no word listed that an unlisted address reads as. -/
def Memory.wf (m : Tbl Word) : Bool := tcanon memDefault m
/-- The memory of a state is in canonical form. -/
def MemOk (s : State) : Prop := Memory.wf s.mem = true
/-- The registers of a state are in canonical form. -/
def RegsOk (s : State) : Prop := tcanon regReset s.regs = true
/-- Bit i of OTP word o reads 1. -/
def OtpBit (s : State) (o i : Nat) : Prop := (otpWord s o).getLsbD i = true

end Sys2Proof.Machine
end

