-- ==== Sys2Proof/Certificates/Slice0/Obligations.lean ====
section
/-!
DEFINITION. The statements about the model, for the provers. Each docstring says which rules of spec/ it formalises.
-/
open Sys2Proof Sys2Proof.Machine

/-- ADD, ADC, SUB, SBC and ADDI complete (R308, R297): the sum or difference modulo 2^16, C the carry out (for SUB and SBC, 1 when
no borrow leaves the difference), V that the exact signed result does not fit 16 bits; SECRET if a value read was. Only the
core changes, and of it d, the flags and pc. -/
def Obligations.AddSubComplete : Prop :=
  ∀ (s : State) (core : Core) (p : BitVec 32),
    let k := coreKey s core
    let c := getCell s k
    let a := getG c (pf p 16)
    let b := getG c (pf p 12)
    let ab := isSecret a || isSecret b
    let cy : Nat := b2n (getFlags c).c
    (StandsOp s core 0x10 p → p.toNat % 4096 = 0 → Answers (.add core) s fun t => OnlyCell s t k ∧
      AluWrote c (getCell t k) (pf p 20) ab (a.val + b.val) (decide (65536 ≤ a.val.toNat + b.val.toNat))
        (decide ((a.val + b.val).toInt ≠ a.val.toInt + b.val.toInt))) ∧
    (StandsOp s core 0x11 p → p.toNat % 4096 = 0 → Answers (.adc core) s fun t => OnlyCell s t k ∧
      AluWrote c (getCell t k) (pf p 20) (ab || (getFlags c).ft) (BitVec.ofNat 16 (a.val.toNat + b.val.toNat + cy))
        (decide (65536 ≤ a.val.toNat + b.val.toNat + cy))
        (decide ((BitVec.ofNat 16 (a.val.toNat + b.val.toNat + cy)).toInt ≠ a.val.toInt + b.val.toInt + cy))) ∧
    (StandsOp s core 0x12 p → p.toNat % 4096 = 0 → Answers (.sub core) s fun t => OnlyCell s t k ∧
      AluWrote c (getCell t k) (pf p 20) ab (a.val - b.val) (decide (b.val.toNat ≤ a.val.toNat))
        (decide ((a.val - b.val).toInt ≠ a.val.toInt - b.val.toInt))) ∧
    (StandsOp s core 0x13 p → p.toNat % 4096 = 0 → Answers (.sbc core) s fun t => OnlyCell s t k ∧
      AluWrote c (getCell t k) (pf p 20) (ab || (getFlags c).ft) (BitVec.ofInt 16 (a.val.toInt - b.val.toInt - (1 - cy)))
        (decide (b.val.toNat + 1 ≤ a.val.toNat + cy))
        (decide ((BitVec.ofInt 16 (a.val.toInt - b.val.toInt - (1 - cy))).toInt ≠ a.val.toInt - b.val.toInt - (1 - cy)))) ∧
    (StandsOp s core 0x20 p → Answers (.addi core) s fun t => OnlyCell s t k ∧
      AluWrote c (getCell t k) (pf p 20) (isSecret a) (a.val + pImm p) (decide (65536 ≤ a.val.toNat + (pImm p).toNat))
        (decide ((a.val + pImm p).toInt ≠ a.val.toInt + (pImm p).toInt)))

/-- The logic and multiply instructions complete (R308): AND, OR, XOR, ANDN, MUL (low half), MULH (high half) and the forms with
imm16, with C = V = 0. -/
def Obligations.LogicMulComplete : Prop :=
  ∀ (s : State) (core : Core) (p : BitVec 32),
    let k := coreKey s core
    let c := getCell s k
    let a := getG c (pf p 16)
    let b := getG c (pf p 12)
    let ab := isSecret a || isSecret b
    let rrr := fun (op : Nat) (i : Instr) (v : BitVec 16) =>
      StandsOp s core op p → p.toNat % 4096 = 0 →
        Answers i s fun t => OnlyCell s t k ∧ AluWrote c (getCell t k) (pf p 20) ab v false false
    let rri := fun (op : Nat) (i : Instr) (v : BitVec 16) =>
      StandsOp s core op p → Answers i s fun t => OnlyCell s t k ∧ AluWrote c (getCell t k) (pf p 20) (isSecret a) v false false
    rrr 0x14 (.and core) (a.val &&& b.val) ∧ rrr 0x15 (.or core) (a.val ||| b.val) ∧ rrr 0x16 (.xor core) (a.val ^^^ b.val) ∧
    rrr 0x17 (.andn core) (a.val &&& ~~~b.val) ∧ rrr 0x1C (.mul core) (a.val * b.val) ∧
    rrr 0x1D (.mulh core) (((a.val.setWidth 32 * b.val.setWidth 32) >>> 16).setWidth 16) ∧
    rri 0x24 (.andi core) (a.val &&& pImm p) ∧ rri 0x25 (.ori core) (a.val ||| pImm p) ∧ rri 0x26 (.xori core) (a.val ^^^ pImm p)

/-- The shifts and rotates complete (R308): by b[4:0] or an immediate below 32 (rotates by b[3:0] or one below 16); C is the last
bit shifted out, 0 for a shift of 0 (for a rotate bit 0 of the result), V is 0. A shift left or logical right by 16 or more
gives 0, an arithmetic one 16 copies of bit 15. -/
def Obligations.ShiftComplete : Prop :=
  ∀ (s : State) (core : Core) (p : BitVec 32),
    let k := coreKey s core
    let c := getCell s k
    let a := getG c (pf p 16)
    let b := getG c (pf p 12)
    let form := fun (op opi : Nat) (i j : Instr) (lim : Nat) (v : Nat → BitVec 16) (cy : Nat → Bool) =>
      (StandsOp s core op p → p.toNat % 4096 = 0 → Answers i s fun t => OnlyCell s t k ∧
        AluWrote c (getCell t k) (pf p 20) (isSecret a || isSecret b) (v (b.val.toNat % lim)) (cy (b.val.toNat % lim)) false) ∧
      (StandsOp s core opi p → (pImm p).toNat < lim → Answers j s fun t => OnlyCell s t k ∧
        AluWrote c (getCell t k) (pf p 20) (isSecret a) (v (pImm p).toNat) (cy (pImm p).toNat) false)
    form 0x18 0x28 (.shl core) (.shli core) 32 (fun n => BitVec.ofNat 16 (a.val.toNat * 2 ^ n))
      (fun n => decide (0 < n) && decide (n ≤ 16) && a.val.getLsbD (16 - n)) ∧
    form 0x19 0x29 (.shr core) (.shri core) 32 (fun n => BitVec.ofNat 16 (a.val.toNat / 2 ^ n))
      (fun n => decide (0 < n) && a.val.getLsbD (n - 1)) ∧
    form 0x1A 0x2A (.sar core) (.sari core) 32 (fun n => BitVec.ofInt 16 (a.val.toInt / 2 ^ n))
      (fun n => decide (0 < n) && a.val.getLsbD (min (n - 1) 15)) ∧
    form 0x1B 0x2B (.rol core) (.roli core) 16 (fun n => (a.val <<< n) ||| (a.val >>> (16 - n)))
      (fun n => ((a.val <<< n) ||| (a.val >>> (16 - n))).getLsbD 0)

/-- MOV, MOVI, CSEL, NOP and the comparisons complete (R308 to R310, R322): MOV copies payload and tag, MOVI gives imm16 as DATA,
CSEL gives a where its condition holds and reads no flags for AL; CMP and TST and their immediate forms write the flags of
a - b or a AND b with DATA operands alone; NOP changes pc alone. -/
def Obligations.MoveCompareComplete : Prop :=
  ∀ (s : State) (core : Core) (p : BitVec 32),
    let k := coreKey s core
    let c := getCell s k
    let a := getG c (pf p 16)
    let b := getG c (pf p 12)
    let cmp := fun (i : Instr) (b : BitVec 16) => Answers i s fun t => OnlyCell s t k ∧
      FlagsWrote c (getCell t k) ⟨decide (a.val = b), (a.val - b).msb, decide (b.toNat ≤ a.val.toNat),
        decide ((a.val - b).toInt ≠ a.val.toInt - b.toInt), false⟩
    let tst := fun (i : Instr) (b : BitVec 16) => Answers i s fun t => OnlyCell s t k ∧
      FlagsWrote c (getCell t k) ⟨decide (a.val &&& b = 0), (a.val &&& b).msb, false, false, false⟩
    (StandsOp s core 0x1F p → p.toNat % 65536 = 0 → Answers (.mov core) s fun t => OnlyCell s t k ∧
      WroteG c (getCell t k) (pf p 20) a ∧ getFlags (getCell t k) = getFlags c) ∧
    (StandsOp s core 0x2F p → pf p 16 = 0 → Answers (.movi core) s fun t => OnlyCell s t k ∧
      WroteG c (getCell t k) (pf p 20) ⟨.data, pImm p⟩ ∧ getFlags (getCell t k) = getFlags c) ∧
    (StandsOp s core 0x1E p → p.toNat % 256 = 0 → pf p 8 < 15 → Answers (.csel core) s fun t => OnlyCell s t k ∧
      WroteG c (getCell t k) (pf p 20) (tagged (isSecret a || isSecret b || (decide (pf p 8 ≠ 14) && (getFlags c).ft))
        (if condHolds (getFlags c) (pf p 8) then a.val else b.val)) ∧ getFlags (getCell t k) = getFlags c) ∧
    (StandsOp s core 0 p → p.toNat % 2 ^ 24 = 0 → Answers (.nop core) s fun t => OnlyCell s t k ∧
      FlagsWrote c (getCell t k) (getFlags c)) ∧
    (StandsOp s core 0x30 p → pf p 20 = 0 → p.toNat % 4096 = 0 → isSecret a = false → isSecret b = false → cmp (.cmp core) b.val) ∧
    (StandsOp s core 0x32 p → pf p 20 = 0 → isSecret a = false → cmp (.cmpi core) (pImm p)) ∧
    (StandsOp s core 0x31 p → pf p 20 = 0 → p.toNat % 4096 = 0 → isSecret a = false → isSecret b = false → tst (.tst core) b.val) ∧
    (StandsOp s core 0x33 p → pf p 20 = 0 → isSecret a = false → tst (.tsti core) (pImm p))

/-- Comparisons, branches and indexed accesses never act on a SECRET value (R309, R311, R315): CMP, TST, their immediate forms,
BR and FAR with a SECRET operand, and B with a SECRET flag tag and a condition other than AL, raise a TAG fault while MASK is
0, and change nothing else of the core. -/
def Obligations.SecretNeverSteers : Prop :=
  ∀ (s : State) (core : Core) (p : BitVec 32),
    let k := coreKey s core
    let c := getCell s k
    let a := getG c (pf p 16)
    let b := getG c (pf p 12)
    let tagFault := fun (i : Instr) => Answers i s fun t => FaultsAt s t k .tag none
    c.mask = false →
    (StandsOp s core 0x30 p → pf p 20 = 0 → p.toNat % 4096 = 0 → isSecret a || isSecret b → tagFault (.cmp core)) ∧
    (StandsOp s core 0x31 p → pf p 20 = 0 → p.toNat % 4096 = 0 → isSecret a || isSecret b → tagFault (.tst core)) ∧
    (StandsOp s core 0x32 p → pf p 20 = 0 → isSecret a → tagFault (.cmpi core)) ∧
    (StandsOp s core 0x33 p → pf p 20 = 0 → isSecret a → tagFault (.tsti core)) ∧
    (StandsOp s core 0x51 p → pf p 20 = 0 → p.toNat % 65536 = 0 → isSecret a → tagFault (.br core)) ∧
    (StandsOp s core 0x5F p → core.val = 512 → pf p 20 = 0 → (pImm p).toNat < 256 → isSecret a → tagFault (.far core)) ∧
    (StandsOp s core 0x50 p → pf p 16 = 0 → pf p 20 < 14 → (getFlags c).ft = true → tagFault (.b core)) ∧
    (StandsOp s core 0x42 p → memLegal core false p → (b.tag = .secret) → tagFault (.ldx core)) ∧
    (StandsOp s core 0x43 p → memLegal core false p → (b.tag = .secret) → tagFault (.stx core))

/-- Branches and calls complete (R315, R352): B goes to pc + 1 + imm16 where its condition holds and to the next instruction
otherwise; BR and RET.L go where a register or lk says, if it fits 12 bits; CALL.L keeps the return index in lk; FAR moves the
supervisor to another page. No g register, flag or capability changes. -/
def Obligations.BranchComplete : Prop :=
  ∀ (s : State) (core : Core) (p : BitVec 32),
    let k := coreKey s core
    let c := getCell s k
    let a := getG c (pf p 16)
    let goes := fun (i : Instr) (c' : Cell) => Answers i s fun t => t = setCell s k c'
    let land := fun (c : Cell) (pc : BitVec 20) => ({ setPc c pc with hold := false } : Cell)
    (StandsOp s core 0x50 p → pf p 16 = 0 → pf p 20 < 15 → ((getFlags c).ft = false ∨ pf p 20 = 14) →
      goes (.b core) (land c (if condHolds (getFlags c) (pf p 20)
        then withIndex (getPc c) ((pcIndex (getPc c) + 1 + (pImm p).toNat) % 4096) else nextPc c))) ∧
    (StandsOp s core 0x51 p → pf p 20 = 0 → p.toNat % 65536 = 0 → isSecret a = false → a.val.toNat < 4096 →
      goes (.br core) (land c (withIndex (getPc c) a.val.toNat))) ∧
    (StandsOp s core 0x52 p → p.toNat / 65536 % 256 = 0 → (pImm p).toNat < 4096 →
      goes (.callL core) (land { c with lk := BitVec.ofNat 16 ((pcIndex (getPc c) + 1) % 4096) } (withIndex (getPc c) (pImm p).toNat))) ∧
    (StandsOp s core 0x53 p → p.toNat % 2 ^ 24 = 0 → c.lk.toNat < 4096 → goes (.retL core) (land c (withIndex (getPc c) c.lk.toNat))) ∧
    (StandsOp s core 0x5F p → core.val = 512 → pf p 20 = 0 → (pImm p).toNat < 256 → isSecret a = false →
      goes (.far core) (land c (BitVec.ofNat 20 ((pImm p).toNat * 4096 + a.val.toNat % 4096))))

/-- Capability instructions complete (R313, R334): CMOV copies, CBOUND and CINC move BASE up and keep the region inside the old
one, CPERM only takes permissions away, CGET reads a field as DATA, CCLR makes cd invalid with payloads 0, CMAKE gives the
supervisor any region of 2^32 words. Each writes one register and pc. -/
def Obligations.CapabilityComplete : Prop :=
  ∀ (s : State) (core : Core) (p : BitVec 32),
    let k := coreKey s core
    let c := getCell s k
    let cs := capOf (getC c (pf p 16))
    let ga := (getG c (pf p 12)).val.toNat * 2 ^ pImm8 p
    let gb := (getG c (pf p 8)).val.toNat * 2 ^ pImm8 p
    let wrote := fun (i : Instr) (v : CReg) => Answers i s fun t => t = setCell s k (advance (setC c (pf p 20) v))
    let data := fun r => (getG c r).tag = .data
    let pair := fun r => (getG c (r + 1)).val.toNat * 65536 + (getG c r).val.toNat
    (StandsOp s core 0x62 p → pf p 20 < 8 → pf p 16 < 8 → p.toNat % 65536 = 0 → wrote (.cmov core) (getC c (pf p 16))) ∧
    (StandsOp s core 0x63 p → pf p 20 < 8 → pf p 16 < 8 → pImm8 p ≤ 8 → data (pf p 12) → data (pf p 8) → cs.valid = true → ga + gb ≤ cs.len →
      wrote (.cbound core) (mkCap (cs.base + ga) gb cs.perms)) ∧
    (StandsOp s core 0x64 p → pf p 20 < 8 → pf p 16 < 8 → pf p 12 = 0 → pf p 8 = 0 → cs.valid = true →
      wrote (.cperm core) (mkCap cs.base cs.len (cs.perms &&& pImm8 p))) ∧
    (StandsOp s core 0x65 p → pf p 20 < 8 → pf p 16 < 8 → pf p 8 = 0 → pImm8 p ≤ 8 → data (pf p 12) → cs.valid = true → ga ≤ cs.len →
      wrote (.cinc core) (mkCap (cs.base + ga) (cs.len - ga) cs.perms)) ∧
    (StandsOp s core 0x66 p → pf p 16 < 8 → pf p 12 = 0 → pf p 8 = 0 → pImm8 p ≤ 5 →
      Answers (.cget core) s fun t => OnlyCell s t k ∧ WroteG c (getCell t k) (pf p 20)
        ⟨.data, if cs.valid = false then 0 else if pImm8 p = 0 then BitVec.ofNat 16 cs.base
          else if pImm8 p = 1 then BitVec.ofNat 16 (cs.base / 65536) else if pImm8 p = 2 then BitVec.ofNat 16 cs.len
          else if pImm8 p = 3 then BitVec.ofNat 16 (cs.len / 65536) else if pImm8 p = 4 then BitVec.ofNat 16 cs.perms else 1⟩) ∧
    (StandsOp s core 0x67 p → pf p 20 < 8 → p.toNat % 2 ^ 20 = 0 → wrote (.cclr core) ⟨false, 0⟩) ∧
    (StandsOp s core 0x68 p → core.val = 512 → pf p 20 < 8 → pf p 16 = 0 → pf p 12 % 2 = 0 → pf p 8 % 2 = 0 → pImm8 p < 32 →
      data (pf p 12) → data (pf p 12 + 1) → data (pf p 8) → data (pf p 8 + 1) →
      pair (pf p 8) < 2 ^ 27 → pair (pf p 12) + pair (pf p 8) ≤ 2 ^ 32 →
      wrote (.cmake core) (mkCap (pair (pf p 12)) (pair (pf p 8)) (pImm8 p)))

/-- No cell makes authority (R313): whatever CBOUND, CPERM, CINC, CMOV or CCLR does at a core in the main bank, no capability
register but cd comes to grant more than it did, and cd grants no more than cs. `grantsMore` compares regions and permissions
(R333); the source's region ends below the last waddr, so that the end of an empty region is a waddr. -/
def Obligations.CapabilityMonotone : Prop :=
  ∀ (s : State) (core : Core) (p : BitVec 32) (i : Instr),
    i ∈ [Instr.cbound core, Instr.cperm core, Instr.cinc core, Instr.cmov core, Instr.cclr core] →
    Stands s core p → (getCell s (coreKey s core)).inShadow = false →
    (capOf (getC (getCell s (coreKey s core)) (pf p 16))).base + (capOf (getC (getCell s (coreKey s core)) (pf p 16))).len < 2 ^ 32 →
    Answers i s fun t =>
      let c := getCell s (coreKey s core)
      let c' := getCell t (coreKey s core)
      ∀ j, grantsMore (getC c' j) (getC c j) = true → j = pf p 20 ∧ grantsMore (getC c' j) (getC c (pf p 16)) = false

/-- Loads and stores of the cell's own memory complete (R303, R304, R311): an LD or LDX that every check allows puts the word, with
its tag, into r; an ST or STX puts r, with its tag, into the word at the effective waddr and changes no other word of memory. -/
def Obligations.LoadStoreComplete : Prop :=
  ∀ (s : State) (core : Core) (p : BitVec 32) (a : Nat),
    let k := coreKey s core
    let c := getCell s k
    let load := fun (i : Instr) => LocalRead s k a 1 →
      ((wordAt s a).tag = .data ∨ (wordAt s a).tag = .secret) →
      Answers i s fun t => getCell t k = advance (setG c (pf p 20) (wordAt s a)) ∧ SameMem s t ∧ AccessFrame s t k
    let store := fun (i : Instr) => posts s k a = false → LocalWrite s k a [getG c (pf p 20)] →
      Answers i s fun t => getCell t k = advance c ∧ Stored s t a [getG c (pf p 20)] ∧ AccessFrame s t k
    let x := (getG c (pf p 12)).val.toNat + p.toNat % 4096
    (StandsOp s core 0x40 p → memLegal core false p = true → capCheck (baseCap s k c (pf p 16)) (pImm p).toNat 1 pREAD = .ok a →
      load (.ld core)) ∧
    (StandsOp s core 0x41 p → memLegal core false p = true → capCheck (baseCap s k c (pf p 16)) (pImm p).toNat 1 pWRITE = .ok a →
      store (.st core)) ∧
    (StandsOp s core 0x42 p → memLegal core false p = true → (getG c (pf p 12)).tag = .data →
      capCheck (baseCap s k c (pf p 16)) x 1 pREAD = .ok a → load (.ldx core)) ∧
    (StandsOp s core 0x43 p → memLegal core false p = true → (getG c (pf p 12)).tag = .data →
      capCheck (baseCap s k c (pf p 16)) x 1 pWRITE = .ok a → store (.stx core))

/-- Capability loads and stores complete (R313, R330): CLD reads four words that are all CAP or all DATA, fragment 0 first; CST
writes the four fragments with their tags. -/
def Obligations.CapLoadStoreComplete : Prop :=
  ∀ (s : State) (core : Core) (p : BitVec 32) (a : Nat) (v : CReg),
    let k := coreKey s core
    let c := getCell s k
    let cs := getC c (pf p 20)
    (StandsOp s core 0x60 p → memLegal core true p = true →
      capCheck (baseCap s k c (pf p 16)) (pImm p).toNat 4 (pREAD + pCAPLOAD) = .ok a → LocalRead s k a 4 →
      capOfWords ((List.range 4).map (fun i => wordAt s (a + i))) = some v →
      Answers (.cld core) s fun t => getCell t k = advance (setC c (pf p 20) v) ∧ SameMem s t ∧ AccessFrame s t k) ∧
    (StandsOp s core 0x61 p → memLegal core true p = true →
      capCheck (baseCap s k c (pf p 16)) (pImm p).toNat 4 (pWRITE + pCAPSTORE) = .ok a → LocalWrite s k a ((List.range 4).map (frag cs)) →
      Answers (.cst core) s fun t => getCell t k = advance c ∧ Stored s t a ((List.range 4).map (frag cs)) ∧ AccessFrame s t k)

/-- A capability that fails a check of R303 stops every access: an offset at or above LENGTH, or a permission that is not there, is
a CAP fault at LD, ST, CLD and CST, and nothing is read or written. -/
def Obligations.CapFaultStopsAccess : Prop :=
  ∀ (s : State) (core : Core) (p : BitVec 32) (f : SyncFault),
    let k := coreKey s core
    let c := getCell s k
    let cap := baseCap s k c (pf p 16)
    let stops := fun (i : Instr) => Answers i s fun t => FaultsAt s t k .cap f.waddr ∧ t.mesh = s.mesh
    c.mask = false →
    (StandsOp s core 0x40 p → memLegal core false p = true → capCheck cap (pImm p).toNat 1 pREAD = .error f → stops (.ld core)) ∧
    (StandsOp s core 0x41 p → memLegal core false p = true → capCheck cap (pImm p).toNat 1 pWRITE = .error f → stops (.st core)) ∧
    (StandsOp s core 0x60 p → memLegal core true p = true → capCheck cap (pImm p).toNat 4 (pREAD + pCAPLOAD) = .error f → stops (.cld core)) ∧
    (StandsOp s core 0x61 p → memLegal core true p = true → capCheck cap (pImm p).toNat 4 (pWRITE + pCAPSTORE) = .error f → stops (.cst core))

/-- CALLM and RETM complete (R316, R317): CALLM writes the mask, the return index and the registers the mask names, ascending,
below g15, moves g15 down to the frame and goes to its target; RETM puts the words of a frame back, moves g15 above it and goes
to the index it holds. -/
def Obligations.FrameCallsComplete : Prop :=
  ∀ (s : State) (core : Core) (p : BitVec 32) (a : Nat),
    let k := coreKey s core
    let c := getCell s k
    let sp := getG c 15
    let word := fun i => readMem s (physAddr s (a + i))
    (let regs := those 16 (bit (pImm p))
     let frame := [dataWord (pImm p), dataNat ((pcIndex (getPc c) + 1) % 4096)] ++ regs.map (fun i => if i = 15 then dataWord c.lk else getG c i)
     StandsOp s core (p.toNat / 2 ^ 24) p → 0xF0 ≤ p.toNat / 2 ^ 24 → sp.tag = .data → regs.length + 2 ≤ sp.val.toNat →
      capCheck (baseCap s k c 8) (sp.val.toNat - regs.length - 2) (regs.length + 2) pWRITE = .ok a →
      egressStore s (masterOfKey s k) a frame = none → (∀ i, i < frame.length → (word i).tag ≠ .code) →
      Answers (.callm core) s fun t => Stored s t a frame ∧ AccessFrame s t k ∧
        getCell t k = jump (setG c 15 (dataNat (sp.val.toNat - regs.length - 2))) (p.toNat / 65536 % 4096)) ∧
    (let regs := those 16 (bit (word 0).val)
     let vals := (List.range regs.length).map (fun i => word (2 + i))
     StandsOp s core 0x54 p → p.toNat % 2 ^ 24 = 0 → sp.tag = .data →
      capCheck (baseCap s k c 8) sp.val.toNat 2 pREAD = .ok a → capCheck (baseCap s k c 8) sp.val.toNat (regs.length + 2) pREAD = .ok a →
      egress s (masterOfKey s k) a 2 false false = none → egress s (masterOfKey s k) a (regs.length + 2) false false = none →
      (word 0).tag = .data → (word 1).tag = .data → (word 1).val.toNat < 4096 →
      (∀ q ∈ List.zip regs vals, q.2.tag = .data ∨ (q.1 ≠ 15 ∧ q.2.tag = .secret)) →
      Answers (.retm core) s fun t => SameMem s t ∧ AccessFrame s t k ∧
        getCell t k = jump (setG (restoreRegs c regs vals) 15 (dataNat (sp.val.toNat + regs.length + 2))) (word 1).val.toNat)

/-- One word of a block instruction completes (R318, R319): BMOV copies the word with its tag, BFILL writes gs, MFEED writes the
exclusive-OR, SECRET if either is; with the write gd and gs (not the fill value) rise by 1 and gn falls by 1, and the last word
advances pc, unless an asynchronous cause is to be taken now, with pc on the instruction. -/
def Obligations.BlockWordComplete : Prop :=
  ∀ (s : State) (core : Core) (p : BitVec 32) (a b : Nat),
    let k := coreKey s core
    let c := getCell s k
    let d := getG c (pf p 20)
    let x := getG c (pf p 16)
    let n := getG c (pf p 12)
    let dst := baseCap s k c (pf p 8)
    let src := baseCap s k c (pf p 4)
    let read := wordAt s
    let due := !c.inShadow && !c.mask && (asyncCause s k).isSome
    let plain := fun (w : Word) => w.tag = .data ∨ w.tag = .secret
    let after := fun (fill : Bool) =>
      let c1 := setG c (pf p 20) (dataWord (d.val + 1))
      let c2 := if fill then c1 else setG c1 (pf p 16) (dataWord (x.val + 1))
      let c3 : Cell := { setG c2 (pf p 12) (dataWord (n.val - 1)) with hold := false }
      if n.val = 1 ∧ due = false then advance c3 else c3
    let ready := fun (fill : Bool) => d.tag = .data ∧ n.tag = .data ∧ n.val ≠ 0 ∧ (n.val = 1 ∨ (d.val ≠ 0xFFFF ∧ (fill = true ∨ x.val ≠ 0xFFFF)))
    let done := fun (i : Instr) (fill : Bool) (w : Word) => LocalWrite s k a [w] →
      Answers i s fun t => getCell t k = after fill ∧ Stored s t a [w] ∧ AccessFrame s t k
    (StandsOp s core 0x70 p → blockLegal core false p = true → ready false → x.tag = .data →
      capCheck src x.val.toNat 1 pREAD = .ok b → capCheck dst d.val.toNat 1 pWRITE = .ok a → LocalRead s k b 1 → plain (read b) →
      done (.bmov core) false (read b)) ∧
    (StandsOp s core 0x71 p → blockLegal core true p = true → ready true → plain x → capCheck dst d.val.toNat 1 pWRITE = .ok a →
      done (.bfill core) true x) ∧
    (StandsOp s core 0x72 p → blockLegal core false p = true → ready false → x.tag = .data →
      capCheck src x.val.toNat 1 pREAD = .ok b → capCheck dst d.val.toNat 1 (pREAD + pWRITE) = .ok a →
      LocalRead s k b 1 → LocalRead s k a 1 → plain (read a) → plain (read b) →
      done (.mfeed core) false ⟨if (read b).tag = .secret ∨ (read a).tag = .secret then .secret else .data, (read b).val ^^^ (read a).val⟩)

/-- MFSR and MTSR complete for every special register (R299, R340, R352): what each reads as, and what writing it changes. CYCLE_LO
is a count the device keeps, so its value is any value, and CYCLE_HI is latched with it. -/
def Obligations.SpecialRegisterComplete : Prop :=
  ∀ (s : State) (core : Core) (p : BitVec 32),
    let k := coreKey s core
    let c := getCell s k
    let a := getG c (pf p 16)
    let flags := fun (f : Flags) => (⟨if f.ft then .secret else .data,
      BitVec.ofNat 16 (16 * b2n f.ft + 8 * b2n f.z + 4 * b2n f.n + 2 * b2n f.c + b2n f.v)⟩ : Word)
    let reads := fun (sr : Nat) (w : Word) => StandsOp s core 4 p → pf p 16 = 0 → (pImm p).toNat = sr →
      Answers (.mfsr core) s fun t => t = setCell s k (advance (setG c (pf p 20) w))
    let writes := fun (sr : Nat) (c' : Cell) => StandsOp s core 5 p → pf p 20 = 0 → (pImm p).toNat = sr →
      Answers (.mtsr core) s fun t => t = setCell s k (advance c')
    let sup := isSup k = true
    let en : Nat := if isSup k then 0 else b2n c.mdoneEn * 0x800 + b2n c.cdoneEn * 0x400
    reads 0 ⟨.data, c.lk⟩ ∧ reads 1 (flags (getFlags c)) ∧ reads 2 ⟨.data, c.evb⟩ ∧ reads 4 ⟨.data, c.cycleHi⟩ ∧
    (StandsOp s core 4 p → pf p 16 = 0 → (pImm p).toNat = 3 → Answers (.mfsr core) s fun t => ∃ n : BitVec 32,
      getG (getCell t k) (pf p 20) = ⟨.data, n.setWidth 16⟩ ∧ (getCell t k).cycleHi = (n >>> 16).setWidth 16 ∧ SameCellsBut s t k ∧ SameMem s t) ∧
    reads 8 (dataNat (b2n c.mask * 0x8000 + b2n c.inShadow * 0x4000 + b2n c.async * 0x2000 + en + c.cause.toNat)) ∧
    (sup → reads 6 (dataNat ((getPc c).toNat / 4096))) ∧
    (c.inShadow = true → reads 9 (dataNat (c.xpc.toNat % 4096)) ∧ reads 10 ⟨.data, c.xaddr.setWidth 16⟩ ∧
      reads 11 ⟨.data, (c.xaddr >>> 16).setWidth 16⟩ ∧ reads 12 (flags c.main.flags) ∧ reads 13 (dataNat c.xcsel.toNat) ∧
      reads 14 (dataNat c.xgsel.toNat) ∧ reads 15 (bankG c.main c.xgsel.toNat) ∧ (sup → reads 5 (dataNat (c.xpc.toNat / 4096)))) ∧
    (a.tag ≠ .secret → writes 0 { c with lk := a.val }) ∧
    writes 1 (setFlags c ⟨a.val.getLsbD 3, a.val.getLsbD 2, a.val.getLsbD 1, a.val.getLsbD 0, decide (a.tag = .secret) || a.val.getLsbD 4⟩) ∧
    (a.tag = .data → sup → c.mask = true → writes 2 { c with evb := a.val }) ∧
    (a.tag = .data → c.inShadow = false → isSup k = false →
      writes 8 { c with mask := a.val.getLsbD 15, mdoneEn := a.val.getLsbD 11, cdoneEn := a.val.getLsbD 10 }) ∧
    (a.tag = .data → sup → writes 8 (if c.inShadow then c else { c with mask := a.val.getLsbD 15 })) ∧
    (c.inShadow = true →
      (a.tag = .data → isSup k = false → writes 8 { c with mdoneEn := a.val.getLsbD 11, cdoneEn := a.val.getLsbD 10 }) ∧
      (a.tag = .data → a.val.toNat < 4096 → writes 9 { c with xpc := withIndex c.xpc a.val.toNat }) ∧
      (a.tag = .data → sup → a.val.toNat < 256 → writes 5 { c with xpc := BitVec.ofNat 20 (a.val.toNat * 4096 + c.xpc.toNat % 4096) }) ∧
      (a.tag = .data → writes 12 { c with main := { c.main with flags :=
        ⟨a.val.getLsbD 3, a.val.getLsbD 2, a.val.getLsbD 1, a.val.getLsbD 0, a.val.getLsbD 4⟩ } }) ∧
      (a.tag = .data → writes 13 { c with xcsel := a.val.setWidth 8 }) ∧
      (a.tag = .data → writes 14 { c with xgsel := a.val.setWidth 4 }) ∧
      writes 15 { c with main := setBankG c.main c.xgsel.toNat a })

/-- Taking a cause (R337, R338, R341, R342): a pending fault is taken with its number, or an asynchronous cause where one may be; the
main bank's capabilities are snapshot, the written flags, XCSEL and XGSEL cleared, the cause, pc and address saved, MASK set,
and the shadow bank goes on at the handler's entry. The main bank is as it was, and CDONE is no longer pending. -/
def Obligations.ExceptionEntryComplete : Prop :=
  ∀ (s : State) (core : Core) (pc : BitVec 20),
    let k := coreKey s core
    let c := getCell s k
    let entered := fun (t : State) (cause : BitVec 6) (async : Bool) (addr : BitVec 32) =>
      let d := getCell t k
      d.inShadow = true ∧ d.mask = true ∧ d.cause = cause ∧ d.async = async ∧ d.xpc = c.main.pc ∧ d.xaddr = addr ∧ d.main = c.main ∧
        d.snap = c.main.c ∧ d.wrote = 0 ∧ d.g7 = false ∧ d.xcsel = 0 ∧ d.xgsel = 0 ∧ d.pend = none ∧ d.wait = .none ∧ d.shadow.pc = pc ∧
        d.shadow.g = c.shadow.g ∧ d.shadow.c = c.shadow.c ∧ SameMem s t ∧ SameCellsBut s t k
    coreLive s k = true →
    (∀ f, c.pend = some f → vector s k c f.cause.code = .ok pc →
      Answers (.exceptionEntry core) s fun t => entered t f.cause.code false f.addr) ∧
    (c.pend = none → asyncOpen s k = true → isSup k = false → c.pendC = true → vector s k c 16 = .ok pc →
      Answers (.exceptionEntry core) s fun t => entered t 16 true 0 ∧ (getCell t k).pendC = false ∧ (getCell t k).pendM = c.pendM) ∧
    (c.pend = none → asyncOpen s k = true → isSup k = false → c.pendC = false → c.pendM = true → vector s k c 17 = .ok pc →
      Answers (.exceptionEntry core) s fun t => entered t 17 true 0 ∧ (getCell t k).pendM = false) ∧
    (∀ l, c.pend = none → asyncOpen s k = true → isSup k = true → asyncCause s k = some l → vector s k c l = .ok pc →
      Answers (.exceptionEntry core) s fun t => entered t l true 0)

/-- RETX completes (R345, R346, R349): the core goes on in the main bank at XPC with MASK 0; a capability register the handler wrote
that grants more than its snapshot is left invalid with the snapshot's payloads and recorded, and every other keeps its value;
no asynchronous cause is taken before the next instruction. -/
def Obligations.ReturnComplete : Prop :=
  ∀ (s : State) (core : Core) (p : BitVec 32),
    let k := coreKey s core
    let c := getCell s k
    let wide := fun (i : Nat) => decide (i < 8) && c.wrote.getLsbD i && !(decide (i = 7) && c.g7)
      && grantsMore (bankC c.main i) (tget (fun _ => nullCap) c.snap i)
    StandsOp s core 2 p → p.toNat % 2 ^ 24 = 0 → c.inShadow = true →
    Answers (.retx core) s fun t =>
      let d := getCell t k
      d.inShadow = false ∧ d.mask = false ∧ d.hold = true ∧ d.main.pc = c.xpc ∧ d.main.g = c.main.g ∧ d.main.flags = c.main.flags ∧
      d.shadow = c.shadow ∧ SameMem s t ∧ SameCellsBut s t k ∧
      (∀ i, wide i = false → bankC d.main i = bankC c.main i) ∧
      (∀ i, wide i = true → bankC d.main i = ⟨false, (tget (fun _ => nullCap) c.snap i).frags⟩) ∧
      ((∃ i, wide i = true) → s.flt.first = none → ∃ r, t.flt.first = some r ∧ r.cls = 1 ∧ r.source = 577 ∧ r.access = .tag ∧ r.master = masterOfKey s k)

/-- HALT and FENCE complete (R305, R322, R350): HALT stops the cell, sets its bit of VAT_CELL_HALTED and keeps pc; FENCE with no
posted store unacknowledged writes the flags, V telling whether one was refused, and clears that; with one it waits. -/
def Obligations.HaltFenceComplete : Prop :=
  ∀ (s : State) (core : Core) (p : BitVec 32),
    let k := coreKey s core
    let c := getCell s k
    (StandsOp s core 1 p → p.toNat % 2 ^ 24 = 0 → isSup k = false → Answers (.halt core) s fun t =>
      (getCell t k).halted = true ∧ getPc (getCell t k) = getPc c ∧ getBit t (R.VAT_CELL_HALTED (k / 16)) (k % 16) = true ∧ SameCellsBut s t k) ∧
    (StandsOp s core 1 p → p.toNat % 2 ^ 24 = 0 → isSup k = true → Answers (.halt core) s fun t =>
      (getCell t k).halted = true ∧ getBit t R.MSH_SWDOG_STATUS 1 = true ∧ t.evc.pend.getLsbD 582 = true) ∧
    (StandsOp s core 3 p → p.toNat % 2 ^ 24 = 0 → c.posted = 0 → Answers (.fence core) s fun t => OnlyCell s t k ∧
      getFlags (getCell t k) = ⟨false, false, false, c.postRefused, false⟩ ∧ (getCell t k).postRefused = false ∧
      getPc (getCell t k) = nextPc c ∧ (∀ r, getG (getCell t k) r = getG c r)) ∧
    (StandsOp s core 3 p → p.toNat % 2 ^ 24 = 0 → 0 < c.posted → Answers (.fence core) s fun t =>
      t = setCell s k { c with wait := .fence, hold := false })

/-- The job-port instructions complete in every form (R195 to R198, R225, R265, R289, R321): CWAIT and MWAIT give the STATUS of the
cell's job, the waiting forms do so when no job is left and wait else; the cancel forms give 2 or 3; TAKE and TAKE.W give the newest
ticket of the cell's own deque (the oldest where it is older than VAT_TAIL_AGE), else the oldest unpinned one of the next deque that
has one, marked STOLEN, and where there is none TAKE gives 0xFFFF and TAKE.W waits; DONE appends the ticket, or waits while the queue
is full; RDRAW gives 16 bits of the vat's own queue or of the central one, or 0 with C 0 where every source is stopped, and waits else;
CSUB and MSUB give 1 while the cell has a job or known-answer tests run, and else 0 and a job under the descriptor, with STATUS 1 and for
MSUB the counter it uses raised, or the STATUS of the check that failed, and wait while an
operand waits (R188, R214). RDRAW waits behind the draws of R288 that come before it.
That these instructions are a cell's only is the model's reading (log entry 13). -/
def Obligations.JobPortComplete : Prop :=
  ∀ (s : State) (core : Core) (p : BitVec 32),
    let k := coreKey s core
    let c := getCell s k
    let v := getVat s (k / 16)
    let g := getG c (pf p 20)
    let cjob := fun (s : State) => tget (fun _ => none) (getVat s (k / 16)).churn.jobs (k % 16)
    let mjob := fun (s : State) => tget (fun _ => none) (getVat s (k / 16)).mac.jobs (k % 16)
    let wrote := fun (t : State) (w : Word) (f : Flags) => getG (getCell t k) (pf p 20) = w ∧ getFlags (getCell t k) = f ∧
      getPc (getCell t k) = nextPc c ∧ SameCellsBut s t k
    let gave := fun (t : State) (n : BitVec 16) => wrote t ⟨.data, n⟩ ⟨decide (n = 0), false, false, false, false⟩
    let waits := fun (t : State) (w : WaitState) => t = setCell s k { c with wait := w, hold := false }
    let low := fun (n : Nat) => p.toNat % 65536 = n ∧ pf p 16 = 0
    let cap := capOf (getC c (pf p 16))
    core.val < 512 →
    (StandsOp s core 0x81 p → low 0 → Answers (.cwait core) s fun t => gave t c.churnStatus ∧ OnlyCell s t k) ∧
    (StandsOp s core 0x81 p → low 1 → cjob s = none → Answers (.cwaitW core) s fun t => gave t c.churnStatus ∧ OnlyCell s t k) ∧
    (StandsOp s core 0x81 p → low 1 → (cjob s).isSome = true → Answers (.cwaitW core) s fun t => waits t .cwaitW) ∧
    (StandsOp s core 0x83 p → low 0 → Answers (.mwait core) s fun t => gave t c.macStatus ∧ OnlyCell s t k) ∧
    (StandsOp s core 0x83 p → low 1 → mjob s = none → Answers (.mwaitW core) s fun t => gave t c.macStatus ∧ OnlyCell s t k) ∧
    (StandsOp s core 0x83 p → low 1 → (mjob s).isSome = true → Answers (.mwaitW core) s fun t => waits t .mwaitW) ∧
    (StandsOp s core 0x80 p → low 1 → Answers (.csubC core) s fun t => gave t (if (cjob s).isSome then 2 else 3) ∧
      (∀ j, cjob s = some j → j.results = none → (v.churn.busy = false ∨ v.churn.holder ≠ k % 16) →
        cjob t = none ∧ (getCell t k).churnStatus = 14)) ∧
    (StandsOp s core 0x82 p → low 1 → Answers (.msubC core) s fun t => gave t (if (mjob s).isSome then 2 else 3) ∧
      (∀ j, mjob s = some j → j.results = none → (v.mac.busy = false ∨ v.mac.holder ≠ k % 16) →
        mjob t = none ∧ (getCell t k).macStatus = 14)) ∧
    (let took := fun (t : State) (x : Nat) => wrote t (dataNat x) ⟨false, false, false, false, false⟩ ∧ (getCell t k).ticket = some x
     let q := k / 16
     (∀ h rest, deque s q (k % 16) = h :: rest →
       let x := if tailOld s q (rest.getLastD h) then rest.getLastD h else h
       let own := fun (t : State) => took t x ∧ deque t q (k % 16) = (h :: rest).erase x ∧ SameMem s t ∧
         ∀ j, j ≠ k % 16 → deque t q j = deque s q j
       (StandsOp s core 0x84 p → low 0 → Answers (.take core) s own) ∧ (StandsOp s core 0x84 p → low 1 → Answers (.takeW core) s own)) ∧
     (∀ i x, i < 15 → x < 1024 → deque s q (k % 16) = [] → let at_ := fun i => (k % 16 + 1 + i) % 16
       (∀ m, m < i → oldestUnpinned s q (at_ m) = none ∨ (getCell s (q * 16 + at_ m)).halted = true) →
       oldestUnpinned s q (at_ i) = some x → (getCell s (q * 16 + at_ i)).halted = false →
       let stole := fun (t : State) => took t x ∧ deque t q (at_ i) = (deque s q (at_ i)).erase x ∧ bit (ticketWord t q x 1) 14 = true ∧
         ∀ j, j ≠ at_ i → deque t q j = deque s q j
       (StandsOp s core 0x84 p → low 0 → Answers (.take core) s stole) ∧ (StandsOp s core 0x84 p → low 1 → Answers (.takeW core) s stole)) ∧
     (deque s q (k % 16) = [] → (∀ j, j < 16 → oldestUnpinned s q j = none ∨ (getCell s (q * 16 + j)).halted = true) →
       (StandsOp s core 0x84 p → low 0 → Answers (.take core) s fun t =>
         wrote t (dataNat 0xFFFF) ⟨true, false, false, false, false⟩ ∧ (getCell t k).ticket = c.ticket ∧ SameMem s t) ∧
       (StandsOp s core 0x84 p → low 1 → Answers (.takeW core) s fun t => getCell t k = { c with wait := .takeW, hold := false } ∧
         (getVat t q).waiters = v.waiters ++ [k % 16] ∧ SameCellsBut s t k ∧ SameMem s t))) ∧
    (StandsOp s core 0x85 p → p.toNat % 2 ^ 20 = 0 → g.tag = .data → g.val.toNat < 1024 →
      (v.cq.length < 64 → Answers (.done core) s fun t => (getVat t (k / 16)).cq = v.cq ++ [g.val.toNat] ∧ (getCell t k).ticket = none ∧
        getPc (getCell t k) = nextPc c ∧ SameCellsBut s t k ∧ SameMem s t) ∧
      (64 ≤ v.cq.length → Answers (.done core) s fun t => waits t .doneFull)) ∧
    (StandsOp s core 0x86 p → pf p 16 = 0 → p.toNat % 65536 < 2 →
      let drew := fun (t : State) => ∃ n : BitVec 16,
        wrote t ⟨if p.toNat % 2 = 1 then .secret else .data, n⟩ ⟨false, false, true, false, false⟩
      let own := 16 ≤ v.noise.bits ∧ v.noise.state ≠ 3
      let first := v.wants = [] ∧ ∀ j, j < k % 16 → (getCell s (k - k % 16 + j)).wait ≠ .rdraw
      (¬ own → s.central.bits < 16 → allStopped s = true → (∀ j, j < k % 16 → (getCell s (k - k % 16 + j)).wait ≠ .rdraw) →
        Answers (.rdraw core) s fun t => wrote t ⟨.data, 0⟩ ⟨false, false, false, false, false⟩ ∧ t.central = s.central ∧
          (getVat t (k / 16)).noise = v.noise) ∧
      (first → own → Answers (.rdraw core) s fun t => drew t ∧ (getVat t (k / 16)).noise.bits = v.noise.bits - 16 ∧ t.central = s.central) ∧
      (first → ¬ own → 16 ≤ s.central.bits → lowerAsks s (logicalOf s (k / 16)) = false → Answers (.rdraw core) s fun t => drew t ∧ t.central.bits = s.central.bits - 16 ∧
        (getVat t (k / 16)).noise = v.noise) ∧
      ((first ∧ ¬ own ∧ s.central.bits < 16 ∧ allStopped s = false) ∨ (∃ j, j < k % 16 ∧ (getCell s (k - k % 16 + j)).wait = .rdraw) →
        Answers (.rdraw core) s fun t => waits t .rdraw)) ∧
    (∀ ws, p.toNat % 65536 = 0 → pf p 16 < 8 → cap.valid = true → hasPerms cap.perms (pREAD + pWRITE) = true →
      (StandsOp s core 0x80 p → 20 ≤ cap.len →
        (v.churn.kat = true ∨ (cjob s).isSome = true → Answers (.csub core) s fun t => gave t 1 ∧ OnlyCell s t k) ∧
        (v.churn.kat = false → cjob s = none → descriptor s k cap.base 20 16 = (some (.ok ws), s) →
          let check := (churnChecks (modCell (jobReturn s k p 0) k (fun c => { c with churnStatus := 1 })) (k / 16) (masterOfKey s k) ws).1
          (∀ job, check = some (.ok job) → Answers (.csub core) s fun t => gave t 0 ∧ (getCell t k).churnStatus = 1 ∧
            cjob t = some { job with descr := BitVec.ofNat 32 cap.base }) ∧
          (∀ e d, check = some (.error (e, d)) → Answers (.csub core) s fun t => gave t 0 ∧ cjob t = none ∧
            (getCell t k).churnStatus = BitVec.ofNat 16 e) ∧
          (check = none → Idles (.csub core) s))) ∧
      (StandsOp s core 0x82 p → 24 ≤ cap.len →
        (v.mac.kat = true ∨ (mjob s).isSome = true → Answers (.msub core) s fun t => gave t 1 ∧ OnlyCell s t k) ∧
        (v.mac.kat = false → mjob s = none → descriptor s k cap.base 24 18 = (some (.ok ws), s) →
          let u := modCell (lateRoots (jobReturn s k p 0) (k / 16)) k (fun c => { c with macStatus := 1 })
          let check := (macChecks u (k / 16) (masterOfKey s k) (macRequest u (masterOfKey s k) ws cap.base)).1
          let count := fun (job : MacJob) => (counterAt s (k / 16) (fld job.ctr 5 0)).toNat
          let ends := fun (e : Nat) => Answers (.msub core) s fun t => gave t 0 ∧ mjob t = none ∧ (getCell t k).macStatus = BitVec.ofNat 16 e
          let runs := fun (job : MacJob) => Answers (.msub core) s fun t => gave t 0 ∧ mjob t = some job ∧ (getCell t k).macStatus = 1
          (∀ e d, check = some (.error (e, d)) → ends e) ∧ (check = none → Idles (.msub core) s) ∧
          (∀ job, check = some (.ok job) → bit job.ctr 15 = false → runs job) ∧
          (∀ job, check = some (.ok job) → bit job.ctr 15 = true → count job + 1 ≤ ctrMax →
            runs { job with ctrValue := some (BitVec.ofNat 48 (count job + 1)) }) ∧
          (∀ job, check = some (.ok job) → bit job.ctr 15 = true → ctrMax < count job + 1 → ends mCOUNTER_EXHAUSTED))))
/-- A doorbell completes in every case of R85 (steps 1 and 2): on a full pail it is dropped and OVERFLOW set; while the request area
is held, in BOOT, or with a length outside 16 to 8192 it is accepted and completed without the area being read; else the area
is held and the pail's event raised. An accepted doorbell takes the pail's next sequence number and its port. -/
def Obligations.DoorbellComplete : Prop :=
  ∀ (s : State) (port : PciePort) (p : Pail) (value : BitVec 32),
    let v := getPail s p.val
    let n := value.toNat % 0x4000
    let db := fun (ph : DbPhase) => ({ seq := v.nextSeq, tag := (value >>> 16).setWidth 16, aux := decide (port = .aux), length := n,
                                       phase := ph, part := none, buf := none, heldFor := none, since := none, keys := [], order := 0,
                                       dma := none, card := .start } : Doorbell)
    let accepted := fun (t : State) (ph : DbPhase) (held : Bool) => getPail t p.val =
      { v with nextSeq := v.nextSeq + 1, lastAux := decide (port = .aux), queue := v.queue ++ [db ph], reqHeld := held }
    portLive s port = true →
    (16 ≤ v.queue.length → Answers (.doorbell port p value) s fun t => getPail t p.val = { v with overflow := true } ∧
      t.parlour.events.getLsbD 2 = true ∧ SameMem s t) ∧
    (v.queue.length < 16 → v.reqHeld = true → Answers (.doorbell port p value) s fun t =>
      accepted t (.ready (respond 0x0002 0 [])) true ∧ t.evc = s.evc) ∧
    (v.queue.length < 16 → v.reqHeld = false → mode s = mBOOT → Answers (.doorbell port p value) s fun t =>
      accepted t (.ready (respond 0x0002 0 [])) false ∧ t.evc = s.evc) ∧
    (v.queue.length < 16 → v.reqHeld = false → mode s ≠ mBOOT → (n < 16 ∨ 8192 < n) → Answers (.doorbell port p value) s fun t =>
      accepted t (.ready (respond 0x0011 0 [])) false ∧ t.evc = s.evc) ∧
    (v.queue.length < 16 → v.reqHeld = false → mode s ≠ mBOOT → 16 ≤ n → n ≤ 8192 → Answers (.doorbell port p value) s fun t =>
      accepted t .rung true ∧ t.evc.pails.getLsbD p.val = true ∧ (s.evc.pails.getLsbD p.val = false → t.evc.pend.getLsbD 608 = true) ∧
      SameMem s t ∧ SameRegsBut s t [] ∧ SameCellsBut s t 2000)

/-- Host writes complete (R32, R79, R81, R82): a write inside one request area puts every byte in its place as DATA and marks the
writer, and no other byte of the pail areas changes; a bad access to BAR0 changes nothing but the fault collector and events, a read of it giving
0, and during a device reset not even these (R96). -/
def Obligations.HostWriteComplete : Prop :=
  ∀ (s : State) (port : PciePort) (off : Nat) (bytes : Bytes) (isWrite : Bool),
    let byteAt := fun (s : State) (o : Nat) => (wordBytes (readMem s (0x30180000 + o / 2)).val).getD (o % 2) 0
    (hasMain s = true → (getPort s port).inReset = false → s.boot.step = 0 → off < 0x1000 → Answers (.bar0BadAccess port off isWrite) s fun t =>
      t = if isWrite then s else { s with lastRead := zeroWord }) ∧
    (portLive s port = true →
    (off % 0x4000 + bytes.length ≤ 0x2000 → off + bytes.length ≤ 0x100000 → bytes ≠ [] →
      Answers (.hostPailWrite port off bytes) s fun t =>
        (∀ i, i < bytes.length → byteAt t (off + i) = bytes.getD i 0 ∧ (readMem t (0x30180000 + (off + i) / 2)).tag = .data) ∧
        (∀ o, (o < off ∨ off + bytes.length ≤ o) → byteAt t o = byteAt s o) ∧
        (∀ a, (a < 0x30180000 + off / 2 ∨ 0x30180000 + (off + bytes.length - 1) / 2 < a) → readMem t a = readMem s a) ∧
        (port = .aux → (getPail t (off / 0x4000)).writerAux = true) ∧ (port = .host → (getPail t (off / 0x4000)).writerHost = true) ∧
        t.flt = s.flt ∧ SameCellsBut s t 2000) ∧
    (off < 0x1000 → Answers (.bar0BadAccess port off isWrite) s fun t =>
      SameMem s t ∧ t.parlour = s.parlour ∧ SameCellsBut s t 2000 ∧ (s.flt.first = none → ∃ r, t.flt.first = some r ∧ r.cls = 1 ∧
        r.source = 578 ∧ r.master = portMaster port ∧ r.access = (if isWrite then .write else .read)) ∧
      t.lastRead = (if isWrite then s.lastRead else zeroWord)))

/-- Responses and the completion ring complete (R84, R87 to R92): the oldest doorbell's response is written as DATA words from the
response area's first word, RESP_VALID set and an entry queued; an entry is written as two messages to its slot, and head and
INDEX go on; RESP_DONE lets the next response come; CLR_OVERFLOW, RING_EN, STATUS_INT_EN and the tail are written. -/
def Obligations.ResponseRingComplete : Prop :=
  ∀ (s : State) (p : Pail) (value : BitVec 32),
    let v := getPail s p.val
    let q := s.parlour
    let port := ringPort s
    (∀ d rest r, v.queue = d :: rest → d.phase = .ready r → v.respValid = false → Answers (.responseDelivery p) s fun t =>
      let bytes := responseBytes d.seq r
      getPail t p.val = { v with queue := rest, respValid := true } ∧
      (∀ i, i < (packWords bytes).length → readMem t (responseBase p.val + i) = ⟨.data, (packWords bytes).getD i 0⟩) ∧
      (∀ a, (a < responseBase p.val ∨ responseBase p.val + (packWords bytes).length ≤ a) → readMem t a = readMem s a) ∧
      (q.ringEn = true → q.held.length < 128 → t.parlour.held = q.held ++
        [{ pail := p.val, seq := d.seq, status := r.status, respLength := 16 + r.body.length, tag := d.tag, aux := d.aux }]) ∧
      SameRegsBut s t [] ∧ SameCellsBut s t 2000) ∧
    (∀ e rest, q.held = e :: rest → q.ringEn = true → ringFull s = false → (getPort s port).busMaster = true → portLive s port = true →
      Answers .ringEntryWrite s fun t => t.parlour.held = rest ∧ t.parlour.head = (q.head + 1) % 2 ^ q.sizeLog2 ∧ t.parlour.index = q.index + 1 ∧
        .hostWrite port (q.base + BitVec.ofNat 64 (16 * q.head)) (leBytes 2 e.pail ++ wordBytes e.seq ++ wordBytes e.status ++
          leBytes 2 e.respLength ++ wordBytes e.tag ++ [BitVec.ofNat 8 (b2n e.aux), 0]) ∈ t.sent ∧
        .hostWrite port (q.base + BitVec.ofNat 64 (16 * q.head) + 12) (wordBytes q.index ++ [0, 0x80]) ∈ t.sent ∧
        SameMem s t ∧ SameRegsBut s t []) ∧
    (hasMain s = true → Answers .ringWriteError s fun t => t.parlour.ringEn = false ∧ t.parlour.ringErr = true ∧ t.parlour.held = [] ∧
      t.parlour.events.getLsbD 1 = true ∧ t.evc.pend.getLsbD 610 = true ∧ SameMem s t) ∧
    (s.boot.step ≠ 0 →
      (v.respValid = true → Answers (.respDone p) s fun t => getPail t p.val = { v with respValid := false } ∧ t.evc.pend.getLsbD 609 = true ∧ SameMem s t) ∧
      (Answers (.clrOverflow p) s fun t => getPail t p.val = { v with overflow := false } ∧ SameMem s t ∧ t.evc = s.evc) ∧
      (q.ringEn = false → Answers (.ringEn true) s fun t => t.parlour.ringEn = true ∧ t.parlour.head = 0 ∧ t.parlour.tail = 0 ∧ t.parlour.index = 0 ∧ t.parlour.ringErr = false) ∧
      (Answers (.ringEn false) s fun t => t.parlour.ringEn = false ∧ t.parlour.held = []) ∧
      (∀ b, Answers (.statusIntEn b) s fun t => t.parlour.statusIntEn = b ∧ t.parlour.events = q.events ∧ SameMem s t) ∧
      (Answers (.prlRingTail value) s fun t => t.parlour.tail = value.toNat % 4096 % 2 ^ q.sizeLog2 ∧ t.parlour.head = q.head ∧
        (q.held ≠ [] → t.evc.pend.getLsbD 610 = true)))

/-- The ports' own commands complete (R78, R94, R96, R550, R560): a fundamental or function-level reset clears the port's
configuration and stops the ring it writes, and its end raises event 611; configuration writes take effect, and a pending
vector is sent with the address and data of its table entry once it is neither masked nor disabled; the sideband and the UART raise
their events. -/
def Obligations.PortComplete : Prop :=
  ∀ (s : State) (port : PciePort),
    let c := getPort s port
    hasMain s = true →
    (Answers (.pcieFundamentalReset port) s fun t => getPort t port = { portReset 0 with inReset := true } ∧
      (ringPort s = port → t.parlour.ringEn = false ∧ t.parlour.held = []) ∧ SameMem s t ∧ SameCellsBut s t 2000 ∧ mode t = mode s) ∧
    (Answers (.functionLevelReset port) s fun t => getPort t port = { portReset 0 with inReset := true } ∧
      (ringPort s = port → t.parlour.ringEn = false ∧ t.parlour.held = []) ∧ SameMem s t ∧ SameCellsBut s t 2000 ∧ mode t = mode s) ∧
    (c.inReset = true → Answers (.pcieResetEnd port) s fun t => getPort t port = { c with inReset := false } ∧ t.evc.pend.getLsbD 611 = true) ∧
    (c.inReset = false →
      (∀ b, Answers (.configurationSpaceWrite port (.busMaster b)) s fun t => (getPort t port).busMaster = b ∧ SameMem s t) ∧
      (∀ b, Answers (.configurationSpaceWrite port (.msixEnable b)) s fun t => (getPort t port).msixEnable = b ∧ SameMem s t) ∧
      (∀ b, Answers (.configurationSpaceWrite port (.functionMask b)) s fun t => (getPort t port).functionMask = b ∧ SameMem s t) ∧
      (∀ (i : Fin 65) (b : Bool), Answers (.configurationSpaceWrite port (.vectorMask i b)) s fun t => (getPort t port).masked.getLsbD i.val = b ∧ SameMem s t) ∧
      (∀ i : Fin 65, c.busMaster = true → c.msixEnable = true → c.functionMask = false → c.pend.getLsbD i.val = true →
        Answers (.msixUnmask port (some i)) s fun t => (getPort t port).pend.getLsbD i.val = false ∧ (getPort t port).masked.getLsbD i.val = false ∧
          .msix port i.val (vectorMessage c i.val).1 (vectorMessage c i.val).2 ∈ t.sent) ∧
      (∀ i : Fin 65, c.busMaster = true → c.msixEnable = true → c.masked.getLsbD i.val = false → c.pend.getLsbD i.val = true →
        Answers (.msixUnmask port none) s fun t => (getPort t port).pend.getLsbD i.val = false ∧ (getPort t port).functionMask = false ∧
          .msix port i.val (vectorMessage c i.val).1 (vectorMessage c i.val).2 ∈ t.sent) ∧
      (∀ a, Answers (.configurationSpaceWrite port (.bar false a)) s fun t => getPort t port = { c with bar0 := a &&& 0xFFFFFFFFFFFFE000 }) ∧
      (∀ a, Answers (.configurationSpaceWrite port (.bar true a)) s fun t => getPort t port = { c with bar2 := a &&& 0xFFFFFFFFFFF00000 }) ∧
      (∀ b, Answers (.configurationSpaceWrite port (.aspmL1 b)) s fun t => getPort t port = { c with aspmL1 := b }) ∧
      (∀ (i : Fin 65) (a : BitVec 64) (d : BitVec 32), Answers (.configurationSpaceWrite port (.vectorMessage i a d)) s fun t =>
        vectorMessage (getPort t port) i.val = (a, d) ∧ SameMem s t)) ∧
    (Answers .bmcSidebandWrite s fun t => t = raise s 614 ∧ t.evc.pend.getLsbD 614 = true) ∧
    (∀ b, Answers (.uartReceive b) s fun t => t = raise s 615 ∧ t.evc.pend.getLsbD 615 = true)

/-- The Parlour supervisor's side completes (R83, R86): PAIL_EVENT_TAKE copies the oldest doorbell's request, clears the pail's
event, REQ_HELD and WRITERS, and either answers with the status of the first check that fails, counting the rejection, or
takes the request on, in the order of taking, and consumes its authority; a command of the cells then waits for admission. A port's read of PRL_RING_DROPPED returns the count and clears it. -/
def Obligations.RequestTakeComplete : Prop :=
  ∀ (s : State) (p : Pail) (port : PciePort) (d : Doorbell),
    let v := getPail s p.val
    let free := { v with reqHeld := false, writerAux := false, writerHost := false }
    let u := setPail (clearPail s p.val) p.val free
    let copy := (unpackWords (readMems s (requestBase p) ((d.length + 1) / 2))).take d.length
    let became := fun (t : State) (f : Doorbell → Doorbell) =>
      getPail t p.val = { free with queue := changeFirst (fun x => decide (x.seq = d.seq)) f v.queue }
    (s.evc.pails.getLsbD p.val = true → mode s ≠ mBOOT → hasMain s = true → supHalted s = false → s.fw.resetDue = none →
      v.queue.find? (fun x => decide (x.phase = .rung)) = some d →
      (∀ k st detail, checkRequest u d.length copy = .error (k, st, detail) → Answers (.pailEventTake p) s fun t =>
        became t (fun x => { x with phase := .ready (respond st (u16 copy 0) [] detail) }) ∧
        tget (fun _ => (0 : Nat)) t.rejects (k - 1) = min 0xFFFFFFFF (tget (fun _ => (0 : Nat)) s.rejects (k - 1) + 1) ∧
        t.evc.pails.getLsbD p.val = false ∧ t.store = s.store ∧ t.fw = s.fw ∧ Quiet s t []) ∧
      (∀ r, checkRequest u d.length copy = .ok r → r.command ∉ cellCommands → Answers (.pailEventTake p) s fun t =>
        became t (fun x => { x with phase := .taken r, part := some r.part, order := s.fw.taken }) ∧ t.fw.taken = s.fw.taken + 1 ∧ t.rejects = s.rejects ∧ t.store = s.store ∧
        t.evc.pails.getLsbD p.val = false ∧ Quiet s t [] ∧
        (∀ m ch, r.auth = .owner m ch → t.fw.challenges = s.fw.challenges.erase ch) ∧
        (∀ i, r.auth = .ticket i → t.fw.qtickets = s.fw.qtickets.filter (fun q => q.id != i))) ∧
      (∀ r, checkRequest u d.length copy = .ok r → r.command ∈ cellCommands → Answers (.pailEventTake p) s fun t => ∃ x, t = admitWaiting x ∧
        became x (fun x => { x with phase := .taken r, part := some r.part, order := s.fw.taken }) ∧ x.fw.taken = s.fw.taken + 1 ∧
        x.evc.pails.getLsbD p.val = false ∧ Quiet s x [])) ∧
    (portLive s port = true → Answers (.prlRingDropped port) s fun t => t.lastRead = dataWord s.parlour.dropped ∧
      t.parlour = { s.parlour with dropped := 0 } ∧ Quiet s t [])

/-- Reads of the registers whose reading changes them complete (R6, R9, R455): each returns the value and clears its RC bits
only; CLK_TB(0) latches the other two words of the time base. A read the access table refuses clears nothing. -/
def Obligations.ClearingReadsComplete : Prop :=
  ∀ (s : State) (m : Master),
    let rc := fun (c : Instr) (w : Nat) => ReadAllowed s m w → Answers c s fun t => ReadCleared s t w
    (∀ v : VatId, rc (.vatSkimCount m v) (R.VAT_SKIM_COUNT v.val) ∧ rc (.chnMismatch m v) (R.CHN_MISMATCH v.val) ∧
      rc (.chnOps m v) (R.CHN_OPS v.val) ∧ rc (.chnSwitches m v) (R.CHN_SWITCHES v.val) ∧ rc (.macReseeds m v) (R.MAC_RESEEDS v.val) ∧
      rc (.rngRctPeak m v) (R.RNG_RCT_PEAK v.val) ∧ rc (.rngAptPeak m v) (R.RNG_APT_PEAK v.val) ∧
      rc (.rngFallback m v) (R.RNG_FALLBACK v.val)) ∧
    rc (.mshBicCount m) R.MSH_BIC_COUNT ∧ rc (.mshLate m) R.MSH_LATE ∧ rc (.actViolCount m) R.ACT_VIOL_COUNT ∧
    (∀ r : Router, rc (.mshRtrAgeMax m r) (R.MSH_RTR_AGE_MAX r.val) ∧
      ∀ o : Fin 6, rc (.mshRtrGrants m r o) (R.MSH_RTR_GRANTS r.val o.val)) ∧
    (∀ c : DmaCh, rc (.dmaChCount m c) (R.DMA_CH_COUNT c.val)) ∧ rc (.flcLinkErrs m) R.FLC_LINK_ERRS ∧
    (∀ b : Bank, rc (.flcRetryCount m b) (R.FLC_RETRY_COUNT b.val) ∧ rc (.flcCorrMax m b) (R.FLC_CORR_MAX b.val) ∧
      rc (.flcBusyReads m b) (R.FLC_BUSY_READS b.val)) ∧
    (∀ p : GuardPort, rc (.fgpBlocked m p) (R.FGP_BLOCKED p.val)) ∧ (∀ p : DevPort, rc (.dvpIbiCount m p) (R.DVP_IBI_COUNT p.val)) ∧
    rc (.clkTrefStatus m) R.CLK_TREF_STATUS ∧ (∀ i : Slot, rc (.cslErrs m i) (R.CSL_ERRS i.val)) ∧ rc (.tagRefusals m) R.TAG_REFUSALS ∧
    (∀ i : Fin 48, rc (.tmpSrcCount m i) (R.TMP_SRC_COUNT i.val)) ∧ rc (.fltRecoveries m) R.FLT_RECOVERIES ∧
    (∀ i : Fin 4, rc (.fltClassCount m i) (R.FLT_CLASS_COUNT i.val)) ∧
    (ReadAllowed s m (R.CLK_TB 0) → Answers (.clkTb m) s fun t => t.lastRead = dataWord (s.bat.timeBase.setWidth 16) ∧
      getReg t (R.CLK_TB 1) = (s.bat.timeBase >>> 16).setWidth 16 ∧ getReg t (R.CLK_TB 2) = (s.bat.timeBase >>> 32).setWidth 16 ∧
      Quiet s t [R.CLK_TB 1, R.CLK_TB 2]) ∧
    (∀ r e, hasMain s = true → accessWaits s R.ACT_VIOL_COUNT = false → checkWord s m R.ACT_VIOL_COUNT .read false = some (r, e) → r ≠ .reservedMaster →
      Answers (.actViolCount m) s fun t => t = refusal s r e .read m R.ACT_VIOL_COUNT ∧ t.lastRead = s.lastRead)

/-- Writes of registers complete (R6, R8, R9): a DATA word the access table allows replaces the RW bits, clears the W1C bits
written 1 and leaves the rest, a Reserved field of a staged table entry keeping 0 (R7); a SECRET or other tag changes no register and is recorded; a refused write changes nothing. A PCIe
port reaches the Parlour's registers alone (R79, R363). -/
def Obligations.RegisterWriteComplete : Prop :=
  ∀ (s : State) (m : Master) (a : BitVec 32) (w : Word),
    let i := a.toNat
    region i = .register → hasMain s = true → accessWaits s i = false →
    (isPort m = true → regBlock i ≠ 1 → Idles (.registerWrite m a w) s) ∧
    (isPort m = false →
    (checkWord s m i .write (isSecret w) = none → isHole s i true = false → w.tag = .data → (regBlock i = 17 ∨ regBlock i = 6) →
      i ≠ R.ACT_CTRL → ∀ r, regSpec i = some r → Answers (.registerWrite m a w) s fun t =>
        getReg t i = (if regBlock i = 6 ∧ 0x10 ≤ regOff i ∧ regOff i < 0x1A then w.val &&& entryMask (regOff i - 0x10)
          else ((getReg s i &&& ~~~(r.rw ||| r.rwl)) ||| (w.val &&& (r.rw ||| r.rwl))) &&& ~~~(w.val &&& r.w1c)) ∧
        Quiet s t [i] ∧ t.evc = s.evc ∧ t.flt = s.flt) ∧
    (checkWord s m i .write (isSecret w) = none → isHole s i true = false → w.tag ≠ .data → Answers (.registerWrite m a w) s fun t =>
      t = fault s 1 578 .tag m (BitVec.ofNat 32 i) ∧ SameMem s t ∧ Latched s t 1 578 .tag m (BitVec.ofNat 32 i)) ∧
    (checkWord s m i .write (isSecret w) = none → isHole s i true = true → Answers (.registerWrite m a w) s fun t =>
      t = busFault s .write m i ∧ SameMem s t) ∧
    (∀ r e, checkWord s m i .write (isSecret w) = some (r, e) → r ≠ .reservedMaster → Answers (.registerWrite m a w) s fun t =>
      t = refusal s r e .write m i ∧ SameMem s t))

/-- JTAG completes (R67, R556): IDCODE is sent at every level, BYPASS and SAMPLE/PRELOAD change nothing, EXTEST drives the
boundary but at Sealed, debug reads and writes act at Open and not otherwise, and a SECRET word reads as 0 DATA; no word becomes CODE
by a debug write and no CODE word is overwritten (R31). The record that is made then is the model's choice (log entry 44). -/
def Obligations.JtagComplete : Prop :=
  ∀ (s : State), hasMain s = true →
    (Answers (.jtagInstruction .idcode) s fun t => .port "jtag" 0 (leBytes 4 Config.idcode.toNat) ∈ t.sent ∧ Quiet s t []) ∧
    Idles (.jtagInstruction .bypass) s ∧ Idles (.jtagInstruction .samplePreload) s ∧
    (∀ pins, protection s ≠ 2 → Answers (.jtagInstruction (.extest pins)) s fun t =>
      .port "boundary" 0 (leBytes (Nat.log2 pins / 8 + 1) pins) ∈ t.sent ∧ Quiet s t []) ∧
    (∀ pins, protection s = 2 → mode s ≠ mTEST → Idles (.jtagInstruction (.extest pins)) s) ∧
    (∀ a w, debugOpen s = false → Idles (.jtagInstruction (.debugRead a)) s ∧ Idles (.jtagInstruction (.debugWrite a w)) s) ∧
    (∀ a : BitVec 32, debugOpen s = true → isHole s a.toNat false = false → region a.toNat = .supervisor →
      (Answers (.jtagInstruction (.debugRead a)) s fun t => Quiet s t [] ∧
        t.lastRead = if (readMem s (physAddr s a.toNat)).tag = .secret then zeroWord else readMem s (physAddr s a.toNat)) ∧
      (∀ w, w.tag ≠ .code → (readMem s (physAddr s a.toNat)).tag ≠ .code → Answers (.jtagInstruction (.debugWrite a w)) s fun t =>
        readMem t (physAddr s a.toNat) = w ∧ SameMemBut s t (physAddr s a.toNat) 1 ∧ SameRegsBut s t []) ∧
      (∀ w, (w.tag = .code ∨ (readMem s (physAddr s a.toNat)).tag = .code) → Answers (.jtagInstruction (.debugWrite a w)) s fun t =>
        t = fault s 1 578 .tag 512 a ∧ SameMem s t))

/-- Power and reset completes (R44, R45, R50 to R53, R528, R530 to R532, R543). Main power brings BOOT, or TEST before the
first exit from VIGIL; a pin or firmware reset begins scrubbing with its cause bit; a dip begins and ends; a loss of main power
keeps the battery domain while VBAT is valid and clears it where VBAT is not; while main power is there VBAT may go, and source 38
fires (R549). The ports' configuration is at its reset values after power-on (R96, R559). -/
def Obligations.PowerComplete : Prop :=
  ∀ (s : State) (rail : Fin 9) (lowNs : Nat),
    (hasMain s = false → Answers .powerOnRelease s fun v => ∃ t, v = (if s.ext.xtalOk then t else fireSource t 10) ∧
      hasMain t = true ∧ t.boot.step = 0 ∧ t.otp = s.otp ∧
      t.bat = { s.bat with lost := false } ∧ t.parlour = parlourReset ∧ (∀ a, readMem t a = readMem State.reset a) ∧
      mode t = (if mode s ≠ mVIGIL ∧ fuseBlown s oTEST_EXIT = false then mTEST else mBOOT) ∧ t.flash.linkUp = false ∧
      getReg t R.PWR_RSTCAUSE = BitVec.ofNat 16 (1 + b2n (decide (mode s = mVIGIL)) * 16 + b2n s.bat.lost * 32)) ∧
    (lowNs < 1000 → Idles (.pinReset lowNs) s) ∧
    (10000 ≤ lowNs → hasMain s = true → Answers (.pinReset lowNs) s fun t => ResetBegan s t 1 ∧ t.boot.recoveryRequest = false) ∧
    (hasMain s = true → s.boot.step ≠ 0 →
      (Answers .firmwareReset s fun t => ResetBegan s t 2 ∧ t.boot.recoveryRequest = false) ∧
      (Answers .recoveryRequestReset s fun t => ResetBegan s t 2 ∧ t.boot.recoveryRequest = true)) ∧
    (hasMain s = true → s.ext.dip = none → Answers (.dipBegin rail) s fun t => t.ext = { s.ext with dip := some rail.val } ∧
      SameMem s t ∧ t.otp = s.otp ∧ t.bat = s.bat) ∧
    (s.ext.dip ≠ none → Answers .dipEnd s fun t => t.ext.dip = none ∧ t.ext.dipHeld = [] ∧ t.ext.dipDisagree = []) ∧
    (hasMain s = true → s.ext.dip ≠ none → Answers .mainPowerLoss s fun t => t.ext.mainPower = false ∧ t.ext.dip = none ∧
      mode t = modeWithoutMain t (mode s) ∧ (∀ a, readMem t a = readMem State.reset a) ∧
      (s.ext.vbat = true → t.bat.share = s.bat.share ∧ t.bat.shareValid = s.bat.shareValid ∧ t.bat.bootCounter = s.bat.bootCounter ∧
        t.bat.timeBase = s.bat.timeBase) ∧
      (s.ext.vbat = false → t.bat = { State.reset.bat with lost := true })) ∧
    (hasMain s = true → Answers .vbatLoss s fun t => t = fireSource { s with ext := { s.ext with vbat := false } } 38) ∧
    (hasMain s = false → Answers .vbatLoss s fun t => t.ext.vbat = false ∧ t.bat = { State.reset.bat with lost := true } ∧
      mode t = (if s.ext.field then mFIELD else 0))

/-- BOOT completes (R46, R51, R71, R74, R158, R159, R168, R284, R451, R491, R562): scrubbing leads on to TEST's own firmware, to what is
left of a decommissioning and then SPENT, or to step 3, which waits for the noise sources' start-up tests and ends in RECOVERY with
REASON SELF_TEST where a self-test fails; the entry is built once every measurement has ended; a wait of the release order ends, or
times out with a record; an OTP pulse that took programs its bit and no other, one that did not is repeated once; the end of the program
raises event 616; the tally takes the fault counts; the temperature log takes an entry.
An SPDM exchange is one reply with a free verdict (log entry 28), the entries of the access table are the model's (log entry 34), and so
is what follows a bit that does not take (log entry 92). -/
def Obligations.BootComplete : Prop :=
  ∀ (s : State) (selfTest : Bool) (install restore : SlotChecks) (hot cold : BitVec 16),
    let first := bootStep1 { clocksSettled s with boot := { s.boot with checks := ⟨selfTest, install, restore⟩, step := 1 } }
    let second := bootStep2 first.2
    let starting := ∃ p, p < 34 ∧ (getVat second p).noise.state = 1
    (hasMain s = true → s.boot.step = 0 → latchWaits s = false →
      (mode s = mTEST → Answers (.scrubComplete selfTest install restore) s fun t => t.boot.step = 13 ∧ mode t = mTEST ∧ SameMem s t) ∧
      (mode s ≠ mTEST → s.bat.spendLatch = true → fuseBlown s oSPENT = false → Answers (.scrubComplete selfTest install restore) s fun t =>
        t.fw.otpJob = some { bits := fuseBits t oSPENT, repeated := false, next := .decom } ∧ t.boot.step = 1) ∧
      (mode s ≠ mTEST → fuseBlown s oSPENT = true → seedBits s = [] → Answers (.scrubComplete selfTest install restore) s fun t =>
        mode t = mSPENT ∧ t.boot.step = 13 ∧ t.store = storeNone) ∧
      (mode s ≠ mTEST → first.1 = false → starting → Answers (.scrubComplete selfTest install restore) s fun t =>
        t.boot.step = 3 ∧ t.boot.checks = ⟨selfTest, install, restore⟩ ∧ mode t = mode s) ∧
      (mode s ≠ mTEST → first.1 = false → ¬ starting → (selfTest = false ∨ calCrcOk second = false ∨ retireOk second = false) →
        Answers (.scrubComplete selfTest install restore) s fun t => mode t = mRECOVERY ∧ getFld t R.PWR_MODE 12 8 = 4 ∧ t.boot.step = 13)) ∧
    (s.boot.step = 10 → (∀ p, p < 32 → modeNow s p ≠ 3) → (∀ p, p < 48 → dvpMeasured s p = true → (dvpResult s p).isSome = true) →
      Answers .entryBuild s fun t => t.boot.step = 11 ∧ t.fw.attempts = 0 ∧ t.fw.signVat = (signingVats s).head? ∧
        ∃ e, t.fw.entry = some e ∧ e.take 4 = [0x48, 0x42, 0x4B, 0x54] ∧ u48 e 8 = s.fw.bootNumber % 2 ^ 48) ∧
    (∀ met port act time, s.boot.step = 15 → s.fw.release = [(port, act, time)] → bootReason s = 0 →
      (time < 256 → Answers (.releaseWaitEnd met) s fun t => mode t = mSERVICE ∧ t.boot.step = 13 ∧ getFld t R.PWR_MODE 12 8 = 0) ∧
      (256 ≤ time → met = false → waitMet s port (time / 256) (time % 256) = false → Answers (.releaseWaitEnd met) s fun t =>
        mode t = mSERVICE ∧ t.boot.step = 13 ∧ Latched s t 2 612 .none 580 0)) ∧
    (∀ o i rest rep next, i < 16 → s.ext.dip = none → s.fw.otpJob = some { bits := (o, i) :: rest, repeated := rep, next := next } →
      let left := fun (t : State) (bits : List (Nat × Nat)) (again : Bool) =>
        t.fw.otpJob = some { bits := bits, repeated := again, next := next } ∧ Quiet s t []
      (o < 4096 → Answers (.otpPulseEnd true) s fun t => OtpBit t o i ∧ left t rest false ∧ t.seedSet = s.seedSet ∧
        (∀ o' j, (o' ≠ o ∨ j ≠ i) → (OtpBit t o' j ↔ OtpBit s o' j))) ∧
      (4096 ≤ o → Answers (.otpPulseEnd true) s fun t => t.seedSet = s.seedSet ||| 1 <<< (16 * (o - 4096) + i) ∧ left t rest false ∧ t.otp = s.otp) ∧
      (rep = false → Answers (.otpPulseEnd false) s fun t => left t ((o, i) :: rest) true ∧ t.otp = s.otp) ∧
      (rep = true → Answers (.otpPulseEnd false) s fun t => left t (bitsAfterMiss next rest) false ∧ t.otp = s.otp)) ∧
    (∀ rep next, s.fw.otpJob = some { bits := [], repeated := rep, next := next } → (s.ext.dip = none ∨ next ≠ .decom) →
      (next ≠ .decom → (∀ p, next = .spent p → fuseBlown s oSPENT = true) → Answers .otpProgramEnd s fun t =>
        t.fw.otpJob = none ∧ t.evc.pend.getLsbD 616 = true ∧ t.otp = s.otp) ∧
      ((next = .decom ∨ ∃ p, next = .spent p) → fuseBlown s oSPENT = false → Answers .otpProgramEnd s fun t =>
        t.fw.otpJob = some { bits := fuseBits s oSPENT, repeated := false, next := next } ∧ t.evc.pend.getLsbD 616 = true ∧ t.otp = s.otp)) ∧
    (mode s = mSERVICE → Answers .tallyWrite s fun t => t.store.tally.faults = s.store.tally.faults + classSum s ∧ classSum t = 0 ∧
      (∀ i, i < 48 → getFld t (R.TMP_SRC_COUNT i) 7 0 = 0) ∧ SameMem s t) ∧
    ((mode s = mSERVICE ∨ mode s = mRECOVERY) → s.tag.job = none → tagWriteRefused s 3 = none →
      Answers (.tempLogEntry hot cold) s fun t => ∃ j, t.tag.job = some j ∧ j.record = 3 ∧ j.kind = .supervisor)
/-- DEV. commands complete (R47, R62, R69, R70, R73, R74, R109, R112 to R115): INFO keeps its challenge, the newest of at most eight;
ATTEST signs serial number, boot number, mode, head, configuration digest and nonce; RESET resets 1 ms after its response;
SET_PROTECTION raises at once and lowers by a reset, the fuse for Sealed; SPEND clears the share and programs the fuse, and the
decommissioning goes on step by step, each once and in order. Where random bits are short INFO and ATTEST wait, or end with
RNG_STOPPED once every source has stopped. -/
def Obligations.DeviceCommandsComplete : Prop :=
  ∀ (s : State) (p : Pail) (d : Doorbell) (r : Request) (v k tk : Nat),
    (Taken s p 0x0101 d r →
      (mode s = mSPENT → Answers (.devInfo p) s fun t => t = complete s p.val d.seq (respond sOK r.command (infoBody s (zeros 32)))) ∧
      (mode s ≠ mSPENT → softEnough s 32 = true → Answers (.devInfo p) s fun t => ∃ x, x.length = 32 ∧
        Completed s t p d (respond sOK r.command (infoBody s x)) ∧ SameMem s t ∧ t.central.bits + 256 = s.central.bits ∧
        t.fw.challenges = (if 8 ≤ s.fw.challenges.length then s.fw.challenges.drop 1 else s.fw.challenges) ++ [x]) ∧
      (mode s ≠ mSPENT → softEnough s 32 = false → allStopped s = true → Answers (.devInfo p) s fun t =>
        Completed s t p d (respond sRNG_STOPPED r.command (infoBody s (zeros 32))) ∧ t.fw = s.fw) ∧
      (mode s ≠ mSPENT → softEnough s 32 = false → allStopped s = false → Idles (.devInfo p) s)) ∧
    (TakenCell s p 0x0102 d r v k tk →
      (Fed s v (256 + (allDraws 0x11 192 p256).sum) →
        (Answers (.devAttest p false) s fun t => ∃ w salt, EnginesRan s w v ∧ salt.length = 32 ∧
          let msg := serialBytes s ++ leBytes 6 s.fw.bootNumber ++ [BitVec.ofNat 8 (mode s), 0] ++ headHash s ++ slice s.fw.configDigest 0 32 ++ r.body
          CellDone t w p v k tk d r (respond sOK r.command (msg ++ identitySig msg salt))) ∧
        (Answers (.devAttest p true) s fun t => Differed t s 0x11 p v k tk d r)) ∧
      ((getVat s v).noise.state = 3 → s.central.bits < 256 → ∀ mismatch, (allStopped s = false → Idles (.devAttest p mismatch) s) ∧
        (allStopped s = true → (getVat s v).wants = [] → Answers (.devAttest p mismatch) s fun t => ∃ w, EnginesRan s w v ∧
          CellDone t (eventVat w (R.CHN_EVENT v) 3 v 6) p v k tk d r (respond sRNG_STOPPED r.command [])))) ∧
    (Taken s p 0x0103 d r → Answers (.devReset p) s fun t =>
      t = complete s p.val d.seq (respond sOK r.command [] 0 (.devReset (decide (byteAt r.body 0 = 1))))) ∧
    (∀ rec, s.fw.devResetDue = some rec → hasMain s = true → s.boot.step ≠ 0 → Answers .devResetDelay s fun t =>
      ResetBegan s t 2 ∧ t.boot.recoveryRequest = rec) ∧
    (Taken s p 0x0104 d r → otpBusy s = false → let want := byteAt r.body 0; let now := protection s
      (want = now → Answers (.devSetProtection p) s fun t => t = complete s p.val d.seq (respond sOK r.command [])) ∧
      (want < now → now = 2 → Answers (.devSetProtection p) s fun t => FailsWith s t p d r sNO_AUTHORITY 0) ∧
      (want < now → now ≠ 2 → Answers (.devSetProtection p) s fun t => t.bat.lowerPending = true ∧
        Completed s t p d (respond sOK r.command [] 0 .lowering)) ∧
      (now = 0 → want = 1 → Answers (.devSetProtection p) s fun t => protection t = 1 ∧ t.store.level = some 1 ∧
        Completed s t p d (respond sOK r.command [])) ∧
      (now < 2 → want = 2 → Answers (.devSetProtection p) s fun t => t.store.level = some 1 ∧
        t.fw.otpJob = some { bits := fuseBits s oSEALED, repeated := false, next := .seal p.val } ∧ t.otp = s.otp)) ∧
    (s.fw.lowerDue = true → hasMain s = true → s.boot.step ≠ 0 → Answers .lowering s fun t =>
      ResetBegan s t 2 ∧ t.bat.shareValid = false ∧ t.bat.share = 0 ∧ t.bat.lowerPending = false ∧ t.store = { storeNone with level := some 0 }) ∧
    (Taken s p 0x0105 d r → otpBusy s = false → Answers (.devSpend p) s fun t => t.bat.shareValid = false ∧ t.bat.share = 0 ∧
      t.bat.spendLatch = true ∧ t.fw.otpJob = some { bits := fuseBits s oSPENT, repeated := false, next := .spent p.val } ∧ t.otp = s.otp) ∧
    ((s.fw.spendDue = true ∨ s.boot.spendPending = true) → s.boot.step ≠ 0 → hasMain s = true → s.ext.dip = none → s.fw.otpJob = none →
      (fuseBlown s oSPENT = false → Answers .decommissioning s fun t =>
        t = { s with fw := { s.fw with otpJob := some { bits := fuseBits s oSPENT, repeated := false, next := .decom } } }) ∧
      (fuseBlown s oSPENT = true → seedBits s ≠ [] → Answers .decommissioning s fun t =>
        t = { s with fw := { s.fw with otpJob := some { bits := seedBits s, repeated := false, next := .decom } } }) ∧
      (fuseBlown s oSPENT = true → seedBits s = [] → s.boot.step ≠ 1 → Answers .decommissioning s fun t => ResetBegan s t 2 ∧
        t.store = storeNone ∧ t.bat.spendLatch = true ∧ t.bat.shareValid = false ∧ t.bat.share = 0 ∧ t.bat.timeBase = s.bat.timeBase ∧
        t.seedSet = s.seedSet) ∧
      (fuseBlown s oSPENT = true → seedBits s = [] → s.boot.step = 1 → Answers .decommissioning s fun t => mode t = mSPENT ∧
        t.store = storeNone ∧ t.bat.spendLatch = true ∧ t.bat.shareValid = false ∧ t.bat.timeBase = s.bat.timeBase ∧ t.otp = s.otp))

/-- OWN. and PART. commands complete (R62 to R66, R76, R116 to R121): a claim, a transfer and a rekey make a new Herd Book key and
share, the key wrapped under the owner root that the new share gives, and, but for the rekey, program the owner slot; a key that
fails its pairwise test is FAULT_DETECTED, a share that the battery domain refuses INTERNAL, a claim of a device that has an owner
WRONG_MODE; while the search for the key goes on each waits, 10 s at most, after which it is INTERNAL; a transfer waits for a program
of the ring; partitions are created, given credentials and quotas, read and deleted with all that is theirs. -/
def Obligations.OwnerPartitionComplete : Prop :=
  ∀ (s : State) (p : Pail) (d : Doorbell) (r : Request),
    let i := byteAt r.body 0
    let newKey := fun (t : State) (hash : Bytes) (pq : Nat × Nat) (body : Bytes) => ∃ salt, salt.length = 32 ∧
      let modulus := (rsaMaterial 192 pq).2
      let cert := identitySig (modulus ++ serialBytes s ++ hash) salt
      body = modulus ++ cert ∧ t.bat.shareValid = true ∧
      t.store.hbKey = some { modulus := modulus, cert := cert, keyFrom := 0, wrapped := kwWrap (hbWrapKey (formRoot t 1)) (rsaMaterial 192 pq).1 }
    let now := s.bat.timeBase.toNat
    let begun := modDoorbell s p.val d.seq (fun x => { x with since := some (d.since.getD now) })
    let found := fun (c : Instr) (f : Nat × Nat → State → Prop) => d.since.getD now + 10000000 ≥ now → match herdTry begun with
      | (.ok (some pq), w) => ((kdfDraw w 256).isSome = true → Answers c s (f pq)) ∧
          (kdfDraw w 256 = none → (allStopped w = false → Answers c s fun t => t = begun) ∧
            (allStopped w = true → Answers c s fun t => Completed begun t p d (respond sRNG_STOPPED r.command []) ∧ t.store = s.store))
      | (.ok none, w) => Answers c s fun t => t = w
      | (.error e, _) => Answers c s fun t => Completed begun t p d (respond e r.command []) ∧ t.store = s.store
    let late := fun (c : Bool → Instr) => d.since.getD now + 10000000 < now → ∀ genOk, Answers (c genOk) s fun t => FailsWith s t p d r sINTERNAL 0
    let bad := fun (c : Instr) => d.since.getD now + 10000000 ≥ now → Answers c s fun t =>
      Completed begun t p d (respond sFAULT_DETECTED r.command []) ∧ t.store = s.store ∧ t.otp = s.otp ∧
      (getReg t (R.CHN_MISMATCH (herdVat s))).toNat = min 0xFFFF ((getReg s (R.CHN_MISMATCH (herdVat s))).toNat + 1)
    (∀ m ch, Taken s p 0x0201 d r → r.auth = .owner m ch → otpBusy s = false →
      (ownerSlot s ≠ none → ∀ genOk, Answers (.ownClaim p genOk) s fun t => FailsWith s t p d r sWRONG_MODE 0) ∧
      (ownerSlot s = none → late (.ownClaim p) ∧ bad (.ownClaim p false)) ∧
      (∀ slot, ownerSlot s = none → emptySlot s = some slot →
        (s.tmp.shareRefused = false → found (.ownClaim p true) fun pq t => ∃ body, newKey t (keyHash m) pq body ∧
          t.fw.otpJob = some { bits := ownerBits s slot (keyHash m), repeated := false, next := .owner p.val slot body } ∧
          t.store.level = some 1 ∧ getPart t 0 = some partitionZero ∧ SameMem s t ∧ t.otp = s.otp) ∧
        (s.tmp.shareRefused = true → found (.ownClaim p true) fun _ t => Completed begun t p d (respond sINTERNAL r.command []) ∧
          t.store = s.store ∧ t.fw.otpJob = s.fw.otpJob))) ∧
    (Taken s p 0x0202 d r → s.fw.ring.isSome = true → ∀ genOk, Idles (.ownTransfer p genOk) s) ∧
    (Taken s p 0x0202 d r → otpBusy s = false → s.fw.ring = none →
      late (.ownTransfer p) ∧ bad (.ownTransfer p false) ∧
      (∀ slot, emptySlot s = some slot → s.tmp.shareRefused = false →
        found (.ownTransfer p true) fun pq t => ∃ body, newKey t (keyHash r.body) pq body ∧
          t.fw.otpJob = some { bits := ownerBits s slot (keyHash r.body), repeated := false, next := .owner p.val slot body } ∧
          t.store.keys = [] ∧ t.fw.quorums = [] ∧ t.fw.qtickets = [] ∧ getPart t 0 = some partitionZero ∧
          (∀ j, j ≠ 0 → getPart t j = none) ∧ SameMem s t)) ∧
    (Taken s p 0x0203 d r →
      late (.ownRekey p) ∧ bad (.ownRekey p false) ∧
      (s.tmp.shareRefused = false → found (.ownRekey p true) fun pq t =>
        ∃ body, newKey t ((ownerSlot s).elim (zeros 32) (ownerHash s)) pq body ∧ t.store.keys = [] ∧ t.fw.otpJob = s.fw.otpJob ∧
          Completed begun t p d (respond sOK r.command body 0 .reset))) ∧
    (Taken s p 0x0301 d r →
      (getPart s i = none → quotasFit s i r.body = true → softEnough s 64 = false →
        (allStopped s = false → Idles (.partCreate p) s) ∧
        (allStopped s = true → Answers (.partCreate p) s fun t => Completed s t p d (respond sINTERNAL r.command []) ∧ t.store = s.store)) ∧
      (getPart s i = none → quotasFit s i r.body = true → softEnough s 64 = true → Answers (.partCreate p) s fun t => ∃ key body, key.length = 32 ∧
        getPart t i = some { withQuotas { partitionZero with gen := 1 } i r.body with key := key } ∧
        Completed s t p d (respond sOK r.command body) ∧ ∀ j, j ≠ i → getPart t j = getPart s j) ∧
      (getPart s i ≠ none → Answers (.partCreate p) s fun t => FailsWith s t p d r sEXISTS 0) ∧
      (getPart s i = none → quotasFit s i r.body = false → Answers (.partCreate p) s fun t => FailsWith s t p d r sQUOTA 0)) ∧
    (∀ q, getPart s i = some q →
      (Taken s p 0x0305 d r → softEnough s 64 = true → Answers (.partNewCredential p) s fun t => ∃ key body, key.length = 32 ∧
        getPart t i = some { q with gen := (q.gen + 1) % 65536, key := key } ∧ Completed s t p d (respond sOK r.command body) ∧
        ∀ j, j ≠ i → getPart t j = getPart s j) ∧
      (Taken s p 0x0304 d r → Answers (.partStatus p) s fun t => t = complete s p.val d.seq (respond sOK r.command (partBody s i q))) ∧
      (Taken s p 0x0303 d r → quotasFit s i r.body = true → Answers (.partSetQuota p) s fun t =>
        let q' := withQuotas q i r.body; let u := setPart s i (some q')
        t = complete u p.val d.seq (respond sOK r.command (partBody u i q') (overBits u i q'))) ∧
      (Taken s p 0x0303 d r → quotasFit s i r.body = false → Answers (.partSetQuota p) s fun t => FailsWith s t p d r sQUOTA 0) ∧
      (Taken s p 0x0302 d r → pailsUse s i = 0 → s.fw.quorums.any (fun x => decide (x.part = i)) = false → Answers (.partDelete p) s fun t =>
        getPart t i = none ∧ (∀ j k, getKey t j = some k → k.part ≠ i) ∧ (∀ c, counterOwner t c ≠ some i) ∧
        (∀ a ∈ t.store.annotations, a.1 ≠ i) ∧ (∀ j, (shadowEntry t j).owner.toNat = i → (appliedEntry t j).lock = false →
          (shadowEntry t j).enable = false) ∧ Completed s t p d (respond sOK r.command []))) ∧
    (getPart s i = none → Taken s p 0x0302 d r → Answers (.partDelete p) s fun t => FailsWith s t p d r sNOT_FOUND 0)

/-- KEY. and CTR. commands complete (R122 to R128, R148, R261 to R263, R273, R274): keys are generated, imported, exported, deleted
and read, each stored as its record, wrapped in two runs that are compared; a generation that times out is FAILED; counters are
allocated, read, incremented and released, in the order their requests were taken. A slot of another partition is NOT_FOUND. -/
def Obligations.KeyCounterComplete : Prop :=
  ∀ (s : State) (p : Pail) (d : Doorbell) (r : Request) (v k tk : Nat),
    let b := r.body
    let i := u16 b 0
    let done := fun (t w : State) (resp : Response) => CellDone t w p v k tk d r resp
    (TakenCell s p 0x0401 d r v k tk → let type := byteAt b 0; let usage := BitVec.ofNat 16 (u16 b 2); let ctr := u16 b 6
      (bit usage 10 = true → ownCounter s r ctr = false → ∀ c, Answers (.keyGenerate p c) s fun t => done t s (respond sNOT_FOUND r.command [])) ∧
      ((bit usage 10 = true → ownCounter s r ctr = true) →
        (∀ slot, 1 ≤ type → type ≤ 6 → pickSlot s (u16 b 4) (keyBytesOf type) = .ok slot → HasOwnerRoot s v →
          Fed s v (8 * keyBytesOf type + storeBits (keyBytesOf type)) →
          (∀ c, c ≠ .mac → Answers (.keyGenerate p c) s fun t => ∃ w key, EnginesRan s w v ∧ key.length = keyBytesOf type ∧
            done t (storeKey w slot type 0 r.part usage (BitVec.ofNat 16 ctr) key [])
              (respond sOK r.command (leBytes 2 slot ++ kcvOf type key ++ zeros 3))) ∧
          (Answers (.keyGenerate p .mac) s fun t => MacDiffered t s p v k tk d r)) ∧
        (∀ e, 1 ≤ type → type ≤ 6 → pickSlot s (u16 b 4) (keyBytesOf type) = .error e → ∀ c, Answers (.keyGenerate p c) s fun t =>
          done t s (respond e r.command [])) ∧
        (∀ slot, 0x10 ≤ type → type ≤ 0x12 → pickSlot s (u16 b 4) (5 * rsaHalf type) = .ok slot → ∀ c, Answers (.keyGenerate p c) s fun t =>
          done t (setKey s slot (some ⟨1, type, 0, r.part, usage, BitVec.ofNat 16 ctr, zeros 3, [], []⟩))
            (respond sPENDING r.command (leBytes 2 slot ++ zeros 6))) ∧
        (∀ slot c, type = 0x20 → storeCurve s (byteAt b 1) = some c → pickSlot s (u16 b 4) (scalarBytes c) = .ok slot → HasOwnerRoot s v →
          Fed s v ((allDraws 0x24 0 c).sum + storeBits (scalarBytes c)) →
          (Answers (.keyGenerate p .agree) s fun t => ∃ w x, EnginesRan s w v ∧ 1 ≤ x ∧ (2 ≤ c.n → x < c.n) ∧
            let q := pointBytes c (ecMul c x (basePoint c))
            done t (storeKey w slot 0x20 (byteAt b 1) r.part usage (BitVec.ofNat 16 ctr) (beBytes (scalarBytes c) x) q)
              (respond sOK r.command (leBytes 2 slot ++ zeros 6 ++ q))) ∧
          (Answers (.keyGenerate p .churn) s fun t => Differed t s 0x24 p v k tk d r) ∧
          (Answers (.keyGenerate p .mac) s fun t => MacDiffered t s p v k tk d r)))) ∧
    (∀ (sl : BitVec 16) key, getKey s sl.toNat = some key → key.state = 1 → Answers (.keyGenerationTimeout sl) s fun t =>
      getKey t sl.toNat = some { key with state := 3 } ∧ (∀ j, j ≠ sl.toNat → getKey t j = getKey s j) ∧ ∀ g ∈ t.fw.gens, g.1 ≠ sl.toNat) ∧
    (TakenCell s p 0x0402 d r v k tk → let blob := b.drop 16; let mask := BitVec.ofNat 16 (u16 b 2)
      let imported := fun (slot type curve : Nat) =>
        (Answers (.keyImport ⟨p, false⟩) s fun t => ∃ w, EnginesRan s w v ∧
          done t (storeKey w slot type curve r.part (mask &&& 2) 0xFFFF blob blob) (respond sOK r.command (leBytes 2 slot ++ zeros 6))) ∧
        (Answers (.keyImport ⟨p, true⟩) s fun t => MacDiffered t s p v k tk d r)
      (∀ slot, byteAt b 0 = 2 → blob.length ∈ [256, 384, 512] → u16 b 8 = 0xFFFF → pickSlot s (u16 b 4) blob.length = .ok slot →
        HasOwnerRoot s v → Fed s v (storeBits blob.length) → imported slot 0x30 0) ∧
      (∀ slot c q, byteAt b 0 = 3 → storeCurve s (byteAt b 1) = some c → pointOf c blob = some q → u16 b 8 = 0xFFFF →
        pickSlot s (u16 b 4) blob.length = .ok slot → HasOwnerRoot s v → Fed s v (storeBits blob.length) → imported slot 0x31 (byteAt b 1)) ∧
      (∀ kw u kek, byteAt b 0 = 1 → needKey s d r (u16 b 6) 6 = .ok kw → kw.type ≤ 3 → chargeUse s kw = (true, u) →
        OpensTo s v (u16 b 6) kw kek →
        (∀ e o, openBlob s kek blob = .error (e, o) → Fed s v (openBits kw + maskBits (kwBlocks blob.length)) →
          ∀ m, Answers (.keyImport ⟨p, m⟩) s fun t => ∃ w, EnginesRan u w v ∧ done t w (respond e r.command [] o)) ∧
        (∀ type curve us mat slot, openBlob s kek blob = .ok (type, curve, us, mat) → let usage := us &&& mask
          let pub := publicOf s type curve mat
          bit usage 10 = decide (u16 b 8 ≠ 0xFFFF) → (bit usage 10 = true → ownCounter s r (u16 b 8) = true) →
          pickSlot s (u16 b 4) mat.length = .ok slot →
          Fed s v (openBits kw + maskBits (kwBlocks blob.length) + storeBits mat.length) →
          (Answers (.keyImport ⟨p, false⟩) s fun t => ∃ w, EnginesRan u w v ∧
            done t (storeKey w slot type curve r.part usage (BitVec.ofNat 16 (u16 b 8)) mat pub)
              (respond sOK r.command (leBytes 2 slot ++ kcvOf type mat ++ zeros 3))) ∧
          (Answers (.keyImport ⟨p, true⟩) s fun t => MacDiffered t u p v k tk d r)))) ∧
    (TakenCell s p 0x0403 d r v k tk →
      (∀ e, needKey s d r i 9 = .error e → ∀ m, Answers (.keyExport ⟨p, m⟩) s fun t => done t s (respond e r.command [])) ∧
      (∀ key e, needKey s d r i 9 = .ok key → needKey s d r (u16 b 2) 5 = .error e → ∀ m, Answers (.keyExport ⟨p, m⟩) s fun t =>
        done t s (respond e r.command [])) ∧
      (∀ key kw u m kek, needKey s d r i 9 = .ok key → needKey s d r (u16 b 2) 5 = .ok kw → kw.type ≤ 3 → chargeUse s kw = (true, u) →
        OpensTo s v i key m → OpensTo s v (u16 b 2) kw kek → let blob := kwWrap kek (keyBlock key.type key.curve key.usage m)
        Fed s v (openBits key + openBits kw + twiceBits (kwBlocks blob.length)) →
        (Answers (.keyExport ⟨p, false⟩) s fun t => ∃ w, EnginesRan u w v ∧
          done t w (respond sOK r.command (leBytes 2 blob.length ++ zeros 6 ++ blob))) ∧
        (Answers (.keyExport ⟨p, true⟩) s fun t => MacDiffered t u p v k tk d r))) ∧
    (∀ key, getKey s i = some key → key.part = r.part →
      (Taken s p 0x0404 d r → Answers (.keyDelete p) s fun t => getKey t i = none ∧ (∀ j, j ≠ i → getKey t j = getKey s j) ∧
        Completed s t p d (respond sOK r.command [])) ∧
      (Taken s p 0x0405 d r → Answers (.keyInfo p) s fun t => t = complete s p.val d.seq (respond sOK r.command (leBytes 2 i ++
        [BitVec.ofNat 8 key.state, BitVec.ofNat 8 key.type, BitVec.ofNat 8 key.curve, BitVec.ofNat 8 key.part] ++ wordBytes key.usage ++
        wordBytes key.counter ++ key.kcv ++ zeros 3)))) ∧
    (∀ key, getKey s i = some key → key.part ≠ r.part →
      (Taken s p 0x0404 d r → Answers (.keyDelete p) s fun t => FailsWith s t p d r sNOT_FOUND 0) ∧
      (Taken s p 0x0405 d r → Answers (.keyInfo p) s fun t => FailsWith s t p d r sNOT_FOUND 0)) ∧
    (Taken s p 0x0406 d r →
      (∀ key, seeKey s d r i = some key → key.pub ≠ [] → Answers (.keyPublic p) s fun t =>
        t = complete s p.val d.seq (respond sOK r.command key.pub)) ∧
      (∀ key, seeKey s d r i = some key → key.pub = [] → Answers (.keyPublic p) s fun t => FailsWith s t p d r sBAD_PARAMETER 0) ∧
      (seeKey s d r i = none → Answers (.keyPublic p) s fun t => FailsWith s t p d r sNOT_FOUND 0)) ∧
    (∀ c, Taken s p 0x0411 d r → c < 2048 → counterOwner s c = none → vatStateOf s (c / 64) ≠ 3 →
      (∀ c', c' < c → counterOwner s c' ≠ none ∨ vatStateOf s (c' / 64) = 3) → Answers (.ctrAllocate p) s fun t =>
        t = complete (setCounterOwner s c (some r.part)) p.val d.seq
          (respond sOK r.command (leBytes 2 c ++ leBytes 6 (counterAt s (phys s (c / 64)) (c % 64)).toNat))) ∧
    (let val := (counterAt s (phys s (i / 64)) (i % 64)).toNat
      let free := earlierTaken s d (fun q => decide (q.command = 0x0414) && decide (u16 q.body 0 = i)) = false
      let added := fun (w : State) (n : Nat) => (counterAt w (phys s (i / 64)) (i % 64)).toNat = n ∧
        (∀ q j, (q ≠ phys s (i / 64) ∨ j ≠ i % 64) → counterAt w q j = counterAt s q j) ∧ w = { s with vats := w.vats, store := w.store }
      (TakenCell s p 0x0412 d r v k tk →
        (ownCounter s r i = true → Answers (.ctrRead p) s fun t => done t s (respond sOK r.command (leBytes 6 val))) ∧
        (ownCounter s r i = false → Answers (.ctrRead p) s fun t => done t s (respond sNOT_FOUND r.command []))) ∧
      (TakenCell s p 0x0413 d r v k tk → free →
        (ownCounter s r i = true → val + u16 b 2 < 2 ^ 48 → Answers (.ctrIncrement p) s fun t => ∃ w, added w (val + u16 b 2) ∧
          done t w (respond sOK r.command (leBytes 6 (val + u16 b 2)))) ∧
        (ownCounter s r i = true → 2 ^ 48 ≤ val + u16 b 2 → Answers (.ctrIncrement p) s fun t => ∃ w, added w (2 ^ 48 - 1) ∧
          done t w (respond sCOUNTER_EXHAUSTED r.command [])) ∧
        (ownCounter s r i = false → Answers (.ctrIncrement p) s fun t => done t s (respond sNOT_FOUND r.command []))) ∧
      (Taken s p 0x0414 d r → earlierTaken s d (fun q => decide (q.command = 0x0412 ∨ q.command = 0x0413) && decide (u16 q.body 0 = i)) = false →
        (ownCounter s r i = true → counterBound s i = false → Answers (.ctrRelease p) s fun t =>
          t = complete (setCounterOwner s i none) p.val d.seq (respond sOK r.command [])) ∧
        (ownCounter s r i = true → counterBound s i = true → Answers (.ctrRelease p) s fun t => FailsWith s t p d r sBAD_PARAMETER 0x20000) ∧
        (ownCounter s r i = false → Answers (.ctrRelease p) s fun t => FailsWith s t p d r sNOT_FOUND 0)))

/-- SIG., KA.ECDH, CURVE.LOAD, MAC., PIN.TRANSLATE, KEY.TRANSLATE and RNG.GET complete (R129 to R138, R240, R273): each with the result
its rule gives, once its keys are found and permitted and its vat's engines are fed; two runs that differ are FAULT_DETECTED on the
churn and INTERNAL on the MAC unit; data of the host comes through a DMA channel, whose failure is INTEGRITY with its STATUS word. -/
def Obligations.CryptoCommandsComplete : Prop :=
  ∀ (s : State) (p : Pail) (d : Doorbell) (r : Request) (v k tk : Nat),
    let b := r.body
    let done := fun (t w : State) (resp : Response) => CellDone t w p v k tk d r resp
    let ok := fun (body : Bytes) => respond sOK r.command body
    let signed := fun (sig : Bytes) => ok (leBytes 2 sig.length ++ zeros 6 ++ sig)
    let rsaSigned := fun (t u : State) (mat : Bytes) (h m : Nat) => ∃ x,
      if rsaDiffers mat h m x = true then Differed t u 0x11 p v k tk d r else ∃ w, EnginesRan u w v ∧ done t w (signed (rsaPrivate mat h m))
    (∀ key mat u, TakenCell s p 0x0501 d r v k tk → needKey s d r (u16 b 0) 0 = .ok key → schemeFits (byteAt b 2) key.type = true →
      chargeUse s key = (true, u) → OpensTo s v (u16 b 0) key mat → let h := rsaHalf key.type
      let digest := if bit r.flags 0 then b.drop 8 else sha256 (b.drop 8)
      (byteAt b 2 = 2 → primesOk mat h = true → Fed s v (openBits key + (allDraws 0x11 h p256).sum) →
        (Answers (.sigSign p false) s fun t => rsaSigned t u mat h (beNat (pkcs1Encode digest (2 * h)))) ∧
        (Answers (.sigSign p true) s fun t => Differed t u 0x11 p v k tk d r)) ∧
      (byteAt b 2 = 1 → primesOk mat h = true → Fed s v (openBits key + 256 + (allDraws 0x11 h p256).sum) →
        (Answers (.sigSign p false) s fun t => ∃ salt, salt.length = 32 ∧ rsaSigned t u mat h (beNat (pssEncode digest salt (16 * h)))) ∧
        (Answers (.sigSign p true) s fun t => Differed t u 0x11 p v k tk d r)) ∧
      (∀ c, byteAt b 2 = 3 → storeCurve s key.curve = some c → scalarOk c mat = true → Fed s v (openBits key + (allDraws 0x21 0 c).sum) →
        (Answers (.sigSign p false) s fun t => ∃ w, EnginesRan u w v ∧
          ((∃ nonce x y, 1 ≤ nonce ∧ ecdsaSign c (beNat mat) (ecdsaNumber c digest) nonce = some (x, y) ∧
            done t w (signed (beBytes (scalarBytes c) x ++ beBytes (scalarBytes c) y))) ∨ done t w (respond sINTERNAL r.command []))) ∧
        (Answers (.sigSign p true) s fun t => Differed t u 0x21 p v k tk d r)) ∧
      (∀ c, byteAt b 2 = 3 → storeCurve s key.curve = some c → scalarOk c mat = false → Fed s v (openBits key) → ∀ m,
        Answers (.sigSign p m) s fun t => ∃ w, EnginesRan u w v ∧ done t w (respond sBAD_PARAMETER r.command [] 0x40000))) ∧
    (TakenCell s p 0x0502 d r v k tk → let scheme := byteAt b 1; let kl := u16 b 6; let il := u16 b 8
      let sig := slice b (16 + kl + il) (u16 b 10)
      let checked := fun (t u : State) (curve : Nat) (pub : Bytes) => ∃ w, EnginesRan u w v ∧
        (getReg w (R.CHN_OPS v)).toNat = min 0xFFFF ((getReg u (R.CHN_OPS v)).toNat + b2n (decide (scheme = 3) || decide (beNat sig < beNat pub))) ∧
        done t w (ok [BitVec.ofNat 8 (b2n (verifies1 scheme (storeCurve s curve) pub (sha256 (slice b (16 + kl) il)) sig))])
      let sized := fun (pub : Bytes) => scheme ≠ 3 → beNat pub % 2 = 1 ∧ bitLen (beNat pub) = 8 * pub.length
      (∀ key mat u, byteAt b 0 = 0 → needKey s d r (u16 b 4) 1 = .ok key → schemeFits scheme key.type = true → chargeUse s key = (true, u) →
        OpensTo s v (u16 b 4) key mat → Fed s v (openBits key) → sized key.pub → Answers (.sigVerify p) s fun t => checked t u key.curve key.pub) ∧
      (byteAt b 0 ≠ 0 → scheme ≠ 3 → sized (slice b 16 kl) → Answers (.sigVerify p) s fun t => checked t s 0 (slice b 16 kl)) ∧
      (∀ c q, byteAt b 0 ≠ 0 → scheme = 3 → storeCurve s (byteAt b 2) = some c → pointOf c (slice b 16 kl) = some q →
        Answers (.sigVerify p) s fun t => checked t s (byteAt b 2) (slice b 16 kl)) ∧
      (byteAt b 0 ≠ 0 → scheme = 3 → storeCurve s (byteAt b 2) = none → Answers (.sigVerify p) s fun t =>
        done t s (respond sNOT_FOUND r.command []))) ∧
    (∀ key c mat q out u, TakenCell s p 0x0503 d r v k tk → needKey s d r (u16 b 0) 2 = .ok key → key.type = 0x20 →
      bit (BitVec.ofNat 16 (u16 b 4)) 10 = false → storeCurve s key.curve = some c → pointOf c (b.drop 48) = some q → let n := keyBytesOf (byteAt b 2)
      pickSlot s (u16 b 6) n = .ok out → chargeUse s key = (true, u) → OpensTo s v (u16 b 0) key mat → scalarOk c mat = true → 1 ≤ byteAt b 2 → byteAt b 2 ≤ 6 →
      Fed s v (openBits key + (allDraws 0x23 0 c).sum + twiceBits (kdfBlocks (byteAt b 8) 1 (8 * n)) + storeBits n) →
      (match ecMul c (c.h * beNat mat) (some q) with
        | some (x, _) =>
          let o := kdf (sha256 (beBytes c.bytes x)) (slice b 16 (byteAt b 8)) [BitVec.ofNat 8 r.part] (8 * n)
          (Answers (.kaEcdh p .agree) s fun t => ∃ w, EnginesRan u w v ∧
            done t (storeKey w out (byteAt b 2) 0 r.part (BitVec.ofNat 16 (u16 b 4)) 0xFFFF o [])
              (ok (leBytes 2 out ++ kcvOf (byteAt b 2) o ++ zeros 3))) ∧
          (Answers (.kaEcdh p .mac) s fun t => MacDiffered t u p v k tk d r)
        | none => Answers (.kaEcdh p .agree) s fun t => ∃ w, EnginesRan u w v ∧ done t w (respond sBAD_PARAMETER r.command [] 0x30030)) ∧
      (Answers (.kaEcdh p .churn) s fun t => Differed t u 0x23 p v k tk d r)) ∧
    (Taken s p 0x0504 d r → let c := curveOfBody b; let powered34 := those 34 (fun n => powered s (phys s n))
      let taken := storeCurve s (byteAt b 0) ≠ none ∨ ∃ n ∈ powered34, entryHeld s (phys s n) (byteAt b 0) = true
      let refused := fun (e : Nat) => (∀ bases, curveStart c bases = some e) ∨
        ((∀ bases, curveStart c bases = none) ∧ ∀ bases, curveRest c bases = some e)
      (taken → Answers (.curveLoad p) s fun t => FailsWith s t p d r sEXISTS 0) ∧
      (¬taken → powered34 ≠ [] → allStopped s = true → fieldOk c = true → s.central.bits < 16 * c.words →
        (∀ n ∈ powered34, (getVat s (phys s n)).noise.state = 3) → Answers (.curveLoad p) s fun t =>
        Completed s t p d (respond sINTERNAL r.command []) ∧ t.store = s.store) ∧
      (¬taken → powered34 ≠ [] → allStopped s = false → (∀ bases, curveStart c bases = none ∧ curveRest c bases = none) → Answers (.curveLoad p) s fun t =>
        tget (fun _ => none) t.store.curves (byteAt b 0) = some c ∧ Completed s t p d (ok []) ∧
        ∀ n ∈ powered34, tget (fun _ => none) (getVat t (phys s n)).churn.curves (byteAt b 0) = some c) ∧
      (∀ e, ¬taken → powered34 ≠ [] → allStopped s = false → refused e → Answers (.curveLoad p) s fun t =>
        Completed s t p d (respond sBAD_PARAMETER r.command [] ((0x0F + e) * 65536 + curveField c.bytes e)) ∧ t.store = s.store)) ∧
    (∀ verify : Bool, TakenCell s p (if verify then 0x0602 else 0x0601) d r v k tk →
      let c := fun (m : Bool) => if verify then Instr.macVerify p m else .macGenerate p m
      let n := u32 b 44
      let found := fun (type : Nat) (key data : Bytes) => let x := (macValue (byteAt b 0) (byteAt b 1) type key data).take (byteAt b 2)
        if verify then [BitVec.ofNat 8 (b2n (decide (x = b.drop (b.length - byteAt b 2))))] else x
      let work := fun (type : Nat) (data : Bytes) => let z := macBlocks (byteAt b 0) (byteAt b 1) type data.length
        if bit r.flags 2 then twiceBits z else maskBits z
      (∀ e o m, kspecRefusal s d r (if verify then 4 else 3) = some (e, o) → Answers (c m) s fun t => done t (dropMacDma s p.val d) (respond e r.command [] o)) ∧
      (kspecRefusal s d r (if verify then 4 else 3) = none →
        let ran := fun (t u : State) (m : Bool) (type : Nat) (key data : Bytes) =>
          if bit r.flags 2 = true ∧ m = true then MacDiffered t u p v k tk d r else ∃ w, EnginesRan u w v ∧ done t w (ok (found type key data))
        (∀ type key u x, bit r.flags 1 = false → KspecKey s v d r type key u x → Fed s v (x + work type (slice b 48 n)) → ∀ m,
          Answers (c m) s fun t => ran t u m type key (slice b 48 n)) ∧
        (∀ ch m, bit r.flags 1 = true → d.dma = none → dmaInUse s = false →
          ((List.range 64).find? (fun c => decide (dmaState (getDma s c) = 0)) <|> (List.range 64).find? (fun c => decide (dmaState (getDma s c) = 3))) = some ch → Answers (c m) s fun t => t = startMacDma s p.val ch d r) ∧
        (∀ ch m, bit r.flags 1 = true → d.dma = some ch → (getDma s ch).phase = .idle → getBit s (R.DMA_CH_EVENT ch) 3 = false →
          Answers (c m) s fun t => done t (endMacDma s p.val ch d) (respond sINTEGRITY r.command [] (getDma s ch).status.toNat)) ∧
        (∀ ch type key u x, bit r.flags 1 = true → d.dma = some ch → (getDma s ch).phase = .idle → getBit s (R.DMA_CH_EVENT ch) 3 = true →
          n ≤ 2 * dmaBufferWords → let data := memBytes s dmaBuffer n
          KspecKey (endMacDma s p.val ch d) v d r type key u x → Fed s v (x + work type data) → ∀ m, Answers (c m) s fun t =>
            ran t u m type key data))) ∧
    (∀ ki ko u w mi mo, TakenCell s p 0x0701 d r v k tk → needKey s d r (u16 b 2) 7 = .ok ki → needKey s d r (u16 b 4) 8 = .ok ko →
      pinKeyFits (byteAt b 0) ki.type = true → pinKeyFits (byteAt b 1) ko.type = true → chargeUse s ki = (true, u) →
      chargeUse u ko = (true, w) → OpensTo s v (u16 b 2) ki mi → OpensTo s v (u16 b 4) ko mo → let out := byteAt b 1
      Fed s v (openBits ki + openBits ko + maskBits (if byteAt b 0 = 4 then 2 else 1) + (if out = 3 ∨ out = 4 then 128 else 0) + twiceBits (if out = 4 then 2 else 1)) →
      (∀ pin, openPin (byteAt b 0) (panDigits b) ki.type mi (slice b 28 16) = some pin →
        (Answers (.pinTranslate ⟨p, false⟩) s fun t => ∃ x fill, EnginesRan w x v ∧ fill.length = 32 ∧ (∀ f ∈ fill, f < 16) ∧
          done t x (ok (sealPin out (panDigits b) pin fill ko.type mo))) ∧
        (Answers (.pinTranslate ⟨p, true⟩) s fun t => MacDiffered t w p v k tk d r)) ∧
      (openPin (byteAt b 0) (panDigits b) ki.type mi (slice b 28 16) = none → ∀ m, Answers (.pinTranslate ⟨p, m⟩) s fun t =>
        ∃ x, EnginesRan w x v ∧ done t x (respond sBAD_PARAMETER r.command [] 0x21001C))) ∧
    (∀ ki ko u w mi mo, TakenCell s p 0x0702 d r v k tk → needKey s d r (u16 b 2) 6 = .ok ki → needKey s d r (u16 b 4) 5 = .ok ko →
      (if byteAt b 0 = 1 then 1 ≤ ki.type ∧ ki.type ≤ 3 else ki.type = 4 ∨ ki.type = 5) →
      (if byteAt b 1 = 1 then 1 ≤ ko.type ∧ ko.type ≤ 3 else ko.type = 4 ∨ ko.type = 5) → chargeUse s ki = (true, u) →
      chargeUse u ko = (true, w) → OpensTo s v (u16 b 2) ki mi → OpensTo s v (u16 b 4) ko mo →
      (∀ type curve usage mat, openTranslated s b mi = .ok (type, curve, usage, mat) →
        let out := if byteAt b 1 = 1 then kwWrap mo (keyBlock type curve usage mat) else ecb (tdesEnc mo) mat
        Fed s v (openBits ki + openBits ko + maskBits (blobBlocks (byteAt b 0) (b.length - 16)) + twiceBits (blobBlocks (byteAt b 1) out.length) +
          twiceBits 1) →
        (Answers (.keyTranslate ⟨p, false⟩) s fun t => ∃ x, EnginesRan w x v ∧
          done t x (ok (leBytes 2 out.length ++ zeros 6 ++ out ++ kcvOf type mat))) ∧
        (Answers (.keyTranslate ⟨p, true⟩) s fun t => MacDiffered t w p v k tk d r)) ∧
      (∀ e o, openTranslated s b mi = .error (e, o) → Fed s v (openBits ki + openBits ko + maskBits (blobBlocks (byteAt b 0) (b.length - 16))) →
        ∀ m, Answers (.keyTranslate ⟨p, m⟩) s fun t =>
        ∃ x, EnginesRan w x v ∧ done t x (respond e r.command [] o))) ∧
    (Taken s p 0x0801 d r → let n := u16 b 0
      (softEnough s n = true → Answers (.rngGet p) s fun t => ∃ x, x.length = n ∧ Completed s t p d (ok x) ∧
        t.central.bits + 16 * ((n + 1) / 2) = s.central.bits) ∧
      (softEnough s n = false → allStopped s = true → Answers (.rngGet p) s fun t => Completed s t p d (respond sRNG_STOPPED r.command [])) ∧
      (softEnough s n = false → allStopped s = false → Idles (.rngGet p) s))

/-- CUS., CFG., CAL., FLT. and TMP. commands complete (R105, R139 to R142, R147, R262, R471, R505, R506, R521): the policy ends every
session; a session begins, is contributed to card by card, read and ended, and lasts 30 minutes; a card is activated, its application
selected and asked, and what it answers is judged and counted; records and offsets are stored and read, a disable fuse before its
record's other fields; the fault record is released by its time stamp. -/
def Obligations.CustodyConfigComplete : Prop :=
  ∀ (s : State) (p : Pail) (d : Doorbell) (r : Request) (v k tk : Nat),
    let b := r.body
    let ok := fun (t : State) (body : Bytes) => Completed s t p d (respond sOK r.command body)
    (Taken s p 0x0901 d r → Answers (.cusPolicy p) s fun t => t.fw.quorums = [] ∧ ok t [] ∧
      ∃ pol, t.store.policy = some pol ∧ pol.m = byteAt b 0 ∧ pol.custodians = custodiansOf b ∧ pol.body = b) ∧
    (∀ pol, Taken s p 0x0902 d r → s.store.policy = some pol → let room := s.fw.quorums.length < 4 ∧
        (byteAt b 0 = 2 → unitsLeft s (keyBytesOf (byteAt b 2)) = true)
      (room → softEnough s 64 = true → Answers (.cusBegin p) s fun t => ∃ q, t.fw.quorums = s.fw.quorums ++ [q] ∧ q.id = s.fw.nextId ∧
        q.part = r.part ∧ q.purpose = byteAt b 0 ∧ q.challenge.length = 32 ∧ q.ends = s.bat.timeBase.toNat + 1800000000 ∧ q.got = [] ∧
        1 ≤ q.priv ∧ q.priv < p256.n ∧ q.point = (pointBytes p256 (ecMul p256 q.priv (basePoint p256))).drop 1 ∧
        t.fw.nextId = s.fw.nextId + 1 ∧ ok t (leBytes 4 q.id ++ q.challenge ++ q.point ++ leBytes 2 pol.m)) ∧
      (room → softEnough s 64 = false → allStopped s = true → Answers (.cusBegin p) s fun t =>
        Completed s t p d (respond sRNG_STOPPED r.command []) ∧ t.fw = s.fw) ∧
      (¬ room → Answers (.cusBegin p) s fun t => FailsWith s t p d r sQUOTA 0)) ∧
    (Taken s p 0x0902 d r → s.store.policy = none → Answers (.cusBegin p) s fun t => FailsWith s t p d r sNOT_FOUND 0) ∧
    (TakenCell s p 0x0903 d r v k tk → ∀ m : Bool, let i := byteAt b 4
      let done := fun (t w : State) (resp : Response) => CellDone t w p v k tk d r resp
      let goes := fun (t w : State) (x : CardStage) => t = modDoorbell w p.val d.seq (fun y => { y with card := x })
      let ended := getBit s (R.CSL_EVENT i) 0
      let code := getFld s (R.CSL_RESULT i) 15 12
      (findQuorum s r (u32 b 0) = none → Answers (.cusCard p m) s fun t => done t s (respond sNOT_FOUND r.command [])) ∧
      (∀ q pol, findQuorum s r (u32 b 0) = some q → s.store.policy = some pol →
        (d.card = .start → slotInUse s d i = false →
          (cslState s i = 2 → Answers (.cusCard p m) s fun t => goes t (sendApdu s i (selectApdu pol)) .select) ∧
          (cslState s i = 0 → Answers (.cusCard p m) s fun t => goes t (cslActivate (clearDone s i) i) .activate)) ∧
        (d.card ≠ .start → ended = false → Idles (.cusCard p m) s) ∧
        (d.card ≠ .start → ended = true → code ≠ kOK → Answers (.cusCard p m) s fun t => done t s (respond
          (if code = kREMOVED_UNKNOWN then sCARD_REMOVED_UNKNOWN else if code = kREFUSED then sINTERNAL else sCARD_ERROR) r.command [] (code * 0x10000))) ∧
        (d.card = .activate → ended = true → code = kOK → Answers (.cusCard p m) s fun t => goes t (sendApdu s i (selectApdu pol)) .select) ∧
        (∀ x, d.card = .select → ended = true → code = kOK → slotAnswer s i = some (x, 0x9000) → Answers (.cusCard p m) s fun t =>
          goes t (sendApdu s i (answerApdu pol q)) .answer) ∧
        (d.card = .select ∨ d.card = .answer → ended = true → code = kOK → (∀ x, slotAnswer s i ≠ some (x, 0x9000)) →
          Answers (.cusCard p m) s fun t => done t s (respond sCARD_ERROR r.command [])) ∧
        (∀ answer, d.card = .answer → ended = true → code = kOK → slotAnswer s i = some (answer, 0x9000) →
          let id := answer.take 2
          let fits := 66 ≤ answer.length ∧ (q.purpose = 1 → answer.length = 66)
          let count := q.got.length + 1
          (¬ fits → Answers (.cusCard p m) s fun t => done t s (respond sCARD_ERROR r.command [])) ∧
          (fits → pol.custodians.find? (fun x => x.1 == id) = none → Answers (.cusCard p m) s fun t =>
            done t s (respond sNO_AUTHORITY r.command [])) ∧
          (∀ c, fits → pol.custodians.find? (fun x => x.1 == id) = some c →
            let good := ecdsaVerify p256 (beNat (c.2.take 32)) (beNat (c.2.drop 32)) (beNat (sha256 (cardData q)))
              (beNat ((slice answer 2 64).take 32)) (beNat ((slice answer 2 64).drop 32))
            let fresh := q.got.any (fun g => g.1 == id)
            let counted := fun (x : Bytes) => { s.fw with quorums := s.fw.quorums.map (fun y => if y.id = q.id then { q with got := q.got ++ [(id, x)] } else y) }
            let gone := { s.fw with quorums := s.fw.quorums.filter (fun y => y.id != q.id) }
            (good = false → Answers (.cusCard p m) s fun t => ∃ w, EnginesRan s w v ∧ done t w (respond sNO_AUTHORITY r.command [])) ∧
            (good = true → fresh = true → Answers (.cusCard p m) s fun t => ∃ w, EnginesRan s w v ∧ done t w (respond sEXISTS r.command [])) ∧
            (good = true → fresh = false → q.purpose = 1 →
              (count < pol.m → Answers (.cusCard p m) s fun t => ∃ w, EnginesRan { s with fw := counted [] } w v ∧
                done t w (respond sOK r.command (cardBody id count pol.m 0 0 []))) ∧
              (pol.m ≤ count → Answers (.cusCard p m) s fun t => ∃ w, EnginesRan { s with fw := { gone with
                  qtickets := s.fw.qtickets ++ [⟨s.fw.nextId, q.target, q.ends⟩], nextId := s.fw.nextId + 1 } } w v ∧
                done t w (respond sOK r.command (cardBody id pol.m pol.m s.fw.nextId 0 [])))) ∧
            (∀ x, good = true → fresh = false → q.purpose ≠ 1 → openComponent q c.2 (answer.drop 66) = some x → x.length = keyBytesOf q.type →
              let key := (q.got ++ [(id, x)]).foldl (fun y g => xorB y g.2) (zeros (keyBytesOf q.type))
              Fed s v ((allDraws 0x23 0 p256).sum + storeBits key.length) →
              (count < pol.m → Answers (.cusCard p m) s fun t => ∃ w, EnginesRan { s with fw := counted x } w v ∧
                done t w (respond sOK r.command (cardBody id count pol.m 0 0 []))) ∧
              (∀ slot, pol.m ≤ count → pickSlot { s with fw := gone } q.slot.toNat (keyBytesOf q.type) = .ok slot → 1 ≤ q.type → q.type ≤ 6 →
                HasOwnerRoot s v → Answers (.cusCard p m) s fun t => if m then MacDiffered t { s with fw := gone } p v k tk d r else
                  ∃ w, EnginesRan { s with fw := gone } w v ∧ done t (storeKey w slot q.type 0 q.part q.usage 0xFFFF key [])
                    (respond sOK r.command (cardBody id pol.m pol.m 0 slot (kcvOf q.type key))))))))) ∧
    (∀ q pol, Taken s p 0x0904 d r → findQuorum s r (u32 b 0) = some q → s.store.policy = some pol → Answers (.cusStatus p) s fun t =>
      t = complete s p.val d.seq (respond sOK r.command ([BitVec.ofNat 8 q.purpose, BitVec.ofNat 8 q.got.length, BitVec.ofNat 8 pol.m, 0] ++
        leBytes 4 ((q.ends - s.bat.timeBase.toNat) / 1000000) ++ (List.range 16).flatMap (fun j => ((q.got[j]?).map (·.1)).getD [0xFF, 0xFF])))) ∧
    (∀ q, Taken s p 0x0905 d r → findQuorum s r (u32 b 0) = some q → Answers (.cusEnd p) s fun t =>
      t.fw.quorums = s.fw.quorums.filter (fun x => x.id != q.id) ∧ ok t []) ∧
    (∀ (id : BitVec 32) q, s.fw.quorums.find? (fun x => x.id == id.toNat) = some q →
      (q.ends ≤ s.bat.timeBase.toNat → Answers (.sessionTimeout id) s fun t => t.fw.quorums = s.fw.quorums.filter (fun x => x.id != q.id)) ∧
      (s.bat.timeBase.toNat < q.ends → Idles (.sessionTimeout id) s)) ∧
    (let item := u16 b 0; let index := u16 b 2; let rec_ := b.drop 8
      (Taken s p 0x0A01 d r →
        (cfgExists item index = true → Answers (.cfgGet p) s fun t => t = complete s p.val d.seq (respond sOK r.command
          (leBytes 2 (cfgRecord s item index).length ++ zeros 6 ++ cfgRecord s item index))) ∧
        (cfgExists item index = false → Answers (.cfgGet p) s fun t => FailsWith s t p d r sNOT_FOUND 0)) ∧
      (Taken s p 0x0A02 d r → item = 1 → (p.val, index) ∈ s.fw.fuseWait →
        (srcFused s index = false → Idles (.cfgSet p) s) ∧
        (srcFused s index = true → Answers (.cfgSet p) s fun t => (∃ w, t = complete w p.val d.seq (respond sOK r.command []) ∧
          w = applyTamperRecord { s with fw := { s.fw with fuseWait := s.fw.fuseWait.erase (p.val, index) } } index (rec_.set 4 0)))) ∧
      (Taken s p 0x0A02 d r → (item = 1 → (p.val, index) ∉ s.fw.fuseWait) →
        (cfgExists item index = true → cfgLengthOk item rec_ = true → (cfgRules s item index rec_).all (·.1) = true →
          (¬ (item = 1 ∧ byteAt rec_ 4 = 0xD5) → Answers (.cfgSet p) s fun t => getCfg t item index = some (storedRecord item rec_) ∧ ok t [] ∧
            ∀ it ix, cfgKey it ix ≠ cfgKey item index → getCfg t it ix = getCfg s it ix) ∧
          (item = 1 → byteAt rec_ 4 = 0xD5 → (∀ x, r.auth ≠ .ticket x) → Answers (.cfgSet p) s fun t =>
            let u := setCfg s 1 index (some (storedRecord 1 rec_))
            t = { writeTmpFuse u (BitVec.ofNat 16 (0xD500 + index)) with fw := { u.fw with fuseWait := u.fw.fuseWait ++ [(p.val, index)] } }) ∧
          (∀ x, item = 1 → byteAt rec_ 4 = 0xD5 → r.auth = .ticket x → Answers (.cfgSet p) s fun t => FailsWith s t p d r sNO_AUTHORITY 0)) ∧
        (cfgExists item index = false → Answers (.cfgSet p) s fun t => FailsWith s t p d r sNOT_FOUND 0) ∧
        (cfgExists item index = true → cfgLengthOk item rec_ = false → Answers (.cfgSet p) s fun t => FailsWith s t p d r sBAD_LENGTH 0)) ∧
      (Taken s p 0x0A03 d r →
        ((calOtp s item).isSome = true → Answers (.calGet p) s fun t => t = complete s p.val d.seq (respond sOK r.command
          (wordBytes (calFactory s item) ++ wordBytes (userOffset s item) ++ leBytes 2 (calBound s item) ++
            wordBytes (calFactory s item + userOffset s item)))) ∧
        (calOtp s item = none → Answers (.calGet p) s fun t => FailsWith s t p d r sNOT_FOUND 0)) ∧
      (Taken s p 0x0A04 d r → (calOtp s item).isSome = true → let w := BitVec.ofNat 16 (u16 b 2)
        (clampOffset (calBound s item) w = w → Answers (.calSet p) s fun t => userOffset t item = w ∧ calOffset t item = w ∧ ok t [] ∧
          tget (fun _ => none) t.store.cal item = some w) ∧
        (clampOffset (calBound s item) w ≠ w → Answers (.calSet p) s fun t => FailsWith s t p d r sBAD_PARAMETER 2))) ∧
    (Taken s p 0x0C01 d r → Answers (.fltRead p) s fun t => t = complete s p.val d.seq (respond sOK r.command ((faultWords s).flatMap wordBytes ++
      [BitVec.ofNat 8 (b2n s.flt.first.isSome + 2 * b2n s.flt.overflow + 4 * b2n s.flt.escalated), 0, 0, 0] ++
      (List.range 9).flatMap (fun c => leBytes 4 (tget (fun _ => (0 : Nat)) s.rejects c)) ++ leBytes 4 s.flt.total ++ zeros 4))) ∧
    (∀ f, Taken s p 0x0C02 d r → s.flt.first = some f →
      (f.stamp.toNat = u48 b 0 → Answers (.fltAck p) s fun t => t.flt.first = none ∧ t.flt.overflow = false ∧ t.flt.escalated = false ∧
        t.flt.overflowCount = 0 ∧ t.flt.storm = s.flt.storm ∧ ok t []) ∧
      (f.stamp.toNat ≠ u48 b 0 → Answers (.fltAck p) s fun t => FailsWith s t p d r sNOT_FOUND 0)) ∧
    (Taken s p 0x0C02 d r → s.flt.first = none → Answers (.fltAck p) s fun t => FailsWith s t p d r sNOT_FOUND 0) ∧
    (Taken s p 0x0C03 d r → Answers (.tmpStatus p) s fun t => ∃ body, body.length = 384 ∧ t = complete s p.val d.seq (respond sOK r.command body) ∧
      ∀ i, i < 48 → (body.drop (8 * i)).take 8 =
        [BitVec.ofNat 8 (if srcReserved i then 0 else if srcFused s i then 2 else if (getSrc s i).firing then 1 else 0),
          (getReg s (R.TMP_SRC_CFG i)).setWidth 8 &&& 0x7F] ++ leBytes 2 (evidence s i) ++ leBytes 2 (min 0xFFFF (disagreesOf s i)) ++ [0, 0])

/-- VAT. commands complete (R142 to R146, R211 to R216, R218, R219): the status is read; a vat is quiesced when it is drained, or
after the time limit with PARTIAL; a reload starts the loader, a trim stops the clock until it has been measured; a vat is retired,
with a spare where there is one, after a swap of vats that goes on, and resumed; in another state, or while a reload or a trim of it
goes on, each is refused. -/
def Obligations.VatCommandsComplete : Prop :=
  ∀ (s : State) (p : Pail) (d : Doorbell) (r : Request),
    let n := u16 r.body 0
    let q := phys s n
    let refused := fun (c : Instr) => Answers c s fun t => FailsWith s t p d r sBAD_PARAMETER 0x10000
    let loads := s.fw.reload.any (fun x => x.2 == n)
    let trims := s.fw.trims.any (fun x => decide (x.vat = n))
    (∀ khz, Taken s p 0x0B01 d r → Answers (.vatStatus p khz) s fun t =>
      let queued := (List.range 16).foldl (fun c k => c + (deque s q k).length) 0
      let running := (those 16 (fun k => (getCell s (q * 16 + k)).ticket.isSome)).length
      t = complete s p.val d.seq (respond sOK r.command ([BitVec.ofNat 8 (vatStateOf s n), BitVec.ofNat 8 q] ++
        leBytes 2 (if getBit s (R.VAT_CTRL q) 1 then (khz.toNat + 500) / 1000 else 0) ++ leBytes 2 queued ++ leBytes 2 running ++
        leBytes 4 (min 0xFFFFFFFF (tget (fun _ => (0 : Nat)) s.fw.vatFaults n)) ++ zeros 4))) ∧
    (Taken s p 0x0B02 d r →
      ((p.val, n) ∈ s.fw.quiesce → Answers (.vatQuiesce p) s fun t => t = drainUnpinned s q) ∧
      ((p.val, n) ∉ s.fw.quiesce → vatStateOf s n = 0 → Answers (.vatQuiesce p) s fun t => vatStateOf t n = 1 ∧ admits t q = false ∧
        t.fw.quiesce = s.fw.quiesce ++ [(p.val, n)]) ∧
      ((p.val, n) ∉ s.fw.quiesce → vatStateOf s n = 5 → Answers (.vatQuiesce p) s fun t => vatStateOf t n = 2 ∧
        getReg t (R.VAT_CELL_RUN q) = 0 ∧ Completed s t p d (respond sOK r.command [])) ∧
      ((p.val, n) ∉ s.fw.quiesce → vatStateOf s n ≠ 0 → vatStateOf s n ≠ 5 → refused (.vatQuiesce p))) ∧
    (∀ vat : VatId, vatStateOf s vat.val = 1 → s.fw.quiesce.find? (fun x => x.2 == vat.val) = some (p.val, vat.val) → Taken s p 0x0B02 d r →
      (drained s (phys s vat.val) = true → Answers (.drained vat) s fun t => vatStateOf t vat.val = 2 ∧
        t.fw.quiesce = s.fw.quiesce.erase (p.val, vat.val) ∧ Completed s t p d (respond sOK 0x0B02 [])) ∧
      (drained s (phys s vat.val) = false → Answers (.drained vat) s fun t => t = drainUnpinned s (phys s vat.val)) ∧
      (Answers (.quiesceTimeout vat) s fun t => vatStateOf t vat.val = 1 ∧ t.fw.quiesce = s.fw.quiesce.erase (p.val, vat.val) ∧
        Completed s t p d (respond sPARTIAL 0x0B02 []))) ∧
    (Taken s p 0x0B03 d r → let image := u16 r.body 2; let u := startLoad s q image
      ((p.val, n) ∈ s.fw.reload → Idles (.vatReload p) s) ∧
      ((p.val, n) ∉ s.fw.reload → vatStateOf s n = 2 → loads = false → trims = false →
        (imageVerified s image (r.body.drop 4) = true → (getVat u q).loading ≠ none → Answers (.vatReload p) s fun t =>
          t = { u with fw := { u.fw with reload := s.fw.reload ++ [(p.val, n)] } }) ∧
        (imageVerified s image (r.body.drop 4) = true → (getVat u q).loading = none → Answers (.vatReload p) s fun t =>
          Completed s t p d (respond sINTEGRITY r.command [])) ∧
        (imageVerified s image (r.body.drop 4) = false → Answers (.vatReload p) s fun t => FailsWith s t p d r sINTEGRITY 0)) ∧
      ((p.val, n) ∉ s.fw.reload → vatStateOf s n ≠ 2 ∨ loads = true ∨ trims = true → refused (.vatReload p))) ∧
    (Taken s p 0x0B04 d r → let mine := s.fw.trims.any (fun x => decide (x.pail = p.val) && decide (x.vat = n))
      (mine = true → Idles (.vatTrim p) s) ∧
      (mine = false → vatStateOf s n = 2 → trims = false → loads = false → Answers (.vatTrim p) s fun t =>
        t.fw.trims = s.fw.trims ++ [⟨p.val, n, u16 r.body 2, (getVat s q).trim⟩] ∧ boundary t q = 1 ∧ (getVat t q).clkStable = false) ∧
      (mine = false → vatStateOf s n ≠ 2 ∨ trims = true ∨ loads = true → refused (.vatTrim p))) ∧
    (∀ (vat : VatId) (khz : BitVec 32) tr, s.fw.trims.find? (fun x => x.vat == vat.val) = some tr → let v := phys s vat.val
      let ends := fun (code : BitVec 10) (status : Nat) => Answers (.trimMeasurementEnd vat khz) s fun t => t.fw.trims = s.fw.trims.erase tr ∧
        boundary t v = 0 ∧ (getVat t v).clkStable = true ∧ (getVat t v).trim = code ∧
        (p.val = tr.pail → Taken s p 0x0B04 d r → Completed s t p d (respond status 0x0B04 []))
      (tr.mhz * 990 ≤ khz.toNat → khz.toNat ≤ tr.mhz * 1010 → ends (getVat s v).trim sOK) ∧
      (khz.toNat < tr.mhz * 990 ∨ tr.mhz * 1010 < khz.toNat → ends tr.old sINTERNAL)) ∧
    (Taken s p 0x0B05 d r →
      let may := vatStateOf s n = 2 ∧ loads = false ∧ trims = false
      (∀ kat, ¬may → refused (.vatRetire p kat)) ∧
      (∀ kat, may → s.swap.isSome = true → 24 ≤ activeVats s - (if (spareOf s).isSome then 0 else 1) → Idles (.vatRetire p kat) s) ∧
      (∀ kat, may → s.swap = none → spareOf s = none → 24 ≤ activeVats s - 1 → Answers (.vatRetire p kat) s fun t => vatStateOf t n = 3 ∧
        powered t q = false ∧ getCfg t 8 0 = some (remapRecord t) ∧ Completed s t p d (respond sOK r.command [0xFF])) ∧
      (∀ kat, may → spareOf s = none → activeVats s - 1 < 24 → Answers (.vatRetire p kat) s fun t => FailsWith s t p d r sQUOTA 0) ∧
      (∀ x kat, may → spareOf s = some x → activeVats s < 24 → Answers (.vatRetire p kat) s fun t => FailsWith s t p d r sQUOTA 0) ∧
      (∀ x, may → s.swap = none → spareOf s = some x → 24 ≤ activeVats s →
        (Answers (.vatRetire p true) s fun t => (vatStateOf t n = 2 ∨ vatStateOf t n = 5) ∧ (s.store.curves = [] → vatStateOf t n = 2) ∧
          vatStateOf t x = 3 ∧ phys t n = phys s x ∧ phys t x = phys s n ∧ getCfg t 8 0 = some (remapRecord t) ∧ t.fw.vatBad = s.fw.vatBad.erase n ∧
          Completed s t p d (respond sOK r.command [BitVec.ofNat 8 (phys s x)])) ∧
        (Answers (.vatRetire p false) s fun t => vatStateOf t n = 2 ∧ t.remap = s.remap ∧ powered t (phys s x) = false ∧
          Completed s t p d (respond sINTERNAL r.command [])))) ∧
    (Taken s p 0x0B06 d r →
      (vatStateOf s n = 2 → n ∉ s.fw.vatBad → loads = false → trims = false → Answers (.vatResume p) s fun t =>
        let u := if n ∈ s.fw.calDue then setTrim s q (trimFromCal s n) else s
        t = complete (admitWaiting (activate { u with fw := { u.fw with calDue := u.fw.calDue.erase n } } n)) p.val d.seq (respond sOK r.command []) ∧
        vatStateOf t n = 0 ∧ admits t q = true ∧ getReg t (R.VAT_CELL_RUN q) = ~~~(getReg s (R.VAT_CELL_HALTED q))) ∧
      (vatStateOf s n ≠ 2 ∨ n ∈ s.fw.vatBad ∨ loads = true ∨ trims = true → refused (.vatResume p)))

/-- HB. and UPD. commands complete (R152 to R157, R166, R170, R175 to R182): the head, entries and keys are read, entries
acknowledged in a page of bank 7, annotations taken; a session stages a package block by block, commits it with its digest, or aborts
it; what fails is answered with the code its rule gives. -/
def Obligations.HerdBookUpdateComplete : Prop :=
  ∀ (s : State) (p : Pail) (d : Doorbell) (r : Request) (first second : BitVec 4),
    let b := r.body
    let i := byteAt b 0
    let ok := fun (t : State) (body : Bytes) => Completed s t p d (respond sOK r.command body)
    (Taken s p 0x0D01 d r → Answers (.hbHead p) s fun t => t = complete s p.val d.seq (respond sOK r.command (headBody s))) ∧
    (Taken s p 0x0D02 d r →
      (∀ e, findEntry s (u48 b 0) = some e → Answers (.hbRead p) s fun t => t = complete s p.val d.seq (respond sOK r.command e)) ∧
      (∀ e, findEntry s (u48 b 0) = none → s.fw.held = some e → entryNumber e = u48 b 0 → Answers (.hbRead p) s fun t =>
        t = complete s p.val d.seq (respond sNOT_PERSISTED r.command e)) ∧
      (findEntry s (u48 b 0) = none → (∀ e, s.fw.held = some e → entryNumber e ≠ u48 b 0) → Answers (.hbRead p) s fun t =>
        FailsWith s t p d r sNOT_FOUND 0)) ∧
    (Taken s p 0x0D03 d r → let n := u48 b 0; let c := Instr.hbAck p first second
      (s.fw.ring.isSome = true → Idles c s) ∧
      (s.fw.ring = none →
        (newestNumber s < n → Answers c s fun t => FailsWith s t p d r sBAD_PARAMETER 0x400000) ∧
        (n ≤ newestNumber s → n ≤ acked s → Answers c s fun t => t = complete s p.val d.seq (respond sOK r.command (headBody s))) ∧
        (∀ q w, n ≤ newestNumber s → acked s < n → s.flash.linkUp = true → s.ext.dip = none → first ≠ 2 → first ≠ 4 → first ≠ 8 →
          ackPlace s (ackCurrent s) 0 = (some q, w) → s.fw.held = none → Answers c s fun t => acked t = n ∧ ok t (headBody t)) ∧
        (∀ u, n ≤ newestNumber s → acked s < n → recordAck s n first second = (true, u) → let w := ringNext u 0
          (w.fw.ring = none → Answers c s fun t => t = complete w p.val d.seq (respond sOK r.command (headBody w))) ∧
          (w.fw.ring ≠ none → Answers c s fun t => t = w)) ∧
        (∀ u, n ≤ newestNumber s → acked s < n → recordAck s n first second = (false, u) → Answers c s fun t =>
          t = complete u p.val d.seq (respond sINTERNAL r.command [])))) ∧
    (Taken s p 0x0D04 d r → Answers (.hbAnnotate p) s fun t =>
      t.store = { s.store with annotations := s.store.annotations ++ [(r.part, b.take 1 ++ slice b 2 32)] } ∧
      ok t (leBytes 2 (annotationsUse s r.part + 1))) ∧
    (Taken s p 0x0D05 d r → Answers (.hbPubkey p) s fun t =>
      (∀ k, s.store.hbKey = some k → t = complete s p.val d.seq (respond sOK r.command
        (slice k.modulus 0 384 ++ slice k.cert 0 384 ++ leBytes 6 k.keyFrom ++ zeros 2 ++ identityArea s))) ∧
      (s.store.hbKey = none → t = complete s p.val d.seq (respond sOK r.command (zeros 774 ++ zeros 2 ++ identityArea s)))) ∧
    (Taken s p 0x0E01 d r →
      ((getStaging s i).state ≠ stINSTALLED → (getStaging s (3 - i)).state ≠ stSTAGED → s.fw.upd = none → Answers (.updBegin p) s fun t =>
        t.fw.upd = some (s.fw.nextId, i) ∧ (getStaging t i).state = stRECEIVING ∧ (getStaging t i).total = u32 b 4 ∧ ok t (leBytes 4 s.fw.nextId)) ∧
      ((getStaging s i).state = stINSTALLED → Answers (.updBegin p) s fun t => FailsWith s t p d r sBAD_PARAMETER 0x300000) ∧
      ((getStaging s i).state ≠ stINSTALLED → (getStaging s (3 - i)).state = stSTAGED ∨ s.fw.upd ≠ none → Answers (.updBegin p) s fun t =>
        FailsWith s t p d r sEXISTS 0)) ∧
    (Taken s p 0x0E02 d r → updSlotOf s r = none → ∀ code, Answers (.updBlock p code) s fun t => FailsWith s t p d r sNOT_FOUND 0) ∧
    (∀ slot, Taken s p 0x0E02 d r → updSlotOf s r = some slot → let off := u32 b 4; let len := u16 b 8
      let bank := slotBank slot; let page := off / 4096; let total := (getStaging s slot).total; let usable := blockUsable s (bank * 64 + page / 64)
      let fails := fun (code : BitVec 4) (status detail : Nat) => Answers (.updBlock p code) s fun t =>
        Completed s t p d (respond status r.command [] detail) ∧ t.store = s.store
      (total ≤ off → ∀ code, fails code sBAD_PARAMETER 4) ∧
      (off < total → total < off + len ∨ (len < 4096 ∧ off + len ≠ total) → ∀ code, fails code sBAD_PARAMETER 8) ∧
      (off < total → off + len ≤ total → (4096 ≤ len ∨ off + len = total) →
        (usable = false → ∀ code, fails code sINTEGRITY 0x50000) ∧
        (usable = true → pageBlank s bank page = false → ∀ code, fails code sEXISTS 0) ∧
        (usable = true → pageBlank s bank page = true → s.flash.linkUp = false → ∀ code, fails code sINTEGRITY 0x80000) ∧
        (usable = true → pageBlank s bank page = true → s.flash.linkUp = true → s.ext.dip ≠ none → ∀ code, fails code sINTEGRITY 0x40000) ∧
        (usable = true → pageBlank s bank page = true → s.flash.linkUp = true → s.ext.dip = none →
          (∀ code, code ≠ 2 → code ≠ 4 → code ≠ 8 → Answers (.updBlock p code) s fun t =>
            pageWords t (pageKey s bank page) = packWords (b.drop 16 ++ List.replicate (4096 - len) 0xFF) ∧ ok t []) ∧
          fails 2 sINTEGRITY 0x20000 ∧ fails 4 sINTEGRITY 0x40000 ∧ fails 8 sINTEGRITY 0x80000))) ∧
    (Taken s p 0x0E03 d r → Answers (.updStatus p) s fun t => let v := getStaging s i; let bank := slotBank i
      t = complete s p.val d.seq (respond sOK r.command ([BitVec.ofNat 8 v.state, BitVec.ofNat 8 v.outcome] ++
        leBytes 2 (if pageBlank s bank 0 then 0 else leAt (pageBytes s bank 0) 8 2) ++ leBytes 4 v.total ++
        leBytes 4 (pagesProgrammed s i) ++ leBytes 4 v.installSeq ++ slice v.digest 0 32))) ∧
    (Taken s p 0x0E04 d r → updSlotOf s r = none → ∀ x, Answers (.updCommit p x) s fun t => FailsWith s t p d r sNOT_FOUND 0) ∧
    (∀ slot, Taken s p 0x0E04 d r → updSlotOf s r = some slot → let all := allProgrammed s slot (getStaging s slot).total
      (all = true → s.flash.linkUp = true → Answers (.updCommit p true) s fun t => let dg := sha256 (slotBytes s slot 0 (getStaging s slot).total)
        t.fw.upd = none ∧ (getStaging t slot).state = stSTAGED ∧ (getStaging t slot).digest = dg ∧ ok t dg) ∧
      (∀ x, all = true → x = false ∨ s.flash.linkUp = false → Answers (.updCommit p x) s fun t =>
        Completed s t p d (respond sINTEGRITY r.command []) ∧ t.fw.upd = none ∧ t.store = s.store) ∧
      (all = false → ∀ x, Answers (.updCommit p x) s fun t => FailsWith s t p d r sBAD_PARAMETER 0x310000)) ∧
    (Taken s p 0x0E05 d r →
      ((getStaging s i).state ≠ stINSTALLED → Answers (.updAbort p) s fun t =>
        (getStaging t i).state = stEMPTY ∧ (∀ slot, t.fw.upd.map (·.2) = some slot → slot ≠ i) ∧ ok t []) ∧
      ((getStaging s i).state = stINSTALLED → Answers (.updAbort p) s fun t => FailsWith s t p d r sBAD_PARAMETER 0x300000))

/-- The deque engine completes (R195, R199, R201 to R203, R206): a push puts the ticket at the head or is refused full, a drain
takes the oldest unpinned ticket, a pop takes the oldest completion and completes its pail's request; a skim asks the next
neighbour while R201 allows it, is served with its ticket marked, and brings the ticket home or goes on; a back-off ends. What the
supervisor writes to a vat that a swap in progress names waits (R188), and a skim at a boundary in HOLD (R214); a halted supervisor pops nothing.
Which free ticket a skim names, the order among cells that wait with DONE, and the length of the body of a command whose work a cell's
program has done are the model's choices (log entries 8 and 12). -/
def Obligations.DequeSkimComplete : Prop :=
  ∀ (s : State) (vat : VatId) (value : BitVec 16),
    let p := phys s vat.val
    let v := getVat s p
    let k := fld value 13 10
    let tk := fld value 9 0
    let result := fun (t : State) => getReg t (R.VAT_DQ_RESULT p)
    let swapping := swapHolds s (R.VAT_CTRL vat.val)
    (swapping = true → Idles (.push vat value) s ∧ Idles (.drain vat value) s) ∧
    (swapping = false → admits s p = true → (deque s p k).length < 64 → v.waiters = [] → Answers (.push vat value) s fun t =>
      deque t p k = tk :: deque s p k ∧ (∀ j, j ≠ k → deque t p j = deque s p j) ∧ result t = 0x8000 ∧
      (getVat t p).backoff = false ∧ SameMem s t ∧ SameCellsBut s t 2000) ∧
    (swapping = false → (admits s p = false ∨ 64 ≤ (deque s p k).length) → Answers (.push vat value) s fun t =>
      (∀ j, deque t p j = deque s p j) ∧ result t = 0x4000 ∧ Quiet s t [R.VAT_DQ_RESULT p]) ∧
    (let j := fld value 3 0;
      swapping = false → v.waiters = [] → (∀ x, oldestUnpinned s p j = some x → Answers (.drain vat value) s fun t =>
        deque t p j = (deque s p j).erase x ∧ (∀ i, i ≠ j → deque t p i = deque s p i) ∧ result t = BitVec.ofNat 16 (0x8000 + x) ∧ SameMem s t) ∧
      (oldestUnpinned s p j = none → Answers (.drain vat value) s fun t => (∀ i, deque t p i = deque s p i) ∧ result t = 0 ∧ SameMem s t)) ∧
    (supHalted s = true → Idles (.vatCqPop vat) s) ∧
    (supHalted s = false → v.cq = [] → Answers (.vatCqPop vat) s fun t => t = { s with lastRead := dataWord 0 }) ∧
    (∀ x rest, supHalted s = false → v.cq = x :: rest → x < 1024 → (∀ i, i < 16 → (getCell s (p * 16 + i)).wait ≠ .doneFull) →
      let u := keepReserves { modVat s p (fun v => { v with cq := rest }) with lastRead := dataWord (BitVec.ofNat 16 (0x8000 + x)) } vat.val
      let pail := fld (ticketWord s p x 1) 5 0
      let status := (ticketWord s p x 28).toNat
      (bit (ticketWord s p x 1) 13 = true → Answers (.vatCqPop vat) s fun t =>
        t = admitWaiting (ticketDone u p x status)) ∧
      (∀ d, bit (ticketWord s p x 1) 13 = false →
        (getPail s pail).queue.find? (fun q => decide (q.seq = ticketWord s p x 0) && q.buf.isSome) = some d →
        (∀ r resp, d.phase = .done r resp → Answers (.vatCqPop vat) s fun t => t = admitWaiting (complete u pail d.seq resp)) ∧
        ∀ r, d.phase = .taken r → Answers (.vatCqPop vat) s fun t => ∃ body n, body.length ≤ 8176 ∧
          t = admitWaiting (complete { u with fresh := n } pail d.seq (mapStatus r.command (respond status r.command body))))) ∧
    (maySkim s p = false → Idles (.skimRequest vat) s) ∧
    (∀ x, maySkim s p = true → v.skim = none → v.backoff = false → freeTicket s p = some x →
      (∀ e, nextDir s p 0 = some e → Answers (.skimRequest vat) s fun t => (getVat t p).skim = some ⟨e, x, none⟩ ∧ SameMem s t) ∧
      (nextDir s p 0 = none → Answers (.skimRequest vat) s fun t => (getVat t p).skim = none ∧ (getVat t p).backoff = true ∧
        (logicalOf s p < 32 → t.evc.pend.getLsbD (8 * logicalOf s p + 5) = true))) ∧
    (∀ q, v.skim = some q → q.reply = none →
      (∀ n, neighbour s p q.dir = some n → powered s n = true → boundary s n = 1 → Idles (.skimServe vat) s) ∧
      (neighbour s p q.dir = none → Answers (.skimServe vat) s fun t => (getVat t p).skim = some { q with reply := some none } ∧ SameMem s t) ∧
      (∀ n j x, neighbour s p q.dir = some n → powered s n = true → admits s n = true → boundary s n = 0 →
        greatest (unpinnedCount s n) (List.range 16) = some j → oldestUnpinned s n j = some x → Answers (.skimServe vat) s fun t =>
          deque t n j = (deque s n j).erase x ∧ ∃ ws, (getVat t p).skim = some { q with reply := some (some ws) } ∧ ws.length = 32)) ∧
    (∀ q, v.skim = some q → q.reply = some none →
      (∀ e, maySkim s p = true → nextDir s p (q.dir + 1) = some e → Answers (.skimReply vat) s fun t =>
        (getVat t p).skim = some ⟨e, q.ticket, none⟩ ∧ SameMem s t) ∧
      (maySkim s p = true → nextDir s p (q.dir + 1) = none → Answers (.skimReply vat) s fun t =>
        (getVat t p).skim = none ∧ (getVat t p).backoff = true ∧ SameMem s t) ∧
      (maySkim s p = false → Answers (.skimReply vat) s fun t => t = modVat s p (fun v => { v with skim := none }))) ∧
    (∀ q ws, v.skim = some q → q.reply = some (some ws) → v.waiters = [] → Answers (.skimReply vat) s fun t =>
      (getVat t p).skim = none ∧ (getVat t p).drainedSeen = false ∧
      (let j := (fewest s p).getD 0; deque t p j = q.ticket :: deque s p j ∧ ∀ i, i ≠ j → deque t p i = deque s p i) ∧
      (∀ i, i < ws.length → readMem t (ticketBase p q.ticket + i) = ws.getD i zeroWord) ∧
      SameMemBut s t (ticketBase p q.ticket) ws.length) ∧
    (Answers (.skimBackoffEnd vat) s fun t => (getVat t p).backoff = false ∧ (getVat t p).deques = v.deques ∧ Quiet s t [])

/-- The vat's control completes (R186 to R192, R210, R211, R214, R221, R325): limits bite with their bits, event and record; a
halted cell is taken out; VAT_CTRL keeps CLK_RUN while OPEN and POWER while not CLOSED; a swap exchanges two logical numbers; a
load is started or refused and leaves every cell at its image's entry. Writes of a vat that a swap in progress names wait; an
APPLY requested meanwhile follows the swap (R188, R386).
That VAT_CTRL is judged by the settings before the write is the model's reading (log entry 56), and so is that a load of a vat without
power, or of an image a word of which the table refuses, ends with ERR (log entry 118). -/
def Obligations.VatControlComplete : Prop :=
  ∀ (s : State) (vat : VatId) (value : BitVec 16) (cell : CellIx) (unit : ArbUnit),
    let n := vat.val
    let p := phys s n
    let w := R.VAT_CTRL p
    let old := getReg s w
    let master := masterOfKey s (p * 16 + cell.val)
    let free := swapHolds s (R.VAT_CTRL n) = false
    let idle := (∀ q, q < 34 → (getVat s q).churn.jobs = [] ∧ (getVat s q).mac.jobs = []) ∧ ∀ c, c < 64 → (getDma s c).phase = .idle
    (¬free → Idles (.vatCtrlWrite vat value) s ∧ Idles (.vatCellRun vat value) s ∧ Idles (.vatLoad vat value) s) ∧
    (getFld s (R.VAT_WDOG_CFG p) 15 8 ≠ 0 → Answers (.holdLimitBite vat unit cell) s fun t =>
      getFld t (R.VAT_WDOG_UNIT p) 7 4 = cell.val ∧
      getBit t (R.VAT_WDOG_UNIT p) (match unit with
        | .memory => 0
        | .churn => 1
        | .mac => 2) = true ∧
      Latched s t 3 (vatSource s p 2) .none master 0 ∧ SameMem s t) ∧
    (getFld s (R.VAT_WDOG_CFG p) 7 0 ≠ 0 → (getCell s (p * 16 + cell.val)).ticket ≠ none → Answers (.ticketLimitBite vat cell) s fun t =>
      getBit t (R.VAT_WDOG_CELL p) cell.val = true ∧ Latched s t 3 (vatSource s p 2) .none master 0 ∧ SameMem s t) ∧
    (supHalted s = true → Idles (.cellHaltHandling vat cell) s) ∧
    (supHalted s = false → dmaInUse s = false → getBit s (R.VAT_CELL_HALTED p) cell.val = true → getBit s (R.VAT_CELL_RUN p) cell.val = true → deque s p cell.val = [] →
      haltedCount s p < 4 → Answers (.cellHaltHandling vat cell) s fun t => ∃ u, t = admitWaiting u ∧
        getBit u (R.VAT_CELL_RUN p) cell.val = false ∧ getBit u (R.VAT_WDOG_CELL p) cell.val = false ∧
        (getCell u (p * 16 + cell.val)).ticket = none ∧ SameMem s u) ∧
    (free → bit old 0 = true → bit value 0 = true → Answers (.vatCtrlWrite vat value) s fun t => getReg t w =
      BitVec.ofNat 16 (b2n (bit value 4) * 16 + min 2 (fld value 3 2) * 4 + b2n (bit value 1 || (bit old 1 && decide (fld old 3 2 = 0))) * 2 + 1) ∧
      Quiet s t [w]) ∧
    (free → bit old 0 = true → bit value 0 = false → (fld old 3 2 ≠ 2 ∨ bit old 1 = true) → Answers (.vatCtrlWrite vat value) s fun t =>
      bit (getReg t w) 0 = true ∧ Latched s t 1 578 .write 512 (BitVec.ofNat 32 (R.VAT_CTRL (logicalOf s p))) ∧ SameMem s t) ∧
    (free → bit old 0 = true → bit value 0 = false → fld old 3 2 = 2 → bit old 1 = false → Answers (.vatCtrlWrite vat value) s fun t =>
      bit (getReg t w) 0 = false ∧ ∀ k, k < 16 → getCell t (p * 16 + k) = getCell State.reset (p * 16 + k)) ∧
    (free → Answers (.vatCellRun vat value) s fun t => getReg t (R.VAT_CELL_RUN p) = value ∧ SameMem s t ∧
      ∀ k, k < 16 → bit value k = false → (getCell t (p * 16 + k)).wait = .none ∨ ∃ x, (getCell t (p * 16 + k)).wait = .mem x) ∧
    (let a := fld value 5 0; let b := fld value 13 8;
      bit value 15 = true → (a < 34 → b < 34 → s.swap = none → swapOk s (phys s a) = true → swapOk s (phys s b) = true →
        Answers (.vatSwap value) s fun t => t.swap = some (a, b) ∧ getBit t R.VAT_SWAP_STATUS 1 = false ∧ t.remap = s.remap) ∧
      ((34 ≤ a ∨ 34 ≤ b ∨ s.swap ≠ none ∨ swapOk s (phys s a) = false ∨ swapOk s (phys s b) = false) → Answers (.vatSwap value) s fun t =>
        t.swap = s.swap ∧ getBit t R.VAT_SWAP_STATUS 1 = true ∧ t.remap = s.remap)) ∧
    (∀ a b, s.swap = some (a, b) → Answers .swapComplete s fun t => t.swap = none ∧ phys t b = phys s a ∧
      (a ≠ b → phys t a = phys s b) ∧ (∀ c, c ≠ a → c ≠ b → phys t c = phys s c) ∧ Quiet s t [] ∧
      t.act = if s.act.applying then (applyTable s).act else s.act) ∧
    (let a := (regPair s (R.VAT_LOAD_ADDR_LO p) (R.VAT_LOAD_ADDR_HI p)).toNat;
      free → bit value 0 = true → (getVat s p).loading = none →
      (getReg s (R.VAT_CELL_RUN p) = 0 → 0x10080000 ≤ a → a < 0x10100000 → imageRefused s a = none → imageOk s a = true → powered s p = true →
        Answers (.vatLoad vat value) s fun t => (getVat t p).loading = some (BitVec.ofNat 32 a) ∧ (getVat t p).loadDone = false ∧
          (getVat t p).churn.jobs = [] ∧ (getVat t p).mac.jobs = [] ∧ SameMem s t) ∧
      ((getReg s (R.VAT_CELL_RUN p) ≠ 0 ∨ a < 0x10080000 ∨ 0x10100000 ≤ a ∨ imageRefused s a ≠ none ∨ imageOk s a = false ∨ powered s p = false) → Answers (.vatLoad vat value) s fun t =>
        (getVat t p).loading = none ∧ (getVat t p).loadErr = true ∧ SameMem s t ∧
        (logicalOf s p < 32 → t.evc.pend.getLsbD (8 * logicalOf s p + 4) = true))) ∧
    (∀ a, (getVat s p).loading = some a → s.boot.step ≠ 7 → s.fw.reload = [] → Answers (.loadComplete vat) s fun t =>
      (getVat t p).loading = none ∧ (getVat t p).loadDone = true ∧ (getVat t p).cq = [] ∧ (∀ k, deque t p k = []) ∧
      getReg t (R.VAT_CELL_HALTED p) = 0 ∧ (getVat t p).waiters = [] ∧ (getVat t p).skim = none ∧
      ∀ k, k < 16 → let bank := setBankC zeroBank 0 (vatCap (logicalOf s p)); let entry := BitVec.ofNat 20 (imgField s a.toNat 12);
        let evb := BitVec.ofNat 16 (imgField s a.toNat 14);
        getCell t (p * 16 + k) = { cellReset with main := { bank with pc := entry }, shadow := bank, evb := evb }) ∧
    (∀ x t, hasMain s = true → boundary s p = 1 → powered s p = true → s.mesh.xfers = [(x, some t)] →
      heldAt s (waddrNow s t.addr.toNat t.pos) = true → t.pos = some p → t.phase = .request → idle →
      Answers (.boundaryHoldTimeout vat) s fun u =>
        u = setXfer s x (some { t with words := [], phase := .reply 10, cause := some ⟨.bus, some t.addr⟩, hop := 0 })) ∧
    (hasMain s = true → boundary s p = 1 → powered s p = true → s.mesh.xfers = [] → idle →
      Answers (.boundaryHoldTimeout vat) s fun t => t = s)

/-- The churn completes (R225, R227, R231, R239, R241, R242, R245, R247 to R249, R252, R253): at a yield point the next context is granted
and a cancelled job abandoned; the checks that need multiplications end a job in its first grant; a job whose draw waits stays in its
grant, and an RSA_KEYGEN goes on with another candidate; a CURVE_SET is refused with the check that fails; a job's end leaves its STATUS
and frees its context, or where a result region waits the job keeps its results, which a cancel no longer stops; passes that differ, by
the operands too, are STATUS MISMATCH with CHN_LAST_MISMATCH; known-answer tests begin where no job is held, and end passed or failed. A
register of a vat without power is a bus fault (R29). -/
def Obligations.ChurnComplete : Prop :=
  ∀ (s : State) (vat : VatId) (value : BitVec 16),
    let n := vat.val
    let p := phys s n
    let c := (getVat s p).churn
    let key := p * 16 + c.holder
    let idx := 3 * logicalOf s p + 1
    let jobOf := fun (t : State) (k : Nat) => tget (fun _ => (none : Option ChurnJob)) (getVat t p).churn.jobs k
    let still := s.swap = none ∧ ∀ q, boundary s q ≠ 1
    let ended := fun (st : Nat) (t : State) => jobOf t c.holder = none ∧ (getCell t key).churnStatus = BitVec.ofNat 16 st
    let wrote := fun (job : ChurnJob) (t : State) => ended 0 t ∨ ended 8 t ∨ ended 9 t ∨
      (¬still ∧ ∃ res, jobOf t c.holder = some { job with begun := true, owed := [], later := [], results := some res })
    let differed := fun (job : ChurnJob) (t : State) => ended 13 t ∧
      getReg t (R.CHN_LAST_MISMATCH p) = BitVec.ofNat 16 (c.holder * 4096 + job.op) ∧ getBit t (R.CHN_EVENT p) 0 = true
    let refused := fun (t : State) => ended 12 t ∧ getBit t (R.CHN_EVENT p) 5 = true
    (∀ x u, c.busy = false → s.tmp.stall = false → churnWaiting s p ≠ [] → arbGrant s idx (churnWaiting s p) = (some x, u) →
      Answers (.yieldPoint vat) s fun t => (getVat t p).churn.busy = true ∧ (getVat t p).churn.holder = x ∧
        (x ≠ c.holder → getReg t (R.CHN_SWITCHES p) = BitVec.ofNat 16 (min 0xFFFF ((getReg s (R.CHN_SWITCHES p)).toNat + 1))) ∧
        (x = c.holder → getReg t (R.CHN_SWITCHES p) = getReg s (R.CHN_SWITCHES p)) ∧ SameMem s t) ∧
    (∀ job res mm, c.busy = true → jobOf s c.holder = some job → job.results = some res → Idles (.yieldPoint vat) s ∧
      Answers (.churnJobEnd vat mm) s fun t => t = churnWrite s p c.holder job res) ∧
    (∀ job, c.busy = true → jobOf s c.holder = some job → job.results = none → let cv := (curveAt s p job.curve).getD p256
      (job.op = 0x12 → Idles (.yieldPoint vat) s) ∧
      (∀ u, job.op ≠ 0x12 → job.op ≠ 0x31 → (job.begun = true ∨ lateCheck job cv = none) → drawAll s p 2 job.owed = (.served, [], u) →
        (job.cancel = true → Answers (.yieldPoint vat) s fun t => ended 14 t ∧ getBit t (R.CHN_EVENT p) 1 = true) ∧
        (job.cancel = false → job.op ≠ 0x13 → Answers (.yieldPoint vat) s fun t =>
          jobOf t c.holder = some { job with begun := true, owed := [] } ∧ SameMem s t)) ∧
      (∀ st det, job.op ≠ 0x12 → job.op ≠ 0x31 → job.begun = false → lateCheck job cv = some (st, det) → Answers (.yieldPoint vat) s (ended st))) ∧
    (∀ job mm, c.busy = true → jobOf s c.holder = some job → job.results = none → job.op = 0x31 → let cc := curveOfInput job.input
      (fieldOk cc = false → Answers (.yieldPoint vat) s refused ∧ Answers (.churnJobEnd vat mm) s refused) ∧
      (fieldOk cc = true →
        (∀ left u, drawAll s p 2 job.owed = (.waits, left, u) →
          (Answers (.yieldPoint vat) s fun t => jobOf t c.holder = some { job with begun := true, owed := left } ∧ SameMem s t) ∧
          (Answers (.churnJobEnd vat mm) s fun t => jobOf t c.holder = some { job with begun := true, owed := left } ∧ SameMem s t)) ∧
        (∀ u e, drawAll s p 2 job.owed = (.served, [], u) → job.owed ≠ [] → (∀ bases, curveStart cc bases = some e) →
          Answers (.yieldPoint vat) s refused ∧ Answers (.churnJobEnd vat mm) s refused) ∧
        ((job.owed = [] ∨ ∀ bases, curveStart cc bases = none) →
          (∀ u, drawAll s p 2 job.owed = (.served, [], u) → job.cancel = false → Answers (.yieldPoint vat) s fun t =>
            jobOf t c.holder = some { job with begun := true, owed := [] } ∧ SameMem s t) ∧
          (∀ u, drawAll s p 2 job.owed = (.served, [], u) → job.cancel = true → Answers (.yieldPoint vat) s (ended 14)) ∧
          (∀ u, drawAll s p 2 (job.owed ++ job.later) = (.served, [], u) →
            (job.cancel = true → Answers (.churnJobEnd vat mm) s (ended 14)) ∧
            (∀ e, job.cancel = false → (∀ bases, curveRest cc bases = some e) → Answers (.churnJobEnd vat mm) s refused) ∧
            (job.cancel = false → (∀ bases, curveRest cc bases = none) → Answers (.churnJobEnd vat mm) s fun t => wrote job t ∧
              tget (fun _ => none) (getVat t p).churn.curves job.curve = some cc))))) ∧
    (∀ job mm, c.busy = true → jobOf s c.holder = some job → job.results = none → job.op ≠ 0x31 → let cv := (curveAt s p job.curve).getD p256
      (∀ st det, job.begun = false → lateCheck job cv = some (st, det) → Answers (.churnJobEnd vat mm) s (ended st)) ∧
      ((job.begun = true ∨ lateCheck job cv = none) →
        (∀ left u, drawAll s p 2 (job.owed ++ job.later) = (.waits, left, u) → (job.op ≠ 0x13 ∨ job.pair ≠ none) →
          Answers (.churnJobEnd vat mm) s fun t => jobOf t c.holder = some { job with begun := true, owed := left, later := [] } ∧
            (getVat t p).churn.busy = true ∧ SameMem s t) ∧
        (∀ left u, drawAll s p 2 (job.owed ++ job.later) = (.stopped, left, u) → (job.op ≠ 0x13 ∨ job.pair ≠ none) →
          Answers (.churnJobEnd vat mm) s fun t => ended 15 t ∧ getBit t (R.CHN_EVENT p) 3 = true) ∧
        (∀ u, drawAll s p 2 job.owed = (.served, [], u) → job.op = 0x13 → job.pair = none → Answers (.churnJobEnd vat mm) s fun t =>
          ∃ j, jobOf t c.holder = some j ∧ j.pair = (rsaSearch u (rsaWords job.size)).1 ∧ (getVat t p).churn.busy = true ∧ SameMem s t) ∧
        (∀ u, drawAll s p 2 (job.owed ++ job.later) = (.served, [], u) → (job.op ≠ 0x13 ∨ job.pair ≠ none) →
          (∀ st det, resultCheck job cv = some (st, det) → Answers (.churnJobEnd vat mm) s (ended st)) ∧
          (resultCheck job cv = none → let twice := isPrivate job.op || (job.rep && decide (job.op = 0x12 ∨ job.op = 0x22))
            (mm = true → twice = true → Answers (.churnJobEnd vat mm) s (differed job)) ∧
            ((mm = false ∨ twice = false) → Answers (.churnJobEnd vat mm) s fun t => ∃ x,
              if passesDiffer job cv x = true then differed job t
              else if job.cancel = true then ended 14 t
              else wrote job t ∨ (job.op = 0x21 ∧
                ∃ j, jobOf t c.holder = some j ∧ (j.owed, j.later) = churnDraws 0x21 (rsaWords job.size) cv job.rep)))))) ∧
    (∀ q ∈ [(Instr.chnCancel vat value, R.CHN_CANCEL n), (.chnKat vat value, R.CHN_KAT n)], s.ext.mainPower = true →
      accessWaits s q.2 = false → isHole s q.2 true = true → Answers q.1 s fun t => t = busFault s .write 512 q.2) ∧
    (SupReaches s (R.CHN_CANCEL n) → c.busy = false → Answers (.chnCancel vat value) s fun t => ∀ k, k < 16 →
      (bit value k = true → (∀ job, jobOf s k = some job → job.results = none) → jobOf t k = none) ∧
      (∀ job, jobOf s k = some job → job.results ≠ none → jobOf t k = some job) ∧ (bit value k = false → jobOf t k = jobOf s k)) ∧
    (∀ job, SupReaches s (R.CHN_CANCEL n) → c.busy = true → jobOf s c.holder = some job → job.results = none → bit value c.holder = true → Answers (.chnCancel vat value) s fun t =>
      jobOf t c.holder = some { job with cancel := true }) ∧
    (SupReaches s (R.CHN_KAT n) → bit value 15 = true → c.kat = false → c.jobs = [] → Answers (.chnKat vat value) s fun t =>
      (getVat t p).churn = { c with kat := true, katPass := false, katFail := false } ∧ Quiet s t []) ∧
    (SupReaches s (R.CHN_KAT n) → (bit value 15 = false ∨ c.kat = true ∨ c.jobs ≠ []) → Idles (.chnKat vat value) s) ∧
    (c.kat = true → n ∉ s.fw.katWait →
      (Answers (.churnKatEnd vat true) s fun t => (getVat t p).churn = { c with kat := false, katPass := true, katFail := false } ∧ Quiet s t []) ∧
      (Answers (.churnKatEnd vat false) s fun t => (getVat t p).churn = { c with kat := false, katPass := false, katFail := true } ∧
        Latched s t 3 (vatSource s p 6) .none 512 0))

/-- The MAC unit completes (R265, R266, R271, R274 to R276, R278, R279): a grant point takes 1 KiB more of the input; a job's
end leaves its STATUS and frees its context, or where its results wait it keeps them; one whose input waits stays (R214), and one whose key
cannot be formed ends with the STATUS that says so; jobs are cancelled,
tests run; counters are read, incremented and raised, by jobs and by commands, never past their largest value. A register of a vat
without power is a bus fault (R29). -/
def Obligations.MacUnitComplete : Prop :=
  ∀ (s : State) (vat : VatId) (value : BitVec 16),
    let n := vat.val
    let p := phys s n
    let u := (getVat s p).mac
    let i := getFld s (R.MAC_CTR_SEL p) 5 0
    let ctr := (counterAt s p i).toNat
    let jobOf := fun (t : State) (k : Nat) => tget (fun _ => (none : Option MacJob)) (getVat t p).mac.jobs k
    let wrote := fun (k : Nat) (t : State) => jobOf t k = none ∧ ((getCell t (p * 16 + k)).macStatus = 0 ∨
      (getCell t (p * 16 + k)).macStatus = 8 ∨ (getCell t (p * 16 + k)).macStatus = 9)
    let shown := fun (t : State) (x : Nat) (st : BitVec 16) => (counterAt t p i).toNat = x ∧ getReg t (R.MAC_CTR_STATUS p) = st ∧
      getReg t (R.MAC_CTR_VAL p 0) = BitVec.ofNat 16 x ∧ getReg t (R.MAC_CTR_VAL p 1) = BitVec.ofNat 16 (x / 2 ^ 16) ∧
      getReg t (R.MAC_CTR_VAL p 2) = BitVec.ofNat 16 (x / 2 ^ 32)
    (∀ x w, macHolder s p = none → s.tmp.stall = false → macWaiting s p ≠ [] → arbGrant s (3 * logicalOf s p + 2) (macWaiting s p) = (some x, w) →
      Answers (.macGrantPoint vat) s fun t => (getVat t p).mac.busy = true ∧ (getVat t p).mac.holder = x ∧ SameMem s t) ∧
    (∀ k j j1 j2 b w, macHolder s p = some (k, j) → j.results = none → j.input.length + 512 < jobInWords j → keyed s p j = .ok (j1, b) →
      (readInput s (masterOfKey s (p * 16 + k)) j1 512).1 = some (.ok j2) →
      useBlocks s p (b + 1024 / (if j2.op = 4 ∨ j2.op = 8 then 64 else blockLen j2.ktype)) = (.served, w) → j2.cancel = false →
      Answers (.macGrantPoint vat) s fun t => jobOf t k = some j2 ∧ j2.input.length ≤ j.input.length + 512 ∧ SameMem s t) ∧
    (∀ k j r, macHolder s p = some (k, j) → j.results = some r → Idles (.macGrantPoint vat) s ∧ (jobInWords j ≤ j.input.length + 512 →
      Answers (.macJobEnd vat) s fun t => t = macWrite s p k j r.1 r.2)) ∧
    (∀ k j, macHolder s p = some (k, j) → j.results = none → spanWaits s ((capOf j.inCap).base + j.input.length) (min 512 (jobInWords j - j.input.length)) = true →
      keyed s p j = .ok (j, 0) → (jobInWords j ≤ j.input.length + 512 → j.op ≠ 0x30 → j.op ≠ 0x31 → Idles (.macJobEnd vat) s) ∧ Idles (.macGrantPoint vat) s) ∧
    (∀ k j j1 j2 b w, macHolder s p = some (k, j) → j.results = none → jobInWords j ≤ j.input.length + 512 → j.op ≠ 0x30 → j.op ≠ 0x31 →
      (readInput s (masterOfKey s (p * 16 + k)) j 512).1 = some (.ok j1) → keyed s p j1 = .ok (j2, b) →
      useBlocks s p (b + (opBlocks j2 - j.input.length / 512 * (1024 / (if j.op = 4 ∨ j.op = 8 then 64 else blockLen j.ktype)))) = (.served, w) →
      j2.cancel = false → let r := macResult j2 (j2.keyBytes.getD [])
      let waits := spanWaits w (capOf j2.outCap).base r.1.length || spanWaits w j2.descr.toNat 24
      (waits = false → Answers (.macJobEnd vat) s (wrote k)) ∧
      (waits = true → Answers (.macJobEnd vat) s fun t => jobOf t k = some { j2 with results := some r })) ∧
    (∀ k j, macHolder s p = some (k, j) → j.results = none → j.op = 0x30 ∨ j.op = 0x31 → jobInWords j ≤ j.input.length + 512 →
      (j.cancel = true → Answers (.macJobEnd vat) s fun t => jobOf t k = none ∧ (getCell t (p * 16 + k)).macStatus = 14 ∧
        getBit t (R.MAC_EVENT p) 0 = true) ∧
      (j.cancel = false → (j.op = 0x30 ∨ (counterAt s p (fld j.ctr 5 0)).toNat + j.length % 65536 < 2 ^ 48) → spanWaits s j.descr.toNat 24 = false →
        Answers (.macJobEnd vat) s fun t => wrote k t ∧
        (counterAt t p (fld j.ctr 5 0)).toNat = (counterAt s p (fld j.ctr 5 0)).toNat + if j.op = 0x31 then j.length % 65536 else 0) ∧
      (j.cancel = false → j.op = 0x31 → 2 ^ 48 ≤ (counterAt s p (fld j.ctr 5 0)).toNat + j.length % 65536 → Answers (.macJobEnd vat) s fun t =>
        jobOf t k = none ∧ (getCell t (p * 16 + k)).macStatus = 11 ∧ (counterAt t p (fld j.ctr 5 0)).toNat = 2 ^ 48 - 1)) ∧
    (∀ k j e, macHolder s p = some (k, j) → j.results = none → j.input.length + 512 < jobInWords j → keyed s p j = .error e →
      Answers (.macGrantPoint vat) s fun t => jobOf t k = none ∧ (getCell t (p * 16 + k)).macStatus = BitVec.ofNat 16 e) ∧
    (∀ q ∈ [(Instr.macCancel vat value, R.MAC_CANCEL n), (.macKat vat value, R.MAC_KAT n), (.macCtrRead vat, R.MAC_CTR_CMD n),
        (.macCtrIncrement vat, R.MAC_CTR_CMD n), (.raise vat, R.MAC_CTR_CMD n)], s.ext.mainPower = true → accessWaits s q.2 = false →
      isHole s q.2 true = true → Answers q.1 s fun t => t = busFault s .write 512 q.2) ∧
    (SupReaches s (R.MAC_CANCEL n) → u.busy = false → Answers (.macCancel vat value) s fun t => ∀ k, k < 16 →
      (bit value k = true → (∀ j, jobOf s k = some j → j.results = none) → jobOf t k = none) ∧
      (∀ j, jobOf s k = some j → j.results ≠ none → jobOf t k = some j) ∧ (bit value k = false → jobOf t k = jobOf s k)) ∧
    (SupReaches s (R.MAC_KAT n) → bit value 15 = true → u.kat = false → u.jobs = [] → Answers (.macKat vat value) s fun t =>
      (getVat t p).mac = { u with kat := true, katPass := false, katFail := false } ∧ Quiet s t []) ∧
    (SupReaches s (R.MAC_KAT n) → (bit value 15 = false ∨ u.kat = true ∨ u.jobs ≠ []) → Idles (.macKat vat value) s) ∧
    (u.kat = true → n ∉ s.fw.katWait →
      (Answers (.macKatEnd vat true) s fun t => (getVat t p).mac = { u with kat := false, katPass := true, katFail := false } ∧ Quiet s t []) ∧
      (Answers (.macKatEnd vat false) s fun t => (getVat t p).mac = { u with kat := false, katPass := false, katFail := true } ∧
        Latched s t 3 (vatSource s p 7) .none 512 0)) ∧
    (SupReaches s (R.MAC_CTR_CMD n) → Answers (.macCtrRead vat) s fun t => shown t ctr 1) ∧
    (let a := (getReg s (R.MAC_CTR_ARG p 0)).toNat; SupReaches s (R.MAC_CTR_CMD n) →
      (ctr + a < 2 ^ 48 → Answers (.macCtrIncrement vat) s fun t => shown t (ctr + a) 1) ∧
      (2 ^ 48 ≤ ctr + a → Answers (.macCtrIncrement vat) s fun t => shown t (2 ^ 48 - 1) 3)) ∧
    (SupReaches s (R.MAC_CTR_CMD n) → Answers (.raise vat) s fun t => shown t (max ctr (ctrArg s p)) 1)

/-- The noise sources and queues complete (R280 to R285, R289 to R291): a good window releases 256 bits and its peaks; a failed
test stops the source; the start-up test's end runs it; no window, failure or end comes while a source does not sample; the central
queue takes 256 bits from the next vat, unless they arrive with a mismatch; a waiting RDRAW is served; a software read takes 16 bits
above the floor and answers 0 with UNDERRUN at or below it. What sampling leaves in a source, and whether a unit arrives with a
mismatch, are free values (log entry 3). -/
def Obligations.NoiseComplete : Prop :=
  ∀ (s : State) (vat : VatId) (run : BitVec 6) (cnt : BitVec 10) (test : HealthTest),
    let p := phys s vat.val
    let z := (getVat s p).noise
    (z.state = 2 → sampling s p = true → run.toNat < 41 → cnt.toNat < 800 → Answers (.aptWindowComplete vat run cnt) s fun t =>
      (∃ b r c, r.toNat ≤ max 1 run.toNat ∧
        (getVat t p).noise = { z with bits := if z.bits + 256 ≤ 32768 then z.bits + 256 else z.bits, sampler := b, run := r, conditioner := c }) ∧
      getReg t (R.RNG_RCT_PEAK p) = BitVec.ofNat 16 (max run.toNat (getReg s (R.RNG_RCT_PEAK p)).toNat) ∧
      getReg t (R.RNG_APT_PEAK p) = BitVec.ofNat 16 (max cnt.toNat (getReg s (R.RNG_APT_PEAK p)).toNat) ∧
      Quiet s t [R.RNG_RCT_PEAK p, R.RNG_APT_PEAK p]) ∧
    (sampling s p = false → Idles (.aptWindowComplete vat run cnt) s ∧
      (s.boot.step ≠ 3 → s.boot.step ≠ 6 → Idles (.healthTestFailure vat test) s ∧ Idles (.startupTestEnd vat) s)) ∧
    (s.boot.step ≠ 3 → s.boot.step ≠ 6 → (z.state = 1 ∨ z.state = 2) → sampling s p = true → (getSrc s 28).firing = true →
      Answers (.healthTestFailure vat test) s fun t => SameMem s t ∧
      (getVat t p).noise = { z with state := 3, cause := if test = .repetition then 1 else 2, atStartup := decide (z.state = 1) }) ∧
    (s.boot.step ≠ 3 → s.boot.step ≠ 6 → (z.state = 1 ∨ z.state = 2) → sampling s p = true → (getSrc s 28).firing = false →
      s.bat.firing.getLsbD 28 = false → srcFused s 28 = false → inVigil s = false → responseOf s 28 = 1 →
      Answers (.healthTestFailure vat test) s fun t => (getVat t p).noise.state = 3 ∧
        (getSrc t 28).firing = true ∧ t.evc.pend.getLsbD 556 = true) ∧
    (s.boot.step ≠ 3 → s.boot.step ≠ 6 → z.state = 1 → sampling s p = true → Answers (.startupTestEnd vat) s fun t =>
      (∃ b r c, (getVat t p).noise = { z with state := 2, sampler := b, run := r, conditioner := c }) ∧
      (getReg s (R.RNG_RCT_PEAK p)).toNat ≤ (getReg t (R.RNG_RCT_PEAK p)).toNat ∧
      (getReg s (R.RNG_APT_PEAK p)).toNat ≤ (getReg t (R.RNG_APT_PEAK p)).toNat ∧
      Quiet s t [R.RNG_RCT_PEAK p, R.RNG_APT_PEAK p]) ∧
    (s.central.bits + 256 ≤ 524288 → s.central.next = vat.val → powered s p = true → higherAsks s p 4 = false → getFld s (R.RNG_SRC_CFG p) 7 0 < z.bits / 256 →
      Answers .centralQueueRefill s fun t => ∃ w, (getVat w p).noise = { z with bits := z.bits - 256 } ∧ SameMem s w ∧
        ((t = bootResume (queueServed w) ∧ w.central = { bits := s.central.bits + 256, next := (vat.val + 1) % 34 }) ∨
          (t = bootResume (queueServed (fireSource w 39)) ∧ w.central = { s.central with next := (vat.val + 1) % 34 } ∧
            (getReg w R.MSH_BIC_COUNT).toNat = min 0xFFFF ((getReg s R.MSH_BIC_COUNT).toNat + 1)))) ∧
    (524288 < s.central.bits + 256 → s.boot.step ≠ 3 → s.boot.step ≠ 6 → s.fw.rootDue = false → (∀ q, q < 48 → nonceWaits s q = false) → Idles .centralQueueRefill s) ∧
    (∀ k w, (List.range 16).find? (fun k => decide ((getCell s (p * 16 + k)).wait = .rdraw)) = some k → (getVat s p).wants = [] → 16 ≤ z.bits → z.state ≠ 3 →
      fetch s (p * 16 + k) = .word w → Answers (.internalDraw vat) s fun t => (getVat t p).noise = { z with bits := z.bits - 16 } ∧
        (getCell t (p * 16 + k)).wait = .none ∧ (getFlags (getCell t (p * 16 + k))).c = true ∧
        (getG (getCell t (p * 16 + k)) (pf w 20)).tag = (if w.toNat % 2 = 1 then .secret else .data) ∧ SameCellsBut s t (p * 16 + k)) ∧
    (∀ k w, (List.range 16).find? (fun k => decide ((getCell s (p * 16 + k)).wait = .rdraw)) = some k → (z.bits < 16 ∨ z.state = 3) →
      (getVat s p).wants = [] → lowerAsks s (logicalOf s p) = false → 16 ≤ s.central.bits → fetch s (p * 16 + k) = .word w → Answers (.internalDraw vat) s fun t => (getVat t p).noise = z ∧
        t.central.bits = s.central.bits - 16 ∧ (getCell t (p * 16 + k)).wait = .none ∧
        getReg t (R.RNG_FALLBACK p) = BitVec.ofNat 16 (min 0xFFFF ((getReg s (R.RNG_FALLBACK p)).toNat + 1))) ∧
    (getFld s R.RNG_CQ_CFG 11 0 * 256 + 16 ≤ s.central.bits → Answers .rngCqData s fun t =>
      t.central = { s.central with bits := s.central.bits - 16 } ∧ t.lastRead.tag = .data ∧ Quiet s t []) ∧
    (s.central.bits < getFld s R.RNG_CQ_CFG 11 0 * 256 + 16 → Answers .rngCqData s fun t => t.central = s.central ∧
      t.lastRead = dataWord 0 ∧ getBit t R.RNG_CQ_STATUS 14 = true)

/-- The mesh completes (R214, R359 to R362, R375, R383 to R386): a read and a write once they have passed their last output, the reply at
the requester, the acknowledgement of a posted store and its refusal, a time limit, the watchdogs and an abort; what waits at a
boundary in HOLD stays a request, a reply behind a held output stays where it is, and a reply that comes home is taken once.
That a kick shows in no state, and where registers hang on the mesh, is the model's (log entries 7 and 10). -/
def Obligations.MeshComplete : Prop :=
  ∀ (s : State) (x : Nat) (t : Transfer) (atE : Bool) (router : Router) (output : Fin 6) (master : Master) (value : BitVec 16),
    let a := waddrNow s t.addr.toNat t.pos
    let cell := getCell s t.core
    let heldBy := fun (u : State) (o : Nat) => tget (fun _ => (0 : Nat)) u.mesh.held (router.val * 8 + o)
    let ram := fun (b : Nat) => region b = .sram ∨ ∃ n off, region b = .vat n off
    let sent := setXfer s x (some { t with judged := true })
    let went := travel (releaseOutputs sent t.master) x (allRounds sent)
    let back := travelBack (releaseOutputs s t.master) x (allRounds s)
    let home := ∀ q, getXfer back x = some q → xferHead back q = none
    (∀ q, getXfer s x = some t → t.phase = .request → getXfer went x = some q → xferHead went q = none → heldAt s a = false →
      let u := { t with hop := 0, age := q.age, judged := true }
      (t.ty = 0 → 0 < t.len → (∀ i, i < t.len → ram (a + i) ∧ isHole s (a + i) false = false) → Answers (.meshRequest x atE 0 []) s fun v =>
        getXfer v x = some { u with words := (List.range t.len).map (fun i => ramWord s (physAddr s (a + i))), phase := .reply 8 } ∧ SameMem s v) ∧
      (∀ w, t.words = [w] → ram a → isHole s a true = false →
        (t.ty = 1 ∨ (t.ty = 2 ∧ egressStore s t.master t.addr.toNat t.words = none)) →
        ((readMem s (physAddr s a)).tag ≠ .code → Answers (.meshRequest x atE 0 []) s fun v => readMem v (physAddr s a) = w ∧
          SameMemBut s v (physAddr s a) 1 ∧ getXfer v x = some { u with words := [], phase := .reply 9 }) ∧
        ((readMem s (physAddr s a)).tag = .code → Answers (.meshRequest x atE 0 []) s fun v => SameMem s v ∧
          getXfer v x = some { u with words := [], phase := .reply 10, cause := some ⟨.tag, some t.addr⟩ }))) ∧
    (getXfer s x = some t → t.phase = .request → t.ty.toNat ≤ 2 → heldAt s a = true → Answers (.meshRequest x atE 0 []) s fun u =>
      SameMem s u ∧ ∃ q, getXfer u x = some q ∧ q = { t with hop := q.hop, age := q.age, judged := q.judged }) ∧
    (∀ ty r o i, getXfer s x = some t → t.phase = .reply ty → xferHead s t = some (r, o, i) → outputHeld s t.master r o = true →
      Answers (.meshReply x 0 []) s fun u => getXfer u x = some t ∧ Quiet s u []) ∧
    (∀ r v, getXfer s x = some t → t.phase = .reply 8 → home → t.abandoned = false → t.ty ≠ 2 → t.words = [v] →
      t.offset = 0 → region a ≠ .register →
      cell.wait = .mem ⟨.loadG r, 1, [], none⟩ → (v.tag = .data ∨ v.tag = .secret) → Answers (.meshReply x 0 []) s fun u =>
        getCell u t.core = advance (setG { cell with wait := .none } r v) ∧ SameCellsBut s u t.core ∧ getXfer u x = none ∧ SameMem s u) ∧
    (getXfer s x = some t → t.phase = .reply 9 → home → t.abandoned = false → t.ty = 2 → t.words = [] → cell.wait = .none →
      Answers (.meshReply x 0 []) s fun u => getCell u t.core = { cell with posted := cell.posted - 1 } ∧ getXfer u x = none) ∧
    (∀ ty, getXfer s x = some t → t.phase = .reply ty → home → t.abandoned = true → Answers (.meshReply x 0 []) s fun u =>
      getXfer u x = none ∧ getReg u R.MSH_LATE = BitVec.ofNat 16 (min 0xFFFF ((getReg s R.MSH_LATE).toNat + 1)) ∧ Quiet s u [R.MSH_LATE]) ∧
    (∀ f note, getXfer s x = some t → t.phase = .request → t.abandoned = false → t.judged = false → t.ty = 2 →
      egressStore s t.master t.addr.toNat t.words = some (f, note) →
      cell.wait = .none → Answers (.postedWriteRefusal x) s fun u => getXfer u x = none ∧
        getCell u t.core = { cell with posted := cell.posted - 1, postRefused := true } ∧ SameMem s u ∧
        (s.flt.first = none → ∃ r, u.flt.first = some r ∧ r.source = 579 ∧ r.posted = true)) ∧
    (getXfer s x = some t → t.abandoned = false → t.phase ≠ .lost → Answers (.replyTimeout x) s fun u =>
      getXfer u x = some { t with abandoned := true } ∧ u.evc.pend.getLsbD 580 = true ∧ Latched s u 2 580 (xferAccess t) t.master t.addr ∧
      (cell.mask = false → SameMem s u)) ∧
    (hasMain s = true → outputExists router.val output.val = true → getFld s (R.MSH_RTR_WDOG_CFG router.val) 7 0 ≠ 0 →
      Answers (.linkWatchdogBite router output master) s fun u => heldBy u output.val = master.toNat + 1 ∧
        getBit u (R.MSH_RTR_WDOG router.val) output.val = true ∧ u.evc.pend.getLsbD 581 = true ∧ Latched s u 3 581 .none master 0) ∧
    (hasMain s = true → s.mesh.xfers = [] → Answers (.mshRtrAbort router value) s fun u =>
      ∀ o, o < 6 → heldBy u o = if bit value o then 0 else heldBy s o) ∧
    (∀ i, hasMain s = true → s.mesh.xfers = [(x, some t)] → t.abandoned = false → ¬ (513 ≤ t.master.toNat ∧ t.master.toNat < 577) →
      xferHead s t = some (router.val, output.val, i) → heldBy s output.val = t.master.toNat + 1 →
      Answers (.mshRtrAbort router (BitVec.ofNat 16 (2 ^ output.val))) s fun u => heldBy u output.val = 0 ∧
        getXfer u x = some { t with words := [], phase := .reply 10, cause := some ⟨.bus, some t.addr⟩, hop := 64 }) ∧
    (hasMain s = true → getReg s R.MSH_SWDOG_CFG ≠ 0 → Answers .supervisorWatchdogBite s fun u =>
      getBit u R.MSH_SWDOG_STATUS 0 = true ∧ u.evc.pend.getLsbD 582 = true ∧ Latched s u 3 582 .none 512 0 ∧ SameMem s u) ∧
    Idles (.mshSwdogKick value) s

/-- The access table changes through its shadow (R364, R365, R371 to R373): an entry reads back from its ten words as it was
written; a write of them stores the shadow entry, unless it covers nothing or the applied entry is locked, which sets REFUSED; a
load shows the entry; APPLY brings the shadow into force and finds its overlaps, but waits behind a swap in progress (R386); CLEAR_PART clears ENABLE in the partition's
entries whose applied LOCK is 0, and in no other. -/
def Obligations.AccessTableComplete : Prop :=
  (∀ e : ActEntry, entryOfWords (fun j => (wordsOfEntry e).getD j 0) = e) ∧ ∀ (s : State) (part : Fin 16), hasMain s = true →
    let i := (getReg s R.ACT_SEL).toNat
    let e := entryOfWords (fun j => getReg s (R.ACT_ENTRY j))
    (s.act.applying = false → s.swap = none → Answers .apply s fun t =>
      t.act = ⟨s.act.shadow, s.act.shadow, firstOverlap s.act.shadow, false⟩ ∧ Quiet s t []) ∧
    (s.act.applying = false → s.swap ≠ none → Answers .apply s fun t => t.act = { s.act with applying := true } ∧ Quiet s t []) ∧
    (s.act.applying = true → Idles .apply s) ∧
    (e.empty = false → (appliedEntry s i).lock = false → Answers .actWrite s fun t => shadowEntry t i = e ∧
      (∀ j, j ≠ i → shadowEntry t j = shadowEntry s j) ∧ t.act.applied = s.act.applied ∧ Quiet s t []) ∧
    ((e.empty = true ∨ (appliedEntry s i).lock = true) → Answers .actWrite s fun t => t.act = s.act ∧ getBit t R.ACT_STATUS 13 = true ∧
      Quiet s t [R.ACT_STATUS]) ∧
    (Answers .actLoad s fun t => (∀ j, j < 10 → getReg t (R.ACT_ENTRY j) = (wordsOfEntry (shadowEntry s i)).getD j 0) ∧ t.act = s.act ∧
      Quiet s t ((List.range 10).map R.ACT_ENTRY)) ∧
    (Answers (.clearPart part) s fun t => t.act.applied = s.act.applied ∧ Quiet s t [] ∧ ∀ k, shadowEntry t k =
      if (shadowEntry s k).owner.toNat = part.val ∧ (appliedEntry s k).lock = false then { shadowEntry s k with enable := false } else shadowEntry s k)

/-- The bus integrity code finds every change of one, two or three bits of a word and its check bits, and passes a word that
arrives as it was sent (R358). -/
def Obligations.CheckCodeDetects : Prop :=
  ∀ (w : Word), receiveWord (codeWord w) = some w ∧
    (∀ i, i < 25 → receiveWord (codeWord w ^^^ BitVec.twoPow 25 i) = none) ∧
    (∀ i j, i < j → j < 25 → receiveWord (codeWord w ^^^ BitVec.twoPow 25 i ^^^ BitVec.twoPow 25 j) = none) ∧
    (∀ i j k, i < j → j < k → k < 25 →
      receiveWord (codeWord w ^^^ BitVec.twoPow 25 i ^^^ BitVec.twoPow 25 j ^^^ BitVec.twoPow 25 k) = none)

/-- The DMA channels complete (R393 to R399, R402): START fetches or halts on an address off its boundary; ABORT ends a fetch and
writes a moving descriptor back; a good descriptor is taken, one with OWN 0 idles the channel; a burst between host and RAM moves;
the write-back counts, goes on or ends; a host time-out fails.
Which element an aborted or a wholly bad descriptor names is the model's choice (log entry 36). -/
def Obligations.DmaComplete : Prop :=
  ∀ (s : State) (ch : DmaCh) (b : Bytes),
    let c := ch.val
    let d := getDma s c
    let cur := regQuad s (R.DMA_CH_CUR c 0)
    let start := regQuad s (R.DMA_CH_DESC c 0)
    let space := descSpace s c
    let port := spacePort space
    let ev := fun (t : State) (i : Nat) => getBit t (R.DMA_CH_EVENT c) i
    (hasMain s = true → d.phase = .idle → (descAligned space start = true → Answers (.dmaStart ch) s fun t =>
        (getDma t c).phase = .fetch ∧ (getDma t c).halted = false ∧ regQuad t (R.DMA_CH_CUR c 0) = start ∧ SameMem s t) ∧
      (descAligned space start = false → Answers (.dmaStart ch) s fun t => (getDma t c).phase = .idle ∧ (getDma t c).halted = true ∧
        (getDma t c).lastCode = 7 ∧ ev t 2 = true ∧ SameMem s t)) ∧
    (hasMain s = true → d.phase ≠ .idle → Idles (.dmaStart ch) s) ∧
    (hasMain s = true → d.phase = .fetch → Answers (.dmaAbort ch) s fun t => (getDma t c).phase = .idle ∧ ev t 1 = true ∧ SameMem s t) ∧
    (∀ q, hasMain s = true → d.phase = .move → d.desc = some q → Answers (.dmaAbort ch) s fun t => (getDma t c).stopping = true ∧
      (getDma t c).phase = .writeBack (dmaStatus 1 (stopElement q) false) (BitVec.ofNat 32 (q.total - q.moved)) ∧ SameMem s t) ∧
    (let e := slice b 0 (descLength (slice b 0 32));
      d.phase = .fetch → space < 2 → hostOpen s c space = true →
      ((descOf e).control.getLsbD 31 = true → descBad e = none → Answers (.descriptorFetch ch (some b) false) s fun t =>
        (getDma t c).desc = some (descOf e) ∧ (getDma t c).phase = .move ∧ Quiet s t []) ∧
      ((descOf e).control.getLsbD 31 = false → Answers (.descriptorFetch ch (some b) false) s fun t =>
        (getDma t c).desc = none ∧ (getDma t c).phase = .idle ∧ ev t 4 = true ∧ SameMem s t) ∧
      (∀ i side, (descOf e).control.getLsbD 31 = true → descBad e = some (i, side) → Answers (.descriptorFetch ch (some b) false) s fun t =>
        (getDma t c).phase = .writeBack (dmaStatus 7 i side) (BitVec.ofNat 32 (badResidue (descOf e).total)) ∧ Quiet s t []) ∧
      (Answers (.descriptorFetch ch none false) s fun t => (getDma t c).phase = .idle ∧ (getDma t c).halted = true ∧ ev t 2 = true)) ∧
    (∀ q a k, s.tmp.stall = false → d.phase = .move → d.desc = some q → q.moved = 0 → q.src = ⟨2, [(BitVec.ofNat 64 a, k)]⟩ → q.total = k →
      q.dst.space < 2 → hostOpen s c q.dst.space = true → 0 < k → k % 2 = 0 → k ≤ 256 → a % 128 = 0 → 0x10000000 ≤ a → a + k / 2 ≤ 0x10400000 →
      (∀ e ∈ q.dst.elems, e.2 = k ∧ e.1.toNat % 256 = 0) → q.dst.elems.length = 1 →
      (∀ i, i < k / 2 → checkWord s (dmaMaster c) (a + i) .read false = none ∧ ((readMem s (a + i)).tag = .data ∨ (readMem s (a + i)).tag = .code)) →
      Answers (.burst ch none none) s fun t => (∃ e, q.dst.elems = [e] ∧ t.sent = s.sent ++ [.hostWrite (spacePort q.dst.space) e.1
          ((List.range (k / 2)).flatMap (fun i => wordBytes (readMem s (a + i)).val))]) ∧
        (getDma t c).phase = .writeBack (dmaStatus 0 0 false) 0 ∧ SameMem s t) ∧
    (∀ q res, d.phase = .writeBack (dmaStatus 0 0 false) res → d.desc = some q → space < 2 → hostOpen s c space = true →
      Answers (.descriptorWriteBack ch true false) s fun t =>
        t.sent = s.sent ++ [.hostWrite port (BitVec.ofNat 64 (cur + 4)) (leBytes 4 (dmaStatus 0 0 false).toNat ++ leBytes 4 res.toNat),
          .hostWrite port (BitVec.ofNat 64 cur) (leBytes 4 (q.control.toNat % 2 ^ 31))] ∧
        getReg t (R.DMA_CH_COUNT c) = BitVec.ofNat 16 (min 0xFFFF ((getReg s (R.DMA_CH_COUNT c)).toNat + 1)) ∧
        (q.control.getLsbD 30 = true → ev t 0 = true) ∧
        (q.control.getLsbD 29 = false → (getDma t c).phase = .idle ∧ ev t 3 = true) ∧
        (q.control.getLsbD 29 = true → descAligned space q.next.toNat = true → (getDma t c).phase = .fetch ∧
          regQuad t (R.DMA_CH_CUR c 0) = q.next.toNat)) ∧
    (∀ q, d.phase = .writeBack (dmaStatus 0 0 false) 0 → d.desc = some q → space < 2 → Answers (.descriptorWriteBack ch false false) s fun t =>
      (getDma t c).halted = true ∧ ev t 5 = true ∧ t.sent = s.sent) ∧
    (d.phase = .fetch → space < 2 → Answers (.hostCompletionTimeout ch) s fun t => (getDma t c).phase = .idle ∧ (getDma t c).halted = true ∧
      Latched s t 2 (256 + c) .dma (dmaMaster c) 0) ∧
    (∀ q, d.phase = .move → d.desc = some q → q.src.space < 2 → Answers (.hostCompletionTimeout ch) s fun t =>
      ∃ i, (getDma t c).phase = .writeBack (dmaStatus 6 i false) (BitVec.ofNat 32 (q.total - q.moved)))

/-- The flash controller completes its reads and commands (R405, R409, R411, R413 to R418, R424): a buffered page is read, another
waits for its load; a load fills the buffer; a command begins or ends at once with its CODE; a program, an erase, a retirement
and a replacement have their effect; an entry's program in bank 7 that ends well ends the write of the ring (R175); the protection
level only rises. -/
def Obligations.FlashComplete : Prop :=
  ∀ (s : State) (bank : Bank) (master : Master) (waddr : BitVec 32) (retries : Fin 8) (corrections : Fin 41) (value : BitVec 16),
    let b := bank.val
    let k := getBank s b
    let a := waddr.toNat
    let pg := (flashPlace a).2.1
    let blk := getFld s (R.FLC_ADDR b) 11 6
    let page := getFld s (R.FLC_ADDR b) 5 0
    let n := b * 64 + blk
    let job := fun (op : Nat) => ({ op := op, block := blk, page := page, phase := 1, code := none, pulses := 0, spare := none, data := [] } : FlashJob)
    let free := hasMain s = true ∧ s.flash.linkUp = true ∧ k.job = none ∧ k.loads = [] ∧ s.ext.dip = none
    let begun := fun (t : State) (j : FlashJob) => getBank t b = ⟨[], [], some j⟩ ∧ t.flash.pages = s.flash.pages ∧ SameMem s t
    let ended := fun (t : State) (code : Nat) => (getBank t b).job = none ∧ getFld t (R.FLC_RESULT b) 15 12 = code ∧ getBit t (R.FLC_EVENT b) 0 = true ∧ SameMem s t
    (let up := fun (t : State) => ∃ k, t.flash = { s.flash with linkUp := true, linkKey := k, linkSeq := 0 };
      hasMain s = true → s.flash.linkUp = false → (Answers .linkUp s fun t => ∃ u, t = ringResume u ∧ up u ∧ Quiet s u []) ∧
        (s.fw.ring = none → Answers .linkUp s fun t => up t ∧ Quiet s t [])) ∧
    (hasMain s = true → s.flash.linkUp = true → Answers .linkUp s fun t => t = ringResume s) ∧
    (hasMain s = true → s.flash.linkUp = true → (flashPlace a).1 = b → 0x20000000 ≤ a → a < 0x24000000 → flashOpen s master = true →
      checkWord s master a .read false = none → k.job = none →
      (pg ∈ k.buffers → Answers (.flashWindowRead master waddr) s fun t =>
        t.lastRead = dataWord (pageWord s b pg (flashPlace a).2.2) ∧ (getBank t b).buffers.head? = some pg ∧ SameMem s t) ∧
      (pg ∉ k.buffers → k.loads = [] → Answers (.flashWindowRead master waddr) s fun t =>
        (getBank t b).loads = [⟨pg, [.bus master waddr]⟩] ∧ t.lastRead = s.lastRead ∧ Quiet s t [])) ∧
    (∀ rest p, k.loads = ⟨p, []⟩ :: rest → p < 4096 →
      (Answers (.pageLoadEnd bank retries corrections .done) s fun t => (getBank t b).buffers.head? = some p ∧ (getBank t b).loads = rest ∧ SameMem s t) ∧
      (Answers (.pageLoadEnd bank retries corrections .failed) s fun t => getReg t (R.FLC_UNCORR_LAST b) = BitVec.ofNat 16 (0x8000 + p) ∧
        getBit t (R.FLC_EVENT b) 5 = true ∧ (getBank t b).buffers = k.buffers ∧ SameMem s t)) ∧
    (free → (getReg s (R.FLC_SRC_LO b)).toNat % 16 = 0 →
      (blockUsable s n = false → Answers (.program bank) s fun t => begun t { job 1 with code := some 5 }) ∧
      (blockUsable s n = true → pageBlank s b (blk * 64 + page) = false → Answers (.program bank) s fun t => begun t { job 1 with code := some 1 }) ∧
      (∀ ws, blockUsable s n = true → pageBlank s b (blk * 64 + page) = true →
        (opRead s 579 (regPair s (R.FLC_SRC_LO b) (R.FLC_SRC_HI b)).toNat 2048).1 = .words ws → (∀ w ∈ ws, w.tag = .data) →
        (∀ i, i < 2048 → isRam s ((regPair s (R.FLC_SRC_LO b) (R.FLC_SRC_HI b)).toNat + i) = true) →
        Answers (.program bank) s fun t => begun t { job 1 with phase := 2, data := ws.map (·.val) })) ∧
    (free → (blockUsable s n = true → Answers (.erase bank) s fun t => begun t { job 2 with phase := 2 }) ∧
      (blockUsable s n = false → Answers (.erase bank) s fun t => begun t { job 2 with code := some 5 })) ∧
    (free → Answers (.blankCheck bank) s fun t => begun t { job 3 with code := some (if pageBlank s b (blk * 64 + page) then 0 else 1) }) ∧
    (free → Answers (.retire bank) s fun t => begun t { job 4 with code := some (if (flashBlock s n).state = 0 ∨ (flashBlock s n).state = 1 then 0 else 9) }) ∧
    (free → ((flashBlock s n).state ≠ 2 → Answers (.replace bank) s fun t => begun t { job 5 with code := some 9 }) ∧
      (∀ x rest, (flashBlock s n).state = 2 → freeSpares s = x :: rest → Answers (.replace bank) s fun t => begun t { job 5 with phase := 2, spare := some x })) ∧
    (hasMain s = true → k.job ≠ none → ∀ c ∈ [Instr.program bank, Instr.erase bank, Instr.blankCheck bank, Instr.retire bank, Instr.replace bank],
      Answers c s fun t => getBank t b = k ∧ getBit t (R.FLC_BANK_STATUS b) 14 = true ∧ Quiet s t [R.FLC_BANK_STATUS b]) ∧
    (∀ j, k.job = some j → j.op = 2 → j.phase = 2 → j.code = none → Answers (.erasePulseEnd bank true) s fun t =>
      (getBank t b).job = some { j with pulses := j.pulses + 1, phase := 3, code := some 0 } ∧
      ∀ i, i < 64 → j.block < 64 → pageBlank t b (j.block * 64 + i) = true) ∧
    (∀ j, k.job = some j → j.op = 2 → j.phase = 2 → j.code = none → j.pulses < 11 → Answers (.erasePulseEnd bank false) s fun t =>
      (getBank t b).job = some { j with pulses := j.pulses + 1 } ∧ t.flash.pages = s.flash.pages) ∧
    (∀ j w, b = 7 → s.fw.ring = some w → w.begun = true → k.job = some j → j.op = 1 → j.code = none → j.phase = 2 → Answers (.flashCommandEnd bank .done) s
      fun t => t.fw.ring = none ∧ t.fw.held = none ∧ pageWords t (pageKey s b (j.block * 64 + j.page)) = j.data ∧ SameMem s t) ∧
    (∀ j, s.fw.ring = none → k.job = some j → j.op = 1 → j.code = none → j.phase = 2 → Answers (.flashCommandEnd bank .done) s fun t => ended t 0 ∧
      pageWords t (pageKey s b (j.block * 64 + j.page)) = j.data) ∧
    (∀ j c, s.fw.ring = none → k.job = some j → j.code = some c → (c = 1 ∨ c = 5 ∨ c = 6 ∨ c = 7 ∨ c = 9) → (j.op = 1 ∨ j.op = 3 ∨ j.op = 4) → Answers (.flashCommandEnd bank .done) s fun t =>
      ended t c ∧ t.flash.pages = s.flash.pages) ∧
    (∀ j, s.fw.ring = none → k.job = some j → j.code = some 0 → j.op = 4 → Answers (.flashCommandEnd bank .done) s fun t => ended t 0 ∧
      t.flash.tableSeq = s.flash.tableSeq + 1 ∧
      flashBlock t (b * 64 + j.block) = { flashBlock s (b * 64 + j.block) with state := 2, reason := 4 }) ∧
    (let old := getFld s R.FLC_PROT 1 0; let v := fld value 1 0;
      hasMain s = true → Answers (.flcProt value) s fun t => getFld t R.FLC_PROT 1 0 = (if old = 3 ∨ (old < v ∧ v < 3) then v else old) ∧ Quiet s t [R.FLC_PROT])

/-- The flash-guard ports complete (R432, R435, R438, R440, R442): a measurement begins in HOLD and ends with its RESULT and
digest; MODE takes effect at once or when CS# rises, and PASS and GUARD need the gate; a guarded command is passed or refused. -/
def Obligations.GuardPortComplete : Prop :=
  ∀ (s : State) (port : GuardPort) (value : BitVec 16) (bs : Bytes) (op : Byte) (addr : BitVec 32),
    let p := port.val
    let w := R.FGP_STATUS p
    let result := fun (t : State) => getFld t w 3 0
    let v := fld value 1 0
    let sent := fun (t : State) => t.sent.drop s.sent.length
    let passed : List Sent := [.port "FGP" p (guardBytes s p op addr.toNat true)]
    (hasMain s = true → modeNow s p = 0 → Answers (.measure port) s fun t => modeNow t p = 3 ∧ Quiet s t [w]) ∧
    (modeNow s p ≠ 0 → Idles (.measure port) s) ∧
    (modeNow s p = 3 → getBit s w 13 = false →
      (bs.length = measuredLength s p → Answers (.measurementEnd port (some bs)) s fun t => result t = 1 ∧ modeNow t p = 0 ∧
        (∀ j, j < 16 → getReg t (R.FGP_DIGEST p j) = (packWords (sha256 bs)).getD j 0) ∧ getBit t (R.FGP_EVENT p) 0 = true ∧ SameMem s t) ∧
      (Answers (.measurementEnd port none) s fun t => result t = 2 ∧ modeNow t p = 0 ∧ getBit t (R.FGP_EVENT p) 1 = true ∧ SameMem s t) ∧
      (Answers (.measureTimeLimit port) s fun t => result t = 3 ∧ modeNow t p = 0 ∧ getBit t (R.FGP_EVENT p) 1 = true ∧ SameMem s t)) ∧
    (let m := if v = 3 then 0 else v;
      hasMain s = true → (m = 0 ∨ gateOpen s = true) →
      (upCs s p = false → modeNow s p ≠ 3 → Answers (.fgpModeWrite port value) s fun t => modeNow t p = m ∧ getFld t (R.FGP_CTRL p) 1 0 = m ∧
        getBit t w 13 = false ∧ Quiet s t [w, R.FGP_CTRL p]) ∧
      (upCs s p = true → Answers (.fgpModeWrite port value) s fun t => modeNow t p = modeNow s p ∧ getFld t (R.FGP_CTRL p) 1 0 = m ∧
        getBit t w 13 = true ∧ Quiet s t [w, R.FGP_CTRL p])) ∧
    ((v = 1 ∨ v = 2) → gateOpen s = false → Idles (.fgpModeWrite port value) s) ∧
    (s.boot.step ≠ 14 → (getBit s w 13 = true → modeNow s p ≠ 3 → Answers (.upstreamCsRise port) s fun t =>
        upCs t p = false ∧ modeNow t p = getFld s (R.FGP_CTRL p) 1 0 ∧ getBit t w 13 = false ∧ Quiet s t [w]) ∧
      (getBit s w 13 = false → Answers (.upstreamCsRise port) s fun t => upCs t p = false ∧ modeNow t p = modeNow s p ∧ Quiet s t [w])) ∧
    (hasMain s = true → upCs s p = false →
      ((modeNow s p = 0 ∨ modeNow s p = 3) → Answers (.guardCommand port op addr) s fun t => upCs t p = true ∧ Quiet s t [w]) ∧
      (modeNow s p = 1 → Answers (.guardCommand port op addr) s fun t => upCs t p = true ∧ sent t = passed ∧ SameMem s t ∧ SameRegsBut s t [w]) ∧
      (modeNow s p = 2 → guardRefuses s p op addr.toNat = true → Answers (.guardCommand port op addr) s fun t => upCs t p = true ∧
        sent t = [.port "FGP_CUT" p (guardBytes s p op addr.toNat (!extraOp s p op))] ∧
        getReg t (R.FGP_BLOCKED p) = BitVec.ofNat 16 (min 0xFFFF ((getReg s (R.FGP_BLOCKED p)).toNat + 1)) ∧
        getBit t (R.FGP_EVENT p) 2 = true ∧
        getReg t (R.FGP_LOG p (4 * getFld s (R.FGP_LOG_HEAD p) 3 0)) = BitVec.ofNat 16 (0x8000 + op.toNat) ∧ SameMem s t) ∧
      (modeNow s p = 2 → guardRefuses s p op addr.toNat = false → Answers (.guardCommand port op addr) s fun t => upCs t p = true ∧
        sent t = passed ∧ getReg t (R.FGP_BLOCKED p) = getReg s (R.FGP_BLOCKED p) ∧ SameMem s t))

/-- The device and control ports and the time reference complete (R432, R444, R446 to R448, R449, R452, R453): a message is sent,
answered or lost, an address assigned, an in-band interrupt counted; the gate only opens; STAT and the PPS are followed.
A buffer that waits for a swap or a boundary keeps the message where it is. That SEND while BUSY is ignored is the model's choice (log entry 33), and so are the free verdicts of an exchange (log entry 28). -/
def Obligations.DevicePortComplete : Prop :=
  ∀ (s : State) (port : DevPort) (ctl : CtlPort) (value : BitVec 16) (bs : Bytes) (level : Bool) (at' : Nat),
    let p := port.val
    let w := R.DVP_STATUS p
    let last := fun (t : State) => getFld t w 13 12
    let ev := fun (t : State) (i : Nat) => getBit t (R.DVP_EVENT p) i
    let n := getFld s (R.DVP_TX_LEN p) 13 0
    let a := (regPair s (R.DVP_TX_ADDR p 0) (R.DVP_TX_ADDR p 1)).toNat
    let rx := (regPair s (R.DVP_RX_ADDR p 0) (R.DVP_RX_ADDR p 1)).toNat
    let locked := fun (t : State) => ppsLocked t
    (hasMain s = true → dvpBusy s p = false →
      (∀ ws, 1 ≤ n → n ≤ 8192 → (opRead s 580 a ((n + 1) / 2)).1 = .words ws → Answers (.send port) s fun t =>
        t.sent = s.sent ++ [.port "DVP" p ((unpackWords ws).take n)] ∧ dvpBusy t p = true ∧ ev t 0 = true ∧ SameMem s t) ∧
      (1 ≤ n → n ≤ 8192 → (opRead s 580 a ((n + 1) / 2)).1 = .waits → Idles (.send port) s) ∧
      ((n = 0 ∨ 8192 < n) → Answers (.send port) s fun t => last t = 3 ∧ dvpBusy t p = false ∧ ev t 1 = true ∧ t.sent = s.sent ∧ SameMem s t)) ∧
    (dvpBusy s p = true → Idles (.send port) s) ∧
    (hasMain s = true → dvpBusy s p = false → dvpOpen s p = false →
      (Answers (.address port true) s fun t => getBit t w 14 = true ∧ last t = 0 ∧ Quiet s t [w]) ∧
      (Answers (.address port false) s fun t => getBit t w 14 = false ∧ last t = 1 ∧ ev t 2 = true ∧ SameMem s t)) ∧
    (dvpOpen s p = false → dvpBusy s p = true →
      (∀ u, bs.length ≤ 8192 → opWrite s 580 rx ((packWords bs).map dataWord) = (.done, u) → Answers (.dvpReply port bs false) s fun t =>
        dvpBusy t p = false ∧ last t = 0 ∧ getFld t (R.DVP_RX_LEN p) 13 0 = bs.length ∧ ev t 1 = true ∧ SameMem u t) ∧
      (∀ u, bs.length ≤ 8192 → opWrite s 580 rx ((packWords bs).map dataWord) = (.waits, u) → Answers (.dvpReply port bs false) s fun t =>
        dvpBusy t p = true ∧ SameMem s t) ∧
      (8192 < bs.length → Answers (.dvpReply port bs false) s fun t => dvpBusy t p = false ∧ last t = 3 ∧ ev t 1 = true ∧ SameMem s t) ∧
      (Answers (.dvpReply port bs true) s fun t => dvpBusy t p = false ∧ last t = 3 ∧ ev t 2 = true ∧ SameMem s t) ∧
      (Answers (.dvpReplyTimeout port) s fun t => dvpBusy t p = false ∧ last t = 2 ∧ ev t 1 = true ∧ SameMem s t)) ∧
    (hasMain s = true → dvpOpen s p = true →
      (dvpBusy s p = false → (Answers (.address port true) s fun t => dvpStep t p = 2 ∧ dvpBusy t p = true ∧ ev t 0 = true ∧
          (∃ body, t.sent = s.sent ++ [.port "DVP" p (0 :: body)]) ∧ SameMem s t) ∧
        (Answers (.address port false) s fun t => dvpResult t p = some (3, []) ∧ SameMem s t)) ∧
      (dvpBusy s p = true → (Answers (.dvpReply port bs true) s fun t => dvpResult t p = some (4, []) ∧ dvpBusy t p = false ∧ SameMem s t) ∧
        (Answers (.dvpReplyTimeout port) s fun t => dvpResult t p = some (3, []) ∧ dvpBusy t p = false ∧ SameMem s t)) ∧
      (dvpBusy s p = true → dvpStep s p < 7 → bs.length ≤ 8192 → Answers (.dvpReply port bs false) s fun t => SameMem s t ∧
        (dvpResult t p = some (4, []) ∨ (dvpResult t p = none ∧ (dvpStep t p = dvpStep s p ∨ dvpStep t p = dvpStep s p + 1))))) ∧
    (hasMain s = true → (getBit s (R.DVP_CFG p) 13 = true → dvpBusy s p = false → Answers (.ibi port) s fun t =>
        getReg t (R.DVP_IBI_COUNT p) = BitVec.ofNat 16 (min 0xFFFF ((getReg s (R.DVP_IBI_COUNT p)).toNat + 1)) ∧ ev t 3 = true ∧ SameMem s t) ∧
      (getBit s (R.DVP_CFG p) 13 = false → Answers (.ibi port) s fun t =>
        getReg t (R.DVP_IBI_COUNT p) = getReg s (R.DVP_IBI_COUNT p) ∧ ev t 2 = true ∧ SameMem s t)) ∧
    (hasMain s = true → bit value 0 = true → Answers (.ctpGate value) s fun t => gateOpen t = true ∧ Quiet s t [R.CTP_GATE]) ∧
    (bit value 0 = false → Idles (.ctpGate value) s) ∧
    (hasMain s = true → Answers (.ctpOut ctl value) s fun t => getReg t (R.CTP_OUT ctl.val) = value &&& 7 ∧ Quiet s t [R.CTP_OUT ctl.val]) ∧
    (s.ext.ctpStat.getLsbD ctl.val ≠ level → Answers (.statEdge ctl level) s fun t => t.ext.ctpStat.getLsbD ctl.val = level ∧ SameMem s t ∧
      (hasMain s = true → getBit s (R.CTP_CFG ctl.val) (if level then 0 else 1) = true → getBit t (R.CTP_EVENT ctl.val) 0 = true)) ∧
    (hasMain s = true → s.pps.last = none → locked s = false → Answers (.ppsEdge at') s fun t =>
      t.pps.last = some at' ∧ t.pps.run = 0 ∧ locked t = false ∧ Quiet s t []) ∧
    (∀ l, hasMain s = true → s.pps.last = some l → l + 999950 ≤ at' → at' ≤ l + 1000050 → s.pps.run = 3 → locked s = false →
      Answers (.ppsEdge at') s fun t => locked t = true ∧ t.pps.run = 4 ∧ t.evc.pend.getLsbD 613 = true ∧
        t.pps.slew = slewFor s.bat.timeBase.toNat ∧ SameMem s t) ∧
    (∀ l, hasMain s = true → s.pps.last = some l → (at' < l + 999950 ∨ l + 1000050 < at') → locked s = true → Answers (.ppsEdge at') s fun t =>
      locked t = false ∧ t.pps.run = 0 ∧ t.evc.pend.getLsbD 613 = true ∧
      getFld t R.CLK_TREF_STATUS 7 0 = min 255 (getFld s R.CLK_TREF_STATUS 7 0 + 1) ∧ SameMem s t) ∧
    (hasMain s = true → s.pps.last ≠ none → locked s = true → Answers .ppsTimeout s fun t =>
      locked t = false ∧ t.pps.last = none ∧ t.evc.pend.getLsbD 613 = true ∧ SameMem s t) ∧
    (hasMain s = true → getBit s R.CLK_TREF_STATUS 14 ≠ level → Answers (.xtalStatusChange level) s fun t =>
      getBit t R.CLK_TREF_STATUS 14 = level ∧ t.ext.xtalOk = level ∧ t.evc.pend.getLsbD 613 = true ∧ Quiet s t [R.CLK_TREF_STATUS])

/-- The card slots complete (R459 to R471): activation in class C before B, the answer to reset and its parameters, exchanges
under T=0 and T=1 with their further turns, time-outs, deactivation, insertion, removal, overcurrent, clock stop. -/
def Obligations.CardsComplete : Prop :=
  ∀ (s : State) (slot : Slot) (bs : Bytes) (parity blocks : Nat) (b : Bool),
    let i := slot.val
    let st := fun (t : State) => cslState t i
    let code := fun (t : State) => getFld t (R.CSL_RESULT i) 15 12
    let ev := fun (t : State) (k : Nat) => getBit t (R.CSL_EVENT i) k
    let ended := fun (t : State) (x c : Nat) => st t = x ∧ code t = c ∧ ev t 0 = true ∧ SameMem s t
    let t1 := getBit s (R.CSL_STATUS i) 10
    let classB := fun (t : State) => getBit t (R.CSL_STATUS i) 11
    let n := getFld s (R.CSL_TX_LEN i) 8 0
    let apdu := ((List.range 131).flatMap (fun j => wordBytes (getReg s (R.CSL_TX i j)))).take n
    let cmd := if t1 then apdu else t0Bytes apdu
    let slot' := getSlot s i
    let sw1 := bs.getD (bs.length - 2) 0
    let sw2 := bs.getD (bs.length - 1) 0
    let answered := fun (t : State) (r : Bytes) => ended t 2 0 ∧ getFld t (R.CSL_RESULT i) 8 0 = r.length ∧
      ∀ j, j < (packWords r).length → getReg t (R.CSL_RX i j) = (packWords r).getD j 0
    hasMain s = true → getBit s (R.CSL_STATUS i) 8 = false →
    (cslBusy s i = false → st s = 0 → cardPresent s i = true →
      (getBit s (R.CSL_CFG i) 15 = true → Answers (.activate slot) s fun t => st t = 1 ∧ cslBusy t i = true ∧ classB t = false ∧
        (getSlot t i).clkDiv = getFld s (R.CSL_CFG i) 6 0 ∧ getReg t (R.CSL_PARAMS i) = 0x1100 ∧ (∀ j, j < 129 → getReg t (R.CSL_RX i j) = 0) ∧ SameMem s t) ∧
      (getBit s (R.CSL_CFG i) 15 = false → getBit s (R.CSL_CFG i) 14 = true → Answers (.activate slot) s fun t =>
        st t = 1 ∧ classB t = true ∧ SameMem s t)) ∧
    (cslBusy s i = true → Answers (.activate slot) s fun t => ended t (st s) 11) ∧
    (cslBusy s i = false → cardPresent s i = false → Answers (.activate slot) s fun t => ended t (st s) 1) ∧
    (st s = 1 → (∀ gs x pair, parseAtr bs = some gs → (classB s = true ∨ ∀ g, (atrParams gs).global = some g → g.testBit 2 = true) →
        selectParams (atrParams gs) (getBit s (R.CSL_CFG i) 13) b = some (x, pair) → Answers (.atrComplete slot bs true b true) s fun t =>
          ended t 2 0 ∧ ev t 1 = true ∧ getBit t (R.CSL_STATUS i) 10 = decide (x = 1) ∧
          getReg t (R.CSL_PARAMS i) = BitVec.ofNat 16 (pair * 256 + (atrParams gs).n) ∧
          (getSlot t i).clkDiv = clkDivFor (pair / 16) (getFld s (R.CSL_MAXDIV i) 6 0)) ∧
      (Answers (.atrComplete slot bs false b true) s fun t => ended t 0 3 ∧ ev t 2 = true) ∧
      (Answers (.atrCharacterTimeout slot) s fun t => ended t 0 3 ∧ ev t 2 = true) ∧
      (classB s = false → getBit s (R.CSL_CFG i) 14 = true → Answers (.noAtr slot) s fun t => st t = 1 ∧ classB t = true ∧ ev t 2 = true) ∧
      ((classB s = true ∨ getBit s (R.CSL_CFG i) 14 = false) → Answers (.noAtr slot) s fun t => ended t 0 2 ∧ ev t 2 = true)) ∧
    (st s = 2 → 4 ≤ n → n ≤ 261 → Answers (.exchange slot) s fun t => st t = 3 ∧ cslBusy t i = true ∧ (getSlot t i).cmd = cmd ∧
      (getSlot t i).unsent = (if t1 then [] else cmd.drop 5) ∧ t.sent = s.sent ++ [.port "CSL" i (if t1 then cmd else cmd.take 5)] ∧ SameMem s t) ∧
    (∀ x, st s = 3 → t1 = false → slot'.unsent ≠ [] → slot'.cmd.getD 1 0 ≠ 0x60 →
      (x = slot'.cmd.getD 1 0 → Answers (.cardResponse slot [x] parity false blocks) s fun t =>
        getSlot t i = { slot' with unsent := [] } ∧ t.sent = s.sent ++ [.port "CSL" i slot'.unsent] ∧ st t = 3 ∧ SameMem s t) ∧
      (x = ~~~(slot'.cmd.getD 1 0) → x ≠ 0x60 → Answers (.cardResponse slot [x] parity false blocks) s fun t =>
        getSlot t i = { slot' with unsent := slot'.unsent.drop 1 } ∧ t.sent = s.sent ++ [.port "CSL" i (slot'.unsent.take 1)] ∧ st t = 3 ∧ SameMem s t) ∧
      (Answers (.cardResponse slot [0x60] parity false blocks) s fun t => getSlot t i = slot' ∧ t.sent = s.sent ∧ st t = 3 ∧ SameMem s t)) ∧
    ((st s ≠ 2 ∨ n < 4 ∨ 261 < n) → Answers (.exchange slot) s fun t => ended t (st s) 11 ∧ t.sent = s.sent) ∧
    (st s = 3 → 2 ≤ bs.length →
      (t1 = true → bs.length ≤ 258 → Answers (.cardResponse slot bs parity false blocks) s fun t => answered t bs) ∧
      (t1 = false → sw1 ≠ 0x61 → sw1 ≠ 0x6C → slot'.gathered.length + bs.length ≤ 258 →
        Answers (.cardResponse slot bs parity false blocks) s fun t => answered t (slot'.gathered ++ bs)) ∧
      (t1 = false → sw1 = 0x61 → slot'.turns < 16 → Answers (.cardResponse slot bs parity false blocks) s fun t =>
        let next := [slot'.cmd.getD 0 0, 0xC0, 0, 0, sw2]
        st t = 3 ∧ (getSlot t i).cmd = next ∧ (getSlot t i).gathered = slot'.gathered ++ bs.take (bs.length - 2) ∧
          t.sent = s.sent ++ [.port "CSL" i next]) ∧
      (t1 = false → sw1 = 0x6C → slot'.turns < 16 → Answers (.cardResponse slot bs parity false blocks) s fun t =>
        st t = 3 ∧ (getSlot t i).cmd = slot'.cmd.take 4 ++ [sw2] ∧ t.sent = s.sent ++ [.port "CSL" i (slot'.cmd.take 4 ++ [sw2])]) ∧
      (Answers (.cardResponse slot bs parity true blocks) s fun t => ended t 2 (if t1 then 6 else 4))) ∧
    (st s = 3 → (t1 = false → Answers (.cardWaitingTimeout slot) s fun t => ended t 2 5) ∧
      (t1 = true → slot'.retries < 6 → Answers (.cardWaitingTimeout slot) s fun t => getSlot t i = { slot' with retries := slot'.retries + 1 } ∧ st t = 3) ∧
      (t1 = true → 6 ≤ slot'.retries → Answers (.cardWaitingTimeout slot) s fun t => ended t 0 6 ∧ ev t 2 = true)) ∧
    (cslBusy s i = true → Answers (.deactivate slot) s fun t => getBit t (R.CSL_STATUS i) 8 = true ∧ st t = st s ∧ Quiet s t [R.CSL_STATUS i]) ∧
    (cslBusy s i = false → Answers (.deactivate slot) s fun t => ended t 0 0 ∧ ev t 2 = true) ∧
    (cardPresent s i = false → Answers (.cardInsertion slot) s fun t => cardPresent t i = true ∧ ev t 3 = true ∧ st t = st s ∧ SameMem s t) ∧
    (cardPresent s i = true →
      (st s = 1 → Answers (.cardRemoval slot b) s fun t => cardPresent t i = false ∧ ev t 4 = true ∧ ended t 0 1) ∧
      (st s = 2 → Answers (.cardRemoval slot b) s fun t => cardPresent t i = false ∧ ev t 4 = true ∧ ev t 2 = true ∧ st t = 0) ∧
      (st s = 3 → Answers (.cardRemoval slot b) s fun t => cardPresent t i = false ∧ ev t 4 = true ∧ ended t 0 (if b then 8 else 9))) ∧
    (st s ≠ 0 → Answers (.overcurrent slot) s fun t => ev t 5 = true ∧ ev t 2 = true ∧ st t = 0 ∧ (cslBusy s i = true → code t = 7) ∧ SameMem s t) ∧
    (st s = 2 → getBit s (R.CSL_CFG i) 12 = true → slot'.clockStop ≠ 0 → Answers (.clockStop slot) s fun t =>
      getBit t (R.CSL_STATUS i) 9 = true ∧ Quiet s t [R.CSL_STATUS i]) ∧
    ((st s ≠ 2 ∨ getBit s (R.CSL_CFG i) 12 = false ∨ slot'.clockStop = 0) → Idles (.clockStop slot) s)

/-- The tag's air interface completes (R44, R476, R486 to R488, R493, R494): fields come and go, inventory rounds, sessions, reads, the
writes a session may start, and refusals. The states and replies follow the standard R476 names (log entry 23). -/
def Obligations.TagAirComplete : Prop :=
  ∀ (s : State) (sel : SelectArgs) (q : QueryArgs) (session : Fin 4) (x rn : BitVec 16) (ptr : Nat) (ws : List (BitVec 16)) (mask action : BitVec 10)
    (flag : Fin 5),
    let a := s.tag.air
    let air := fun (t : State) => t.tag.air
    let arbitrate := fun (t : State) => (air t).state = 1 ∧ (air t).slot = 0x7FFF
    let heard := fun (t : State) (b : List Bool) => t.sent = s.sent ++ [.backscatter b]
    let crc := fun (b : List Bool) => b ++ wordsBits [airCrc b]
    let refused := fun (t : State) => getReg t R.TAG_REFUSALS = BitVec.ofNat 16 (min 0xFFFF ((getReg s R.TAG_REFUSALS).toNat + 1)) ∧
      t.tag = s.tag ∧ t.sent.length = s.sent.length + 1 ∧ SameMem s t
    let draw := (draw16 s).1.toNat
    let enters := fun (t : State) (n : Nat) => (n = 0 → (air t).state = 2 ∧ ∃ r, (air t).rn = r ∧ heard t (wordsBits [r])) ∧
      (n ≠ 0 → (air t).state = 1 ∧ (air t).slot = n ∧ t.sent = s.sent)
    let flips := fun (t : State) => t.tag.flags = s.tag.flags ^^^ (1 <<< a.session : BitVec 5)
    let startsWrite := fun (t : State) (i : Nat) (w : List (BitVec 16)) => t.tag.fieldJob = some ⟨.field, i, stepsFor (getRecord s i) w⟩ ∧
      t.sent = s.sent ∧ SameMem s t
    let writable := fun (i : Nat) => s.tag.fieldJob = none ∧ s.tag.job = none ∧ (getRecord s i).damaged = false ∧ (getRecord s i).seq ≠ 0xFFFFFF ∧
      hasMain s = true
    let session' := a.state = 4 ∨ a.state = 5
    (s.ext.field = false → Answers .fieldOn s fun t => t.ext.field = true ∧ air t = airReset ∧ t.tag.crc = storedCrc s ∧
      (hasMain s = true → getBit t R.TAG_EVENT 0 = true ∧ mode t = mode s) ∧ (hasMain s = false → mode s ≠ mVIGIL → mode t = mFIELD) ∧ SameMem s t) ∧
    ((flag.val = 1 ∨ (2 ≤ flag.val ∧ s.ext.field = false)) → Answers (.flagPersistenceExpiry flag) s fun t =>
      t.tag.flags.getLsbD flag.val = false ∧ (∀ j, j ≠ flag.val → t.tag.flags.getLsbD j = s.tag.flags.getLsbD j) ∧ Quiet s t []) ∧
    (s.ext.field = true →
      (Answers .fieldLoss s fun t => t.ext.field = false ∧ air t = airReset ∧ t.tag.flags = s.tag.flags &&& 0x1E ∧
        (hasMain s = true → t.tag.fieldJob = s.tag.fieldJob ∧ mode t = mode s) ∧
        (hasMain s = false → t.tag.fieldJob = none ∧ t.tag.job = none ∧ mode t = if mode s = mFIELD then 0 else mode s) ∧ SameMem s t) ∧
      (sel.target.val ≤ 4 → Answers (.select sel) s fun t => (air t).state = 0 ∧
        t.tag.flags.getLsbD sel.target.val = selectAction sel.action.val (maskMatches s sel) (decide (sel.target.val = 4)) (s.tag.flags.getLsbD sel.target.val) ∧
        (∀ j, j ≠ sel.target.val → t.tag.flags.getLsbD j = s.tag.flags.getLsbD j) ∧ t.sent = s.sent ∧ Quiet s t []) ∧
      ((a.state < 3 ∨ a.session ≠ q.session.val) → (q.sel.val ≤ 1 ∨ s.tag.flags.getLsbD 4 = decide (q.sel.val = 3)) →
        s.tag.flags.getLsbD q.session.val = q.target → Answers (.query q) s fun t => enters t (draw % 2 ^ q.q.val) ∧
          (air t).session = q.session.val ∧ (air t).q = q.q.val ∧ t.tag.flags = s.tag.flags) ∧
      ((a.state < 3 ∨ a.session ≠ q.session.val) → s.tag.flags.getLsbD q.session.val ≠ q.target → Answers (.query q) s fun t => (air t).state = 0 ∧ t.sent = s.sent) ∧
      ((a.state = 1 ∨ a.state = 2) → a.session = session.val →
        (Answers (.queryAdjust session 6) s fun t => (air t).q = min 15 (a.q + 1) ∧ enters t (draw % 2 ^ min 15 (a.q + 1))) ∧
        (Answers (.queryAdjust session 0) s fun t => (air t).q = a.q ∧ enters t (draw % 2 ^ a.q)) ∧
        (Answers (.queryAdjust session 3) s fun t => (air t).q = a.q - 1 ∧ enters t (draw % 2 ^ (a.q - 1)))) ∧
      (a.state = 1 → a.session = session.val → (∀ n, a.slot = n + 1 → n < 0x7FFF → Answers (.queryRep session) s fun t => enters t n) ∧
        (a.slot = 0 → Answers (.queryRep session) s fun t => enters t 0x7FFF)) ∧
      (a.state = 2 → a.session = session.val → Answers (.queryRep session) s arbitrate) ∧
      (3 ≤ a.state → a.session = session.val → (Answers (.queryRep session) s fun t => (air t).state = 0 ∧ flips t) ∧
        (Answers (.queryAdjust session 0) s fun t => (air t).state = 0 ∧ flips t)) ∧
      ((a.state = 2 ∨ a.state = 3) → (a.truncate = none → Answers (.ack a.rn) s fun t => (air t).state = 3 ∧ heard t (crc (wordsBits (tagWordsOf s 10)))) ∧
        (rn ≠ a.rn → Answers (.ack rn) s fun t => arbitrate t ∧ t.sent = s.sent)) ∧
      (2 ≤ a.state → Answers .nak s fun t => arbitrate t ∧ t.sent = s.sent) ∧
      (a.state = 3 → Answers (.reqRn a.rn) s fun t => (air t).state = (if accessPassword s = (0, 0) then 5 else 4) ∧
        (air t).handle = (draw16 s).1 ∧ heard t (crc (wordsBits [(draw16 s).1])) ∧ (hasMain s = true → getBit t R.TAG_EVENT 1 = true)) ∧
      (session' →
        (Answers (.reqRn a.handle) s fun t => air t = { a with cover := (draw16 s).1 } ∧ heard t (crc (wordsBits [(draw16 s).1]))) ∧
        (a.half = false → x ^^^ a.cover = (accessPassword s).1 → Answers (.access x a.handle) s fun t => air t = { a with half := true }) ∧
        (a.half = true → x ^^^ a.cover = (accessPassword s).2 → Answers (.access x a.handle) s fun t => air t = { a with half := false, state := 5 }) ∧
        (a.half = false → x ^^^ a.cover ≠ (accessPassword s).1 → Answers (.access x a.handle) s arbitrate) ∧
        (∀ bank : Fin 4, bank.val ≠ 0 → ∀ n, 0 < n → ptr + n ≤ bankSize bank.val → ∀ v : Nat → BitVec 16,
          (∀ k, k < n → airWord s bank.val (ptr + k) = some (v k)) → Answers (.read bank ptr n a.handle) s fun t =>
            t.tag = s.tag ∧ heard t (crc (false :: wordsBits ((List.range n).map v ++ [a.handle]))) ∧ Quiet s t []) ∧
        (ptr < 4 → Answers (.read 0 ptr 1 a.handle) s refused) ∧
        (∀ i j, userRecord ptr = some (i, j) → 4 ≤ i → fieldUnlocked s = true → writable i → Answers (.write 3 ptr x a.handle) s fun t =>
          startsWrite t i ((tagWordsOf s i).take j ++ [x ^^^ a.cover] ++ (tagWordsOf s i).drop (j + 1))) ∧
        (∀ i j k, ws ≠ [] → ws.length ≤ 8 → userRecord ptr = some (i, j) → userRecord (ptr + ws.length - 1) = some (i, k) → 4 ≤ i →
          ptr + ws.length ≤ 0x80 → fieldUnlocked s = true → writable i → Answers (.blockWrite 3 ptr ws a.handle) s fun t =>
          startsWrite t i ((tagWordsOf s i).take j ++ ws ++ (tagWordsOf s i).drop (j + ws.length))) ∧
        (∀ i j, userRecord ptr = some (i, j) → (i < 4 ∨ fieldUnlocked s = false) → Answers (.write 3 ptr x a.handle) s refused) ∧
        (Answers (.kill x a.handle) s refused)) ∧
      (a.state = 5 → let old := (userLocks s).setWidth 2; let m : BitVec 2 := mask.setWidth 2; let new := (old &&& ~~~m) ||| (action.setWidth 2 &&& m);
        mask &&& 0x3FC &&& ~~~action = 0 → (old.getLsbD 0 = false ∨ new = old) → writable 8 →
        Answers (.lock mask action a.handle) s fun t => startsWrite t 8 ((tagWordsOf s 8).set 0 (new.setWidth 16))))

/-- The tag's memory completes (R481, R482, R484, R485, R497): a read shows the selected copy, a write begins its steps or is
refused by its CODE, a step's end, of the supervisor's job or of the field's, changes the copy or the SEQ it names, and a repair begins
where copies differ. -/
def Obligations.TagMemoryComplete : Prop :=
  ∀ (s : State) (value : BitVec 16) (record : Fin 12),
    let i := fld value 4 0
    let r := getRecord s i
    let result := fun (t : State) => getReg t R.TAG_RESULT
    let code := fun (c : Nat) (b : Bool) => BitVec.ofNat 16 (c * 4096 + b2n b * 2048)
    (hasMain s = true → bit value 15 = true → s.tag.job = none → (fld value 14 13 = 1 → i ≤ 11 →
        (r.damaged = false → Answers (.tagRead value) s fun t =>
          (∀ j, j < 34 → getReg t (R.TAG_BUF j) = r.selected.words.getD j 0) ∧ result t = code 0 r.selBackup ∧
          getReg t (R.TAG_SEQ 0) = r.seq.setWidth 16 ∧ getBit t R.TAG_EVENT 4 = true ∧ t.tag = s.tag ∧ SameMem s t) ∧
        (r.damaged = true → Answers (.tagRead value) s fun t => result t = code 4 false ∧ getBit t R.TAG_EVENT 6 = true ∧
          Latched s t 2 518 .none 581 0 ∧ t.tag = s.tag ∧ SameMem s t)) ∧
      (fld value 14 13 = 2 → (tagWriteRefused s i = none → Answers (.tagWrite value) s fun t =>
          t.tag.job = some ⟨.supervisor, i, stepsFor r (tagContents i ((List.range (tagSize i)).map (fun j => getReg s (R.TAG_BUF j))))⟩ ∧ Quiet s t []) ∧
        (∀ c, tagWriteRefused s i = some c → Answers (.tagWrite value) s fun t => result t = code c false ∧ t.tag = s.tag ∧
          getBit t R.TAG_EVENT 4 = true ∧ SameMem s t))) ∧
    (∀ n x rest, s.boot.step ≠ 12 → s.tag.job = some ⟨.supervisor, n, x :: rest⟩ →
      (rest ≠ [] → Answers (.tagProgramEnd false) s fun t => getRecord t n = applyStep (getRecord s n) x ∧
        (∀ j, j ≠ n → getRecord t j = getRecord s j) ∧ t.tag.job = some ⟨.supervisor, n, rest⟩ ∧ SameMem s t) ∧
      (rest = [] → (n ≠ 1 ∨ s.boot.step < 12) → Answers (.tagProgramEnd false) s fun t => getRecord t n = applyStep (getRecord s n) x ∧
        (∀ j, j ≠ n → getRecord t j = getRecord s j) ∧ t.tag.job = none ∧ (result t).toNat / 4096 = 0 ∧ SameMem s t)) ∧
    (∀ n x, s.boot.step ≠ 12 → (n ≠ 1 ∨ s.boot.step < 12) → s.tag.job = some ⟨.repair, n, [x]⟩ → Answers (.tagProgramEnd false) s fun t =>
      getRecord t n = applyStep (getRecord s n) x ∧ t.tag.job = none ∧ t.tag.repairs = s.tag.repairs.erase n ∧
      (hasMain s = true → getBit t R.TAG_EVENT 5 = true) ∧ SameMem s t) ∧
    (∀ n x rest, s.boot.step ≠ 12 → s.tag.fieldJob = some ⟨.field, n, x :: rest⟩ → Answers (.tagProgramEnd true) s fun t =>
      getRecord t n = applyStep (getRecord s n) x ∧ t.tag.fieldJob = (if rest = [] then none else some ⟨.field, n, rest⟩) ∧
      t.tag.job = s.tag.job ∧ SameMem s t) ∧
    (s.boot.step ≠ 12 → (s.tag.job = none → Idles (.tagProgramEnd false) s) ∧ (s.tag.fieldJob = none → Idles (.tagProgramEnd true) s)) ∧
    (let q := getRecord s record.val;
      s.tag.job = none → s.tag.fieldJob = none → (hasMain s = true → q.agrees = false → q.damaged = false → Answers (.tagRepair record) s fun t =>
        t.tag.job = some ⟨.repair, record.val, repairSteps q⟩ ∧ Quiet s t []) ∧
      (q.agrees = true → Idles (.tagRepair record) s))

/-- Tamper, faults and calibration complete (R499 to R513, R519 to R523): an episode fires, counts, reports and queues its evidence,
and takes HOLD, STALL or a reset where its set has them; disagreements, quiet periods, evidence bits, disable fuses bit by bit; a record is
released by its time stamp; a storm ends; the selected item's offset is clamped and its detectors settle.
That the end of source 38's episode means a valid VBAT is the model's reading (log entry 40). -/
def Obligations.TamperComplete : Prop :=
  ∀ (s : State) (source : Fin 48) (value : BitVec 16),
    let i := source.val
    let src := getSrc s i
    let r := responseOf s i
    let able := srcReserved i = false ∧ srcFused s i = false
    let quiet := able ∧ src.firing = false ∧ s.bat.firing.getLsbD i = false
    let fired := fun (t : State) => getBit t (R.TMP_SRC_STATUS i) 10 = true ∧ t.evc.pend.getLsbD (528 + i) = true
    (quiet → hasMain s = true → inVigil s = false → s.ext.dip = none → r.toNat < 8 → Answers (.tamperEpisodeStart [source] true true) s fun t =>
      (getSrc t i).firing = true ∧ (getSrc t i).episodeSet = r ∧ fired t ∧
      getFld t (R.TMP_SRC_COUNT i) 15 8 = min 255 (getFld s (R.TMP_SRC_COUNT i) 15 8 + 1) ∧
      t.tmp.hold = (s.tmp.hold || r.getLsbD 2) ∧ t.tmp.stall = (s.tmp.stall || r.getLsbD 1) ∧
      (mode s ≠ mTEST → evidence s i < 240 → s.tmp.queue.length < 255 → t.tmp.queue = s.tmp.queue ++ [i]) ∧ t.otp = s.otp ∧ SameMem s t) ∧
    (quiet → hasMain s = true → inVigil s = false → s.ext.dip = none → r.getLsbD 3 = true → r.getLsbD 4 = false → r.getLsbD 5 = false → r.getLsbD 6 = false →
      Answers (.tamperEpisodeStart [source] true true) s fun t => ResetBegan s t 3 ∧ (getLatch t i).fired = true) ∧
    (quiet → inVigil s = true → srcVigil i = true → s.ext.dip = none → Answers (.tamperEpisodeStart [source] true true) s fun t =>
      (getLatch t i).fired = true ∧ (getLatch t i).evidence = min 7 ((getLatch s i).evidence + 1) ∧ t.bat.firing.getLsbD i = true ∧
      (r.getLsbD 6 = true → t.bat.spendLatch = true) ∧ SameMem s t) ∧
    (able → hasMain s = false → inVigil s = false → s.ext.dip = none → Idles (.tamperEpisodeStart [source] true true) s) ∧
    ((srcSingle i = false ∧ getBit s (R.TMP_SRC_CFG i) 8 = true) ∨ src.settling = true → s.ext.dip = none → inVigil s = false →
      Idles (.tamperEpisodeStart [source] true false) s) ∧
    (Answers (.tamperEpisodeEnd source) s fun t => (getSrc t i).firing = false ∧ t.bat.firing.getLsbD i = false ∧
      (∀ j, j ≠ i → getSrc t j = getSrc s j) ∧ Quiet s t []) ∧
    (able → srcSingle i = false → src.settling = false →
      (hasMain s = true → inVigil s = false → s.ext.dip = none → Answers (.disagreement source) s fun t => getBit t (R.TMP_SRC_STATUS i) 11 = true ∧
        getFld t (R.TMP_SRC_COUNT i) 7 0 = min 255 (getFld s (R.TMP_SRC_COUNT i) 7 0 + 1) ∧ t.evc.pend.getLsbD (528 + i) = true ∧ t.tmp = s.tmp ∧ SameMem s t) ∧
      (inVigil s = true → srcVigil i = true → Answers (.disagreement source) s fun t =>
        getLatch t i = { getLatch s i with disagree := min 7 ((getLatch s i).disagree + 1) } ∧ Quiet s t [])) ∧
    (src.firing = false → quietOf s i ≠ 0 → Answers (.quietPeriodEnd source) s fun t => (getSrc t i).ownsHold = false ∧ (getSrc t i).ownsStall = false ∧
      ((∀ j, j < 48 → j ≠ i → (getSrc s j).ownsHold = false) → t.tmp.hold = false) ∧
      ((∃ j, j < 48 ∧ j ≠ i ∧ (getSrc s j).ownsHold = true) → t.tmp.hold = s.tmp.hold) ∧
      ((∀ j, j < 48 → j ≠ i → (getSrc s j).ownsStall = false) → t.tmp.stall = false) ∧ Quiet s t []) ∧
    ((src.firing = true ∨ quietOf s i = 0) → Idles (.quietPeriodEnd source) s) ∧
    (∀ n rest o k, s.ext.dip = none → s.tmp.queue = n :: rest → evidenceBit s n = some (o, k) → Answers (.evidenceProgramEnd true) s fun t =>
      OtpBit t o k ∧ (∀ x y, OtpBit s x y → OtpBit t x y) ∧ ((∀ j, j < 48 → (getSrc s j).deferred = 0) → t.tmp.queue = rest) ∧ Quiet s t []) ∧
    (∀ n rest k, s.ext.dip = none → s.tmp.queue = [] → s.tmp.fuseJobs = n :: rest → let o := 0x100 + 16 * n + 15
      k < 8 → (∀ j, j < k → OtpBit s o j) → ¬ OtpBit s o k → Answers (.evidenceProgramEnd true) s fun t => OtpBit t o k ∧
        (∀ x y, OtpBit s x y → OtpBit t x y) ∧ Quiet s t [] ∧
        ((∃ j, k < j ∧ j < 8 ∧ ¬ OtpBit s o j) → t.tmp = s.tmp ∧ ∀ x y, (x ≠ o ∨ y ≠ k) → OtpBit t x y → OtpBit s x y) ∧
        ((∀ j, k < j → j < 8 → OtpBit s o j) → (∀ j, j < 8 → OtpBit t o j) ∧ t.tmp.fuseJobs = rest ∧ (getSrc t n).firing = false ∧
          (getSrc t n).ownsHold = (getSrc s n).ownsHold ∧ t.tmp.hold = s.tmp.hold)) ∧
    (Idles (.evidenceProgramEnd false) s) ∧
    (fld value 15 8 = 0xD5 → let x := fld value 5 0;
      ((x = 28 ∨ x = 39 ∨ srcReserved x = true) → Answers (.tmpFuse value) s fun t => getBit t R.TMP_ACTIVE 2 = true ∧ t.tmp = s.tmp ∧ Quiet s t [R.TMP_ACTIVE]) ∧
      (x ≠ 28 → x ≠ 39 → srcReserved x = false → srcFused s x = false → x ∉ s.tmp.fuseJobs → Answers (.tmpFuse value) s fun t =>
        t.tmp.fuseJobs = s.tmp.fuseJobs ++ [x] ∧ (getSrc t x).firing = false ∧ t.tmp.queue = s.tmp.queue ∧ t.otp = s.otp ∧ Quiet s t [])) ∧
    (fld value 15 8 ≠ 0xD5 → Idles (.tmpFuse value) s) ∧
    (∀ f, s.flt.first = some f → (f.stamp.setWidth 16 = value → Answers (.fltAckRegister value) s fun t =>
        t.flt.first = none ∧ t.flt.total = 0 ∧ t.flt.overflow = false ∧ Quiet s t []) ∧
      (f.stamp.setWidth 16 ≠ value → Idles (.fltAckRegister value) s)) ∧
    (s.flt.storm = true → Answers .stormEnd s fun t => t.flt.storm = false ∧ t.evc.pend.getLsbD 576 = true ∧
      getReg t R.FLT_RECOVERIES = BitVec.ofNat 16 (min 0xFFFF ((getReg s R.FLT_RECOVERIES).toNat + 1)) ∧ Quiet s t [R.FLT_RECOVERIES]) ∧
    (let item := (getReg s R.CAL_ITEM).toNat; let c := clampOffset (calBound s item) value;
      ((calOtp s item).isSome = true → Answers (.calOffset value) s fun t => Sys2Proof.Machine.calOffset t item = c ∧ (c ≠ value → getBit t R.CAL_STATUS 15 = true) ∧
        (∀ j ∈ calSources item, (getSrc t j).settling = true) ∧ (∀ j, j ≠ item → Sys2Proof.Machine.calOffset t j = Sys2Proof.Machine.calOffset s j) ∧
        Quiet s t [R.CAL_STATUS]) ∧ (calOtp s item = none → Idles (.calOffset value) s)) ∧
    (Answers (.settlingEnd value) s fun t => (∀ j ∈ calSources value.toNat, (getSrc t j).settling = false) ∧
      (∀ j, j ∉ calSources value.toNat → getSrc t j = getSrc s j) ∧ Quiet s t []) ∧
    (i = 38 → Answers (.tamperEpisodeEnd source) s fun t => t.ext.vbat = true)

/-- A write to an internal register of a word whose tag is not DATA is a tag fault, and leaves nothing but its record: the register
keeps its value (R8). -/
def Obligations.RegisterWriteTagFault : Prop :=
  ∀ (s : State) (m : Master) (waddr : BitVec 32) (w : Word), region waddr.toNat = .register → w.tag ≠ .data →
    WriteAllowed s m waddr.toNat (isSecret w) → exec (.registerWrite m waddr w) s = .next (fault s 1 578 .tag m waddr)

/-- Writes to PRL_RING_BASE_LO, PRL_RING_BASE_HI and PRL_RING_CFG, by halves as the supervisor or a port makes them, take effect while
RING_EN is 0, and otherwise leave everything as it was (R93). -/
def Obligations.RingSetupWhileDisabled : Prop :=
  ∀ (s : State) (m : Master) (i : Nat) (v : BitVec 16), 8 ≤ i → i < 14 → s.boot.step ≠ 0 →
    (WriteAllowed s m (0x30100000 + i) false ∨
      (isPort m = true ∧ swapHolds s (0x30100000 + i) = false ∧ portLive s (portOf (decide (m = 578))) = true)) →
    let c := Instr.registerWrite m (BitVec.ofNat 32 (0x30100000 + i)) (dataWord v)
    let q := s.parlour
    (q.ringEn = true → Idles c s) ∧
    (q.ringEn = false →
      (i = 8 → exec c s = .next { s with parlour := { q with base := putWord64 q.base 0 (v &&& 0xFFC0) } }) ∧
      (9 ≤ i → i < 12 → exec c s = .next { s with parlour := { q with base := putWord64 q.base (i - 8) v } }) ∧
      (i = 12 → exec c s = .next { s with parlour := { q with ringAux := bit v 8, sizeLog2 := max 4 (min 12 (fld v 3 0)) } }))

/-- BLANK_CHECK ends with OK if the page is blank and NOT_BLANK if it is not, applies no pulse, and is allowed in every block state
(R416). What firmware then does with a write of the ring that waits (R175) is said apart. -/
def Obligations.BlankCheckTellsBlank : Prop :=
  ∀ (s : State) (bank : Bank), hasMain s = true → s.flash.linkUp = true → (getBank s bank.val).job = none →
    let b := bank.val
    let blank := pageBlank s b (getFld s (R.FLC_ADDR b) 11 6 * 64 + getFld s (R.FLC_ADDR b) 5 0)
    Answers (.blankCheck bank) s fun t => t.flash.pages = s.flash.pages ∧ t.flash.blocks = s.flash.blocks ∧
      Answers (.flashCommandEnd bank .done) t fun v => ∃ u, v = ringStep u ∧ getFld u (R.FLC_RESULT b) 15 12 = (if blank then 0 else 1) ∧
        (getBank u b).job = none ∧ u.flash.pages = s.flash.pages ∧ u.flash.blocks = s.flash.blocks

/-- What cards and readers do reaches nothing but their blocks (R456, R476, R488, R494). A command of a card slot leaves RAM, OTP,
flash, the tag, the fault collector, every core, the other slots, and every register outside the slot's as they were; a command of
the field leaves RAM, OTP, flash, every core, the slots, the access table, and every register but the tag's, the fault collector's
and the mode as they were. -/
def Obligations.CardAndFieldFrames : Prop :=
  (∀ (s t : State) (slot : Slot) (bs : Bytes) (x y z : Bool) (n k : Nat) (c : Instr),
    c ∈ [Instr.activate slot, .atrComplete slot bs x y z, .noAtr slot, .atrCharacterTimeout slot, .exchange slot, .cardResponse slot bs n x k,
      .cardWaitingTimeout slot, .deactivate slot, .cardInsertion slot, .cardRemoval slot x, .overcurrent slot, .clockStop slot] →
    exec c s = .next t → SameMem s t ∧ t.otp = s.otp ∧ t.tag = s.tag ∧ t.flt = s.flt ∧ t.cells = s.cells ∧ t.flash = s.flash ∧
      (∀ j, j ≠ slot.val → getSlot t j = getSlot s j) ∧
      ∀ w, (w < R.CSL_CFG slot.val - 1 ∨ R.CSL_CFG slot.val + 0xFFF ≤ w) → getReg t w = getReg s w) ∧
  (∀ (s t : State) (sel : SelectArgs) (q : QueryArgs) (ses : Fin 4) (u : BitVec 3) (x rn : BitVec 16) (bank : Fin 4) (p n : Nat)
    (ws : List (BitVec 16)) (mask action : BitVec 10) (flag : Fin 5) (c : Instr),
    c ∈ [Instr.fieldOn, .fieldLoss, .select sel, .query q, .queryAdjust ses u, .queryRep ses, .ack rn, .nak, .reqRn rn, .access x rn,
      .read bank p n rn, .write bank p x rn, .blockWrite bank p ws rn, .lock mask action rn, .kill x rn, .flagPersistenceExpiry flag] →
    exec c s = .next t → SameMem s t ∧ t.otp = s.otp ∧ t.flash = s.flash ∧ t.cells = s.cells ∧ t.cards = s.cards ∧ t.act = s.act ∧
      ∀ w, w ≠ R.PWR_MODE → (w < 0x30D00000 ∨ 0x30E00000 ≤ w) → (w < 0x30F00000 ∨ 0x31000000 ≤ w) → getReg t w = getReg s w)

/-! ### The machine as a whole -/

/-- A step takes the command at the front of the queue and carries it out on the state with the queue's rest. With no command waiting
it is a tick of 1 µs (R452; that a tick is a step of its own is the model's choice, log entry 45): the time base rises by 1 while
main power is present and no slew is due, or the crystal runs on VBAT, and nothing but it and the slew's count changes. -/
def Obligations.StepRunsFront : Prop :=
  (∀ (s : State) (c : Instr) (rest : List Instr), s.pending = c :: rest → step s = exec c { s with pending := rest }) ∧
  ∀ (s : State), s.pending = [] → ∃ t, step s = .next t ∧ t = { s with bat := { s.bat with timeBase := t.bat.timeBase }, pps := t.pps } ∧
    (hasMain s = true → s.pps.slew = 0 → t.bat.timeBase = s.bat.timeBase + 1) ∧
    (hasMain s = false → s.ext.vbat = true → s.ext.xtalOk = true → t.bat.timeBase = s.bat.timeBase + 1) ∧
    (hasMain s = false → (s.ext.vbat = false ∨ s.ext.xtalOk = false) → t = s)

/-- Every command completes, whatever the state, and none touches the queue. -/
def Obligations.EveryCommandCompletes : Prop := ∀ (c : Instr) (s : State), Answers c s fun t => t.pending = s.pending

/-- What the device is after a power-on reset (R42, R51, R52, R221, R377, R424, R431, R432): BOOT, RAM scrubbed, every pail idle, vats
0 to 31 powered and the spares not, ports held, protection unset, one reset cause, no record, no command waiting; memory and
registers stand in canonical form. -/
def Obligations.ResetLeaves : Prop :=
  let s := State.reset
  mode s = mBOOT ∧ (∀ a, readMem s a = zeroWord) ∧ (∀ p, p < 64 → (getPail s p).queue = [] ∧ (getPail s p).reqHeld = false) ∧
    (∀ p, p < 32 → getReg s (R.VAT_CTRL p) = 0x0003) ∧ (∀ p, 32 ≤ p → p < 34 → getReg s (R.VAT_CTRL p) = 0x0008) ∧
    (∀ p, p < 32 → modeNow s p = 0) ∧ gateOpen s = false ∧ getFld s R.FLC_PROT 1 0 = 3 ∧ getReg s R.PWR_RSTCAUSE = 1 ∧
    (∀ i, i < 139 → arbN s i = 16) ∧ s.flt.first = none ∧ s.parlour.events.getLsbD 4 = true ∧ s.pending = [] ∧ MemOk s ∧ RegsOk s

/-- Every step keeps the canonical form of memory and of the registers: addresses strictly rising, nothing listed that an unlisted
address reads as. -/
def Obligations.StepKeepsCanonicalForm : Prop :=
  ∀ (s t : State), step s = .next t → (MemOk s → MemOk t) ∧ (RegsOk s → RegsOk t)

/-- No step, a reset among them, clears a bit of OTP, so no evidence count ever falls (R508, R562). -/
def Obligations.OtpBitsStay : Prop :=
  ∀ (s t : State), step s = .next t → (∀ o i, OtpBit s o i → OtpBit t o i) ∧ ∀ i, evidence s i ≤ evidence t i
end

