-- ==== Sys2Proof/Laws/Crypto.lean ====
section
/-!
SUPPORT. Decryption undoes encryption: AES (FIPS 197) on a block, and AES key wrap (SP 800-38F) on a key-store record, so that a
key stored under the owner root can be read back (R261).
-/
namespace Sys2Proof.Machine

/-! ### The constants of SHA-256 -/

/-- The first 64 primes. -/
def firstPrimes : List Nat :=
  [2, 3, 5, 7, 11, 13, 17, 19, 23, 29, 31, 37, 41, 43, 47, 53, 59, 61, 67, 71, 73, 79, 83, 89, 97, 101, 103, 107, 109, 113, 127, 131] ++
  [137, 139, 149, 151, 157, 163, 167, 173, 179, 181, 191, 193, 197, 199, 211, 223, 227, 229, 233, 239, 241, 251, 257, 263, 269, 271, 277,
    281, 283, 293, 307, 311]
/-- The constant of each round is the fraction of a prime's cube root that 32 bits hold. -/
theorem roundConstants_roots : (firstPrimes.zip roundConstants).all (fun q => (List.range 7).any (fun n =>
    let r := n * 2 ^ 32 + q.2.toNat
    decide (r ^ 3 ≤ q.1 * 2 ^ 96) && decide (q.1 * 2 ^ 96 < (r + 1) ^ 3))) = true := by decide +kernel
/-- The words of the hash value before the first block are the fractions of square roots. -/
theorem hashStart_roots : (firstPrimes.zip hashStart).all (fun q => (List.range 5).any (fun n =>
    let r := n * 2 ^ 32 + q.2.toNat
    decide (r ^ 2 ≤ q.1 * 2 ^ 64) && decide (q.1 * 2 ^ 64 < (r + 1) ^ 2))) = true := by decide +kernel

/-! ### Bytes and blocks -/

@[simp] theorem xorB_length (a b : Bytes) : (xorB a b).length = min a.length b.length := by simp [xorB]
@[simp] theorem shiftRows_length (i : Bool) (st : Bytes) : (shiftRows i st).length = 16 := by simp [shiftRows]
@[simp] theorem mixColumns_length (m : List Byte) (st : Bytes) : (mixColumns m st).length = 16 := by simp [mixColumns]

/-- A byte string exclusive-ORed twice with another of its length is as it was. -/
theorem xorB_self (a k : Bytes) (h : a.length = k.length) : xorB (xorB a k) k = a := by
  induction a generalizing k with
  | nil => rfl
  | cons x a ih =>
    match k, h with
    | y :: k, h =>
      simp only [List.length_cons, Nat.add_right_cancel_iff] at h
      have := ih k h
      simp only [xorB, List.zipWith_cons_cons] at this ⊢
      rw [this, BitVec.xor_assoc, BitVec.xor_self, BitVec.xor_zero]

theorem xor_twice (u v : Byte) : u ^^^ (u ^^^ v) = v := by rw [← BitVec.xor_assoc, BitVec.xor_self, BitVec.zero_xor]
theorem xor_left_comm' (u v w : Byte) : u ^^^ (v ^^^ w) = v ^^^ (u ^^^ w) := by ac_rfl

/-- Multiplication by x is linear. -/
theorem xtime_xor (x y : Byte) : xtime (x ^^^ y) = xtime x ^^^ xtime y := by
  simp only [xtime, BitVec.getLsbD_xor, BitVec.shiftLeft_xor_distrib]
  cases hx : x.getLsbD 7 <;> cases hy : y.getLsbD 7 <;> simp [xor_left_comm', BitVec.xor_comm, BitVec.xor_assoc]

/-- The S-box and its inverse. -/
theorem invSbox_sbox : ∀ a : Byte, invSbox (sbox a) = a := by decide +kernel

/-- The products MixColumns takes, in powers of x. -/
theorem gmul_powers (b : Byte) : gmul 1 b = b ∧ gmul 2 b = xtime b ∧ gmul 3 b = b ^^^ xtime b ∧
    gmul 9 b = b ^^^ xtime (xtime (xtime b)) ∧ gmul 11 b = b ^^^ xtime b ^^^ xtime (xtime (xtime b)) ∧
    gmul 13 b = b ^^^ xtime (xtime b) ^^^ xtime (xtime (xtime b)) ∧
    gmul 14 b = xtime b ^^^ xtime (xtime b) ^^^ xtime (xtime (xtime b)) := by
  refine ⟨?_, ?_, ?_, ?_, ?_, ?_, ?_⟩ <;> simp [gmul, List.range_succ]

/-- Multiplication by a constant is linear. -/
theorem gmul_xor (k x y : Byte) (h : k ∈ [1, 2, 3, 9, 11, 13, (14 : Byte)]) : gmul k (x ^^^ y) = gmul k x ^^^ gmul k y := by
  simp only [List.mem_cons, List.not_mem_nil, or_false] at h
  rcases h with rfl | rfl | rfl | rfl | rfl | rfl | rfl <;> simp only [gmul_powers, xtime_xor] <;> ac_rfl

theorem gmul_zero (k : Byte) (h : k ∈ [1, 2, 3, 9, 11, 13, (14 : Byte)]) : gmul k 0 = 0 := by
  revert k; decide

/-- What one byte of a column contributes to each byte of the column mixed and unmixed. -/
theorem mix_byte (a : Byte) :
    gmul 14 (gmul 2 a) ^^^ gmul 11 (gmul 1 a) ^^^ gmul 13 (gmul 1 a) ^^^ gmul 9 (gmul 3 a) = a ∧
    gmul 14 (gmul 3 a) ^^^ gmul 11 (gmul 2 a) ^^^ gmul 13 (gmul 1 a) ^^^ gmul 9 (gmul 1 a) = 0 ∧
    gmul 14 (gmul 1 a) ^^^ gmul 11 (gmul 3 a) ^^^ gmul 13 (gmul 2 a) ^^^ gmul 9 (gmul 1 a) = 0 ∧
    gmul 14 (gmul 1 a) ^^^ gmul 11 (gmul 1 a) ^^^ gmul 13 (gmul 3 a) ^^^ gmul 9 (gmul 2 a) = 0 := by
  simp only [gmul_powers, xtime_xor]
  generalize xtime a = b
  generalize xtime b = c
  generalize xtime c = d
  generalize xtime d = e
  refine ⟨?_, ?_, ?_, ?_⟩ <;> simp [xor_left_comm', BitVec.xor_comm, BitVec.xor_assoc]

theorem gmul_lin (k : Byte) (h : k ∈ [9, 11, 13, (14 : Byte)]) (x y : Byte) : gmul k (x ^^^ y) = gmul k x ^^^ gmul k y :=
  gmul_xor k x y (by revert k; decide)
theorem zero_xor' (x : Byte) : 0 ^^^ x = x := BitVec.zero_xor
theorem xor_zero' (x : Byte) : x ^^^ 0 = x := BitVec.xor_zero

/-- Row 0 of a column, mixed and unmixed. -/
theorem mix_row0 (a b c d : Byte) :
    0
      ^^^ gmul 14 (0 ^^^ gmul 2 a ^^^ gmul 3 b ^^^ gmul 1 c ^^^ gmul 1 d)
      ^^^ gmul 11 (0 ^^^ gmul 1 a ^^^ gmul 2 b ^^^ gmul 3 c ^^^ gmul 1 d)
      ^^^ gmul 13 (0 ^^^ gmul 1 a ^^^ gmul 1 b ^^^ gmul 2 c ^^^ gmul 3 d)
      ^^^ gmul 9 (0 ^^^ gmul 3 a ^^^ gmul 1 b ^^^ gmul 1 c ^^^ gmul 2 d) = a := by
  simp only [zero_xor', gmul_lin 14 (by decide), gmul_lin 11 (by decide), gmul_lin 13 (by decide), gmul_lin 9 (by decide)]
  conv => rhs; rw [← (mix_byte a).1, ← xor_zero' (_ ^^^ _), ← (mix_byte b).2.1, ← xor_zero' (gmul 9 (gmul 1 b)),
    ← (mix_byte c).2.2.1, ← xor_zero' (gmul 9 (gmul 1 c)), ← (mix_byte d).2.2.2]
  ac_rfl

/-- Row 1 of a column, mixed and unmixed. -/
theorem mix_row1 (a b c d : Byte) :
    0
      ^^^ gmul 9 (0 ^^^ gmul 2 a ^^^ gmul 3 b ^^^ gmul 1 c ^^^ gmul 1 d)
      ^^^ gmul 14 (0 ^^^ gmul 1 a ^^^ gmul 2 b ^^^ gmul 3 c ^^^ gmul 1 d)
      ^^^ gmul 11 (0 ^^^ gmul 1 a ^^^ gmul 1 b ^^^ gmul 2 c ^^^ gmul 3 d)
      ^^^ gmul 13 (0 ^^^ gmul 3 a ^^^ gmul 1 b ^^^ gmul 1 c ^^^ gmul 2 d) = b := by
  simp only [zero_xor', gmul_lin 14 (by decide), gmul_lin 11 (by decide), gmul_lin 13 (by decide), gmul_lin 9 (by decide)]
  conv => rhs; rw [← (mix_byte b).1, ← xor_zero' (_ ^^^ _), ← (mix_byte c).2.1, ← xor_zero' (gmul 9 (gmul 1 c)),
    ← (mix_byte d).2.2.1, ← xor_zero' (gmul 9 (gmul 1 d)), ← (mix_byte a).2.2.2]
  ac_rfl

/-- Row 2 of a column, mixed and unmixed. -/
theorem mix_row2 (a b c d : Byte) :
    0
      ^^^ gmul 13 (0 ^^^ gmul 2 a ^^^ gmul 3 b ^^^ gmul 1 c ^^^ gmul 1 d)
      ^^^ gmul 9 (0 ^^^ gmul 1 a ^^^ gmul 2 b ^^^ gmul 3 c ^^^ gmul 1 d)
      ^^^ gmul 14 (0 ^^^ gmul 1 a ^^^ gmul 1 b ^^^ gmul 2 c ^^^ gmul 3 d)
      ^^^ gmul 11 (0 ^^^ gmul 3 a ^^^ gmul 1 b ^^^ gmul 1 c ^^^ gmul 2 d) = c := by
  simp only [zero_xor', gmul_lin 14 (by decide), gmul_lin 11 (by decide), gmul_lin 13 (by decide), gmul_lin 9 (by decide)]
  conv => rhs; rw [← (mix_byte c).1, ← xor_zero' (_ ^^^ _), ← (mix_byte d).2.1, ← xor_zero' (gmul 9 (gmul 1 d)),
    ← (mix_byte a).2.2.1, ← xor_zero' (gmul 9 (gmul 1 a)), ← (mix_byte b).2.2.2]
  ac_rfl

/-- Row 3 of a column, mixed and unmixed. -/
theorem mix_row3 (a b c d : Byte) :
    0
      ^^^ gmul 11 (0 ^^^ gmul 2 a ^^^ gmul 3 b ^^^ gmul 1 c ^^^ gmul 1 d)
      ^^^ gmul 13 (0 ^^^ gmul 1 a ^^^ gmul 2 b ^^^ gmul 3 c ^^^ gmul 1 d)
      ^^^ gmul 9 (0 ^^^ gmul 1 a ^^^ gmul 1 b ^^^ gmul 2 c ^^^ gmul 3 d)
      ^^^ gmul 14 (0 ^^^ gmul 3 a ^^^ gmul 1 b ^^^ gmul 1 c ^^^ gmul 2 d) = d := by
  simp only [zero_xor', gmul_lin 14 (by decide), gmul_lin 11 (by decide), gmul_lin 13 (by decide), gmul_lin 9 (by decide)]
  conv => rhs; rw [← (mix_byte d).1, ← xor_zero' (_ ^^^ _), ← (mix_byte a).2.1, ← xor_zero' (gmul 9 (gmul 1 a)),
    ← (mix_byte b).2.2.1, ← xor_zero' (gmul 9 (gmul 1 b)), ← (mix_byte c).2.2.2]
  ac_rfl

/-! ### Blocks -/

/-- A block of 16 bytes, byte by byte. -/
theorem block_bytes (st : Bytes) (h : st.length = 16) :
    ∃ b0 b1 b2 b3 b4 b5 b6 b7 b8 b9 b10 b11 b12 b13 b14 b15, st = [b0, b1, b2, b3, b4, b5, b6, b7, b8, b9, b10, b11, b12, b13, b14, b15] := by
  match st, h with
  | [b0, b1, b2, b3, b4, b5, b6, b7, b8, b9, b10, b11, b12, b13, b14, b15], _ => exact ⟨b0, b1, b2, b3, b4, b5, b6, b7, b8, b9, b10, b11, b12, b13, b14, b15, rfl⟩

theorem shiftRows_inv (st : Bytes) (h : st.length = 16) : shiftRows true (shiftRows false st) = st := by
  obtain ⟨b0, b1, b2, b3, b4, b5, b6, b7, b8, b9, b10, b11, b12, b13, b14, b15, rfl⟩ := block_bytes st h
  rfl

theorem mixColumns_inv (st : Bytes) (h : st.length = 16) : mixColumns [14, 11, 13, 9] (mixColumns [2, 3, 1, 1] st) = st := by
  obtain ⟨b0, b1, b2, b3, b4, b5, b6, b7, b8, b9, b10, b11, b12, b13, b14, b15, rfl⟩ := block_bytes st h
  have cons : ∀ {a b : Byte} {l m : Bytes}, a = b → l = m → a :: l = b :: m := fun h k => by rw [h, k]
  exact cons (mix_row0 b0 b1 b2 b3) (
    cons (mix_row1 b0 b1 b2 b3) (
    cons (mix_row2 b0 b1 b2 b3) (
    cons (mix_row3 b0 b1 b2 b3) (
    cons (mix_row0 b4 b5 b6 b7) (
    cons (mix_row1 b4 b5 b6 b7) (
    cons (mix_row2 b4 b5 b6 b7) (
    cons (mix_row3 b4 b5 b6 b7) (
    cons (mix_row0 b8 b9 b10 b11) (
    cons (mix_row1 b8 b9 b10 b11) (
    cons (mix_row2 b8 b9 b10 b11) (
    cons (mix_row3 b8 b9 b10 b11) (
    cons (mix_row0 b12 b13 b14 b15) (
    cons (mix_row1 b12 b13 b14 b15) (
    cons (mix_row2 b12 b13 b14 b15) (
    cons (mix_row3 b12 b13 b14 b15) (
    rfl))))))))))))))))

theorem subBytes_inv (st : Bytes) : (st.map sbox).map invSbox = st := by
  simp only [List.map_map]
  conv => rhs; rw [← List.map_id st]
  exact List.map_congr_left fun a _ => invSbox_sbox a

/-! ### Folds undone -/

/-- Steps done in order are undone in the reverse order. -/
theorem foldl_undo {α β : Type} (f g : α → β → α) (P : α → Prop) (l : List β)
    (hP : ∀ a, ∀ b ∈ l, P a → P (f a b)) (h : ∀ a, ∀ b ∈ l, P a → g (f a b) b = a) :
    ∀ a, P a → P (l.foldl f a) ∧ l.reverse.foldl g (l.foldl f a) = a := by
  induction l with
  | nil => intro a ha; exact ⟨ha, rfl⟩
  | cons b l ih =>
    intro a ha
    have hb := hP a b (by simp) ha
    obtain ⟨h1, h2⟩ := ih (fun a c hc => hP a c (by simp [hc])) (fun a c hc => h a c (by simp [hc])) (f a b) hb
    refine ⟨h1, ?_⟩
    simp only [List.foldl_cons, List.reverse_cons, List.foldl_append, List.foldl_nil]
    rw [h2, h a b (by simp) ha]

/-! ### AES -/

/-- Decryption undoes encryption under a schedule of 16-byte round keys. -/
theorem aesDec_aesEnc (key block : Bytes) (hb : block.length = 16) (h2 : 2 ≤ (aesKeys key).length)
    (hk : ∀ k ∈ aesKeys key, k.length = 16) : aesDec key (aesEnc key block) = block := by
  unfold aesDec aesEnc
  cases hs : aesKeys key with
  | nil => rfl
  | cons k0 ks =>
    rw [hs] at h2 hk
    have hne : ks ≠ [] := by rintro rfl; simp at h2
    have hl : (ks.getLastD []).length = 16 := by
      rw [List.getLastD_eq_getLast?, List.getLast?_eq_some_getLast hne]
      exact hk _ (by simp [List.getLast_mem])
    have h0 : k0.length = 16 := hk k0 (by simp)
    have hx : (xorB block k0).length = 16 := by simp [hb, h0]
    obtain ⟨hm, hu⟩ := foldl_undo (fun st k => xorB (mixColumns [2, 3, 1, 1] (shiftRows false (st.map sbox))) k)
      (fun st k => (shiftRows true (mixColumns [14, 11, 13, 9] (xorB st k))).map invSbox) (fun st => st.length = 16) ks.dropLast
      (fun a k hkm _ => by simp [hk k (by simp [(List.dropLast_sublist ks).subset hkm])])
      (fun a k hkm ha => by
        rw [xorB_self _ _ (by simp [hk k (by simp [(List.dropLast_sublist ks).subset hkm])]), mixColumns_inv _ (by simp),
          shiftRows_inv _ (by simpa using ha), subBytes_inv]) (xorB block k0) hx
    simp only
    rw [xorB_self _ _ (by rw [hl]; simp), shiftRows_inv _ (by simpa using hm), subBytes_inv, hu, xorB_self _ _ (by omega)]

theorem aesEnc_length (key block : Bytes) (hb : block.length = 16) (h2 : 2 ≤ (aesKeys key).length)
    (hk : ∀ k ∈ aesKeys key, k.length = 16) : (aesEnc key block).length = 16 := by
  unfold aesEnc
  cases hs : aesKeys key with
  | nil => exact hb
  | cons k0 ks =>
    rw [hs] at h2 hk
    have hne : ks ≠ [] := by rintro rfl; simp at h2
    have hl : (ks.getLastD []).length = 16 := by
      rw [List.getLastD_eq_getLast?, List.getLast?_eq_some_getLast hne]
      exact hk _ (by simp [List.getLast_mem])
    simp only [xorB_length, shiftRows_length, hl, Nat.min_self]

/-! ### The key schedule of 32 bytes -/

/-- What cutting a list whose length n divides gives. -/
theorem chunks_all {α : Type} (n : Nat) (hn : 0 < n) : ∀ (k fuel : Nat) (l : List α), l.length = k * n → k < fuel →
    (∀ c ∈ chunks n fuel l, c.length = n) ∧ (chunks n fuel l).length = k ∧ (chunks n fuel l).flatten = l := by
  intro k
  induction k with
  | zero =>
    intro fuel l hl hf
    obtain ⟨fuel, rfl⟩ : ∃ f, fuel = f + 1 := ⟨fuel - 1, by omega⟩
    have : l = [] := by simpa using hl
    subst this; simp [chunks]
  | succ k ih =>
    intro fuel l hl hf
    obtain ⟨fuel, rfl⟩ : ∃ f, fuel = f + 1 := ⟨fuel - 1, by omega⟩
    cases l with
    | nil => rw [Nat.succ_mul] at hl; simp at hl; omega
    | cons a l =>
      rw [Nat.succ_mul] at hl
      obtain ⟨h1, h2, h3⟩ := ih fuel ((a :: l).drop n) (by rw [List.length_drop]; omega) (by omega)
      refine ⟨?_, by simp [chunks, h2], by simp [chunks, h3, List.take_append_drop]⟩
      intro c hc
      simp only [chunks, List.mem_cons] at hc
      rcases hc with rfl | hc
      · rw [List.length_take]; omega
      · exact h1 c hc

theorem cut_all {α : Type} (n k : Nat) (hn : 0 < n) (l : List α) (h : l.length = k * n) :
    (∀ c ∈ cut n l, c.length = n) ∧ (cut n l).length = k ∧ (cut n l).flatten = l :=
  chunks_all n hn k _ l h (by rw [h]; have := Nat.le_mul_of_pos_right k hn; omega)

/-- Cutting a list of pieces of n joined gives the pieces. -/
theorem cut_flatten {α : Type} (n : Nat) (hn : 0 < n) (ls : List (List α)) (h : ∀ c ∈ ls, c.length = n) : cut n ls.flatten = ls := by
  have go : ∀ (ls : List (List α)) (fuel : Nat), (∀ c ∈ ls, c.length = n) → ls.length < fuel → chunks n fuel ls.flatten = ls := by
    intro ls
    induction ls with
    | nil => intro fuel _ hf; obtain ⟨f, rfl⟩ : ∃ f, fuel = f + 1 := ⟨fuel - 1, by omega⟩; simp [chunks]
    | cons c ls ih =>
      intro fuel hc hf
      obtain ⟨f, rfl⟩ : ∃ f, fuel = f + 1 := ⟨fuel - 1, by omega⟩
      have hl : c.length = n := hc c (by simp)
      have hx : chunks n (f + 1) (c ++ ls.flatten) = (c ++ ls.flatten).take n :: chunks n f ((c ++ ls.flatten).drop n) := by
        cases c with
        | nil => simp at hl; omega
        | cons a c => rfl
      simp only [List.flatten_cons]
      rw [hx, ← hl, List.take_left, List.drop_left, hl, ih f (fun x hx => hc x (by simp [hx])) (by simp at hf; omega)]
  refine go ls _ h ?_
  have : ls.flatten.length = ls.length * n := by
    clear go
    induction ls with
    | nil => simp
    | cons c ls ih => simp [h c (by simp), ih (fun x hx => h x (by simp [hx])), Nat.succ_mul, Nat.add_comm]
  rw [this]; have := Nat.le_mul_of_pos_right ls.length hn; omega

theorem aesExpand_words (nk : Nat) (h0 : 0 < nk) : ∀ (n i : Nat) (w : List Bytes), (∀ x ∈ w, x.length = 4) → nk ≤ w.length →
    (∀ x ∈ aesExpand nk n i w, x.length = 4) ∧ (aesExpand nk n i w).length = w.length + n := by
  intro n
  induction n with
  | zero => intro i w h _; exact ⟨h, rfl⟩
  | succ n ih =>
    intro i w h hl
    have get : ∀ j, j < w.length → (w.getD j []).length = 4 := fun j hj => by
      rw [List.getD_eq_getElem?_getD, List.getElem?_eq_getElem hj]; exact h _ (List.getElem_mem hj)
    have a := get 0 (by omega)
    have b := get (nk - 1) (by omega)
    simp only [aesExpand]
    obtain ⟨h1, h2⟩ := ih (i + 1) (xorB (w.getD (nk - 1) []) (if i % nk = 0 then
        xorB (((w.getD 0 []).drop 1 ++ (w.getD 0 []).take 1).map sbox) [(List.range (i / nk - 1)).foldl (fun b _ => xtime b) 1, 0, 0, 0]
      else if 6 < nk ∧ i % nk = 4 then (w.getD 0 []).map sbox else w.getD 0 []) :: w) (by
        intro x hx
        rcases List.mem_cons.mp hx with rfl | hx
        · rw [xorB_length, b]
          split
          · simp only [xorB_length, List.length_map, List.length_append, List.length_drop, List.length_take, a, List.length_cons, List.length_nil]
            decide
          · split <;> simp only [List.length_map, a, Nat.min_self]
        · exact h x hx) (by simp; omega)
    exact ⟨h1, by rw [h2]; simp; omega⟩

/-- The round keys of a key of 32 bytes: 15, of 16 bytes each. -/
theorem aesKeys_32 (key : Bytes) (h : key.length = 32) : (aesKeys key).length = 15 ∧ ∀ k ∈ aesKeys key, k.length = 16 := by
  obtain ⟨c1, c2, _⟩ := cut_all 4 8 (by decide) key (by omega)
  obtain ⟨e1, e2⟩ := aesExpand_words 8 (by decide) 52 8 (cut 4 key).reverse (by simpa using c1) (by simp [c2])
  obtain ⟨w1, w2, w3⟩ := cut_all 4 15 (by decide) (aesExpand 8 52 8 (cut 4 key).reverse).reverse (by simp [e2, c2])
  unfold aesKeys
  simp only [h]
  refine ⟨by simpa using w2, ?_⟩
  intro k hk
  obtain ⟨q, hq, rfl⟩ := List.mem_map.mp hk
  have hw : ∀ x ∈ q, x.length = 4 := fun x hx => e1 x (by
    rw [← List.mem_reverse, ← w3]; exact List.mem_flatten.mpr ⟨q, hq, hx⟩)
  have h4 := w1 q hq
  match q, h4 with
  | [a, b, c, d], _ => simp [hw a (by simp), hw b (by simp), hw c (by simp), hw d (by simp)]

/-! ### Key wrap -/

theorem leBytes_length (k : Nat) : ∀ n, (leBytes k n).length = k := by
  induction k with
  | zero => intro n; rfl
  | succ k ih => intro n; simp [leBytes, ih]

@[simp] theorem beBytes_length (k n : Nat) : (beBytes k n).length = k := by simp [beBytes, leBytes_length]

/-- The registers of a key wrap of n blocks. -/
def KwOk (n : Nat) (st : Bytes × List Bytes) : Prop := st.1.length = 8 ∧ st.2.length = n ∧ ∀ r ∈ st.2, r.length = 8

theorem kwStep_ok (key : Bytes) (hk : key.length = 32) (n j i : Nat) (hi : i < n) (st : Bytes × List Bytes) (h : KwOk n st) :
    KwOk n (kwStep key st j n i) ∧ kwUnstep key (kwStep key st j n i) j n i = st := by
  obtain ⟨h1, h2, h3⟩ := h
  obtain ⟨k1, k2⟩ := aesKeys_32 key hk
  obtain ⟨a, rs⟩ := st
  simp only at h1 h2 h3
  have hr : rs.getD i [] = rs[i]'(by omega) := by rw [List.getD_eq_getElem?_getD, List.getElem?_eq_getElem (by omega)]; rfl
  have hri : (rs[i]'(by omega)).length = 8 := h3 _ (List.getElem_mem _)
  have hf : (a ++ rs.getD i []).length = 16 := by rw [hr]; simp [h1, hri]
  have he := aesEnc_length key _ hf (by omega) k2
  have hd := aesDec_aesEnc key _ hf (by omega) k2
  simp only [kwStep, kwUnstep]
  generalize aesEnc key (a ++ rs.getD i []) = b at he hd
  constructor
  · refine ⟨by simp [he], by simpa using h2, ?_⟩
    intro r hr'
    rcases List.mem_or_eq_of_mem_set hr' with hm | rfl
    · exact h3 r hm
    · simp [he]
  · have hs : (rs.set i (b.drop 8)).getD i [] = b.drop 8 := by
      rw [List.getD_eq_getElem?_getD, List.getElem?_set_self (by omega)]; rfl
    rw [xorB_self _ _ (by simp [he]), hs, List.take_append_drop, hd, hr, List.set_set]
    rw [List.take_left' h1, List.drop_left' h1, List.set_getElem_self]

/-- A wrapped key can be unwrapped: whole registers of 8 bytes, two at least. -/
theorem kwUnwrap_kwWrap (key m : Bytes) (n : Nat) (hk : key.length = 32) (hm : m.length = n * 8) (hn : 2 ≤ n) :
    kwUnwrap key (kwWrap key m) = some m := by
  obtain ⟨c1, c2, c3⟩ := cut_all 8 n (by decide) m hm
  have h0 : KwOk n (List.replicate 8 (0xA6 : Byte), cut 8 m) := ⟨by simp, c2, c1⟩
  have inner : ∀ j (st : Bytes × List Bytes), KwOk n st →
      KwOk n ((List.range n).foldl (fun st i => kwStep key st j n i) st) ∧
      (List.range n).reverse.foldl (fun st i => kwUnstep key st j n i) ((List.range n).foldl (fun st i => kwStep key st j n i) st) = st :=
    fun j st h => foldl_undo (fun st i => kwStep key st j n i) (fun st i => kwUnstep key st j n i) (KwOk n) (List.range n)
      (fun a i hi ha => (kwStep_ok key hk n j i (by simpa using hi) a ha).1)
      (fun a i hi ha => (kwStep_ok key hk n j i (by simpa using hi) a ha).2) st h
  obtain ⟨hp, hu⟩ := foldl_undo (fun st j => (List.range n).foldl (fun st i => kwStep key st j n i) st)
    (fun st j => (List.range n).reverse.foldl (fun st i => kwUnstep key st j n i) st) (KwOk n) (List.range 6)
    (fun a j _ ha => (inner j a ha).1) (fun a j _ ha => (inner j a ha).2) _ h0
  simp only [kwWrap, kwUnwrap, c2]
  generalize (List.range 6).foldl (fun st j => (List.range n).foldl (fun st i => kwStep key st j n i) st)
    (List.replicate 8 (0xA6 : Byte), cut 8 m) = st at hp hu
  obtain ⟨a, rs⟩ := st
  obtain ⟨p1, p2, p3⟩ := hp
  simp only at p1 p2 p3
  have ht : (a ++ rs.flatten).take 8 = a := List.take_left' p1
  have hd : (a ++ rs.flatten).drop 8 = rs.flatten := List.drop_left' p1
  have hl : rs.flatten.length = n * 8 := by
    have := (cut_all 8 n (by decide : 0 < 8) rs.flatten)
    clear hu ht hd
    subst p2
    clear c2 h0 inner hm hn this
    induction rs with
    | nil => simp
    | cons r rs ih => simp [p3 r (by simp), ih (fun x hx => p3 x (by simp [hx])), Nat.add_mul, Nat.add_comm]
  rw [ht, hd, cut_flatten 8 (by decide) rs p3, p2, hu]
  have : (a ++ rs.flatten).length % 8 = 0 := by rw [List.length_append, p1, hl]; omega
  rw [if_pos ⟨rfl, hn, this⟩, c3]

/-- A wrap is 8 bytes longer than what it wraps. -/
theorem kwWrap_length (key m : Bytes) (n : Nat) (hk : key.length = 32) (hm : m.length = n * 8) : (kwWrap key m).length = m.length + 8 := by
  obtain ⟨c1, c2, _⟩ := cut_all 8 n (by decide) m hm
  have keeps : ∀ {β : Type} (f : Bytes × List Bytes → β → Bytes × List Bytes) (l : List β),
      (∀ st, ∀ x ∈ l, KwOk n st → KwOk n (f st x)) → ∀ st, KwOk n st → KwOk n (l.foldl f st) := by
    intro β f l
    induction l with
    | nil => exact fun _ _ h => h
    | cons x l ih => exact fun hf st h => ih (fun st y hy => hf st y (by simp [hy])) _ (hf st x (by simp) h)
  obtain ⟨p1, p2, p3⟩ := keeps (fun st j => (List.range n).foldl (fun st i => kwStep key st j n i) st) (List.range 6)
    (fun st j _ h => keeps _ _ (fun st i hi h => (kwStep_ok key hk n j i (by simpa using hi) st h).1) st h)
    (List.replicate 8 (0xA6 : Byte), cut 8 m) ⟨List.length_replicate .., c2, c1⟩
  simp only [kwWrap, c2, List.length_append, List.length_flatten]
  rw [p1, List.map_congr_left p3, List.map_const', List.sum_replicate_nat, p2]
  omega

/-! ### Key-store records (R258, R259, R261) -/

theorem aesEnc_length_32 (key block : Bytes) (hk : key.length = 32) : (aesEnc key block).length = 16 := by
  obtain ⟨k1, k2⟩ := aesKeys_32 key hk
  unfold aesEnc
  cases hs : aesKeys key with
  | nil => rw [hs] at k1; simp at k1
  | cons k0 ks =>
    rw [hs] at k1 k2
    have hne : ks ≠ [] := by rintro rfl; simp at k1
    have hl : (ks.getLastD []).length = 16 := by
      rw [List.getLastD_eq_getLast?, List.getLast?_eq_some_getLast hne]
      exact k2 _ (by simp [List.getLast_mem])
    simp only [xorB_length, shiftRows_length, hl, Nat.min_self]

/-- A CMAC under a key of 32 bytes is 16 bytes. -/
theorem cmac_length (key m : Bytes) (hk : key.length = 32) : (cmac 3 key m).length = 16 := by
  simp only [cmac, cbcMac, List.foldl_append, List.foldl_cons, List.foldl_nil]
  exact aesEnc_length_32 _ _ hk

/-- A derivation under a key of 32 bytes is as long as it is asked to be. -/
theorem kdf_length (key label context : Bytes) (n : Nat) (hk : key.length = 32) : (kdf key label context (8 * n)).length = n := by
  have h : ∀ k f, (∀ i, (f i : Bytes).length = 16) → ((List.range k).flatMap f).length = 16 * k := by
    intro k f hf
    induction k with
    | zero => rfl
    | succ k ih => simp [List.range_succ, ih, hf, Nat.mul_succ]
  simp only [kdf, List.length_take]
  rw [h _ _ fun i => cmac_length _ _ hk]
  omega

theorem recordKey_length (s : State) (slot part : Nat) : (recordKey s slot part).length = 32 :=
  kdf_length _ _ _ 32 (beBytes_length _ _)

/-! ### SHA-256 -/

theorem round_lengths (q : HashRun) (c : BitVec 32) (hu : q.upper.length = 4) (hl : q.lower.length = 4) :
    (q.round c).upper.length = 4 ∧ (q.round c).lower.length = 4 := by
  simp [HashRun.round, hu, hl]
theorem rounds_lengths (l : List (BitVec 32)) : ∀ q : HashRun, q.upper.length = 4 → q.lower.length = 4 →
    (l.foldl HashRun.round q).upper.length = 4 ∧ (l.foldl HashRun.round q).lower.length = 4 := by
  induction l with
  | nil => exact fun q hu hl => ⟨hu, hl⟩
  | cons c l ih => exact fun q hu hl => ih _ (round_lengths q c hu hl).1 (round_lengths q c hu hl).2
/-- The hash value stays eight words. -/
theorem hashBlock_length (h : List (BitVec 32)) (block : Bytes) (hh : h.length = 8) : (hashBlock h block).length = 8 := by
  have := rounds_lengths roundConstants { upper := h.take 4, lower := h.drop 4, window := (cut 4 block).map be32 } (by simp [hh]) (by simp [hh])
  simp [hashBlock, hh, this.1, this.2]
theorem sha256_length (m : Bytes) : (sha256 m).length = 32 := by
  have h : ∀ (l : List Bytes) (q : List (BitVec 32)), q.length = 8 → (l.foldl hashBlock q).length = 8 := by
    intro l
    induction l with
    | nil => exact fun _ hq => hq
    | cons b l ih => exact fun q hq => ih _ (hashBlock_length q b hq)
  have g := h (cut 64 (m ++ hashTail m.length)) hashStart rfl
  have : ∀ l : List (BitVec 32), (l.flatMap (fun x => beBytes 4 x.toNat)).length = 4 * l.length := by
    intro l
    induction l with
    | nil => rfl
    | cons x l ih => simp [ih, Nat.mul_succ]; omega
  rw [sha256, this, g]

end Sys2Proof.Machine
end

