-- ==== Sys2Proof/Laws/State.lean ====
section
/-!
SUPPORT. What each update of the state leaves as it was, one lemma per field, true by definition.
-/
namespace Sys2Proof.Machine

variable (s : State)

/-! ### setReg changes regs -/

@[simp] theorem setReg_pending (w : Nat) (v : BitVec 16) : (setReg s w v).pending = s.pending := rfl
@[simp] theorem setReg_mem (w : Nat) (v : BitVec 16) : (setReg s w v).mem = s.mem := rfl
@[simp] theorem setReg_remap (w : Nat) (v : BitVec 16) : (setReg s w v).remap = s.remap := rfl
@[simp] theorem setReg_swap (w : Nat) (v : BitVec 16) : (setReg s w v).swap = s.swap := rfl
@[simp] theorem setReg_cells (w : Nat) (v : BitVec 16) : (setReg s w v).cells = s.cells := rfl
@[simp] theorem setReg_vats (w : Nat) (v : BitVec 16) : (setReg s w v).vats = s.vats := rfl
@[simp] theorem setReg_central (w : Nat) (v : BitVec 16) : (setReg s w v).central = s.central := rfl
@[simp] theorem setReg_mesh (w : Nat) (v : BitVec 16) : (setReg s w v).mesh = s.mesh := rfl
@[simp] theorem setReg_act (w : Nat) (v : BitVec 16) : (setReg s w v).act = s.act := rfl
@[simp] theorem setReg_evc (w : Nat) (v : BitVec 16) : (setReg s w v).evc = s.evc := rfl
@[simp] theorem setReg_flt (w : Nat) (v : BitVec 16) : (setReg s w v).flt = s.flt := rfl
@[simp] theorem setReg_tmp (w : Nat) (v : BitVec 16) : (setReg s w v).tmp = s.tmp := rfl
@[simp] theorem setReg_bat (w : Nat) (v : BitVec 16) : (setReg s w v).bat = s.bat := rfl
@[simp] theorem setReg_otp (w : Nat) (v : BitVec 16) : (setReg s w v).otp = s.otp := rfl
@[simp] theorem setReg_seedSet (w : Nat) (v : BitVec 16) : (setReg s w v).seedSet = s.seedSet := rfl
@[simp] theorem setReg_identityRoot (w : Nat) (v : BitVec 16) : (setReg s w v).identityRoot = s.identityRoot := rfl
@[simp] theorem setReg_ownerRoot (w : Nat) (v : BitVec 16) : (setReg s w v).ownerRoot = s.ownerRoot := rfl
@[simp] theorem setReg_sessionRoot (w : Nat) (v : BitVec 16) : (setReg s w v).sessionRoot = s.sessionRoot := rfl
@[simp] theorem setReg_calOffsets (w : Nat) (v : BitVec 16) : (setReg s w v).calOffsets = s.calOffsets := rfl
@[simp] theorem setReg_flash (w : Nat) (v : BitVec 16) : (setReg s w v).flash = s.flash := rfl
@[simp] theorem setReg_dma (w : Nat) (v : BitVec 16) : (setReg s w v).dma = s.dma := rfl
@[simp] theorem setReg_pps (w : Nat) (v : BitVec 16) : (setReg s w v).pps = s.pps := rfl
@[simp] theorem setReg_cards (w : Nat) (v : BitVec 16) : (setReg s w v).cards = s.cards := rfl
@[simp] theorem setReg_tag (w : Nat) (v : BitVec 16) : (setReg s w v).tag = s.tag := rfl
@[simp] theorem setReg_parlour (w : Nat) (v : BitVec 16) : (setReg s w v).parlour = s.parlour := rfl
@[simp] theorem setReg_fw (w : Nat) (v : BitVec 16) : (setReg s w v).fw = s.fw := rfl
@[simp] theorem setReg_store (w : Nat) (v : BitVec 16) : (setReg s w v).store = s.store := rfl
@[simp] theorem setReg_rejects (w : Nat) (v : BitVec 16) : (setReg s w v).rejects = s.rejects := rfl
@[simp] theorem setReg_boot (w : Nat) (v : BitVec 16) : (setReg s w v).boot = s.boot := rfl
@[simp] theorem setReg_ext (w : Nat) (v : BitVec 16) : (setReg s w v).ext = s.ext := rfl
@[simp] theorem setReg_fresh (w : Nat) (v : BitVec 16) : (setReg s w v).fresh = s.fresh := rfl
@[simp] theorem setReg_lastRead (w : Nat) (v : BitVec 16) : (setReg s w v).lastRead = s.lastRead := rfl
@[simp] theorem setReg_sent (w : Nat) (v : BitVec 16) : (setReg s w v).sent = s.sent := rfl

/-! ### writeMem changes mem -/

@[simp] theorem writeMem_pending (a : Nat) (w : Word) : (writeMem s a w).pending = s.pending := rfl
@[simp] theorem writeMem_regs (a : Nat) (w : Word) : (writeMem s a w).regs = s.regs := rfl
@[simp] theorem writeMem_remap (a : Nat) (w : Word) : (writeMem s a w).remap = s.remap := rfl
@[simp] theorem writeMem_swap (a : Nat) (w : Word) : (writeMem s a w).swap = s.swap := rfl
@[simp] theorem writeMem_cells (a : Nat) (w : Word) : (writeMem s a w).cells = s.cells := rfl
@[simp] theorem writeMem_vats (a : Nat) (w : Word) : (writeMem s a w).vats = s.vats := rfl
@[simp] theorem writeMem_central (a : Nat) (w : Word) : (writeMem s a w).central = s.central := rfl
@[simp] theorem writeMem_mesh (a : Nat) (w : Word) : (writeMem s a w).mesh = s.mesh := rfl
@[simp] theorem writeMem_act (a : Nat) (w : Word) : (writeMem s a w).act = s.act := rfl
@[simp] theorem writeMem_evc (a : Nat) (w : Word) : (writeMem s a w).evc = s.evc := rfl
@[simp] theorem writeMem_flt (a : Nat) (w : Word) : (writeMem s a w).flt = s.flt := rfl
@[simp] theorem writeMem_tmp (a : Nat) (w : Word) : (writeMem s a w).tmp = s.tmp := rfl
@[simp] theorem writeMem_bat (a : Nat) (w : Word) : (writeMem s a w).bat = s.bat := rfl
@[simp] theorem writeMem_otp (a : Nat) (w : Word) : (writeMem s a w).otp = s.otp := rfl
@[simp] theorem writeMem_seedSet (a : Nat) (w : Word) : (writeMem s a w).seedSet = s.seedSet := rfl
@[simp] theorem writeMem_identityRoot (a : Nat) (w : Word) : (writeMem s a w).identityRoot = s.identityRoot := rfl
@[simp] theorem writeMem_ownerRoot (a : Nat) (w : Word) : (writeMem s a w).ownerRoot = s.ownerRoot := rfl
@[simp] theorem writeMem_sessionRoot (a : Nat) (w : Word) : (writeMem s a w).sessionRoot = s.sessionRoot := rfl
@[simp] theorem writeMem_calOffsets (a : Nat) (w : Word) : (writeMem s a w).calOffsets = s.calOffsets := rfl
@[simp] theorem writeMem_flash (a : Nat) (w : Word) : (writeMem s a w).flash = s.flash := rfl
@[simp] theorem writeMem_dma (a : Nat) (w : Word) : (writeMem s a w).dma = s.dma := rfl
@[simp] theorem writeMem_pps (a : Nat) (w : Word) : (writeMem s a w).pps = s.pps := rfl
@[simp] theorem writeMem_cards (a : Nat) (w : Word) : (writeMem s a w).cards = s.cards := rfl
@[simp] theorem writeMem_tag (a : Nat) (w : Word) : (writeMem s a w).tag = s.tag := rfl
@[simp] theorem writeMem_parlour (a : Nat) (w : Word) : (writeMem s a w).parlour = s.parlour := rfl
@[simp] theorem writeMem_fw (a : Nat) (w : Word) : (writeMem s a w).fw = s.fw := rfl
@[simp] theorem writeMem_store (a : Nat) (w : Word) : (writeMem s a w).store = s.store := rfl
@[simp] theorem writeMem_rejects (a : Nat) (w : Word) : (writeMem s a w).rejects = s.rejects := rfl
@[simp] theorem writeMem_boot (a : Nat) (w : Word) : (writeMem s a w).boot = s.boot := rfl
@[simp] theorem writeMem_ext (a : Nat) (w : Word) : (writeMem s a w).ext = s.ext := rfl
@[simp] theorem writeMem_fresh (a : Nat) (w : Word) : (writeMem s a w).fresh = s.fresh := rfl
@[simp] theorem writeMem_lastRead (a : Nat) (w : Word) : (writeMem s a w).lastRead = s.lastRead := rfl
@[simp] theorem writeMem_sent (a : Nat) (w : Word) : (writeMem s a w).sent = s.sent := rfl

/-! ### scrub changes mem -/

@[simp] theorem scrub_pending (lo hi : Nat) : (scrub s lo hi).pending = s.pending := rfl
@[simp] theorem scrub_regs (lo hi : Nat) : (scrub s lo hi).regs = s.regs := rfl
@[simp] theorem scrub_remap (lo hi : Nat) : (scrub s lo hi).remap = s.remap := rfl
@[simp] theorem scrub_swap (lo hi : Nat) : (scrub s lo hi).swap = s.swap := rfl
@[simp] theorem scrub_cells (lo hi : Nat) : (scrub s lo hi).cells = s.cells := rfl
@[simp] theorem scrub_vats (lo hi : Nat) : (scrub s lo hi).vats = s.vats := rfl
@[simp] theorem scrub_central (lo hi : Nat) : (scrub s lo hi).central = s.central := rfl
@[simp] theorem scrub_mesh (lo hi : Nat) : (scrub s lo hi).mesh = s.mesh := rfl
@[simp] theorem scrub_act (lo hi : Nat) : (scrub s lo hi).act = s.act := rfl
@[simp] theorem scrub_evc (lo hi : Nat) : (scrub s lo hi).evc = s.evc := rfl
@[simp] theorem scrub_flt (lo hi : Nat) : (scrub s lo hi).flt = s.flt := rfl
@[simp] theorem scrub_tmp (lo hi : Nat) : (scrub s lo hi).tmp = s.tmp := rfl
@[simp] theorem scrub_bat (lo hi : Nat) : (scrub s lo hi).bat = s.bat := rfl
@[simp] theorem scrub_otp (lo hi : Nat) : (scrub s lo hi).otp = s.otp := rfl
@[simp] theorem scrub_seedSet (lo hi : Nat) : (scrub s lo hi).seedSet = s.seedSet := rfl
@[simp] theorem scrub_identityRoot (lo hi : Nat) : (scrub s lo hi).identityRoot = s.identityRoot := rfl
@[simp] theorem scrub_ownerRoot (lo hi : Nat) : (scrub s lo hi).ownerRoot = s.ownerRoot := rfl
@[simp] theorem scrub_sessionRoot (lo hi : Nat) : (scrub s lo hi).sessionRoot = s.sessionRoot := rfl
@[simp] theorem scrub_calOffsets (lo hi : Nat) : (scrub s lo hi).calOffsets = s.calOffsets := rfl
@[simp] theorem scrub_flash (lo hi : Nat) : (scrub s lo hi).flash = s.flash := rfl
@[simp] theorem scrub_dma (lo hi : Nat) : (scrub s lo hi).dma = s.dma := rfl
@[simp] theorem scrub_pps (lo hi : Nat) : (scrub s lo hi).pps = s.pps := rfl
@[simp] theorem scrub_cards (lo hi : Nat) : (scrub s lo hi).cards = s.cards := rfl
@[simp] theorem scrub_tag (lo hi : Nat) : (scrub s lo hi).tag = s.tag := rfl
@[simp] theorem scrub_parlour (lo hi : Nat) : (scrub s lo hi).parlour = s.parlour := rfl
@[simp] theorem scrub_fw (lo hi : Nat) : (scrub s lo hi).fw = s.fw := rfl
@[simp] theorem scrub_store (lo hi : Nat) : (scrub s lo hi).store = s.store := rfl
@[simp] theorem scrub_rejects (lo hi : Nat) : (scrub s lo hi).rejects = s.rejects := rfl
@[simp] theorem scrub_boot (lo hi : Nat) : (scrub s lo hi).boot = s.boot := rfl
@[simp] theorem scrub_ext (lo hi : Nat) : (scrub s lo hi).ext = s.ext := rfl
@[simp] theorem scrub_fresh (lo hi : Nat) : (scrub s lo hi).fresh = s.fresh := rfl
@[simp] theorem scrub_lastRead (lo hi : Nat) : (scrub s lo hi).lastRead = s.lastRead := rfl
@[simp] theorem scrub_sent (lo hi : Nat) : (scrub s lo hi).sent = s.sent := rfl

/-! ### setCell changes cells -/

@[simp] theorem setCell_pending (k : Nat) (c : Cell) : (setCell s k c).pending = s.pending := rfl
@[simp] theorem setCell_mem (k : Nat) (c : Cell) : (setCell s k c).mem = s.mem := rfl
@[simp] theorem setCell_regs (k : Nat) (c : Cell) : (setCell s k c).regs = s.regs := rfl
@[simp] theorem setCell_remap (k : Nat) (c : Cell) : (setCell s k c).remap = s.remap := rfl
@[simp] theorem setCell_swap (k : Nat) (c : Cell) : (setCell s k c).swap = s.swap := rfl
@[simp] theorem setCell_vats (k : Nat) (c : Cell) : (setCell s k c).vats = s.vats := rfl
@[simp] theorem setCell_central (k : Nat) (c : Cell) : (setCell s k c).central = s.central := rfl
@[simp] theorem setCell_mesh (k : Nat) (c : Cell) : (setCell s k c).mesh = s.mesh := rfl
@[simp] theorem setCell_act (k : Nat) (c : Cell) : (setCell s k c).act = s.act := rfl
@[simp] theorem setCell_evc (k : Nat) (c : Cell) : (setCell s k c).evc = s.evc := rfl
@[simp] theorem setCell_flt (k : Nat) (c : Cell) : (setCell s k c).flt = s.flt := rfl
@[simp] theorem setCell_tmp (k : Nat) (c : Cell) : (setCell s k c).tmp = s.tmp := rfl
@[simp] theorem setCell_bat (k : Nat) (c : Cell) : (setCell s k c).bat = s.bat := rfl
@[simp] theorem setCell_otp (k : Nat) (c : Cell) : (setCell s k c).otp = s.otp := rfl
@[simp] theorem setCell_seedSet (k : Nat) (c : Cell) : (setCell s k c).seedSet = s.seedSet := rfl
@[simp] theorem setCell_identityRoot (k : Nat) (c : Cell) : (setCell s k c).identityRoot = s.identityRoot := rfl
@[simp] theorem setCell_ownerRoot (k : Nat) (c : Cell) : (setCell s k c).ownerRoot = s.ownerRoot := rfl
@[simp] theorem setCell_sessionRoot (k : Nat) (c : Cell) : (setCell s k c).sessionRoot = s.sessionRoot := rfl
@[simp] theorem setCell_calOffsets (k : Nat) (c : Cell) : (setCell s k c).calOffsets = s.calOffsets := rfl
@[simp] theorem setCell_flash (k : Nat) (c : Cell) : (setCell s k c).flash = s.flash := rfl
@[simp] theorem setCell_dma (k : Nat) (c : Cell) : (setCell s k c).dma = s.dma := rfl
@[simp] theorem setCell_pps (k : Nat) (c : Cell) : (setCell s k c).pps = s.pps := rfl
@[simp] theorem setCell_cards (k : Nat) (c : Cell) : (setCell s k c).cards = s.cards := rfl
@[simp] theorem setCell_tag (k : Nat) (c : Cell) : (setCell s k c).tag = s.tag := rfl
@[simp] theorem setCell_parlour (k : Nat) (c : Cell) : (setCell s k c).parlour = s.parlour := rfl
@[simp] theorem setCell_fw (k : Nat) (c : Cell) : (setCell s k c).fw = s.fw := rfl
@[simp] theorem setCell_store (k : Nat) (c : Cell) : (setCell s k c).store = s.store := rfl
@[simp] theorem setCell_rejects (k : Nat) (c : Cell) : (setCell s k c).rejects = s.rejects := rfl
@[simp] theorem setCell_boot (k : Nat) (c : Cell) : (setCell s k c).boot = s.boot := rfl
@[simp] theorem setCell_ext (k : Nat) (c : Cell) : (setCell s k c).ext = s.ext := rfl
@[simp] theorem setCell_fresh (k : Nat) (c : Cell) : (setCell s k c).fresh = s.fresh := rfl
@[simp] theorem setCell_lastRead (k : Nat) (c : Cell) : (setCell s k c).lastRead = s.lastRead := rfl
@[simp] theorem setCell_sent (k : Nat) (c : Cell) : (setCell s k c).sent = s.sent := rfl

/-! ### setVat changes vats -/

@[simp] theorem setVat_pending (p : Nat) (v : Vat) : (setVat s p v).pending = s.pending := rfl
@[simp] theorem setVat_mem (p : Nat) (v : Vat) : (setVat s p v).mem = s.mem := rfl
@[simp] theorem setVat_regs (p : Nat) (v : Vat) : (setVat s p v).regs = s.regs := rfl
@[simp] theorem setVat_remap (p : Nat) (v : Vat) : (setVat s p v).remap = s.remap := rfl
@[simp] theorem setVat_swap (p : Nat) (v : Vat) : (setVat s p v).swap = s.swap := rfl
@[simp] theorem setVat_cells (p : Nat) (v : Vat) : (setVat s p v).cells = s.cells := rfl
@[simp] theorem setVat_central (p : Nat) (v : Vat) : (setVat s p v).central = s.central := rfl
@[simp] theorem setVat_mesh (p : Nat) (v : Vat) : (setVat s p v).mesh = s.mesh := rfl
@[simp] theorem setVat_act (p : Nat) (v : Vat) : (setVat s p v).act = s.act := rfl
@[simp] theorem setVat_evc (p : Nat) (v : Vat) : (setVat s p v).evc = s.evc := rfl
@[simp] theorem setVat_flt (p : Nat) (v : Vat) : (setVat s p v).flt = s.flt := rfl
@[simp] theorem setVat_tmp (p : Nat) (v : Vat) : (setVat s p v).tmp = s.tmp := rfl
@[simp] theorem setVat_bat (p : Nat) (v : Vat) : (setVat s p v).bat = s.bat := rfl
@[simp] theorem setVat_otp (p : Nat) (v : Vat) : (setVat s p v).otp = s.otp := rfl
@[simp] theorem setVat_seedSet (p : Nat) (v : Vat) : (setVat s p v).seedSet = s.seedSet := rfl
@[simp] theorem setVat_identityRoot (p : Nat) (v : Vat) : (setVat s p v).identityRoot = s.identityRoot := rfl
@[simp] theorem setVat_ownerRoot (p : Nat) (v : Vat) : (setVat s p v).ownerRoot = s.ownerRoot := rfl
@[simp] theorem setVat_sessionRoot (p : Nat) (v : Vat) : (setVat s p v).sessionRoot = s.sessionRoot := rfl
@[simp] theorem setVat_calOffsets (p : Nat) (v : Vat) : (setVat s p v).calOffsets = s.calOffsets := rfl
@[simp] theorem setVat_flash (p : Nat) (v : Vat) : (setVat s p v).flash = s.flash := rfl
@[simp] theorem setVat_dma (p : Nat) (v : Vat) : (setVat s p v).dma = s.dma := rfl
@[simp] theorem setVat_pps (p : Nat) (v : Vat) : (setVat s p v).pps = s.pps := rfl
@[simp] theorem setVat_cards (p : Nat) (v : Vat) : (setVat s p v).cards = s.cards := rfl
@[simp] theorem setVat_tag (p : Nat) (v : Vat) : (setVat s p v).tag = s.tag := rfl
@[simp] theorem setVat_parlour (p : Nat) (v : Vat) : (setVat s p v).parlour = s.parlour := rfl
@[simp] theorem setVat_fw (p : Nat) (v : Vat) : (setVat s p v).fw = s.fw := rfl
@[simp] theorem setVat_store (p : Nat) (v : Vat) : (setVat s p v).store = s.store := rfl
@[simp] theorem setVat_rejects (p : Nat) (v : Vat) : (setVat s p v).rejects = s.rejects := rfl
@[simp] theorem setVat_boot (p : Nat) (v : Vat) : (setVat s p v).boot = s.boot := rfl
@[simp] theorem setVat_ext (p : Nat) (v : Vat) : (setVat s p v).ext = s.ext := rfl
@[simp] theorem setVat_fresh (p : Nat) (v : Vat) : (setVat s p v).fresh = s.fresh := rfl
@[simp] theorem setVat_lastRead (p : Nat) (v : Vat) : (setVat s p v).lastRead = s.lastRead := rfl
@[simp] theorem setVat_sent (p : Nat) (v : Vat) : (setVat s p v).sent = s.sent := rfl

/-! ### setXfer changes mesh -/

@[simp] theorem setXfer_pending (n : Nat) (t : Option Transfer) : (setXfer s n t).pending = s.pending := rfl
@[simp] theorem setXfer_mem (n : Nat) (t : Option Transfer) : (setXfer s n t).mem = s.mem := rfl
@[simp] theorem setXfer_regs (n : Nat) (t : Option Transfer) : (setXfer s n t).regs = s.regs := rfl
@[simp] theorem setXfer_remap (n : Nat) (t : Option Transfer) : (setXfer s n t).remap = s.remap := rfl
@[simp] theorem setXfer_swap (n : Nat) (t : Option Transfer) : (setXfer s n t).swap = s.swap := rfl
@[simp] theorem setXfer_cells (n : Nat) (t : Option Transfer) : (setXfer s n t).cells = s.cells := rfl
@[simp] theorem setXfer_vats (n : Nat) (t : Option Transfer) : (setXfer s n t).vats = s.vats := rfl
@[simp] theorem setXfer_central (n : Nat) (t : Option Transfer) : (setXfer s n t).central = s.central := rfl
@[simp] theorem setXfer_act (n : Nat) (t : Option Transfer) : (setXfer s n t).act = s.act := rfl
@[simp] theorem setXfer_evc (n : Nat) (t : Option Transfer) : (setXfer s n t).evc = s.evc := rfl
@[simp] theorem setXfer_flt (n : Nat) (t : Option Transfer) : (setXfer s n t).flt = s.flt := rfl
@[simp] theorem setXfer_tmp (n : Nat) (t : Option Transfer) : (setXfer s n t).tmp = s.tmp := rfl
@[simp] theorem setXfer_bat (n : Nat) (t : Option Transfer) : (setXfer s n t).bat = s.bat := rfl
@[simp] theorem setXfer_otp (n : Nat) (t : Option Transfer) : (setXfer s n t).otp = s.otp := rfl
@[simp] theorem setXfer_seedSet (n : Nat) (t : Option Transfer) : (setXfer s n t).seedSet = s.seedSet := rfl
@[simp] theorem setXfer_identityRoot (n : Nat) (t : Option Transfer) : (setXfer s n t).identityRoot = s.identityRoot := rfl
@[simp] theorem setXfer_ownerRoot (n : Nat) (t : Option Transfer) : (setXfer s n t).ownerRoot = s.ownerRoot := rfl
@[simp] theorem setXfer_sessionRoot (n : Nat) (t : Option Transfer) : (setXfer s n t).sessionRoot = s.sessionRoot := rfl
@[simp] theorem setXfer_calOffsets (n : Nat) (t : Option Transfer) : (setXfer s n t).calOffsets = s.calOffsets := rfl
@[simp] theorem setXfer_flash (n : Nat) (t : Option Transfer) : (setXfer s n t).flash = s.flash := rfl
@[simp] theorem setXfer_dma (n : Nat) (t : Option Transfer) : (setXfer s n t).dma = s.dma := rfl
@[simp] theorem setXfer_pps (n : Nat) (t : Option Transfer) : (setXfer s n t).pps = s.pps := rfl
@[simp] theorem setXfer_cards (n : Nat) (t : Option Transfer) : (setXfer s n t).cards = s.cards := rfl
@[simp] theorem setXfer_tag (n : Nat) (t : Option Transfer) : (setXfer s n t).tag = s.tag := rfl
@[simp] theorem setXfer_parlour (n : Nat) (t : Option Transfer) : (setXfer s n t).parlour = s.parlour := rfl
@[simp] theorem setXfer_fw (n : Nat) (t : Option Transfer) : (setXfer s n t).fw = s.fw := rfl
@[simp] theorem setXfer_store (n : Nat) (t : Option Transfer) : (setXfer s n t).store = s.store := rfl
@[simp] theorem setXfer_rejects (n : Nat) (t : Option Transfer) : (setXfer s n t).rejects = s.rejects := rfl
@[simp] theorem setXfer_boot (n : Nat) (t : Option Transfer) : (setXfer s n t).boot = s.boot := rfl
@[simp] theorem setXfer_ext (n : Nat) (t : Option Transfer) : (setXfer s n t).ext = s.ext := rfl
@[simp] theorem setXfer_fresh (n : Nat) (t : Option Transfer) : (setXfer s n t).fresh = s.fresh := rfl
@[simp] theorem setXfer_lastRead (n : Nat) (t : Option Transfer) : (setXfer s n t).lastRead = s.lastRead := rfl
@[simp] theorem setXfer_sent (n : Nat) (t : Option Transfer) : (setXfer s n t).sent = s.sent := rfl

/-! ### setShadow changes act -/

@[simp] theorem setShadow_pending (n : Nat) (e : ActEntry) : (setShadow s n e).pending = s.pending := rfl
@[simp] theorem setShadow_mem (n : Nat) (e : ActEntry) : (setShadow s n e).mem = s.mem := rfl
@[simp] theorem setShadow_regs (n : Nat) (e : ActEntry) : (setShadow s n e).regs = s.regs := rfl
@[simp] theorem setShadow_remap (n : Nat) (e : ActEntry) : (setShadow s n e).remap = s.remap := rfl
@[simp] theorem setShadow_swap (n : Nat) (e : ActEntry) : (setShadow s n e).swap = s.swap := rfl
@[simp] theorem setShadow_cells (n : Nat) (e : ActEntry) : (setShadow s n e).cells = s.cells := rfl
@[simp] theorem setShadow_vats (n : Nat) (e : ActEntry) : (setShadow s n e).vats = s.vats := rfl
@[simp] theorem setShadow_central (n : Nat) (e : ActEntry) : (setShadow s n e).central = s.central := rfl
@[simp] theorem setShadow_mesh (n : Nat) (e : ActEntry) : (setShadow s n e).mesh = s.mesh := rfl
@[simp] theorem setShadow_evc (n : Nat) (e : ActEntry) : (setShadow s n e).evc = s.evc := rfl
@[simp] theorem setShadow_flt (n : Nat) (e : ActEntry) : (setShadow s n e).flt = s.flt := rfl
@[simp] theorem setShadow_tmp (n : Nat) (e : ActEntry) : (setShadow s n e).tmp = s.tmp := rfl
@[simp] theorem setShadow_bat (n : Nat) (e : ActEntry) : (setShadow s n e).bat = s.bat := rfl
@[simp] theorem setShadow_otp (n : Nat) (e : ActEntry) : (setShadow s n e).otp = s.otp := rfl
@[simp] theorem setShadow_seedSet (n : Nat) (e : ActEntry) : (setShadow s n e).seedSet = s.seedSet := rfl
@[simp] theorem setShadow_identityRoot (n : Nat) (e : ActEntry) : (setShadow s n e).identityRoot = s.identityRoot := rfl
@[simp] theorem setShadow_ownerRoot (n : Nat) (e : ActEntry) : (setShadow s n e).ownerRoot = s.ownerRoot := rfl
@[simp] theorem setShadow_sessionRoot (n : Nat) (e : ActEntry) : (setShadow s n e).sessionRoot = s.sessionRoot := rfl
@[simp] theorem setShadow_calOffsets (n : Nat) (e : ActEntry) : (setShadow s n e).calOffsets = s.calOffsets := rfl
@[simp] theorem setShadow_flash (n : Nat) (e : ActEntry) : (setShadow s n e).flash = s.flash := rfl
@[simp] theorem setShadow_dma (n : Nat) (e : ActEntry) : (setShadow s n e).dma = s.dma := rfl
@[simp] theorem setShadow_pps (n : Nat) (e : ActEntry) : (setShadow s n e).pps = s.pps := rfl
@[simp] theorem setShadow_cards (n : Nat) (e : ActEntry) : (setShadow s n e).cards = s.cards := rfl
@[simp] theorem setShadow_tag (n : Nat) (e : ActEntry) : (setShadow s n e).tag = s.tag := rfl
@[simp] theorem setShadow_parlour (n : Nat) (e : ActEntry) : (setShadow s n e).parlour = s.parlour := rfl
@[simp] theorem setShadow_fw (n : Nat) (e : ActEntry) : (setShadow s n e).fw = s.fw := rfl
@[simp] theorem setShadow_store (n : Nat) (e : ActEntry) : (setShadow s n e).store = s.store := rfl
@[simp] theorem setShadow_rejects (n : Nat) (e : ActEntry) : (setShadow s n e).rejects = s.rejects := rfl
@[simp] theorem setShadow_boot (n : Nat) (e : ActEntry) : (setShadow s n e).boot = s.boot := rfl
@[simp] theorem setShadow_ext (n : Nat) (e : ActEntry) : (setShadow s n e).ext = s.ext := rfl
@[simp] theorem setShadow_fresh (n : Nat) (e : ActEntry) : (setShadow s n e).fresh = s.fresh := rfl
@[simp] theorem setShadow_lastRead (n : Nat) (e : ActEntry) : (setShadow s n e).lastRead = s.lastRead := rfl
@[simp] theorem setShadow_sent (n : Nat) (e : ActEntry) : (setShadow s n e).sent = s.sent := rfl

/-! ### raise changes evc -/

@[simp] theorem raise_pending (n : Nat) : (raise s n).pending = s.pending := rfl
@[simp] theorem raise_mem (n : Nat) : (raise s n).mem = s.mem := rfl
@[simp] theorem raise_regs (n : Nat) : (raise s n).regs = s.regs := rfl
@[simp] theorem raise_remap (n : Nat) : (raise s n).remap = s.remap := rfl
@[simp] theorem raise_swap (n : Nat) : (raise s n).swap = s.swap := rfl
@[simp] theorem raise_cells (n : Nat) : (raise s n).cells = s.cells := rfl
@[simp] theorem raise_vats (n : Nat) : (raise s n).vats = s.vats := rfl
@[simp] theorem raise_central (n : Nat) : (raise s n).central = s.central := rfl
@[simp] theorem raise_mesh (n : Nat) : (raise s n).mesh = s.mesh := rfl
@[simp] theorem raise_act (n : Nat) : (raise s n).act = s.act := rfl
@[simp] theorem raise_flt (n : Nat) : (raise s n).flt = s.flt := rfl
@[simp] theorem raise_tmp (n : Nat) : (raise s n).tmp = s.tmp := rfl
@[simp] theorem raise_bat (n : Nat) : (raise s n).bat = s.bat := rfl
@[simp] theorem raise_otp (n : Nat) : (raise s n).otp = s.otp := rfl
@[simp] theorem raise_seedSet (n : Nat) : (raise s n).seedSet = s.seedSet := rfl
@[simp] theorem raise_identityRoot (n : Nat) : (raise s n).identityRoot = s.identityRoot := rfl
@[simp] theorem raise_ownerRoot (n : Nat) : (raise s n).ownerRoot = s.ownerRoot := rfl
@[simp] theorem raise_sessionRoot (n : Nat) : (raise s n).sessionRoot = s.sessionRoot := rfl
@[simp] theorem raise_calOffsets (n : Nat) : (raise s n).calOffsets = s.calOffsets := rfl
@[simp] theorem raise_flash (n : Nat) : (raise s n).flash = s.flash := rfl
@[simp] theorem raise_dma (n : Nat) : (raise s n).dma = s.dma := rfl
@[simp] theorem raise_pps (n : Nat) : (raise s n).pps = s.pps := rfl
@[simp] theorem raise_cards (n : Nat) : (raise s n).cards = s.cards := rfl
@[simp] theorem raise_tag (n : Nat) : (raise s n).tag = s.tag := rfl
@[simp] theorem raise_parlour (n : Nat) : (raise s n).parlour = s.parlour := rfl
@[simp] theorem raise_fw (n : Nat) : (raise s n).fw = s.fw := rfl
@[simp] theorem raise_store (n : Nat) : (raise s n).store = s.store := rfl
@[simp] theorem raise_rejects (n : Nat) : (raise s n).rejects = s.rejects := rfl
@[simp] theorem raise_boot (n : Nat) : (raise s n).boot = s.boot := rfl
@[simp] theorem raise_ext (n : Nat) : (raise s n).ext = s.ext := rfl
@[simp] theorem raise_fresh (n : Nat) : (raise s n).fresh = s.fresh := rfl
@[simp] theorem raise_lastRead (n : Nat) : (raise s n).lastRead = s.lastRead := rfl
@[simp] theorem raise_sent (n : Nat) : (raise s n).sent = s.sent := rfl

/-! ### setSrc changes tmp -/

@[simp] theorem setSrc_pending (n : Nat) (t : TamperSrc) : (setSrc s n t).pending = s.pending := rfl
@[simp] theorem setSrc_mem (n : Nat) (t : TamperSrc) : (setSrc s n t).mem = s.mem := rfl
@[simp] theorem setSrc_regs (n : Nat) (t : TamperSrc) : (setSrc s n t).regs = s.regs := rfl
@[simp] theorem setSrc_remap (n : Nat) (t : TamperSrc) : (setSrc s n t).remap = s.remap := rfl
@[simp] theorem setSrc_swap (n : Nat) (t : TamperSrc) : (setSrc s n t).swap = s.swap := rfl
@[simp] theorem setSrc_cells (n : Nat) (t : TamperSrc) : (setSrc s n t).cells = s.cells := rfl
@[simp] theorem setSrc_vats (n : Nat) (t : TamperSrc) : (setSrc s n t).vats = s.vats := rfl
@[simp] theorem setSrc_central (n : Nat) (t : TamperSrc) : (setSrc s n t).central = s.central := rfl
@[simp] theorem setSrc_mesh (n : Nat) (t : TamperSrc) : (setSrc s n t).mesh = s.mesh := rfl
@[simp] theorem setSrc_act (n : Nat) (t : TamperSrc) : (setSrc s n t).act = s.act := rfl
@[simp] theorem setSrc_evc (n : Nat) (t : TamperSrc) : (setSrc s n t).evc = s.evc := rfl
@[simp] theorem setSrc_flt (n : Nat) (t : TamperSrc) : (setSrc s n t).flt = s.flt := rfl
@[simp] theorem setSrc_bat (n : Nat) (t : TamperSrc) : (setSrc s n t).bat = s.bat := rfl
@[simp] theorem setSrc_otp (n : Nat) (t : TamperSrc) : (setSrc s n t).otp = s.otp := rfl
@[simp] theorem setSrc_seedSet (n : Nat) (t : TamperSrc) : (setSrc s n t).seedSet = s.seedSet := rfl
@[simp] theorem setSrc_identityRoot (n : Nat) (t : TamperSrc) : (setSrc s n t).identityRoot = s.identityRoot := rfl
@[simp] theorem setSrc_ownerRoot (n : Nat) (t : TamperSrc) : (setSrc s n t).ownerRoot = s.ownerRoot := rfl
@[simp] theorem setSrc_sessionRoot (n : Nat) (t : TamperSrc) : (setSrc s n t).sessionRoot = s.sessionRoot := rfl
@[simp] theorem setSrc_calOffsets (n : Nat) (t : TamperSrc) : (setSrc s n t).calOffsets = s.calOffsets := rfl
@[simp] theorem setSrc_flash (n : Nat) (t : TamperSrc) : (setSrc s n t).flash = s.flash := rfl
@[simp] theorem setSrc_dma (n : Nat) (t : TamperSrc) : (setSrc s n t).dma = s.dma := rfl
@[simp] theorem setSrc_pps (n : Nat) (t : TamperSrc) : (setSrc s n t).pps = s.pps := rfl
@[simp] theorem setSrc_cards (n : Nat) (t : TamperSrc) : (setSrc s n t).cards = s.cards := rfl
@[simp] theorem setSrc_tag (n : Nat) (t : TamperSrc) : (setSrc s n t).tag = s.tag := rfl
@[simp] theorem setSrc_parlour (n : Nat) (t : TamperSrc) : (setSrc s n t).parlour = s.parlour := rfl
@[simp] theorem setSrc_fw (n : Nat) (t : TamperSrc) : (setSrc s n t).fw = s.fw := rfl
@[simp] theorem setSrc_store (n : Nat) (t : TamperSrc) : (setSrc s n t).store = s.store := rfl
@[simp] theorem setSrc_rejects (n : Nat) (t : TamperSrc) : (setSrc s n t).rejects = s.rejects := rfl
@[simp] theorem setSrc_boot (n : Nat) (t : TamperSrc) : (setSrc s n t).boot = s.boot := rfl
@[simp] theorem setSrc_ext (n : Nat) (t : TamperSrc) : (setSrc s n t).ext = s.ext := rfl
@[simp] theorem setSrc_fresh (n : Nat) (t : TamperSrc) : (setSrc s n t).fresh = s.fresh := rfl
@[simp] theorem setSrc_lastRead (n : Nat) (t : TamperSrc) : (setSrc s n t).lastRead = s.lastRead := rfl
@[simp] theorem setSrc_sent (n : Nat) (t : TamperSrc) : (setSrc s n t).sent = s.sent := rfl

/-! ### setLatch changes bat -/

@[simp] theorem setLatch_pending (n : Nat) (l : Latch) : (setLatch s n l).pending = s.pending := rfl
@[simp] theorem setLatch_mem (n : Nat) (l : Latch) : (setLatch s n l).mem = s.mem := rfl
@[simp] theorem setLatch_regs (n : Nat) (l : Latch) : (setLatch s n l).regs = s.regs := rfl
@[simp] theorem setLatch_remap (n : Nat) (l : Latch) : (setLatch s n l).remap = s.remap := rfl
@[simp] theorem setLatch_swap (n : Nat) (l : Latch) : (setLatch s n l).swap = s.swap := rfl
@[simp] theorem setLatch_cells (n : Nat) (l : Latch) : (setLatch s n l).cells = s.cells := rfl
@[simp] theorem setLatch_vats (n : Nat) (l : Latch) : (setLatch s n l).vats = s.vats := rfl
@[simp] theorem setLatch_central (n : Nat) (l : Latch) : (setLatch s n l).central = s.central := rfl
@[simp] theorem setLatch_mesh (n : Nat) (l : Latch) : (setLatch s n l).mesh = s.mesh := rfl
@[simp] theorem setLatch_act (n : Nat) (l : Latch) : (setLatch s n l).act = s.act := rfl
@[simp] theorem setLatch_evc (n : Nat) (l : Latch) : (setLatch s n l).evc = s.evc := rfl
@[simp] theorem setLatch_flt (n : Nat) (l : Latch) : (setLatch s n l).flt = s.flt := rfl
@[simp] theorem setLatch_tmp (n : Nat) (l : Latch) : (setLatch s n l).tmp = s.tmp := rfl
@[simp] theorem setLatch_otp (n : Nat) (l : Latch) : (setLatch s n l).otp = s.otp := rfl
@[simp] theorem setLatch_seedSet (n : Nat) (l : Latch) : (setLatch s n l).seedSet = s.seedSet := rfl
@[simp] theorem setLatch_identityRoot (n : Nat) (l : Latch) : (setLatch s n l).identityRoot = s.identityRoot := rfl
@[simp] theorem setLatch_ownerRoot (n : Nat) (l : Latch) : (setLatch s n l).ownerRoot = s.ownerRoot := rfl
@[simp] theorem setLatch_sessionRoot (n : Nat) (l : Latch) : (setLatch s n l).sessionRoot = s.sessionRoot := rfl
@[simp] theorem setLatch_calOffsets (n : Nat) (l : Latch) : (setLatch s n l).calOffsets = s.calOffsets := rfl
@[simp] theorem setLatch_flash (n : Nat) (l : Latch) : (setLatch s n l).flash = s.flash := rfl
@[simp] theorem setLatch_dma (n : Nat) (l : Latch) : (setLatch s n l).dma = s.dma := rfl
@[simp] theorem setLatch_pps (n : Nat) (l : Latch) : (setLatch s n l).pps = s.pps := rfl
@[simp] theorem setLatch_cards (n : Nat) (l : Latch) : (setLatch s n l).cards = s.cards := rfl
@[simp] theorem setLatch_tag (n : Nat) (l : Latch) : (setLatch s n l).tag = s.tag := rfl
@[simp] theorem setLatch_parlour (n : Nat) (l : Latch) : (setLatch s n l).parlour = s.parlour := rfl
@[simp] theorem setLatch_fw (n : Nat) (l : Latch) : (setLatch s n l).fw = s.fw := rfl
@[simp] theorem setLatch_store (n : Nat) (l : Latch) : (setLatch s n l).store = s.store := rfl
@[simp] theorem setLatch_rejects (n : Nat) (l : Latch) : (setLatch s n l).rejects = s.rejects := rfl
@[simp] theorem setLatch_boot (n : Nat) (l : Latch) : (setLatch s n l).boot = s.boot := rfl
@[simp] theorem setLatch_ext (n : Nat) (l : Latch) : (setLatch s n l).ext = s.ext := rfl
@[simp] theorem setLatch_fresh (n : Nat) (l : Latch) : (setLatch s n l).fresh = s.fresh := rfl
@[simp] theorem setLatch_lastRead (n : Nat) (l : Latch) : (setLatch s n l).lastRead = s.lastRead := rfl
@[simp] theorem setLatch_sent (n : Nat) (l : Latch) : (setLatch s n l).sent = s.sent := rfl

/-! ### otpSet changes otp -/

@[simp] theorem otpSet_pending (o n : Nat) : (otpSet s o n).pending = s.pending := rfl
@[simp] theorem otpSet_mem (o n : Nat) : (otpSet s o n).mem = s.mem := rfl
@[simp] theorem otpSet_regs (o n : Nat) : (otpSet s o n).regs = s.regs := rfl
@[simp] theorem otpSet_remap (o n : Nat) : (otpSet s o n).remap = s.remap := rfl
@[simp] theorem otpSet_swap (o n : Nat) : (otpSet s o n).swap = s.swap := rfl
@[simp] theorem otpSet_cells (o n : Nat) : (otpSet s o n).cells = s.cells := rfl
@[simp] theorem otpSet_vats (o n : Nat) : (otpSet s o n).vats = s.vats := rfl
@[simp] theorem otpSet_central (o n : Nat) : (otpSet s o n).central = s.central := rfl
@[simp] theorem otpSet_mesh (o n : Nat) : (otpSet s o n).mesh = s.mesh := rfl
@[simp] theorem otpSet_act (o n : Nat) : (otpSet s o n).act = s.act := rfl
@[simp] theorem otpSet_evc (o n : Nat) : (otpSet s o n).evc = s.evc := rfl
@[simp] theorem otpSet_flt (o n : Nat) : (otpSet s o n).flt = s.flt := rfl
@[simp] theorem otpSet_tmp (o n : Nat) : (otpSet s o n).tmp = s.tmp := rfl
@[simp] theorem otpSet_bat (o n : Nat) : (otpSet s o n).bat = s.bat := rfl
@[simp] theorem otpSet_seedSet (o n : Nat) : (otpSet s o n).seedSet = s.seedSet := rfl
@[simp] theorem otpSet_identityRoot (o n : Nat) : (otpSet s o n).identityRoot = s.identityRoot := rfl
@[simp] theorem otpSet_ownerRoot (o n : Nat) : (otpSet s o n).ownerRoot = s.ownerRoot := rfl
@[simp] theorem otpSet_sessionRoot (o n : Nat) : (otpSet s o n).sessionRoot = s.sessionRoot := rfl
@[simp] theorem otpSet_calOffsets (o n : Nat) : (otpSet s o n).calOffsets = s.calOffsets := rfl
@[simp] theorem otpSet_flash (o n : Nat) : (otpSet s o n).flash = s.flash := rfl
@[simp] theorem otpSet_dma (o n : Nat) : (otpSet s o n).dma = s.dma := rfl
@[simp] theorem otpSet_pps (o n : Nat) : (otpSet s o n).pps = s.pps := rfl
@[simp] theorem otpSet_cards (o n : Nat) : (otpSet s o n).cards = s.cards := rfl
@[simp] theorem otpSet_tag (o n : Nat) : (otpSet s o n).tag = s.tag := rfl
@[simp] theorem otpSet_parlour (o n : Nat) : (otpSet s o n).parlour = s.parlour := rfl
@[simp] theorem otpSet_fw (o n : Nat) : (otpSet s o n).fw = s.fw := rfl
@[simp] theorem otpSet_store (o n : Nat) : (otpSet s o n).store = s.store := rfl
@[simp] theorem otpSet_rejects (o n : Nat) : (otpSet s o n).rejects = s.rejects := rfl
@[simp] theorem otpSet_boot (o n : Nat) : (otpSet s o n).boot = s.boot := rfl
@[simp] theorem otpSet_ext (o n : Nat) : (otpSet s o n).ext = s.ext := rfl
@[simp] theorem otpSet_fresh (o n : Nat) : (otpSet s o n).fresh = s.fresh := rfl
@[simp] theorem otpSet_lastRead (o n : Nat) : (otpSet s o n).lastRead = s.lastRead := rfl
@[simp] theorem otpSet_sent (o n : Nat) : (otpSet s o n).sent = s.sent := rfl

/-! ### setBank changes flash -/

@[simp] theorem setBank_pending (b : Nat) (v : FlashBank) : (setBank s b v).pending = s.pending := rfl
@[simp] theorem setBank_mem (b : Nat) (v : FlashBank) : (setBank s b v).mem = s.mem := rfl
@[simp] theorem setBank_regs (b : Nat) (v : FlashBank) : (setBank s b v).regs = s.regs := rfl
@[simp] theorem setBank_remap (b : Nat) (v : FlashBank) : (setBank s b v).remap = s.remap := rfl
@[simp] theorem setBank_swap (b : Nat) (v : FlashBank) : (setBank s b v).swap = s.swap := rfl
@[simp] theorem setBank_cells (b : Nat) (v : FlashBank) : (setBank s b v).cells = s.cells := rfl
@[simp] theorem setBank_vats (b : Nat) (v : FlashBank) : (setBank s b v).vats = s.vats := rfl
@[simp] theorem setBank_central (b : Nat) (v : FlashBank) : (setBank s b v).central = s.central := rfl
@[simp] theorem setBank_mesh (b : Nat) (v : FlashBank) : (setBank s b v).mesh = s.mesh := rfl
@[simp] theorem setBank_act (b : Nat) (v : FlashBank) : (setBank s b v).act = s.act := rfl
@[simp] theorem setBank_evc (b : Nat) (v : FlashBank) : (setBank s b v).evc = s.evc := rfl
@[simp] theorem setBank_flt (b : Nat) (v : FlashBank) : (setBank s b v).flt = s.flt := rfl
@[simp] theorem setBank_tmp (b : Nat) (v : FlashBank) : (setBank s b v).tmp = s.tmp := rfl
@[simp] theorem setBank_bat (b : Nat) (v : FlashBank) : (setBank s b v).bat = s.bat := rfl
@[simp] theorem setBank_otp (b : Nat) (v : FlashBank) : (setBank s b v).otp = s.otp := rfl
@[simp] theorem setBank_seedSet (b : Nat) (v : FlashBank) : (setBank s b v).seedSet = s.seedSet := rfl
@[simp] theorem setBank_identityRoot (b : Nat) (v : FlashBank) : (setBank s b v).identityRoot = s.identityRoot := rfl
@[simp] theorem setBank_ownerRoot (b : Nat) (v : FlashBank) : (setBank s b v).ownerRoot = s.ownerRoot := rfl
@[simp] theorem setBank_sessionRoot (b : Nat) (v : FlashBank) : (setBank s b v).sessionRoot = s.sessionRoot := rfl
@[simp] theorem setBank_calOffsets (b : Nat) (v : FlashBank) : (setBank s b v).calOffsets = s.calOffsets := rfl
@[simp] theorem setBank_dma (b : Nat) (v : FlashBank) : (setBank s b v).dma = s.dma := rfl
@[simp] theorem setBank_pps (b : Nat) (v : FlashBank) : (setBank s b v).pps = s.pps := rfl
@[simp] theorem setBank_cards (b : Nat) (v : FlashBank) : (setBank s b v).cards = s.cards := rfl
@[simp] theorem setBank_tag (b : Nat) (v : FlashBank) : (setBank s b v).tag = s.tag := rfl
@[simp] theorem setBank_parlour (b : Nat) (v : FlashBank) : (setBank s b v).parlour = s.parlour := rfl
@[simp] theorem setBank_fw (b : Nat) (v : FlashBank) : (setBank s b v).fw = s.fw := rfl
@[simp] theorem setBank_store (b : Nat) (v : FlashBank) : (setBank s b v).store = s.store := rfl
@[simp] theorem setBank_rejects (b : Nat) (v : FlashBank) : (setBank s b v).rejects = s.rejects := rfl
@[simp] theorem setBank_boot (b : Nat) (v : FlashBank) : (setBank s b v).boot = s.boot := rfl
@[simp] theorem setBank_ext (b : Nat) (v : FlashBank) : (setBank s b v).ext = s.ext := rfl
@[simp] theorem setBank_fresh (b : Nat) (v : FlashBank) : (setBank s b v).fresh = s.fresh := rfl
@[simp] theorem setBank_lastRead (b : Nat) (v : FlashBank) : (setBank s b v).lastRead = s.lastRead := rfl
@[simp] theorem setBank_sent (b : Nat) (v : FlashBank) : (setBank s b v).sent = s.sent := rfl

/-! ### setDma changes dma -/

@[simp] theorem setDma_pending (c : Nat) (d : Dma) : (setDma s c d).pending = s.pending := rfl
@[simp] theorem setDma_mem (c : Nat) (d : Dma) : (setDma s c d).mem = s.mem := rfl
@[simp] theorem setDma_regs (c : Nat) (d : Dma) : (setDma s c d).regs = s.regs := rfl
@[simp] theorem setDma_remap (c : Nat) (d : Dma) : (setDma s c d).remap = s.remap := rfl
@[simp] theorem setDma_swap (c : Nat) (d : Dma) : (setDma s c d).swap = s.swap := rfl
@[simp] theorem setDma_cells (c : Nat) (d : Dma) : (setDma s c d).cells = s.cells := rfl
@[simp] theorem setDma_vats (c : Nat) (d : Dma) : (setDma s c d).vats = s.vats := rfl
@[simp] theorem setDma_central (c : Nat) (d : Dma) : (setDma s c d).central = s.central := rfl
@[simp] theorem setDma_mesh (c : Nat) (d : Dma) : (setDma s c d).mesh = s.mesh := rfl
@[simp] theorem setDma_act (c : Nat) (d : Dma) : (setDma s c d).act = s.act := rfl
@[simp] theorem setDma_evc (c : Nat) (d : Dma) : (setDma s c d).evc = s.evc := rfl
@[simp] theorem setDma_flt (c : Nat) (d : Dma) : (setDma s c d).flt = s.flt := rfl
@[simp] theorem setDma_tmp (c : Nat) (d : Dma) : (setDma s c d).tmp = s.tmp := rfl
@[simp] theorem setDma_bat (c : Nat) (d : Dma) : (setDma s c d).bat = s.bat := rfl
@[simp] theorem setDma_otp (c : Nat) (d : Dma) : (setDma s c d).otp = s.otp := rfl
@[simp] theorem setDma_seedSet (c : Nat) (d : Dma) : (setDma s c d).seedSet = s.seedSet := rfl
@[simp] theorem setDma_identityRoot (c : Nat) (d : Dma) : (setDma s c d).identityRoot = s.identityRoot := rfl
@[simp] theorem setDma_ownerRoot (c : Nat) (d : Dma) : (setDma s c d).ownerRoot = s.ownerRoot := rfl
@[simp] theorem setDma_sessionRoot (c : Nat) (d : Dma) : (setDma s c d).sessionRoot = s.sessionRoot := rfl
@[simp] theorem setDma_calOffsets (c : Nat) (d : Dma) : (setDma s c d).calOffsets = s.calOffsets := rfl
@[simp] theorem setDma_flash (c : Nat) (d : Dma) : (setDma s c d).flash = s.flash := rfl
@[simp] theorem setDma_pps (c : Nat) (d : Dma) : (setDma s c d).pps = s.pps := rfl
@[simp] theorem setDma_cards (c : Nat) (d : Dma) : (setDma s c d).cards = s.cards := rfl
@[simp] theorem setDma_tag (c : Nat) (d : Dma) : (setDma s c d).tag = s.tag := rfl
@[simp] theorem setDma_parlour (c : Nat) (d : Dma) : (setDma s c d).parlour = s.parlour := rfl
@[simp] theorem setDma_fw (c : Nat) (d : Dma) : (setDma s c d).fw = s.fw := rfl
@[simp] theorem setDma_store (c : Nat) (d : Dma) : (setDma s c d).store = s.store := rfl
@[simp] theorem setDma_rejects (c : Nat) (d : Dma) : (setDma s c d).rejects = s.rejects := rfl
@[simp] theorem setDma_boot (c : Nat) (d : Dma) : (setDma s c d).boot = s.boot := rfl
@[simp] theorem setDma_ext (c : Nat) (d : Dma) : (setDma s c d).ext = s.ext := rfl
@[simp] theorem setDma_fresh (c : Nat) (d : Dma) : (setDma s c d).fresh = s.fresh := rfl
@[simp] theorem setDma_lastRead (c : Nat) (d : Dma) : (setDma s c d).lastRead = s.lastRead := rfl
@[simp] theorem setDma_sent (c : Nat) (d : Dma) : (setDma s c d).sent = s.sent := rfl

/-! ### setSlot changes cards -/

@[simp] theorem setSlot_pending (n : Nat) (c : CardSlot) : (setSlot s n c).pending = s.pending := rfl
@[simp] theorem setSlot_mem (n : Nat) (c : CardSlot) : (setSlot s n c).mem = s.mem := rfl
@[simp] theorem setSlot_regs (n : Nat) (c : CardSlot) : (setSlot s n c).regs = s.regs := rfl
@[simp] theorem setSlot_remap (n : Nat) (c : CardSlot) : (setSlot s n c).remap = s.remap := rfl
@[simp] theorem setSlot_swap (n : Nat) (c : CardSlot) : (setSlot s n c).swap = s.swap := rfl
@[simp] theorem setSlot_cells (n : Nat) (c : CardSlot) : (setSlot s n c).cells = s.cells := rfl
@[simp] theorem setSlot_vats (n : Nat) (c : CardSlot) : (setSlot s n c).vats = s.vats := rfl
@[simp] theorem setSlot_central (n : Nat) (c : CardSlot) : (setSlot s n c).central = s.central := rfl
@[simp] theorem setSlot_mesh (n : Nat) (c : CardSlot) : (setSlot s n c).mesh = s.mesh := rfl
@[simp] theorem setSlot_act (n : Nat) (c : CardSlot) : (setSlot s n c).act = s.act := rfl
@[simp] theorem setSlot_evc (n : Nat) (c : CardSlot) : (setSlot s n c).evc = s.evc := rfl
@[simp] theorem setSlot_flt (n : Nat) (c : CardSlot) : (setSlot s n c).flt = s.flt := rfl
@[simp] theorem setSlot_tmp (n : Nat) (c : CardSlot) : (setSlot s n c).tmp = s.tmp := rfl
@[simp] theorem setSlot_bat (n : Nat) (c : CardSlot) : (setSlot s n c).bat = s.bat := rfl
@[simp] theorem setSlot_otp (n : Nat) (c : CardSlot) : (setSlot s n c).otp = s.otp := rfl
@[simp] theorem setSlot_seedSet (n : Nat) (c : CardSlot) : (setSlot s n c).seedSet = s.seedSet := rfl
@[simp] theorem setSlot_identityRoot (n : Nat) (c : CardSlot) : (setSlot s n c).identityRoot = s.identityRoot := rfl
@[simp] theorem setSlot_ownerRoot (n : Nat) (c : CardSlot) : (setSlot s n c).ownerRoot = s.ownerRoot := rfl
@[simp] theorem setSlot_sessionRoot (n : Nat) (c : CardSlot) : (setSlot s n c).sessionRoot = s.sessionRoot := rfl
@[simp] theorem setSlot_calOffsets (n : Nat) (c : CardSlot) : (setSlot s n c).calOffsets = s.calOffsets := rfl
@[simp] theorem setSlot_flash (n : Nat) (c : CardSlot) : (setSlot s n c).flash = s.flash := rfl
@[simp] theorem setSlot_dma (n : Nat) (c : CardSlot) : (setSlot s n c).dma = s.dma := rfl
@[simp] theorem setSlot_pps (n : Nat) (c : CardSlot) : (setSlot s n c).pps = s.pps := rfl
@[simp] theorem setSlot_tag (n : Nat) (c : CardSlot) : (setSlot s n c).tag = s.tag := rfl
@[simp] theorem setSlot_parlour (n : Nat) (c : CardSlot) : (setSlot s n c).parlour = s.parlour := rfl
@[simp] theorem setSlot_fw (n : Nat) (c : CardSlot) : (setSlot s n c).fw = s.fw := rfl
@[simp] theorem setSlot_store (n : Nat) (c : CardSlot) : (setSlot s n c).store = s.store := rfl
@[simp] theorem setSlot_rejects (n : Nat) (c : CardSlot) : (setSlot s n c).rejects = s.rejects := rfl
@[simp] theorem setSlot_boot (n : Nat) (c : CardSlot) : (setSlot s n c).boot = s.boot := rfl
@[simp] theorem setSlot_ext (n : Nat) (c : CardSlot) : (setSlot s n c).ext = s.ext := rfl
@[simp] theorem setSlot_fresh (n : Nat) (c : CardSlot) : (setSlot s n c).fresh = s.fresh := rfl
@[simp] theorem setSlot_lastRead (n : Nat) (c : CardSlot) : (setSlot s n c).lastRead = s.lastRead := rfl
@[simp] theorem setSlot_sent (n : Nat) (c : CardSlot) : (setSlot s n c).sent = s.sent := rfl

/-! ### setRecord changes tag -/

@[simp] theorem setRecord_pending (n : Nat) (r : TagRecord) : (setRecord s n r).pending = s.pending := rfl
@[simp] theorem setRecord_mem (n : Nat) (r : TagRecord) : (setRecord s n r).mem = s.mem := rfl
@[simp] theorem setRecord_regs (n : Nat) (r : TagRecord) : (setRecord s n r).regs = s.regs := rfl
@[simp] theorem setRecord_remap (n : Nat) (r : TagRecord) : (setRecord s n r).remap = s.remap := rfl
@[simp] theorem setRecord_swap (n : Nat) (r : TagRecord) : (setRecord s n r).swap = s.swap := rfl
@[simp] theorem setRecord_cells (n : Nat) (r : TagRecord) : (setRecord s n r).cells = s.cells := rfl
@[simp] theorem setRecord_vats (n : Nat) (r : TagRecord) : (setRecord s n r).vats = s.vats := rfl
@[simp] theorem setRecord_central (n : Nat) (r : TagRecord) : (setRecord s n r).central = s.central := rfl
@[simp] theorem setRecord_mesh (n : Nat) (r : TagRecord) : (setRecord s n r).mesh = s.mesh := rfl
@[simp] theorem setRecord_act (n : Nat) (r : TagRecord) : (setRecord s n r).act = s.act := rfl
@[simp] theorem setRecord_evc (n : Nat) (r : TagRecord) : (setRecord s n r).evc = s.evc := rfl
@[simp] theorem setRecord_flt (n : Nat) (r : TagRecord) : (setRecord s n r).flt = s.flt := rfl
@[simp] theorem setRecord_tmp (n : Nat) (r : TagRecord) : (setRecord s n r).tmp = s.tmp := rfl
@[simp] theorem setRecord_bat (n : Nat) (r : TagRecord) : (setRecord s n r).bat = s.bat := rfl
@[simp] theorem setRecord_otp (n : Nat) (r : TagRecord) : (setRecord s n r).otp = s.otp := rfl
@[simp] theorem setRecord_seedSet (n : Nat) (r : TagRecord) : (setRecord s n r).seedSet = s.seedSet := rfl
@[simp] theorem setRecord_identityRoot (n : Nat) (r : TagRecord) : (setRecord s n r).identityRoot = s.identityRoot := rfl
@[simp] theorem setRecord_ownerRoot (n : Nat) (r : TagRecord) : (setRecord s n r).ownerRoot = s.ownerRoot := rfl
@[simp] theorem setRecord_sessionRoot (n : Nat) (r : TagRecord) : (setRecord s n r).sessionRoot = s.sessionRoot := rfl
@[simp] theorem setRecord_calOffsets (n : Nat) (r : TagRecord) : (setRecord s n r).calOffsets = s.calOffsets := rfl
@[simp] theorem setRecord_flash (n : Nat) (r : TagRecord) : (setRecord s n r).flash = s.flash := rfl
@[simp] theorem setRecord_dma (n : Nat) (r : TagRecord) : (setRecord s n r).dma = s.dma := rfl
@[simp] theorem setRecord_pps (n : Nat) (r : TagRecord) : (setRecord s n r).pps = s.pps := rfl
@[simp] theorem setRecord_cards (n : Nat) (r : TagRecord) : (setRecord s n r).cards = s.cards := rfl
@[simp] theorem setRecord_parlour (n : Nat) (r : TagRecord) : (setRecord s n r).parlour = s.parlour := rfl
@[simp] theorem setRecord_fw (n : Nat) (r : TagRecord) : (setRecord s n r).fw = s.fw := rfl
@[simp] theorem setRecord_store (n : Nat) (r : TagRecord) : (setRecord s n r).store = s.store := rfl
@[simp] theorem setRecord_rejects (n : Nat) (r : TagRecord) : (setRecord s n r).rejects = s.rejects := rfl
@[simp] theorem setRecord_boot (n : Nat) (r : TagRecord) : (setRecord s n r).boot = s.boot := rfl
@[simp] theorem setRecord_ext (n : Nat) (r : TagRecord) : (setRecord s n r).ext = s.ext := rfl
@[simp] theorem setRecord_fresh (n : Nat) (r : TagRecord) : (setRecord s n r).fresh = s.fresh := rfl
@[simp] theorem setRecord_lastRead (n : Nat) (r : TagRecord) : (setRecord s n r).lastRead = s.lastRead := rfl
@[simp] theorem setRecord_sent (n : Nat) (r : TagRecord) : (setRecord s n r).sent = s.sent := rfl

/-! ### setPail changes parlour -/

@[simp] theorem setPail_pending (p : Nat) (v : PailState) : (setPail s p v).pending = s.pending := rfl
@[simp] theorem setPail_mem (p : Nat) (v : PailState) : (setPail s p v).mem = s.mem := rfl
@[simp] theorem setPail_regs (p : Nat) (v : PailState) : (setPail s p v).regs = s.regs := rfl
@[simp] theorem setPail_remap (p : Nat) (v : PailState) : (setPail s p v).remap = s.remap := rfl
@[simp] theorem setPail_swap (p : Nat) (v : PailState) : (setPail s p v).swap = s.swap := rfl
@[simp] theorem setPail_cells (p : Nat) (v : PailState) : (setPail s p v).cells = s.cells := rfl
@[simp] theorem setPail_vats (p : Nat) (v : PailState) : (setPail s p v).vats = s.vats := rfl
@[simp] theorem setPail_central (p : Nat) (v : PailState) : (setPail s p v).central = s.central := rfl
@[simp] theorem setPail_mesh (p : Nat) (v : PailState) : (setPail s p v).mesh = s.mesh := rfl
@[simp] theorem setPail_act (p : Nat) (v : PailState) : (setPail s p v).act = s.act := rfl
@[simp] theorem setPail_evc (p : Nat) (v : PailState) : (setPail s p v).evc = s.evc := rfl
@[simp] theorem setPail_flt (p : Nat) (v : PailState) : (setPail s p v).flt = s.flt := rfl
@[simp] theorem setPail_tmp (p : Nat) (v : PailState) : (setPail s p v).tmp = s.tmp := rfl
@[simp] theorem setPail_bat (p : Nat) (v : PailState) : (setPail s p v).bat = s.bat := rfl
@[simp] theorem setPail_otp (p : Nat) (v : PailState) : (setPail s p v).otp = s.otp := rfl
@[simp] theorem setPail_seedSet (p : Nat) (v : PailState) : (setPail s p v).seedSet = s.seedSet := rfl
@[simp] theorem setPail_identityRoot (p : Nat) (v : PailState) : (setPail s p v).identityRoot = s.identityRoot := rfl
@[simp] theorem setPail_ownerRoot (p : Nat) (v : PailState) : (setPail s p v).ownerRoot = s.ownerRoot := rfl
@[simp] theorem setPail_sessionRoot (p : Nat) (v : PailState) : (setPail s p v).sessionRoot = s.sessionRoot := rfl
@[simp] theorem setPail_calOffsets (p : Nat) (v : PailState) : (setPail s p v).calOffsets = s.calOffsets := rfl
@[simp] theorem setPail_flash (p : Nat) (v : PailState) : (setPail s p v).flash = s.flash := rfl
@[simp] theorem setPail_dma (p : Nat) (v : PailState) : (setPail s p v).dma = s.dma := rfl
@[simp] theorem setPail_pps (p : Nat) (v : PailState) : (setPail s p v).pps = s.pps := rfl
@[simp] theorem setPail_cards (p : Nat) (v : PailState) : (setPail s p v).cards = s.cards := rfl
@[simp] theorem setPail_tag (p : Nat) (v : PailState) : (setPail s p v).tag = s.tag := rfl
@[simp] theorem setPail_fw (p : Nat) (v : PailState) : (setPail s p v).fw = s.fw := rfl
@[simp] theorem setPail_store (p : Nat) (v : PailState) : (setPail s p v).store = s.store := rfl
@[simp] theorem setPail_rejects (p : Nat) (v : PailState) : (setPail s p v).rejects = s.rejects := rfl
@[simp] theorem setPail_boot (p : Nat) (v : PailState) : (setPail s p v).boot = s.boot := rfl
@[simp] theorem setPail_ext (p : Nat) (v : PailState) : (setPail s p v).ext = s.ext := rfl
@[simp] theorem setPail_fresh (p : Nat) (v : PailState) : (setPail s p v).fresh = s.fresh := rfl
@[simp] theorem setPail_lastRead (p : Nat) (v : PailState) : (setPail s p v).lastRead = s.lastRead := rfl
@[simp] theorem setPail_sent (p : Nat) (v : PailState) : (setPail s p v).sent = s.sent := rfl

/-! ### send changes sent -/

@[simp] theorem send_pending (m : Sent) : (send s m).pending = s.pending := rfl
@[simp] theorem send_mem (m : Sent) : (send s m).mem = s.mem := rfl
@[simp] theorem send_regs (m : Sent) : (send s m).regs = s.regs := rfl
@[simp] theorem send_remap (m : Sent) : (send s m).remap = s.remap := rfl
@[simp] theorem send_swap (m : Sent) : (send s m).swap = s.swap := rfl
@[simp] theorem send_cells (m : Sent) : (send s m).cells = s.cells := rfl
@[simp] theorem send_vats (m : Sent) : (send s m).vats = s.vats := rfl
@[simp] theorem send_central (m : Sent) : (send s m).central = s.central := rfl
@[simp] theorem send_mesh (m : Sent) : (send s m).mesh = s.mesh := rfl
@[simp] theorem send_act (m : Sent) : (send s m).act = s.act := rfl
@[simp] theorem send_evc (m : Sent) : (send s m).evc = s.evc := rfl
@[simp] theorem send_flt (m : Sent) : (send s m).flt = s.flt := rfl
@[simp] theorem send_tmp (m : Sent) : (send s m).tmp = s.tmp := rfl
@[simp] theorem send_bat (m : Sent) : (send s m).bat = s.bat := rfl
@[simp] theorem send_otp (m : Sent) : (send s m).otp = s.otp := rfl
@[simp] theorem send_seedSet (m : Sent) : (send s m).seedSet = s.seedSet := rfl
@[simp] theorem send_identityRoot (m : Sent) : (send s m).identityRoot = s.identityRoot := rfl
@[simp] theorem send_ownerRoot (m : Sent) : (send s m).ownerRoot = s.ownerRoot := rfl
@[simp] theorem send_sessionRoot (m : Sent) : (send s m).sessionRoot = s.sessionRoot := rfl
@[simp] theorem send_calOffsets (m : Sent) : (send s m).calOffsets = s.calOffsets := rfl
@[simp] theorem send_flash (m : Sent) : (send s m).flash = s.flash := rfl
@[simp] theorem send_dma (m : Sent) : (send s m).dma = s.dma := rfl
@[simp] theorem send_pps (m : Sent) : (send s m).pps = s.pps := rfl
@[simp] theorem send_cards (m : Sent) : (send s m).cards = s.cards := rfl
@[simp] theorem send_tag (m : Sent) : (send s m).tag = s.tag := rfl
@[simp] theorem send_parlour (m : Sent) : (send s m).parlour = s.parlour := rfl
@[simp] theorem send_fw (m : Sent) : (send s m).fw = s.fw := rfl
@[simp] theorem send_store (m : Sent) : (send s m).store = s.store := rfl
@[simp] theorem send_rejects (m : Sent) : (send s m).rejects = s.rejects := rfl
@[simp] theorem send_boot (m : Sent) : (send s m).boot = s.boot := rfl
@[simp] theorem send_ext (m : Sent) : (send s m).ext = s.ext := rfl
@[simp] theorem send_fresh (m : Sent) : (send s m).fresh = s.fresh := rfl
@[simp] theorem send_lastRead (m : Sent) : (send s m).lastRead = s.lastRead := rfl

end Sys2Proof.Machine
end

