-- ==== Sys2Proof/Laws/Tables.lean ====
section
/-!
SUPPORT. What a sparse table reads as after a write, and that every operation keeps the canonical form; with what this says of memory
and of registers.
-/
namespace Sys2Proof.Machine

variable {α : Type}

/-! ### Reading -/

theorem tget_tdel_same (d : Nat → α) (m : Tbl α) (k : Nat) : tget d (tdel m k) k = d k := by
  induction m with
  | nil => rfl
  | cons p rest ih =>
    by_cases h : p.1 = k
    · simpa [tdel, h] using ih
    · simp only [tdel, List.filter_cons, h, bne_iff_ne, ne_eq, not_false_eq_true, if_true, tget, if_false]
      exact ih
theorem tget_tdel_other (d : Nat → α) (m : Tbl α) {k j : Nat} (h : j ≠ k) : tget d (tdel m k) j = tget d m j := by
  induction m with
  | nil => rfl
  | cons p rest ih =>
    by_cases hp : p.1 = k
    · have hj : p.1 ≠ j := fun e => h (e.symm.trans hp)
      simp only [tdel, List.filter_cons, hp, bne_self_eq_false, Bool.false_eq_true, if_false, tget]
      rw [if_neg (fun e => h e.symm)]
      exact ih
    · simp only [tdel, List.filter_cons, hp, bne_iff_ne, ne_eq, not_false_eq_true, if_true, tget]
      split <;> [rfl; exact ih]
theorem tget_tins_same (d : Nat → α) (m : Tbl α) (k : Nat) (v : α) (h : ∀ p ∈ m, p.1 ≠ k) : tget d (tins k v m) k = v := by
  induction m with
  | nil => simp [tins, tget]
  | cons p rest ih =>
    simp only [tins]
    split
    · rw [tget, if_neg (h p (by simp))]
      exact ih (fun q hq => h q (by simp [hq]))
    · simp [tget]
theorem tget_tins_other (d : Nat → α) (m : Tbl α) {k j : Nat} (v : α) (h : j ≠ k) : tget d (tins k v m) j = tget d m j := by
  induction m with
  | nil => simp [tins, tget, h.symm]
  | cons p rest ih =>
    simp only [tins]
    split
    · simp only [tget, ih]
    · rw [tget, if_neg h.symm]
theorem tdel_no_key (m : Tbl α) (k : Nat) : ∀ p ∈ tdel m k, p.1 ≠ k := by
  intro p hp
  simpa using (List.mem_filter.mp hp).2

variable [DecidableEq α]

/-- A write is read back, whatever the table. -/
@[simp] theorem tget_tset_same (d : Nat → α) (m : Tbl α) (k : Nat) (v : α) : tget d (tset d m k v) k = v := by
  unfold tset
  split
  · next h => rw [tget_tdel_same, h]
  · exact tget_tins_same d _ k v (tdel_no_key m k)
/-- A write leaves every other key, whatever the table. -/
theorem tget_tset_other (d : Nat → α) (m : Tbl α) {k j : Nat} (v : α) (h : j ≠ k) : tget d (tset d m k v) j = tget d m j := by
  unfold tset
  split
  · exact tget_tdel_other d m h
  · rw [tget_tins_other d _ v h, tget_tdel_other d m h]
theorem tget_tset (d : Nat → α) (m : Tbl α) (k j : Nat) (v : α) : tget d (tset d m k v) j = if j = k then v else tget d m j := by
  split
  · next h => rw [h, tget_tset_same]
  · next h => exact tget_tset_other d m v h

/-! ### The canonical form -/

theorem tcanon_filter (d : Nat → α) (f : Nat × α → Bool) (m : Tbl α) (h : tcanon d m = true) : tcanon d (m.filter f) = true := by
  induction m with
  | nil => rfl
  | cons p rest ih =>
    obtain ⟨k, v⟩ := p
    simp only [tcanon, Bool.and_eq_true, decide_eq_true_eq, List.all_eq_true] at h
    simp only [List.filter_cons]
    split
    · simp only [tcanon, Bool.and_eq_true, decide_eq_true_eq, List.all_eq_true]
      exact ⟨⟨h.1.1, fun q hq => h.1.2 q (List.mem_of_mem_filter hq)⟩, ih h.2⟩
    · exact ih h.2
theorem tcanon_tdel (d : Nat → α) (m : Tbl α) (k : Nat) (h : tcanon d m = true) : tcanon d (tdel m k) = true := tcanon_filter d _ m h
theorem tcanon_tclear (d : Nat → α) (m : Tbl α) (lo hi : Nat) (h : tcanon d m = true) : tcanon d (tclear m lo hi) = true :=
  tcanon_filter d _ m h
omit [DecidableEq α] in
theorem mem_tins (k : Nat) (v : α) (m : Tbl α) (p : Nat × α) : p ∈ tins k v m → p = (k, v) ∨ p ∈ m := by
  induction m with
  | nil => simp [tins]
  | cons q rest ih =>
    simp only [tins]
    split
    · simp only [List.mem_cons]
      rintro (h | h)
      · exact .inr (.inl h)
      · exact (ih h).imp id .inr
    · simp
theorem tcanon_tins (d : Nat → α) (m : Tbl α) (k : Nat) (v : α) (hv : v ≠ d k) (hk : ∀ p ∈ m, p.1 ≠ k) (h : tcanon d m = true) :
    tcanon d (tins k v m) = true := by
  induction m with
  | nil => simp [tins, tcanon, hv]
  | cons p rest ih =>
    obtain ⟨j, w⟩ := p
    have hc := h
    simp only [tcanon, Bool.and_eq_true, decide_eq_true_eq, List.all_eq_true] at hc
    simp only [tins]
    split
    · next hj =>
      simp only [tcanon, Bool.and_eq_true, decide_eq_true_eq, List.all_eq_true]
      refine ⟨⟨hc.1.1, fun q hq => ?_⟩, ih (fun q hq => hk q (by simp [hq])) hc.2⟩
      rcases mem_tins k v rest q hq with rfl | hq
      · exact hj
      · exact hc.1.2 q hq
    · next hj =>
      have hjk : k < j := Nat.lt_of_le_of_ne (Nat.le_of_not_lt hj) (fun e => hk (j, w) (by simp) e.symm)
      simp only [tcanon, Bool.and_eq_true, decide_eq_true_eq, List.all_eq_true, List.mem_cons]
      refine ⟨⟨hv, ?_⟩, hc⟩
      rintro q (rfl | hq)
      · exact hjk
      · exact Nat.lt_trans hjk (hc.1.2 q hq)
/-- A write keeps the canonical form. -/
theorem tcanon_tset (d : Nat → α) (m : Tbl α) (k : Nat) (v : α) (h : tcanon d m = true) : tcanon d (tset d m k v) = true := by
  unfold tset
  split
  · exact tcanon_tdel d m k h
  · next hv => exact tcanon_tins d _ k v hv (tdel_no_key m k) (tcanon_tdel d m k h)

/-! ### Memory -/

variable (s : State)

@[simp] theorem readMem_writeMem_same (a : Nat) (w : Word) : readMem (writeMem s a w) a = w := tget_tset_same ..
theorem readMem_writeMem_other {a x : Nat} (w : Word) (h : x ≠ a) : readMem (writeMem s a w) x = readMem s x := tget_tset_other _ _ _ h
theorem writeMem_keeps_form (a : Nat) (w : Word) (h : MemOk s) : MemOk (writeMem s a w) := tcanon_tset _ _ _ _ h
theorem scrub_keeps_form (lo hi : Nat) (h : MemOk s) : MemOk (scrub s lo hi) := tcanon_tclear _ _ _ _ h
theorem writeMems_keeps_form (a : Nat) (ws : List Word) (h : MemOk s) : MemOk (writeMems s a ws) := by
  induction ws generalizing s a with
  | nil => exact h
  | cons w ws ih => exact ih _ _ (writeMem_keeps_form s a w h)
theorem reset_memory_form : MemOk State.reset := rfl

/-! ### Registers, cores, vats and the other tables of the state -/

@[simp] theorem getReg_setReg_same (w : Nat) (v : BitVec 16) : getReg (setReg s w v) w = v := tget_tset_same ..
theorem getReg_setReg_other {w x : Nat} (v : BitVec 16) (h : x ≠ w) : getReg (setReg s w v) x = getReg s x := tget_tset_other _ _ _ h
theorem setReg_keeps_form (w : Nat) (v : BitVec 16) (h : RegsOk s) : RegsOk (setReg s w v) := tcanon_tset _ _ _ _ h
@[simp] theorem getCell_setCell_same (k : Nat) (c : Cell) : getCell (setCell s k c) k = c := tget_tset_same ..
theorem getCell_setCell_other {k j : Nat} (c : Cell) (h : j ≠ k) : getCell (setCell s k c) j = getCell s j := tget_tset_other _ _ _ h
@[simp] theorem getVat_setVat_same (p : Nat) (v : Vat) : getVat (setVat s p v) p = v := tget_tset_same ..
theorem getVat_setVat_other {p q : Nat} (v : Vat) (h : q ≠ p) : getVat (setVat s p v) q = getVat s q := tget_tset_other _ _ _ h
@[simp] theorem getPail_setPail_same (p : Nat) (v : PailState) : getPail (setPail s p v) p = v := tget_tset_same ..
theorem getPail_setPail_other {p q : Nat} (v : PailState) (h : q ≠ p) : getPail (setPail s p v) q = getPail s q := tget_tset_other _ _ _ h
@[simp] theorem getXfer_setXfer_same (n : Nat) (t : Option Transfer) : getXfer (setXfer s n t) n = t := tget_tset_same ..
theorem getXfer_setXfer_other {n j : Nat} (t : Option Transfer) (h : j ≠ n) : getXfer (setXfer s n t) j = getXfer s j := tget_tset_other _ _ _ h
@[simp] theorem getSrc_setSrc_same (n : Nat) (t : TamperSrc) : getSrc (setSrc s n t) n = t := tget_tset_same ..
theorem getSrc_setSrc_other {n j : Nat} (t : TamperSrc) (h : j ≠ n) : getSrc (setSrc s n t) j = getSrc s j := tget_tset_other _ _ _ h
@[simp] theorem getDma_setDma_same (c : Nat) (d : Dma) : getDma (setDma s c d) c = d := tget_tset_same ..
theorem getDma_setDma_other {c j : Nat} (d : Dma) (h : j ≠ c) : getDma (setDma s c d) j = getDma s j := tget_tset_other _ _ _ h
@[simp] theorem getBank_setBank_same (b : Nat) (v : FlashBank) : getBank (setBank s b v) b = v := tget_tset_same ..
theorem getBank_setBank_other {b j : Nat} (v : FlashBank) (h : j ≠ b) : getBank (setBank s b v) j = getBank s j := tget_tset_other _ _ _ h
@[simp] theorem getSlot_setSlot_same (n : Nat) (c : CardSlot) : getSlot (setSlot s n c) n = c := tget_tset_same ..
theorem getSlot_setSlot_other {n j : Nat} (c : CardSlot) (h : j ≠ n) : getSlot (setSlot s n c) j = getSlot s j := tget_tset_other _ _ _ h
@[simp] theorem getRecord_setRecord_same (n : Nat) (r : TagRecord) : getRecord (setRecord s n r) n = r := tget_tset_same ..
theorem getRecord_setRecord_other {n j : Nat} (r : TagRecord) (h : j ≠ n) : getRecord (setRecord s n r) j = getRecord s j :=
  tget_tset_other _ _ _ h
@[simp] theorem shadowEntry_setShadow_same (n : Nat) (e : ActEntry) : shadowEntry (setShadow s n e) n = e := tget_tset_same ..
theorem shadowEntry_setShadow_other {n j : Nat} (e : ActEntry) (h : j ≠ n) : shadowEntry (setShadow s n e) j = shadowEntry s j :=
  tget_tset_other _ _ _ h

/-! ### One-time-programmable words -/

theorem otpWord_otpSet (o i x : Nat) : otpWord (otpSet s o i) x = if x = o then otpWord s o ||| (1 <<< i : BitVec 16) else otpWord s x :=
  tget_tset (fun _ => 0) s.otp o x (otpWord s o ||| (1 <<< i : BitVec 16))
/-- Programming a bit clears none (R562). -/
theorem otpSet_keeps (o i x y : Nat) (h : OtpBit s x y) : OtpBit (otpSet s o i) x y := by
  unfold OtpBit at *
  rw [otpWord_otpSet]
  split
  · next e => subst e; rw [BitVec.getLsbD_or, h, Bool.true_or]
  · exact h
/-- Programming a bit sets it. -/
theorem otpSet_sets (o i : Nat) (h : i < 16) : OtpBit (otpSet s o i) o i := by
  unfold OtpBit
  rw [otpWord_otpSet, if_pos rfl, BitVec.getLsbD_or]
  have e : (1 <<< i) % 65536 = 2 ^ i := by
    rw [Nat.one_shiftLeft]
    exact Nat.mod_eq_of_lt (lt_of_lt_of_le (Nat.pow_lt_pow_right (by decide) h) (by decide))
  simp [BitVec.getElem_eq_testBit_toNat, e, h]

end Sys2Proof.Machine
end

