-- ==== Sys2Proof/Laws/Ops.lean ====
section
/-!
SUPPORT. What each shared operation can do, said once: fields of registers, events, fault records, draws, sends, instructions of a core.
-/
namespace Sys2Proof.Machine

variable (s : State)

/-! ### Fields -/

theorem putFld_toNat_testBit (v : BitVec 16) (hi lo n i : Nat) (_hh : hi < 16) (hl : lo ≤ hi) (hi' : i < 16) :
    (putFld v hi lo n).getLsbD i = if lo ≤ i ∧ i ≤ hi then n.testBit (i - lo) else v.getLsbD i := by
  have hm : ∀ j, ((2 ^ (hi - lo + 1) - 1) * 2 ^ lo).testBit j = decide (lo ≤ j ∧ j ≤ hi) := by
    intro j
    rw [Nat.testBit_mul_two_pow, Nat.testBit_two_pow_sub_one]
    by_cases h1 : lo ≤ j
    · by_cases h2 : j ≤ hi
      · simp [h1, h2]; omega
      · simp [h1, h2]; omega
    · simp [h1]
  simp only [putFld, BitVec.getLsbD_or, BitVec.getLsbD_and, BitVec.getLsbD_not, BitVec.getLsbD_ofNat, hm, hi', decide_true, Bool.true_and,
    Nat.testBit_mul_two_pow]
  by_cases h : lo ≤ i ∧ i ≤ hi
  · simp [h]
  · simp [h]
/-- A field that was written reads as what was written, and its other bits as before. -/
theorem bit_putFld (v : BitVec 16) (hi lo n i : Nat) (hh : hi < 16) (hl : lo ≤ hi) (hi' : i < 16) :
    bit (putFld v hi lo n) i = if lo ≤ i ∧ i ≤ hi then n.testBit (i - lo) else bit v i := putFld_toNat_testBit v hi lo n i hh hl hi'
theorem testBit_fld (v : BitVec 16) (hi lo j : Nat) :
    (fld v hi lo).testBit j = (decide (j < hi - lo + 1) && v.getLsbD (lo + j)) := by
  rw [fld, Nat.testBit_mod_two_pow, Nat.testBit_div_two_pow, Nat.add_comm j lo]
  rfl
theorem fld_putFld_same (v : BitVec 16) (hi lo n : Nat) (hh : hi < 16) (hl : lo ≤ hi) :
    fld (putFld v hi lo n) hi lo = n % 2 ^ (hi - lo + 1) := by
  apply Nat.eq_of_testBit_eq
  intro j
  rw [testBit_fld, Nat.testBit_mod_two_pow]
  by_cases h : j < hi - lo + 1
  · rw [putFld_toNat_testBit v hi lo n _ hh hl (by omega), if_pos (by omega)]
    simp
  · simp [h]
theorem fld_putFld_other (v : BitVec 16) (hi lo hi2 lo2 n : Nat) (hh : hi < 16) (hl : lo ≤ hi) (h2 : hi2 < 16) (hl2 : lo2 ≤ hi2)
    (hd : hi < lo2 ∨ hi2 < lo) : fld (putFld v hi lo n) hi2 lo2 = fld v hi2 lo2 := by
  apply Nat.eq_of_testBit_eq
  intro j
  rw [testBit_fld, testBit_fld]
  by_cases h : j < hi2 - lo2 + 1
  · rw [putFld_toNat_testBit v hi lo n _ hh hl (by omega), if_neg (by omega)]
  · simp [h]
theorem getFld_setFld_same (w hi lo n : Nat) (hh : hi < 16) (hl : lo ≤ hi) : getFld (setFld s w hi lo n) w hi lo = n % 2 ^ (hi - lo + 1) := by
  rw [getFld, setFld, getReg_setReg_same, fld_putFld_same _ _ _ _ hh hl]
theorem getReg_setFld_other {w x : Nat} (hi lo n : Nat) (h : x ≠ w) : getReg (setFld s w hi lo n) x = getReg s x :=
  getReg_setReg_other s _ h
theorem getBit_setBit_same (w i : Nat) (b : Bool) (h : i < 16) : getBit (setBit s w i b) w i = b := by
  rw [getBit, setBit, setFld, getReg_setReg_same, bit_putFld _ _ _ _ _ h (Nat.le_refl i) h]
  cases b <;> simp [b2n]
theorem getBit_setBit_other (w i j : Nat) (b : Bool) (h : i < 16) (hj : j < 16) (hij : j ≠ i) : getBit (setBit s w i b) w j = getBit s w j := by
  rw [getBit, setBit, setFld, getReg_setReg_same, bit_putFld _ _ _ _ _ h (Nat.le_refl i) hj, if_neg (by omega)]
  rfl
theorem getReg_setBit_other {w x : Nat} (i : Nat) (b : Bool) (h : x ≠ w) : getReg (setBit s w i b) x = getReg s x := getReg_setReg_other s _ h
theorem getReg_countReg_same (w top : Nat) : getReg (countReg s w top) w = BitVec.ofNat 16 (min top ((getReg s w).toNat + 1)) :=
  getReg_setReg_same ..
theorem getReg_countReg_other {w x : Nat} (top : Nat) (h : x ≠ w) : getReg (countReg s w top) x = getReg s x := getReg_setReg_other s _ h

/-! ### Events -/

/-- A raised source is pending, and no pending source is lost. -/
theorem raise_pend (n : Nat) (h : n < 640) : (raise s n).evc.pend.getLsbD n = true := by
  unfold raise
  simp only [BitVec.getLsbD_or, Bool.or_eq_true]
  right
  show (BitVec.ofNat 640 (1 <<< n)).getLsbD n = true
  rw [BitVec.getLsbD_ofNat, Nat.one_shiftLeft]
  simp [h]
theorem raise_keeps (n m : Nat) (h : s.evc.pend.getLsbD m = true) : (raise s n).evc.pend.getLsbD m = true := by
  unfold raise
  simp only [BitVec.getLsbD_or, h, Bool.true_or]
/-- An event bit is set; its register is the only one that may change. -/
theorem eventBit_sets (w i src : Nat) (h : i < 16) : getBit (eventBit s w i src) w i = true := by
  unfold eventBit
  split
  · assumption
  · exact getBit_setBit_same s w i true h
theorem eventBit_frame (w i src : Nat) : ∃ r e, eventBit s w i src = { s with regs := r, evc := e } := by
  unfold eventBit
  split
  · exact ⟨s.regs, s.evc, rfl⟩
  · exact ⟨_, _, rfl⟩
theorem eventBit_getReg_other {w x : Nat} (i src : Nat) (h : x ≠ w) : getReg (eventBit s w i src) x = getReg s x := by
  unfold eventBit
  split
  · rfl
  · exact getReg_setBit_other s i true h

/-! ### Fault records -/

theorem latchFault_frame (r : FaultRec) : ∃ g e f, latchFault s r = { s with regs := g, evc := e, flt := f } := by
  unfold latchFault
  dsimp only
  repeat' split
  all_goals exact ⟨_, _, _, rfl⟩
theorem stormCount_frame : ∃ e f, stormCount s = { s with evc := e, flt := f } := by
  unfold stormCount
  dsimp only
  repeat' split
  all_goals exact ⟨_, _, rfl⟩
theorem countVatFault_frame (n : Nat) (m : BitVec 10) : ∃ f, countVatFault s n m = { s with fw := f } := by
  unfold countVatFault
  dsimp only
  generalize (if n < 256 then n / 8 else if 577 ≤ n ∧ n ≤ 579 ∧ m.toNat < 512 then m.toNat / 16 else 34) = v
  split
  · exact ⟨_, rfl⟩
  · exact ⟨s.fw, rfl⟩
/-- A record changes registers, events, the collector and firmware's counts, and nothing else. -/
theorem fault_frame (cls source : Nat) (acc : AccessType) (m : BitVec 10) (a : BitVec 32) (p : Bool) :
    ∃ g e f w, fault s cls source acc m a p = { s with regs := g, evc := e, flt := f, fw := w } := by
  obtain ⟨g, e, f, h1⟩ := latchFault_frame s { cls := cls, source := source, posted := p, access := acc, master := m, addr := a, stamp := s.bat.timeBase }
  obtain ⟨e2, f2, h2⟩ := stormCount_frame { s with regs := g, evc := e, flt := f }
  obtain ⟨w, h3⟩ := countVatFault_frame { s with regs := g, evc := e2, flt := f2 } source m
  unfold fault
  simp only [h1, h2, h3]
  split <;> exact ⟨_, _, _, _, rfl⟩
/-- A record leaves memory as it was. -/
theorem fault_sameMem (cls source : Nat) (acc : AccessType) (m : BitVec 10) (a : BitVec 32) (p : Bool) :
    SameMem s (fault s cls source acc m a p) := by
  obtain ⟨_, _, _, _, h⟩ := fault_frame s cls source acc m a p
  intro x
  rw [h]
  rfl
/-- The first record is latched: its class, source, access type, master and address (R515, R518). -/
theorem fault_latched (cls source : Nat) (acc : AccessType) (m : BitVec 10) (a : BitVec 32) (p : Bool) :
    Latched s (fault s cls source acc m a p) cls source acc m a := by
  intro h
  unfold fault latchFault stormCount countVatFault
  simp only [h]
  repeat' split
  all_goals exact ⟨_, rfl, rfl, rfl, rfl, rfl, rfl⟩

/-! ### Draws -/

theorem draw16_frame : (draw16 s).2 = { s with fresh := s.fresh + 1 } := rfl
theorem drawBits_frame (n : Nat) : (drawBits s n).2 = { s with fresh := s.fresh + (n + 15) / 16 } := rfl

/-! ### Instructions of a core -/

/-- Before an instruction of its opcode and format, a core carries out the body. -/
theorem cellInstr_runs (core : Core) (op legal : BitVec 32 → Bool) (body : State → Nat → Cell → BitVec 32 → State) (p : BitVec 32)
    (hs : Stands s core p) (ho : op p = true) (hl : legal p = true) :
    cellInstr s core op legal body = body s (coreKey s core) (getCell s (coreKey s core)) p := by
  unfold cellInstr
  simp only [hs.1, hs.2, ho, hl, if_true]
/-- Before an encoding outside its format, a core takes an ILLEGAL fault (R302). -/
theorem cellInstr_illegal (core : Core) (op legal : BitVec 32 → Bool) (body : State → Nat → Cell → BitVec 32 → State) (p : BitVec 32)
    (hs : Stands s core p) (ho : op p = true) (hl : legal p = false) :
    cellInstr s core op legal body = syncFault s (coreKey s core) ⟨.illegal, none⟩ .fetch := by
  unfold cellInstr
  simp only [hs.1, hs.2, ho, hl, if_true, Bool.false_eq_true, if_false]
/-- A fault with MASK 0 is recorded and left for the core to take; its other state is as it was (R306, R337). -/
theorem syncFault_unmasked (k : Nat) (f : SyncFault) (acc : AccessType) (h : (getCell s k).mask = false) :
    syncFault s k f acc = modCell (fault s 1 577 (faultAccess f.cause acc) (masterOfKey s k) f.addr) k
      (fun c => { c with pend := some f, wait := .none }) := by
  unfold syncFault
  simp only [h, Bool.false_eq_true, if_false]

/-! ### Completions -/

/-- A completion changes its own pail's queue and nothing else. -/
theorem complete_frame (p : Nat) (seq : BitVec 16) (r : Response) : ∃ q, complete s p seq r = { s with parlour := q } := ⟨_, rfl⟩
theorem complete_pail (p : Nat) (seq : BitVec 16) (r : Response) : getPail (complete s p seq r) p = { getPail s p with
    queue := changeFirst (fun d => decide (d.seq = seq)) (fun d => { d with phase := .ready r }) (getPail s p).queue } :=
  getPail_setPail_same ..
theorem complete_other {p q : Nat} (seq : BitVec 16) (r : Response) (h : q ≠ p) : getPail (complete s p seq r) q = getPail s q :=
  getPail_setPail_other s _ h

/-! ### Steps -/

/-- A step carries out the command at the front of the queue. -/
theorem step_front (c : Instr) (rest : List Instr) : step { s with pending := c :: rest } = exec c { s with pending := rest } := rfl

end Sys2Proof.Machine
end

