-- ==== Sys2Proof/Laws/Engines.lean ====
section
/-!
SUPPORT. What the engines' part of a command does in a vat that is fed (`Fed`): every draw is served, every block is masked, and
nothing but the engines' own counts changes (`EnginesRan`).
-/
namespace Sys2Proof.Machine

variable {s w x : State} {v n b : Nat}

theorem EnginesRan.refl (s : State) (v : Nat) : EnginesRan s s v :=
  ⟨⟨_, _, _, rfl⟩, fun _ _ => rfl, fun _ _ => rfl, _, _, _, rfl⟩
theorem EnginesRan.trans (h : EnginesRan s w v) (g : EnginesRan w x v) : EnginesRan s x v := by
  obtain ⟨⟨r, vs, f, rfl⟩, hr, hv, b, n, k, hb⟩ := h
  obtain ⟨⟨r', vs', f', rfl⟩, gr, gv, b', n', k', gb⟩ := g
  refine ⟨⟨_, _, _, rfl⟩, fun q hq => (gr q hq).trans (hr q hq), fun q hq => (gv q hq).trans (hv q hq), b', n', k', ?_⟩
  rw [gb, hb]
theorem Fed.mono (h : Fed s v n) (hb : b ≤ n) : Fed s v b := ⟨h.1, Nat.le_trans hb h.2.1, h.2.2⟩

/-- A change of a vat's noise level and MAC count, of a register the engines count in, and of the free values drawn. -/
theorem enginesRan_of (regs : Tbl (BitVec 16)) (fresh b n : Nat)
    (hr : ∀ w, w ∉ [R.MAC_RESEEDS v, R.CHN_OPS v, R.CHN_SWITCHES v] → tget regReset regs w = getReg s w) :
    EnginesRan s { s with regs := regs, fresh := fresh, vats := tset vatReset s.vats v { getVat s v with
      noise := { (getVat s v).noise with bits := b }, mac := { (getVat s v).mac with sinceReseed := n } } } v := by
  refine ⟨⟨_, _, _, rfl⟩, hr, fun q hq => tget_tset_other _ _ _ hq, b, n, (getVat s v).churn.holder, tget_tset_same ..⟩

/-! ### Draws and masks -/

/-- A draw that the vat's queue covers is served from it (R289). -/
theorem internalDraw_fed {q : Nat} (hq : q ≤ 3) (h : Fed s v (n + b)) :
    ∃ w, internalDraw s v q b = (.served, w) ∧ EnginesRan s w v ∧ Fed w v n := by
  obtain ⟨h1, h2, h3, h4, h5⟩ := h
  have ha : higherAsks s v q = false := by simp [higherAsks, h3, Nat.not_lt.2 hq]
  have ho : (decide (b ≤ (getVat s v).noise.bits) && decide ((getVat s v).noise.state ≠ 3)) = true := by
    rw [decide_eq_true h1, decide_eq_true (by omega : b ≤ _)]
    rfl
  refine ⟨modNoise (modVat s v fun u => { u with wants := u.wants.erase q }) v fun x => { x with bits := x.bits - b },
    by simp only [internalDraw, ho, ha]; simp, ⟨⟨_, _, _, rfl⟩, fun _ _ => rfl, fun x hx => ?_, (getVat s v).noise.bits - b, (getVat s v).mac.sinceReseed,
      (getVat s v).churn.holder, ?_⟩, ?_⟩
  · simp only [modNoise, modVat, getVat_setVat_other _ _ hx]
  · simp only [modNoise, modVat, getVat_setVat_same]
    rw [show (getVat s v).wants.erase q = (getVat s v).wants by rw [h3]; rfl]
  · simp only [Fed, modNoise, modVat, getVat_setVat_same]
    exact ⟨h1, by omega, by simp [h3], h4, h5⟩
/-- Draws one after the other (R241). -/
theorem drawAll_fed {q : Nat} (hq : q ≤ 3) (l : List Nat) :
    ∀ {s}, Fed s v (n + l.sum) → ∃ w, drawAll s v q l = (.served, [], w) ∧ EnginesRan s w v ∧ Fed w v n := by
  induction l with
  | nil => exact fun {s} h => ⟨s, rfl, .refl s v, h⟩
  | cons b l ih =>
    intro s h
    obtain ⟨w, hw, ew, fw⟩ := internalDraw_fed hq (n := n + l.sum) (b := b) (h.mono (by simp; omega))
    obtain ⟨x, hx, ex, fx⟩ := ih fw
    exact ⟨x, by simp [drawAll, hw, hx], ew.trans ex, fx⟩
/-- A reseed (R271). -/
theorem reseed_fed (h : Fed s v (n + 256)) : ∃ w, reseed s v = (.served, w) ∧ EnginesRan s w v ∧ Fed w v n := by
  obtain ⟨w, hw, ew, fw⟩ := internalDraw_fed (q := 1) (by omega) (n := n) (b := 256) h
  refine ⟨modMac (countReg w (R.MAC_RESEEDS v) 0xFFFF) v (fun u => { u with sinceReseed := 0, dry := false }), by simp only [reseed, hw],
    ew.trans ?_, ?_⟩
  · refine ⟨⟨_, _, _, rfl⟩, fun q hq => ?_, fun q hq => getVat_setVat_other _ _ hq, (getVat w v).noise.bits, 0,
      (getVat w v).churn.holder, ?_⟩
    · exact getReg_countReg_other _ _ fun e => hq (by simp [e])
    · simp only [modMac, modVat, getVat_setVat_same]
      rw [show getVat (countReg w (R.MAC_RESEEDS v) 0xFFFF) v = getVat w v from rfl, ← fw.2.2.2.1]
  · obtain ⟨f1, f2, f3, f4, f5⟩ := fw
    rw [Fed, modMac, modVat, getVat_setVat_same]
    exact ⟨f1, f2, f3, rfl, by show 0 < 256; omega⟩
theorem reseeds_fed (k : Nat) : ∀ {s}, Fed s v (n + 256 * k) → ∃ w, reseeds v k s = (.served, w) ∧ EnginesRan s w v ∧ Fed w v n := by
  induction k with
  | zero => exact fun {s} h => ⟨s, rfl, .refl s v, h⟩
  | succ k ih =>
    intro s h
    obtain ⟨w, hw, ew, fw⟩ := reseed_fed (n := n + 256 * k) (h.mono (by omega))
    obtain ⟨x, hx, ex, fx⟩ := ih fw
    exact ⟨x, by simp only [reseeds, hw, hx], ew.trans ex, fx⟩
/-- Blocks processed, with the reseeds they call for. -/
theorem useBlocks_fed (h : Fed s v (n + maskBits b)) : ∃ w, useBlocks s v b = (.served, w) ∧ EnginesRan s w v ∧ Fed w v n := by
  by_cases hb : b = 0
  · exact ⟨s, by simp [useBlocks, hb], .refl s v, h.mono (by omega)⟩
  obtain ⟨h1, h2, h3, h4, h5⟩ := h
  have hk : 256 * (((getVat s v).mac.sinceReseed + b) / 256) ≤ maskBits b := by unfold maskBits; omega
  obtain ⟨w, hw, ew, fw⟩ := reseeds_fed (n := n) (s := s) (v := v) (((getVat s v).mac.sinceReseed + b) / 256) ⟨h1, by omega, h3, h4, h5⟩
  refine ⟨modMac w v (fun u => { u with sinceReseed := ((getVat s v).mac.sinceReseed + b) % 256 }),
    by simp only [useBlocks, hb, if_false, h4, Bool.false_eq_true, b2n, Nat.zero_add, hw], ew.trans ?_, ?_⟩
  · exact enginesRan_of w.regs w.fresh (getVat w v).noise.bits _ fun _ _ => rfl
  · obtain ⟨f1, f2, f3, f4, f5⟩ := fw
    simp only [Fed, modMac, modVat, getVat_setVat_same]
    exact ⟨f1, f2, f3, f4, Nat.mod_lt _ (by omega)⟩

/-! ### The parts of a command -/

/-- MAC work that runs once. -/
theorem withMac_fed (h : Fed s v (n + maskBits b)) : ∃ w, EnginesRan s w v ∧ Fed w v n ∧
    ∀ s0 k m r f, withMac s0 s v k b false m r f = f w := by
  obtain ⟨w, hw, ew, fw⟩ := useBlocks_fed h
  exact ⟨w, ew, fw, fun _ _ _ _ _ => by simp only [withMac, hw, Bool.not_false, if_true]⟩
/-- MAC work that runs twice (R273). -/
theorem withMac_twice (h : Fed s v (n + twiceBits b)) : ∃ w, EnginesRan s w v ∧ Fed w v n ∧
    ∀ s0 k m r f, withMac s0 s v k b true m r f = if m then failed (macMismatch w v k) sINTERNAL r else f w := by
  obtain ⟨w, hw, ew, fw⟩ := useBlocks_fed (n := n + 256 + maskBits b) (b := b) (h.mono (by unfold twiceBits; omega))
  obtain ⟨x, hx, ex, fx⟩ := reseed_fed (n := n + maskBits b) (fw.mono (by omega))
  obtain ⟨y, hy, ey, fy⟩ := useBlocks_fed (n := n) fx
  exact ⟨y, (ew.trans ex).trans ey, fy, fun _ _ _ _ _ => by simp only [withMac, hw, hx, hy, Bool.not_true, Bool.false_eq_true, if_false]⟩
theorem withDraw_fed (h : Fed s v (n + b)) : ∃ w, EnginesRan s w v ∧ Fed w v n ∧ ∀ s0 r f, withDraw s0 s v b r f = f w := by
  obtain ⟨w, hw, ew, fw⟩ := internalDraw_fed (q := 3) (by omega) h
  exact ⟨w, ew, fw, fun _ _ _ => by simp only [withDraw, hw]⟩
/-- The turn of a command's job changes the holder and CHN_SWITCHES alone. -/
theorem churnTurn_fed (k : Nat) (h : Fed s v n) : EnginesRan s (churnTurn s v k) v ∧ Fed (churnTurn s v k) v n := by
  simp only [churnTurn]
  split
  · exact ⟨.refl s v, h⟩
  · refine ⟨⟨⟨_, _, _, rfl⟩, fun q hq => getReg_countReg_other _ _ fun e => hq (by simp [e]), fun q hq => getVat_setVat_other _ _ hq,
      (getVat s v).noise.bits, (getVat s v).mac.sinceReseed, k, ?_⟩, ?_⟩
    · simp only [modChurn, modVat, getVat_setVat_same]
      rfl
    · simp only [Fed, modChurn, modVat, getVat_setVat_same]
      exact h
/-- A churn job whose two runs agree (R241). -/
theorem withChurn_fed {l : List Nat} (k : Nat) (good : Bool) (h : Fed s v (n + l.sum)) : ∃ w, EnginesRan s w v ∧ Fed w v n ∧
    ∀ s0 op r f, withChurn s0 s v k op l false good r f = f w := by
  obtain ⟨e0, f0⟩ := churnTurn_fed k h
  obtain ⟨w, hw, ew, fw⟩ := drawAll_fed (q := 2) (by omega) l f0
  cases good with
  | false => exact ⟨w, e0.trans ew, fw, fun _ _ _ _ => by simp [withChurn, hw]⟩
  | true =>
    refine ⟨countReg w (R.CHN_OPS v) 0xFFFF, (e0.trans ew).trans ?_, fw, fun _ _ _ _ => by simp [withChurn, hw]⟩
    exact ⟨⟨_, _, _, rfl⟩, fun q hq => getReg_countReg_other _ _ fun e => hq (by simp [e]), fun q _ => rfl, _, _, _, rfl⟩
/-- A churn job whose two runs differ (R242). -/
theorem withChurn_differs {l : List Nat} (k : Nat) (h : Fed s v (n + l.sum)) : ∃ w x, EnginesRan s w v ∧
    ∀ s0 op good r f, withChurn s0 s v k op l true good r f = failed (mismatchRecord w v k op x) sFAULT_DETECTED r := by
  obtain ⟨e0, f0⟩ := churnTurn_fed k h
  obtain ⟨w, hw, ew, _⟩ := drawAll_fed (q := 2) (by omega) l f0
  refine ⟨(drawBits w 32).2, BitVec.ofNat 32 (drawBits w 32).1, (e0.trans ew).trans ?_, fun _ _ _ _ _ => by simp [withChurn, hw]⟩
  exact ⟨⟨_, _, _, rfl⟩, fun _ _ => rfl, fun _ _ => rfl, _, _, _, rfl⟩
/-- The owner root is where it was after the engines have run, and a record unwraps to the same. -/
theorem EnginesRan.root (h : EnginesRan s w v) : HasOwnerRoot w v ↔ HasOwnerRoot s v := by
  obtain ⟨_, _, _, b, n, k, hb⟩ := h
  rw [HasOwnerRoot, hb, HasOwnerRoot]
theorem EnginesRan.opens (h : EnginesRan s w v) (slot : Nat) (key : KeySlot) (m : Bytes) :
    OpensTo w v slot key m ↔ OpensTo s v slot key m := by
  have hr := h.root
  obtain ⟨⟨_, _, _, rfl⟩, _⟩ := h
  exact and_congr_left fun _ => hr
/-- A key's material, unwrapped (R263). -/
theorem withKey_fed {slot : Nat} {key : KeySlot} {m : Bytes} (h : Fed s v (n + openBits key)) (hm : OpensTo s v slot key m) :
    ∃ w, EnginesRan s w v ∧ Fed w v n ∧ ∀ s0 k r f, withKey s0 s v k slot key r f = f w m := by
  obtain ⟨w, ew, fw, hw⟩ := withMac_fed (n := n) (b := kdfBlocks 11 3 256 + kwBlocks key.record.length) h
  obtain ⟨hr, b, hb, hh, rfl⟩ := (ew.opens slot key m).2 hm
  exact ⟨w, ew, fw, fun _ _ _ _ => by simp [withKey, withRoot, rootLoaded, show (getVat s v).mac.ownerRoot = true from hm.1, hw, hb, hh]⟩
/-- A key wrapped into its record and stored, its two runs compared (R261, R273). -/
theorem withStore_fed {m : Bytes} {type : Nat} (hr : HasOwnerRoot s v) (h : Fed s v (n + storeBits m.length)) :
    ∃ w x, EnginesRan s w v ∧ EnginesRan s x v ∧ Fed x v n ∧ ∀ s0 k slot curve part usage counter pub mm r f,
      withStore s0 s v k slot type curve part usage counter m pub mm r f =
        if mm then failed (macMismatch w v k) sINTERNAL r else f (storeKey x slot type curve part usage counter m pub) := by
  obtain ⟨w, ew, fw, hw⟩ := withMac_twice (n := n + twiceBits 1) (b := kdfBlocks 11 3 256 + kwBlocks (wrappedLength m.length))
    (h.mono (by unfold storeBits; omega))
  have hroot : rootLoaded (getVat s v).mac 1 = true := hr
  by_cases ht : 1 ≤ type ∧ type ≤ 5
  · obtain ⟨x, ex, fx, hx⟩ := withMac_twice (n := n) fw
    refine ⟨w, x, ew, ew.trans ex, fx, fun _ _ _ _ _ _ _ _ mm _ _ => ?_⟩
    simp only [withStore, withRoot, hroot, if_true, hw, withKcv, if_pos ht, hx]
    cases mm <;> rfl
  · refine ⟨w, w, ew, ew, fw.mono (by omega), fun _ _ _ _ _ _ _ _ _ _ _ => ?_⟩
    simp only [withStore, withRoot, hroot, if_true, hw, withKcv, if_neg ht]
theorem keepReserve_frame (s : State) (c : Nat) : ∃ st, keepReserve s c = { s with store := st } := by
  simp only [keepReserve]
  split
  · exact ⟨_, rfl⟩
  · exact ⟨s.store, rfl⟩
theorem incCounter_frame (s : State) (p i n : Nat) : ∃ x, (incCounter s p i n).2 = setCounter s p i x := by
  simp only [incCounter]
  split <;> exact ⟨_, rfl⟩
/-- A charge changes the counter, and the reserve the store keeps of it, alone (R123, R275). -/
theorem chargeUse_frame (s : State) (key : KeySlot) :
    (chargeUse s key).2 = s ∨ ∃ q i x st, (chargeUse s key).2 = { setCounter s q i x with store := st } := by
  unfold chargeUse
  split
  · exact .inl rfl
  split
  · exact .inl rfl
  obtain ⟨x, hx⟩ := incCounter_frame s (phys s (key.counter.toNat / 64)) (key.counter.toNat % 64) 1
  obtain ⟨st, hs⟩ := keepReserve_frame (setCounter s (phys s (key.counter.toNat / 64)) (key.counter.toNat % 64) x) key.counter.toNat
  refine .inr ⟨phys s (key.counter.toNat / 64), key.counter.toNat % 64, x, st, ?_⟩
  show keepReserve (incCounter s (phys s (key.counter.toNat / 64)) (key.counter.toNat % 64) 1).2 key.counter.toNat = _
  rw [hx]
  exact hs
/-- The engines are as well fed after a charge, and every record opens to the same. -/
theorem chargeUse_fed (key : KeySlot) (h : Fed s v n) : Fed (chargeUse s key).2 v n := by
  obtain hq | ⟨q, i, x, st, hq⟩ := chargeUse_frame s key
  · rwa [hq]
  · rw [hq]
    by_cases hv : v = q
    · subst hv
      simpa only [Fed, setCounter, modMac, modVat, getVat, setVat, tget_tset_same] using h
    · simpa only [Fed, setCounter, modMac, modVat, getVat, setVat, tget_tset_other vatReset s.vats _ hv] using h
theorem chargeUse_root (key : KeySlot) : HasOwnerRoot (chargeUse s key).2 v ↔ HasOwnerRoot s v := by
  obtain hq | ⟨q, i, x, st, hq⟩ := chargeUse_frame s key
  · rw [hq]
  · rw [hq]
    by_cases hv : v = q
    · subst hv
      simp only [HasOwnerRoot, setCounter, modMac, modVat, getVat, setVat, tget_tset_same]
    · simp only [HasOwnerRoot, setCounter, modMac, modVat, getVat, setVat, tget_tset_other vatReset s.vats _ hv]
theorem chargeUse_opens (charged key : KeySlot) (slot : Nat) (m : Bytes) :
    OpensTo (chargeUse s charged).2 v slot key m ↔ OpensTo s v slot key m := by
  refine and_congr (chargeUse_root charged) ?_
  obtain hq | ⟨q, i, x, st, hq⟩ := chargeUse_frame s charged
  · rw [hq]
  · rw [hq]
    exact Iff.rfl

/-! ### The end of a command -/

/-- A command the supervisor carries out, once what it does answers a response. -/
theorem serve_done {p : Pail} {c : Nat} {d : Doorbell} {r : Request} {f : State → Doorbell → Request → State × Option Response}
    {resp : Response} (h : Taken s p c d r) (hf : f s d r = (w, some resp)) : serve s p.val c f = complete w p.val d.seq resp := by
  have h' : findTaken s p.val c = some (d, r) := h
  simp [serve, h', hf]
/-- A command the cells carry out, once its program answers a response. -/
theorem serveCell_done {p : Pail} {c k t : Nat} {d : Doorbell} {r : Request} {resp : Response}
    {f : State → Nat → Nat → Doorbell → Request → State × Option Response} (h : TakenCell s p c d r v k t)
    (hf : f s v k d r = (w, some resp)) : serveCell s p.val c f = finishCell w p.val v k t d r resp := by
  obtain ⟨h1, h2, h3, h4⟩ := h
  simp [serveCell, h1, h2, h3, Nat.not_le.2 h4, hf]

end Sys2Proof.Machine
end

