-- ==== Sys2Proof/Laws/Keys.lean ====
section
/-!
SUPPORT. A key stored in the key store under the owner root is read back as it was (R261, R263).
-/
namespace Sys2Proof.Machine

/-- The block a record wraps is of whole registers of 8 bytes. -/
theorem keyBlock_length (type curve : Nat) (usage : BitVec 16) (m : Bytes) :
    (keyBlock type curve usage m).length = ((m.length + 7) / 8 + 2) * 8 := by
  simp [keyBlock, attrHeader, pad8, leBytes_length, zeros, wordBytes]; omega

/-- A key block begins with TYPE, CURVE and USAGE (R261, R263). -/
theorem keyBlock_head (type curve : Nat) (usage : BitVec 16) (m : Bytes) :
    (keyBlock type curve usage m).take 4 = [BitVec.ofNat 8 type, BitVec.ofNat 8 curve] ++ wordBytes usage := by
  simp [keyBlock, attrHeader, wordBytes]
/-- The header of that block gives the length of the material, and the material follows it. -/
theorem keyBlock_material (type curve : Nat) (usage : BitVec 16) (m : Bytes) (hl : m.length < 65536) :
    ((keyBlock type curve usage m).drop 16).take (u16 (keyBlock type curve usage m) 4) = m := by
  have hd : (keyBlock type curve usage m).drop 16 = pad8 m := by
    rw [keyBlock, List.drop_left' (by simp [attrHeader, leBytes_length, zeros, wordBytes])]
  have hu : u16 (keyBlock type curve usage m) 4 = m.length := by
    simp [keyBlock, attrHeader, u16, leAt, wordBytes, leBytes, slice, leNat, zeros]
    omega
  rw [hd, hu, pad8, List.take_left' rfl]

/-- What `storeKey` puts into a record, `withKey` reads out of it: the record unwraps, and its material is that stored. -/
theorem keyBlock_read_back (s : State) (slot part type curve : Nat) (usage : BitVec 16) (m : Bytes)
    (hl : m.length < 65536) :
    kwUnwrap (recordKey s slot part) (kwWrap (recordKey s slot part) (keyBlock type curve usage m)) = some (keyBlock type curve usage m)
      ∧ ((keyBlock type curve usage m).drop 16).take (u16 (keyBlock type curve usage m) 4) = m :=
  ⟨kwUnwrap_kwWrap _ _ _ (recordKey_length s slot part) (keyBlock_length type curve usage m) (by omega),
    keyBlock_material type curve usage m hl⟩

end Sys2Proof.Machine
end

