-- ==== Sys2Proof/Tests/Slice0.lean ====
section
/-!
SUPPORT. Named tests: the checks of WellFormed refuse an ill-formed term each; for every statement of Certificates/Slice0 states
and operands that meet the hypotheses of its clauses, with what one step does there, worked out by hand from spec/.
A test is named after the statement whose clauses it meets.
-/
namespace Sys2Proof.Tests
set_option Elab.async false
open Sys2Proof.Machine

/-- The state after a command. -/
def after (c : Instr) (s : State) : State :=
  match exec c s with
  | .next t => t
  | _ => s

/-! ### States -/

/-- An access-table entry that covers every waddr and grants every master everything (R364 to R366). -/
def openEntry : ActEntry := { zeroEntry with limit := 0xFFFFFFFF, msetB := 0x3FF, enable := true, secretOk := true, fetch := true, write := true, read := true }
/-- A state whose access table has that one entry applied. -/
def opened (s : State) : State := { s with act := { s.act with applied := [(0, openEntry)] } }
/-- A core's state with g registers and nothing else set. -/
def withG (g : Tbl Word) : Cell := { cellReset with main := { zeroBank with g := g } }
/-- Cell 0 of vat 0 in a state c of its own, let run, with instruction p at index 0 of its instruction store. -/
def atCell (c : Cell) (p : BitVec 32) : State :=
  writeMems (setReg (setCell (opened State.reset) 0 c) (R.VAT_CELL_RUN 0) 1) (istoreBase 0 0)
    [⟨.code, (p >>> 16).setWidth 16⟩, ⟨.code, p.setWidth 16⟩]
/-- The supervisor in BOOT's step 1 with instruction p at instruction 16 of its local memory (waddr 32). -/
def atSup (c : Cell) (p : BitVec 32) : State :=
  writeMems { setCell (opened State.reset) supKey (setPc c 16) with boot := { State.reset.boot with step := 1 } } 32 [⟨.code, (p >>> 16).setWidth 16⟩, ⟨.code, p.setWidth 16⟩]
/-- The data store of cell 0 of vat 0 starts here. -/
def d0 : Nat := dstoreBase 0 0
/-- A register g of cell 0 of vat 0. -/
def g0 (s : State) (r : Nat) : Word := getG (getCell s 0) r
/-- The flags of cell 0 of vat 0. -/
def f0 (s : State) : Flags := getFlags (getCell s 0)
/-- The pc of cell 0 of vat 0. -/
def pc0 (s : State) : BitVec 20 := getPc (getCell s 0)

/-- What a check answers, as an option. -/
def oks {ε α : Type} : Except ε α → Option α
  | .ok a => some a
  | .error _ => none
/-- Why a check refuses, as an option. -/
def errs {ε α : Type} : Except ε α → Option ε
  | .ok _ => none
  | .error e => some e
/-- `oks` says that a check answers. -/
theorem oks_iff {ε α : Type} (e : Except ε α) (a : α) : oks e = some a ↔ e = .ok a := by cases e <;> simp [oks]
/-- `errs` says that a check refuses. -/
theorem errs_iff {ε α : Type} (e : Except ε α) (x : ε) : errs e = some x ↔ e = .error x := by cases e <;> simp [errs]

/-! ### Devices past their boot and requests in pail 0 -/

/-- A device past its boot in mode m. -/
def live (m : Nat) : State := setFld { opened State.reset with boot := { State.reset.boot with step := 13 } } R.PWR_MODE 3 0 m
/-- A doorbell of pail 0 with a phase. -/
def bell (ph : DbPhase) : Doorbell :=
  { seq := 0xFFFF, tag := 7, aux := false, length := 16, phase := ph, part := none, buf := none, keys := [], order := 0, heldFor := none, since := none, dma := none, card := .start }
/-- A state whose pail 0 holds doorbells. -/
def withBells (s : State) (q : List Doorbell) : State := setPail s 0 { getPail s 0 with queue := q }
/-- A device in SERVICE with bits to draw in its central queue, and cell 0 of vat 0 running and admitted to (R205). -/
def rich : State :=
  setReg (setReg { live mSERVICE with central := { (live mSERVICE).central with bits := 131072 } } (R.VAT_CELL_RUN 0) 1) (R.VAT_CTRL 0) 0x13
/-- A device whose noise sources have all stopped for good, its queue empty (R289). -/
def noiseless : State := (List.range 32).foldl (fun s n => modNoise s n fun x => { x with state := 3 }) (live mSERVICE)
/-- A request of command c with a body. -/
def reqOf (c part : Nat) (body : Bytes) : Request := { command := c, flags := 0, part := part, body := body, auth := .none }
/-- A state in which pail 0 has a request taken. -/
def takenIn (s : State) (r : Request) : State := withBells s [bell (.taken r)]
/-- The completion of pail 0's oldest doorbell, if it has one. -/
def answered (s : State) : Option (Nat × Bytes) :=
  match (getPail s 0).queue.map (fun d => d.phase) with
  | [DbPhase.ready r] => some (r.status.toNat, r.body)
  | _ => none
/-- The response a cell has written and not yet delivered, of pail 0's oldest doorbell (R206). -/
def done (s : State) : Option (Nat × Bytes) :=
  match (getPail s 0).queue.map (fun d => d.phase) with
  | [DbPhase.done _ r] => some (r.status.toNat, r.body)
  | _ => none
/-- Pail 0 has a request taken. -/
def isTaken (s : State) (c : Nat) : Bool := (findTaken s 0 c).isSome
/-- `isTaken` says that the hypothesis `Taken` can be met. -/
theorem isTaken_iff (s : State) (c : Nat) : isTaken s c = true ↔ ∃ d r, Taken s 0 c d r := by
  simp [isTaken, Taken, Option.isSome_iff_exists]

/-! ### Requests that cell 0 of vat 0 carries out -/

/-- The rich device with a full queue of vat 0, the owner root in its MAC unit, and its cell 0 at work on ticket 0. -/
def worked : State :=
  setCell (setVat rich 0 { getVat rich 0 with noise := { (getVat rich 0).noise with bits := 32768 }, mac := { (getVat rich 0).mac with ownerRoot := true } })
    0 { getCell rich 0 with ticket := some 0 }
/-- SEQ and the pail of ticket 0 of vat 0 are those of pail 0's doorbell (R194). -/
def ticketed (s : State) : State := writeMems s (ticketBase 0 0) [dataNat 0xFFFF, dataNat 0]
/-- The doorbell of a request whose ticket has been built. -/
def bellOf (r : Request) : Doorbell := { bell (.taken r) with buf := some 0 }
/-- A state in which cell 0 of vat 0 carries out a request of pail 0, as far as `s` has its cell at work. -/
def cellIn (s : State) (r : Request) : State := withBells (ticketed s) [bellOf r]
/-- Cell 0 of vat 0 carries out a request of command c that came with doorbell d. -/
def cellHasBell (s : State) (c : Nat) (d : Doorbell) (r : Request) : Bool :=
  (findOf s 0 c (fun d r => if d.buf = none ∧ counterLost s (streamOf s d r) = true ∧ supHalted s = false then some () else none)).isNone
    && decide (findOf s 0 c (fun d _ => runningCell s 0 d.seq) = some (d, r, 0, 0, 0)) && !s.tmp.stall && decide ((getVat s 0).cq.length < 64)
/-- `cellHasBell` says that the hypothesis `TakenCell` is met. -/
theorem cellHasBell_meets (s : State) (c : Nat) (d : Doorbell) (r : Request) (h : cellHasBell s c d r = true) : TakenCell s 0 c d r 0 0 0 := by
  simp only [cellHasBell, Bool.and_eq_true, decide_eq_true_eq, Bool.not_eq_true', Option.isNone_iff_eq_none] at h
  exact ⟨h.1.1.1, h.1.1.2, h.1.2, h.2⟩
/-- The same for the doorbell of a request whose ticket has been built. -/
def cellHas (s : State) (c : Nat) (r : Request) : Bool := cellHasBell s c (bellOf r) r
/-- The engines of vat 0 are fed for n bits. -/
def isFed (s : State) (n : Nat) : Bool :=
  decide ((getVat s 0).noise.state ≠ 3) && decide (n ≤ (getVat s 0).noise.bits) && decide ((getVat s 0).wants = []) && !(getVat s 0).mac.dry && decide ((getVat s 0).mac.sinceReseed < 256)
theorem isFed_meets (s : State) (n : Nat) (h : isFed s n = true) : Fed s 0 n := by
  simp only [isFed, Bool.and_eq_true, decide_eq_true_eq, Bool.not_eq_true'] at h
  exact ⟨h.1.1.1.1, h.1.1.1.2, h.1.1.2, h.1.2, h.2⟩

/-! ### Stored keys -/

/-- A READY key of partition 0 with every usage but a counter, holding material m in slot i. -/
def stored (s : State) (i type : Nat) (m : Bytes) : KeySlot :=
  { state := 2, type := type, curve := 1, part := 0, usage := 0xFBFF, counter := 0xFFFF, kcv := zeros 3,
    record := kwWrap (recordKey s i 0) (keyBlock type 1 0xFBFF m), pub := [] }
/-- Keys of two types with materials in slots 1 and 2. -/
def withKeys (s : State) (t1 : Nat) (m1 : Bytes) (t2 : Nat) (m2 : Bytes) : State :=
  setKey (setKey s 1 (some (stored s 1 t1 m1))) 2 (some (stored s 2 t2 m2))
/-- A key that is there, READY and permits the use is found. -/
theorem needKey_found (s : State) (d : Doorbell) (r : Request) (slot b : Nat) (k : KeySlot) (hd : d.keys = []) (hk : getKey s slot = some k)
    (hp : k.part = r.part) (hs : k.state = 2) (hu : bit k.usage b = true) : needKey s d r slot b = .ok k := by
  simp [needKey, seeKey, keySeen, hd, hk, hp, hs, hu]
/-- A wrapped record is 8 bytes longer than what it wraps. -/
theorem record_length (s : State) (i type : Nat) (m : Bytes) : (stored s i type m).record.length = wrappedLength m.length := by
  have hm := keyBlock_length type 1 0xFBFF m
  rw [stored, kwWrap_length _ _ _ (recordKey_length s i 0) hm, hm, wrappedLength]
  omega
/-- The bits that opening such a key may call for. -/
theorem openBits_stored (s : State) (i type : Nat) (m : Bytes) :
    openBits (stored s i type m) = maskBits (kdfBlocks 11 3 256 + kwBlocks (wrappedLength m.length)) := by
  rw [openBits, record_length]
/-- A cell at work is found from the cells, memory and registers alone. -/
theorem runningCell_congr (s t : State) (hc : s.cells = t.cells) (hm : s.mem = t.mem) (hr : s.regs = t.regs) (p : Nat) (seq : BitVec 16) :
    runningCell s p seq = runningCell t p seq := by
  unfold runningCell ticketIs ticketWord readMem cellRun getBit getReg
  rw [hc, hm, hr]
theorem withKeys_runs (u : State) (r : Request) (t1 : Nat) (m1 : Bytes) (t2 : Nat) (m2 : Bytes) (seq : BitVec 16) :
    runningCell (withKeys (withBells u [bellOf r]) t1 m1 t2 m2) 0 seq = runningCell u 0 seq :=
  runningCell_congr _ _ (by unfold withKeys setKey withBells setPail; rfl) (by unfold withKeys setKey withBells setPail; rfl)
    (by unfold withKeys setKey withBells setPail; rfl) 0 seq
theorem withKeys_vat (u : State) (r : Request) (t1 : Nat) (m1 : Bytes) (t2 : Nat) (m2 : Bytes) (v : Nat) :
    getVat (withKeys (withBells u [bellOf r]) t1 m1 t2 m2) v = getVat u v := by
  unfold getVat withKeys setKey withBells setPail; rfl
theorem withKeys_stall (u : State) (r : Request) (t1 : Nat) (m1 : Bytes) (t2 : Nat) (m2 : Bytes) :
    (withKeys (withBells u [bellOf r]) t1 m1 t2 m2).tmp = u.tmp := by
  unfold withKeys setKey withBells setPail; rfl
theorem withKeys_queue (u : State) (r : Request) (t1 : Nat) (m1 : Bytes) (t2 : Nat) (m2 : Bytes) :
    (getPail (withKeys (withBells u [bellOf r]) t1 m1 t2 m2) 0).queue = [bellOf r] := by
  rw [show getPail (withKeys (withBells u [bellOf r]) t1 m1 t2 m2) 0 = getPail (withBells u [bellOf r]) 0 from rfl, withBells, getPail_setPail_same]
theorem withKeys_slots (u : State) (t1 : Nat) (m1 : Bytes) (t2 : Nat) (m2 : Bytes) :
    getKey (withKeys u t1 m1 t2 m2) 1 = some (stored u 1 t1 m1) ∧ getKey (withKeys u t1 m1 t2 m2) 2 = some (stored u 2 t2 m2) := by
  simp only [withKeys, getKey, setKey]
  rw [tget_tset_other _ _ _ (by decide), tget_tset_same, tget_tset_same]
  exact ⟨rfl, rfl⟩
theorem charge_stored (s : State) (i type : Nat) (m : Bytes) (u : State) : chargeUse u (stored s i type m) = (true, u) := by
  have : bit (stored s i type m).usage 10 = false := by show bit (0xFBFF : BitVec 16) 10 = false; decide
  simp [chargeUse, this]
theorem opens_stored (s u : State) (i type : Nat) (m : Bytes) (hl : m.length < 65536) (ho : HasOwnerRoot u 0) (hk : recordKey u i 0 = recordKey s i 0) :
    OpensTo u 0 i (stored s i type m) m := by
  refine ⟨ho, keyBlock type 1 0xFBFF m, ?_, keyBlock_head type 1 0xFBFF m, (keyBlock_read_back s i 0 type 1 0xFBFF m hl).2.symm⟩
  rw [show (stored s i type m).part = 0 from rfl, hk]
  exact (keyBlock_read_back s i 0 type 1 0xFBFF m hl).1
/-- What a state with two such keys gives the commands that use keys: a running cell has the request, both keys are found for every use,
need no counter, and their records open. -/
theorem withKeys_meets (u : State) (r : Request) (t1 : Nat) (m1 : Bytes) (t2 : Nat) (m2 : Bytes) (hr : r.part = 0)
    (h1 : m1.length < 65536) (h2 : m2.length < 65536) (h : runningCell u 0 0xFFFF = some (0, 0, 0)) (hst : u.tmp.stall = false)
    (hcq : (getVat u 0).cq.length < 64) (ho : HasOwnerRoot u 0) :
    let s := withKeys (withBells u [bellOf r]) t1 m1 t2 m2
    ∃ k1 k2, TakenCell s 0 r.command (bellOf r) r 0 0 0
      ∧ (∀ b, bit (0xFBFF : BitVec 16) b = true → needKey s (bellOf r) r 1 b = .ok k1 ∧ needKey s (bellOf r) r 2 b = .ok k2)
      ∧ (∀ u, chargeUse u k1 = (true, u)) ∧ (∀ u, chargeUse u k2 = (true, u)) ∧ OpensTo s 0 1 k1 m1 ∧ OpensTo s 0 2 k2 m2
      ∧ openBits k1 = maskBits (kdfBlocks 11 3 256 + kwBlocks (wrappedLength m1.length))
      ∧ openBits k2 = maskBits (kdfBlocks 11 3 256 + kwBlocks (wrappedLength m2.length))
      ∧ k1.type = t1 ∧ k2.type = t2 ∧ k1.curve = 1 ∧ k1.usage = 0xFBFF := by
  intro s
  have hrun : runningCell s 0 (bellOf r).seq = some (0, 0, 0) := (withKeys_runs ..).trans h
  have htk : TakenCell s 0 r.command (bellOf r) r 0 0 0 := by
    refine ⟨?_, ?_, ?_, ?_⟩
    · rw [findOf, show (getPail s (0 : Pail).val).queue = [bellOf r] from withKeys_queue ..]
      simp [bellOf, bell]
    · rw [findOf, show (getPail s (0 : Pail).val).queue = [bellOf r] from withKeys_queue ..]
      simp only [List.findSome?_cons, show (bellOf r).phase = .taken r from rfl, if_true]
      rw [show runningCell s (0 : Pail).val (bellOf r).seq = some (0, 0, 0) from hrun]
      rfl
    · rw [withKeys_stall]; exact hst
    · rw [withKeys_vat]; exact hcq
  obtain ⟨g1, g2⟩ := withKeys_slots (withBells u [bellOf r]) t1 m1 t2 m2
  have ho' : HasOwnerRoot s 0 := by rw [HasOwnerRoot, withKeys_vat]; exact ho
  refine ⟨_, _, htk, fun b hb => ⟨needKey_found _ _ _ _ _ _ rfl g1 hr.symm rfl hb, needKey_found _ _ _ _ _ _ rfl g2 hr.symm rfl hb⟩,
    charge_stored _ _ _ _, charge_stored _ _ _ _, opens_stored _ _ _ _ _ h1 ho' rfl, opens_stored _ _ _ _ _ h2 ho' rfl, openBits_stored ..,
    openBits_stored .., rfl, rfl, rfl, rfl⟩
/-- The same for cell 0 of vat 0 at work on ticket 0. -/
def keyedCell (r : Request) (t1 : Nat) (m1 : Bytes) (t2 : Nat) (m2 : Bytes) : State := withKeys (withBells (ticketed worked) [bellOf r]) t1 m1 t2 m2
theorem keyedCell_meets (r : Request) (t1 : Nat) (m1 : Bytes) (t2 : Nat) (m2 : Bytes) (hr : r.part = 0) (h1 : m1.length < 65536) (h2 : m2.length < 65536) :
    let s := keyedCell r t1 m1 t2 m2
    ∃ k1 k2, TakenCell s 0 r.command (bellOf r) r 0 0 0
      ∧ (∀ b, bit (0xFBFF : BitVec 16) b = true → needKey s (bellOf r) r 1 b = .ok k1 ∧ needKey s (bellOf r) r 2 b = .ok k2)
      ∧ (∀ u, chargeUse u k1 = (true, u)) ∧ (∀ u, chargeUse u k2 = (true, u)) ∧ OpensTo s 0 1 k1 m1 ∧ OpensTo s 0 2 k2 m2
      ∧ openBits k1 = maskBits (kdfBlocks 11 3 256 + kwBlocks (wrappedLength m1.length))
      ∧ openBits k2 = maskBits (kdfBlocks 11 3 256 + kwBlocks (wrappedLength m2.length))
      ∧ k1.type = t1 ∧ k2.type = t2 ∧ k1.curve = 1 ∧ k1.usage = 0xFBFF :=
  withKeys_meets (ticketed worked) r t1 m1 t2 m2 hr h1 h2 (by decide +kernel) (by decide +kernel) (by decide +kernel) (by unfold HasOwnerRoot; decide +kernel)
/-- Its engines are fed for all its queue holds. -/
theorem keyedCell_fed (r : Request) (t1 : Nat) (m1 : Bytes) (t2 : Nat) (m2 : Bytes) (n : Nat) (h : n ≤ 32768) : Fed (keyedCell r t1 m1 t2 m2) 0 n := by
  rw [Fed, keyedCell, withKeys_vat]
  refine ⟨?_, ?_, ?_, ?_, ?_⟩
  · decide +kernel
  · exact Nat.le_trans h (by decide +kernel)
  · decide +kernel
  · decide +kernel
  · decide +kernel
theorem keyedCell_root (r : Request) (t1 : Nat) (m1 : Bytes) (t2 : Nat) (m2 : Bytes) : HasOwnerRoot (keyedCell r t1 m1 t2 m2) 0 := by
  rw [HasOwnerRoot, keyedCell, withKeys_vat]
  decide +kernel
theorem keyedCell_keys (r : Request) (t1 : Nat) (m1 : Bytes) (t2 : Nat) (m2 : Bytes) :
    let u := withBells (ticketed worked) [bellOf r]
    (keyedCell r t1 m1 t2 m2).store.keys = [(1, some (stored u 1 t1 m1)), (2, some (stored u 2 t2 m2))] := rfl
/-- What the two keys take of bank 2. -/
theorem slotUnits_stored (s : State) (i type : Nat) (m : Bytes) : slotUnits (stored s i type m) = unitsFor m.length := by
  have h := record_length s i type m
  rw [slotUnits, if_neg (by simp [stored]), if_pos (by simp [stored]), h, unitsFor]
/-- A slot that is free there is given, for a key that bank 2 has room for. -/
theorem keyedCell_pick (r : Request) (t1 : Nat) (m1 : Bytes) (t2 : Nat) (m2 : Bytes) (i n : Nat) (hi : i ≠ 0xFFFF ∧ i ≠ 1 ∧ i ≠ 2)
    (hn : unitsFor m1.length + unitsFor m2.length + unitsFor n ≤ 245760) : pickSlot (keyedCell r t1 m1 t2 m2) i n = .ok i := by
  have hk := keyedCell_keys r t1 m1 t2 m2
  have hq : (keyedCell r t1 m1 t2 m2).fw.quorums = [] := rfl
  have hg : getKey (keyedCell r t1 m1 t2 m2) i = none := by
    rw [getKey, hk]
    simp [tget, Ne.symm hi.2.1, Ne.symm hi.2.2]
  have hu : unitsLeft (keyedCell r t1 m1 t2 m2) n = true := by
    simp only [unitsLeft, unitsUsed, hk, hq, List.foldl_cons, List.foldl_nil, Option.map_some, Option.getD_some, slotUnits_stored]
    simp; omega
  simp [pickSlot, hi.1, hg, hu]
/-! ### Arithmetic, logic and shifts (R308) -/

/-- 0xFFFF + 1 is 0 with C and without V; a SECRET operand makes d and FT SECRET; index 4095 goes on at 0. -/
theorem test_AddSubComplete_add : let s := atCell (withG [(2, ⟨.data, 0xFFFF⟩), (3, ⟨.secret, 1⟩)]) 0x10123000
    StandsOp s 0 0x10 0x10123000 ∧ (0x10123000#32).toNat % 4096 = 0 ∧ g0 (after (.add 0) s) 1 = ⟨.secret, 0⟩ ∧
      f0 (after (.add 0) s) = ⟨true, false, true, false, true⟩ ∧ pc0 (after (.add 0) s) = 1 := by
  unfold StandsOp Stands; decide +kernel

/-- 0x7FFF + 0 + C 1 is 0x8000: negative, V. -/
theorem test_AddSubComplete_adc :
    let s := atCell (setFlags (withG [(2, ⟨.data, 0x7FFF⟩)]) ⟨false, false, true, false, false⟩) 0x11123000
    StandsOp s 0 0x11 0x11123000 ∧ g0 (after (.adc 0) s) 1 = ⟨.data, 0x8000⟩ ∧
      f0 (after (.adc 0) s) = ⟨false, true, false, true, false⟩ := by
  unfold StandsOp Stands; decide +kernel

/-- 0 - 1 borrows: C is 0; 0x8000 - 1 overflows: V. -/
theorem test_AddSubComplete_sub :
    let s := atCell (withG [(3, ⟨.data, 1⟩)]) 0x12123000
    let u := atCell (withG [(2, ⟨.data, 0x8000⟩), (3, ⟨.data, 1⟩)]) 0x12123000
    StandsOp s 0 0x12 0x12123000 ∧ g0 (after (.sub 0) s) 1 = ⟨.data, 0xFFFF⟩ ∧ f0 (after (.sub 0) s) = ⟨false, true, false, false, false⟩ ∧
      g0 (after (.sub 0) u) 1 = ⟨.data, 0x7FFF⟩ ∧ f0 (after (.sub 0) u) = ⟨false, false, true, true, false⟩ := by
  unfold StandsOp Stands; decide +kernel

/-- 5 - 5 - 1 with C 0 borrows again; with C 1 it is 0 and nothing is borrowed. -/
theorem test_AddSubComplete_sbc :
    let c := withG [(2, ⟨.data, 5⟩), (3, ⟨.data, 5⟩)]
    let s := atCell c 0x13123000
    let u := atCell (setFlags c ⟨false, false, true, false, false⟩) 0x13123000
    StandsOp s 0 0x13 0x13123000 ∧ g0 (after (.sbc 0) s) 1 = ⟨.data, 0xFFFF⟩ ∧ (f0 (after (.sbc 0) s)).c = false ∧
      g0 (after (.sbc 0) u) 1 = ⟨.data, 0⟩ ∧ f0 (after (.sbc 0) u) = ⟨true, false, true, false, false⟩ := by
  unfold StandsOp Stands; decide +kernel

/-- ADDI with 0xFFFF takes one away, with the carry of the sum. -/
theorem test_AddSubComplete_addi : let s := atCell (withG [(2, ⟨.data, 3⟩)]) 0x2012FFFF
    StandsOp s 0 0x20 0x2012FFFF ∧ g0 (after (.addi 0) s) 1 = ⟨.data, 2⟩ ∧ f0 (after (.addi 0) s) = ⟨false, false, true, false, false⟩ := by
  unfold StandsOp Stands; decide +kernel

/-- AND, OR, XOR and ANDN of 0xF0F0 and 0xFF00. -/
theorem test_LogicMulComplete_rrr :
    let s := fun p => atCell (withG [(2, ⟨.data, 0xF0F0⟩), (3, ⟨.data, 0xFF00⟩)]) p
    (StandsOp (s 0x14123000) 0 0x14 0x14123000 ∧ g0 (after (.and 0) (s 0x14123000)) 1 = ⟨.data, 0xF000⟩) ∧
    (StandsOp (s 0x15123000) 0 0x15 0x15123000 ∧ g0 (after (.or 0) (s 0x15123000)) 1 = ⟨.data, 0xFFF0⟩) ∧
    (StandsOp (s 0x16123000) 0 0x16 0x16123000 ∧ g0 (after (.xor 0) (s 0x16123000)) 1 = ⟨.data, 0x0FF0⟩) ∧
    (StandsOp (s 0x17123000) 0 0x17 0x17123000 ∧ g0 (after (.andn 0) (s 0x17123000)) 1 = ⟨.data, 0x00F0⟩) := by
  unfold StandsOp Stands; decide +kernel

/-- 0xFFFF squared is 0xFFFE0001. -/
theorem test_LogicMulComplete_mul :
    let s := fun p => atCell (withG [(2, ⟨.data, 0xFFFF⟩), (3, ⟨.data, 0xFFFF⟩)]) p
    (StandsOp (s 0x1C123000) 0 0x1C 0x1C123000 ∧ g0 (after (.mul 0) (s 0x1C123000)) 1 = ⟨.data, 1⟩) ∧
    (StandsOp (s 0x1D123000) 0 0x1D 0x1D123000 ∧ g0 (after (.mulh 0) (s 0x1D123000)) 1 = ⟨.data, 0xFFFE⟩) := by
  unfold StandsOp Stands; decide +kernel

/-- The forms with imm16, the source register also the destination. -/
theorem test_LogicMulComplete_rri :
    let s := fun p => atCell (withG [(1, ⟨.secret, 0xF0F0⟩)]) p
    (StandsOp (s 0x2411FFFF) 0 0x24 0x2411FFFF ∧ g0 (after (.andi 0) (s 0x2411FFFF)) 1 = ⟨.secret, 0xF0F0⟩) ∧
    (StandsOp (s 0x25110F0F) 0 0x25 0x25110F0F ∧ g0 (after (.ori 0) (s 0x25110F0F)) 1 = ⟨.secret, 0xFFFF⟩) ∧
    (StandsOp (s 0x2611F0F0) 0 0x26 0x2611F0F0 ∧ g0 (after (.xori 0) (s 0x2611F0F0)) 1 = ⟨.secret, 0⟩) := by
  unfold StandsOp Stands; decide +kernel

/-- Shifts by 0, 16 and 31 and rotates by 0 and 15: what leaves last, and what is left. -/
theorem test_ShiftComplete_register :
    let s := fun p n => atCell (withG [(2, ⟨.data, 0x8001⟩), (3, ⟨.data, n⟩)]) p
    (StandsOp (s 0x18123000 16) 0 0x18 0x18123000 ∧ g0 (after (.shl 0) (s 0x18123000 16)) 1 = ⟨.data, 0⟩ ∧
      (f0 (after (.shl 0) (s 0x18123000 16))).c = true ∧ (f0 (after (.shl 0) (s 0x18123000 32))).c = false) ∧
    (StandsOp (s 0x19123000 16) 0 0x19 0x19123000 ∧ g0 (after (.shr 0) (s 0x19123000 1)) 1 = ⟨.data, 0x4000⟩ ∧
      (f0 (after (.shr 0) (s 0x19123000 16))).c = true ∧ (f0 (after (.shr 0) (s 0x19123000 17))).c = false) ∧
    (StandsOp (s 0x1A123000 31) 0 0x1A 0x1A123000 ∧ g0 (after (.sar 0) (s 0x1A123000 31)) 1 = ⟨.data, 0xFFFF⟩ ∧
      (f0 (after (.sar 0) (s 0x1A123000 31))).c = true) ∧
    (StandsOp (s 0x1B123000 15) 0 0x1B 0x1B123000 ∧ g0 (after (.rol 0) (s 0x1B123000 15)) 1 = ⟨.data, 0xC000⟩ ∧
      (f0 (after (.rol 0) (s 0x1B123000 16))).c = true) := by
  unfold StandsOp Stands; decide +kernel

/-- The immediate forms at the greatest shift each admits, and SHLI by 0. -/
theorem test_ShiftComplete_immediate :
    let s := fun p => atCell (withG [(2, ⟨.data, 0x8001⟩)]) p
    (StandsOp (s 0x28120000) 0 0x28 0x28120000 ∧ g0 (after (.shli 0) (s 0x28120000)) 1 = ⟨.data, 0x8001⟩) ∧
    (StandsOp (s 0x2912001F) 0 0x29 0x2912001F ∧ g0 (after (.shri 0) (s 0x2912001F)) 1 = ⟨.data, 0⟩) ∧
    (StandsOp (s 0x2A12001F) 0 0x2A 0x2A12001F ∧ g0 (after (.sari 0) (s 0x2A12001F)) 1 = ⟨.data, 0xFFFF⟩) ∧
    (StandsOp (s 0x2B12000F) 0 0x2B 0x2B12000F ∧ g0 (after (.roli 0) (s 0x2B12000F)) 1 = ⟨.data, 0xC000⟩) := by
  unfold StandsOp Stands; decide +kernel

/-! ### Moves and comparisons (R308 to R310) -/

/-- MOV takes the tag with it; MOVI gives DATA; CSEL with EQ and Z 0 gives b, SECRET through FT; NOP keeps the flags. -/
theorem test_MoveCompareComplete_moves :
    let s := fun p => atCell (setFlags (withG [(2, ⟨.cap, 7⟩), (3, ⟨.data, 9⟩)]) ⟨false, false, false, false, true⟩) p
    (StandsOp (s 0x1F120000) 0 0x1F 0x1F120000 ∧ g0 (after (.mov 0) (s 0x1F120000)) 1 = ⟨.cap, 7⟩) ∧
    (StandsOp (s 0x2F10FFFF) 0 0x2F 0x2F10FFFF ∧ g0 (after (.movi 0) (s 0x2F10FFFF)) 1 = ⟨.data, 0xFFFF⟩) ∧
    (StandsOp (s 0x1E123000) 0 0x1E 0x1E123000 ∧ g0 (after (.csel 0) (s 0x1E123000)) 1 = ⟨.secret, 9⟩) ∧
    (StandsOp (s 0) 0 0 0 ∧ f0 (after (.nop 0) (s 0)) = ⟨false, false, false, false, true⟩ ∧ pc0 (after (.nop 0) (s 0)) = 1) := by
  unfold StandsOp Stands; decide +kernel

/-- CSEL under AL (14) takes a and reads no flags. -/
theorem test_MoveCompareComplete_csel :
    let s := atCell (setFlags (withG [(2, ⟨.data, 7⟩), (3, ⟨.data, 9⟩)]) ⟨false, false, false, false, true⟩) 0x1E123E00
    StandsOp s 0 0x1E 0x1E123E00 ∧ pf 0x1E123E00 8 < 15 ∧ g0 (after (.csel 0) s) 1 = ⟨.data, 7⟩ := by
  unfold StandsOp Stands; decide +kernel

/-- 3 against 4 borrows; 0x8000 AND 0x8000 is negative; the immediate forms likewise. -/
theorem test_MoveCompareComplete_compare :
    let s := fun p => atCell (withG [(2, ⟨.data, 3⟩), (3, ⟨.data, 4⟩), (4, ⟨.data, 0x8000⟩)]) p
    (StandsOp (s 0x30023000) 0 0x30 0x30023000 ∧ f0 (after (.cmp 0) (s 0x30023000)) = ⟨false, true, false, false, false⟩) ∧
    (StandsOp (s 0x32020003) 0 0x32 0x32020003 ∧ f0 (after (.cmpi 0) (s 0x32020003)) = ⟨true, false, true, false, false⟩) ∧
    (StandsOp (s 0x31044000) 0 0x31 0x31044000 ∧ f0 (after (.tst 0) (s 0x31044000)) = ⟨false, true, false, false, false⟩) ∧
    (StandsOp (s 0x33047FFF) 0 0x33 0x33047FFF ∧ f0 (after (.tsti 0) (s 0x33047FFF)) = ⟨true, false, false, false, false⟩) := by
  unfold StandsOp Stands; decide +kernel

/-- A SECRET operand of a comparison, a branch target or an index, and B under SECRET flags: a TAG fault waits to be taken. -/
theorem test_SecretNeverSteers_cell :
    let s := fun p => atCell (setFlags (withG [(2, ⟨.secret, 3⟩)]) ⟨false, false, false, false, true⟩) p
    let tag := fun (i : Instr) p => (getCell (after i (s p)) 0).pend = some ⟨.tag, none⟩ ∧ (getCell (s p) 0).mask = false
    (StandsOp (s 0x30023000) 0 0x30 0x30023000 ∧ tag (.cmp 0) 0x30023000) ∧
    (StandsOp (s 0x31032000) 0 0x31 0x31032000 ∧ tag (.tst 0) 0x31032000) ∧
    (StandsOp (s 0x32020003) 0 0x32 0x32020003 ∧ tag (.cmpi 0) 0x32020003) ∧
    (StandsOp (s 0x33020003) 0 0x33 0x33020003 ∧ tag (.tsti 0) 0x33020003) ∧
    (StandsOp (s 0x51020000) 0 0x51 0x51020000 ∧ tag (.br 0) 0x51020000) ∧
    (StandsOp (s 0x50D00000) 0 0x50 0x50D00000 ∧ tag (.b 0) 0x50D00000) ∧
    (StandsOp (s 0x42182000) 0 0x42 0x42182000 ∧ memLegal 0 false 0x42182000 = true ∧ tag (.ldx 0) 0x42182000) ∧
    (StandsOp (s 0x43182000) 0 0x43 0x43182000 ∧ memLegal 0 false 0x43182000 = true ∧ tag (.stx 0) 0x43182000) := by
  unfold StandsOp Stands; decide +kernel

/-- FAR with a SECRET index in the supervisor. -/
theorem test_SecretNeverSteers_far : let s := atSup (withG [(2, ⟨.secret, 3⟩)]) 0x5F0200FF
    StandsOp s 512 0x5F 0x5F0200FF ∧ (pImm 0x5F0200FF).toNat < 256 ∧ (getCell (after (.far 512) s) supKey).pend = some ⟨.tag, none⟩ := by
  unfold StandsOp Stands; decide +kernel

/-- B under NE with Z 0 goes back over imm16 -1 to itself; BR goes to 4095; CALL.L keeps index 1; RET.L goes where lk says. -/
theorem test_BranchComplete_cell :
    let s := fun p => atCell { withG [(2, ⟨.data, 0xFFF⟩)] with lk := 0xFFF } p
    (StandsOp (s 0x5010FFFF) 0 0x50 0x5010FFFF ∧ (f0 (s 0x5010FFFF)).ft = false ∧ pc0 (after (.b 0) (s 0x5010FFFF)) = 0) ∧
    (StandsOp (s 0x50000004) 0 0x50 0x50000004 ∧ pc0 (after (.b 0) (s 0x50000004)) = 1) ∧
    (StandsOp (s 0x51020000) 0 0x51 0x51020000 ∧ pc0 (after (.br 0) (s 0x51020000)) = 0xFFF) ∧
    (StandsOp (s 0x52000FFF) 0 0x52 0x52000FFF ∧ pc0 (after (.callL 0) (s 0x52000FFF)) = 0xFFF ∧
      (getCell (after (.callL 0) (s 0x52000FFF)) 0).lk = 1) ∧
    (StandsOp (s 0x53000000) 0 0x53 0x53000000 ∧ pc0 (after (.retL 0) (s 0x53000000)) = 0xFFF) := by
  unfold StandsOp Stands; decide +kernel

/-- FAR to PAGE 255; B under AL reads no SECRET flags. -/
theorem test_BranchComplete_far : let s := atSup (withG [(2, ⟨.data, 0x1005⟩)]) 0x5F0200FF
    let u := atCell (setFlags cellReset ⟨false, false, false, false, true⟩) 0x50E00001
    (StandsOp s 512 0x5F 0x5F0200FF ∧ getPc (getCell (after (.far 512) s) supKey) = 0xFF005) ∧
    (StandsOp u 0 0x50 0x50E00001 ∧ pf 0x50E00001 20 = 14 ∧ pc0 (after (.b 0) u) = 2) := by
  unfold StandsOp Stands; decide +kernel

/-! ### Capabilities (R313, R330, R333) -/

/-- A cell with c2 a region of 64 words from waddr 0x1000 that it may read, write and grant. -/
def capCell (g : Tbl Word) : Cell := setC (withG g) 2 (mkCap 0x1000 64 19)

/-- CMOV, CBOUND of words 16 to 63, CPERM to READ, CINC to the end, CGET of GRANT, READ and WRITE, CCLR. -/
theorem test_CapabilityComplete_cell :
    let s := fun p => atCell (capCell [(3, ⟨.data, 16⟩), (4, ⟨.data, 48⟩), (5, ⟨.data, 64⟩)]) p
    let c1 := fun (i : Instr) p => capOf (getC (getCell (after i (s p)) 0) 1)
    (StandsOp (s 0x62120000) 0 0x62 0x62120000 ∧ c1 (.cmov 0) 0x62120000 = ⟨true, 0x1000, 64, 19⟩) ∧
    (StandsOp (s 0x63123400) 0 0x63 0x63123400 ∧ c1 (.cbound 0) 0x63123400 = ⟨true, 0x1010, 48, 19⟩) ∧
    (StandsOp (s 0x64120001) 0 0x64 0x64120001 ∧ c1 (.cperm 0) 0x64120001 = ⟨true, 0x1000, 64, 1⟩) ∧
    (StandsOp (s 0x65125000) 0 0x65 0x65125000 ∧ c1 (.cinc 0) 0x65125000 = ⟨true, 0x1040, 0, 19⟩) ∧
    (StandsOp (s 0x66120004) 0 0x66 0x66120004 ∧ g0 (after (.cget 0) (s 0x66120004)) 1 = ⟨.data, 19⟩) ∧
    (StandsOp (s 0x67200000) 0 0x67 0x67200000 ∧ (getC (getCell (after (.cclr 0) (s 0x67200000)) 0) 2) = ⟨false, 0⟩) := by
  unfold StandsOp Stands; decide +kernel

/-- CMAKE of the top half of all waddrs: LENGTH 2^27 - 1 is the greatest it admits. -/
theorem test_CapabilityComplete_cmake :
    let s := atSup (withG [(2, ⟨.data, 0⟩), (3, ⟨.data, 0x8000⟩), (4, ⟨.data, 0xFFFF⟩), (5, ⟨.data, 0x7FF⟩)]) 0x6810241F
    StandsOp s 512 0x68 0x6810241F ∧ pImm8 0x6810241F < 32 ∧
      capOf (getC (getCell (after (.cmake 512) s) supKey) 1) = ⟨true, 0x80000000, 0x7FFFFFF, 31⟩ := by
  unfold StandsOp Stands; decide +kernel

/-- c1 granted less than c2 and grants as much after CMOV. -/
theorem test_CapabilityMonotone_cmov : let s := atCell (setC (capCell []) 1 (mkCap 0x1000 64 1)) 0x62120000
    Stands s 0 0x62120000 ∧ (getCell s 0).inShadow = false ∧ (capOf (getC (getCell s 0) 2)).base + (capOf (getC (getCell s 0) 2)).len < 2 ^ 32 ∧
      grantsMore (getC (getCell (after (.cmov 0) s) 0) 1) (getC (getCell s 0) 1) = true ∧
      grantsMore (getC (getCell (after (.cmov 0) s) 0) 1) (getC (getCell s 0) 2) = false := by
  unfold Stands; decide +kernel

/-! ### Loads, stores and calls (R303, R311, R316, R317) -/


/-- LD and LDX of the last word of the data store take its tag. -/
theorem test_LoadStoreComplete_loads :
    let s := fun p => writeMem (atCell (withG [(3, ⟨.data, 0x1FFE⟩)]) p) (d0 + 0x1FFF) ⟨.secret, 7⟩
    (StandsOp (s 0x40181FFF) 0 0x40 0x40181FFF ∧ memLegal 0 false 0x40181FFF = true ∧
      oks (capCheck (baseCap (s 0x40181FFF) 0 (getCell (s 0x40181FFF) 0) 8) 0x1FFF 1 pREAD) = some (d0 + 0x1FFF) ∧
      LocalRead (s 0x40181FFF) 0 (d0 + 0x1FFF) 1 ∧ g0 (after (.ld 0) (s 0x40181FFF)) 1 = ⟨.secret, 7⟩) ∧
    (StandsOp (s 0x42183001) 0 0x42 0x42183001 ∧ memLegal 0 false 0x42183001 = true ∧
      oks (capCheck (baseCap (s 0x42183001) 0 (getCell (s 0x42183001) 0) 8) 0x1FFF 1 pREAD) = some (d0 + 0x1FFF) ∧
      g0 (after (.ldx 0) (s 0x42183001)) 1 = ⟨.secret, 7⟩) := by
  unfold StandsOp Stands LocalRead; decide +kernel

/-- ST and STX of a SECRET word to words 0 and 0x1FFF of the data store. -/
theorem test_LoadStoreComplete_stores :
    let s := fun p => atCell (withG [(1, ⟨.secret, 7⟩), (3, ⟨.data, 0x1FFE⟩)]) p
    (StandsOp (s 0x41180000) 0 0x41 0x41180000 ∧ memLegal 0 false 0x41180000 = true ∧ posts (s 0x41180000) 0 d0 = false ∧
      oks (capCheck (baseCap (s 0x41180000) 0 (getCell (s 0x41180000) 0) 8) 0 1 pWRITE) = some d0 ∧
      LocalWrite (s 0x41180000) 0 d0 [⟨.secret, 7⟩] ∧ readMem (after (.st 0) (s 0x41180000)) d0 = ⟨.secret, 7⟩) ∧
    (StandsOp (s 0x43183001) 0 0x43 0x43183001 ∧ memLegal 0 false 0x43183001 = true ∧ posts (s 0x43183001) 0 (d0 + 0x1FFF) = false ∧
      oks (capCheck (baseCap (s 0x43183001) 0 (getCell (s 0x43183001) 0) 8) 0x1FFF 1 pWRITE) = some (d0 + 0x1FFF) ∧
      LocalWrite (s 0x43183001) 0 (d0 + 0x1FFF) [⟨.secret, 7⟩] ∧ readMem (after (.stx 0) (s 0x43183001)) (d0 + 0x1FFF) = ⟨.secret, 7⟩) := by
  unfold StandsOp Stands LocalWrite; decide +kernel

/-- CLD of four CAP words from the end of the data store. -/
theorem test_CapLoadStoreComplete_cld :
    let s := writeMems (atCell cellReset 0x60181FFC) (d0 + 0x1FFC) ((List.range 4).map (frag (mkCap 0x1000 64 19)))
    StandsOp s 0 0x60 0x60181FFC ∧ memLegal 0 true 0x60181FFC = true ∧
      oks (capCheck (baseCap s 0 (getCell s 0) 8) 0x1FFC 4 (pREAD + pCAPLOAD)) = some (d0 + 0x1FFC) ∧ LocalRead s 0 (d0 + 0x1FFC) 4 ∧
      capOfWords ((List.range 4).map (fun i => readMem s (physAddr s (d0 + 0x1FFC + i)))) = some (mkCap 0x1000 64 19) ∧
      getC (getCell (after (.cld 0) s) 0) 1 = mkCap 0x1000 64 19 := by
  unfold StandsOp Stands LocalRead; decide +kernel

/-- CST of c2. -/
theorem test_CapLoadStoreComplete_cst : let s := atCell (capCell []) 0x61280000
    StandsOp s 0 0x61 0x61280000 ∧ memLegal 0 true 0x61280000 = true ∧
      oks (capCheck (baseCap s 0 (getCell s 0) 8) 0 4 (pWRITE + pCAPSTORE)) = some d0 ∧
      LocalWrite s 0 d0 ((List.range 4).map (frag (getC (getCell s 0) 2))) ∧ readMem (after (.cst 0) s) d0 = ⟨.cap, 0x1000⟩ := by
  unfold StandsOp Stands LocalWrite; decide +kernel

/-- Offset 64 of a region of 64 words, and a store through READ alone, are CAP faults. -/
theorem test_CapFaultStopsAccess_all :
    let s := fun p => atCell (setC (capCell []) 2 (mkCap 0x1000 64 1)) p
    let cap := fun p => baseCap (s p) 0 (getCell (s p) 0) 2
    let cause := fun (i : Instr) p => (getCell (after i (s p)) 0).pend.map (·.cause)
    (StandsOp (s 0x40120040) 0 0x40 0x40120040 ∧ errs (capCheck (cap 0x40120040) 64 1 pREAD) = some ⟨.cap, some 0x1040⟩ ∧ cause (.ld 0) 0x40120040 = some .cap) ∧
    (StandsOp (s 0x41120000) 0 0x41 0x41120000 ∧ errs (capCheck (cap 0x41120000) 0 1 pWRITE) = some ⟨.cap, some 0x1000⟩ ∧ cause (.st 0) 0x41120000 = some .cap) ∧
    (StandsOp (s 0x60120000) 0 0x60 0x60120000 ∧ errs (capCheck (cap 0x60120000) 0 4 (pREAD + pCAPLOAD)) = some ⟨.cap, some 0x1000⟩ ∧
      cause (.cld 0) 0x60120000 = some .cap) ∧
    (StandsOp (s 0x61120000) 0 0x61 0x61120000 ∧ errs (capCheck (cap 0x61120000) 0 4 (pWRITE + pCAPSTORE)) = some ⟨.cap, some 0x1000⟩ ∧
      cause (.cst 0) 0x61120000 = some .cap) ∧ (getCell (s 0x40120040) 0).mask = false := by
  unfold StandsOp Stands; decide +kernel

/-- CALLM with the mask 0x8003 writes mask, return index 1, g0, g1 and lk below g15 and goes to target 0xFFF. -/
theorem test_FrameCallsComplete_callm :
    let s := atCell { withG [(0, ⟨.data, 5⟩), (1, ⟨.secret, 6⟩), (15, ⟨.data, 5⟩)] with lk := 9 } 0xFFFF8003
    let f : List Word := [⟨.data, 0x8003⟩, ⟨.data, 1⟩, ⟨.data, 5⟩, ⟨.secret, 6⟩, ⟨.data, 9⟩]
    StandsOp s 0 0xFF 0xFFFF8003 ∧ (those 16 (bit (pImm 0xFFFF8003))).length + 2 ≤ 5 ∧
      oks (capCheck (baseCap s 0 (getCell s 0) 8) 0 5 pWRITE) = some d0 ∧ egressStore s (masterOfKey s 0) d0 f = none ∧
      readMems (after (.callm 0) s) d0 5 = f ∧ g0 (after (.callm 0) s) 15 = ⟨.data, 0⟩ ∧ pc0 (after (.callm 0) s) = 0xFFF := by
  unfold StandsOp Stands; decide +kernel

/-- RETM of such a frame. -/
theorem test_FrameCallsComplete_retm :
    let s := writeMems (atCell (withG [(15, ⟨.data, 0⟩)]) 0x54000000) d0
      [⟨.data, 0x8003⟩, ⟨.data, 0xFFF⟩, ⟨.data, 5⟩, ⟨.secret, 6⟩, ⟨.data, 9⟩]
    StandsOp s 0 0x54 0x54000000 ∧ oks (capCheck (baseCap s 0 (getCell s 0) 8) 0 5 pREAD) = some d0 ∧
      egress s (masterOfKey s 0) d0 2 false false = none ∧ egress s (masterOfKey s 0) d0 5 false false = none ∧
      g0 (after (.retm 0) s) 1 = ⟨.secret, 6⟩ ∧ (getCell (after (.retm 0) s) 0).lk = 9 ∧ g0 (after (.retm 0) s) 15 = ⟨.data, 5⟩ ∧
      pc0 (after (.retm 0) s) = 0xFFF := by
  unfold StandsOp Stands; decide +kernel

/-- BMOV, BFILL and MFEED of their last word, and BMOV of one of two. -/
theorem test_BlockWordComplete_all :
    let s := fun p n => writeMems (atCell (withG [(1, ⟨.data, 0⟩), (2, ⟨.data, 2⟩), (3, ⟨.data, n⟩)]) p) d0 [⟨.data, 1⟩, ⟨.data, 0⟩, ⟨.secret, 6⟩]
    (StandsOp (s 0x70123880 1) 0 0x70 0x70123880 ∧ blockLegal 0 false 0x70123880 = true ∧
      oks (capCheck (baseCap (s 0x70123880 1) 0 (getCell (s 0x70123880 1) 0) 8) 2 1 pREAD) = some (d0 + 2) ∧ LocalRead (s 0x70123880 1) 0 (d0 + 2) 1 ∧
      LocalWrite (s 0x70123880 1) 0 d0 [⟨.secret, 6⟩] ∧ readMem (after (.bmov 0) (s 0x70123880 1)) d0 = ⟨.secret, 6⟩ ∧
      pc0 (after (.bmov 0) (s 0x70123880 1)) = 1 ∧ pc0 (after (.bmov 0) (s 0x70123880 2)) = 0 ∧ g0 (after (.bmov 0) (s 0x70123880 2)) 3 = ⟨.data, 1⟩) ∧
    (StandsOp (s 0x71123800 1) 0 0x71 0x71123800 ∧ blockLegal 0 true 0x71123800 = true ∧
      readMem (after (.bfill 0) (s 0x71123800 1)) d0 = ⟨.data, 2⟩ ∧ g0 (after (.bfill 0) (s 0x71123800 1)) 2 = ⟨.data, 2⟩) ∧
    (StandsOp (s 0x72123880 1) 0 0x72 0x72123880 ∧ blockLegal 0 false 0x72123880 = true ∧
      oks (capCheck (baseCap (s 0x72123880 1) 0 (getCell (s 0x72123880 1) 0) 8) 0 1 (pREAD + pWRITE)) = some d0 ∧ LocalRead (s 0x72123880 1) 0 d0 1 ∧
      readMem (after (.mfeed 0) (s 0x72123880 1)) d0 = ⟨.secret, 7⟩) := by
  unfold StandsOp Stands LocalRead LocalWrite; decide +kernel
/-! ### Special registers, exceptions, HALT and FENCE -/

/-- A cell in its shadow bank, with an exception's registers saved. -/
def shadowCell : Cell :=
  { cellReset with inShadow := true, xpc := 0xFFF, xaddr := 0x12345678, xcsel := 1, xgsel := 2, cause := 5, mask := true,
                   main := { zeroBank with g := [(2, ⟨.cap, 3⟩)], flags := ⟨true, false, true, false, true⟩ } }
/-- What MFSR leaves in g1 of a cell for SR number n. -/
def mfsr (c : Cell) (n : BitVec 32) : Word := g0 (after (.mfsr 0) (atCell c (0x04100000 + n))) 1

/-- MFSR of every special register a cell has outside its handler. -/
theorem test_SpecialRegisterComplete_reads :
    let c := setFlags { cellReset with lk := 7, evb := 0x100, cycleHi := 9, cause := 0x3F, async := true, cdoneEn := true } ⟨true, false, true, false, false⟩
    (StandsOp (atCell c 0x04100000) 0 4 0x04100000 ∧ mfsr c 0 = ⟨.data, 7⟩) ∧ (StandsOp (atCell c 0x04100001) 0 4 0x04100001 ∧ mfsr c 1 = ⟨.data, 10⟩) ∧
    mfsr c 2 = ⟨.data, 0x100⟩ ∧ StandsOp (atCell c 0x04100003) 0 4 0x04100003 ∧ mfsr c 4 = ⟨.data, 9⟩ ∧ (StandsOp (atCell c 0x04100008) 0 4 0x04100008 ∧ mfsr c 8 = ⟨.data, 0x243F⟩) := by
  unfold StandsOp Stands; decide +kernel

/-- MFSR in the handler. -/
theorem test_SpecialRegisterComplete_handler :
    mfsr shadowCell 9 = ⟨.data, 0xFFF⟩ ∧ mfsr shadowCell 10 = ⟨.data, 0x5678⟩ ∧ mfsr shadowCell 11 = ⟨.data, 0x1234⟩ ∧ mfsr shadowCell 12 = ⟨.secret, 0x1A⟩ ∧
      mfsr shadowCell 13 = ⟨.data, 1⟩ ∧ mfsr shadowCell 14 = ⟨.data, 2⟩ ∧
      (StandsOp (atCell shadowCell 0x0410000F) 0 4 0x0410000F ∧ mfsr shadowCell 15 = ⟨.cap, 3⟩) := by
  unfold StandsOp Stands; decide +kernel

/-- PAGE and XPAGE of the supervisor. -/
theorem test_SpecialRegisterComplete_pages :
    let s := atSup cellReset 0x04100006
    let u := atSup { cellReset with inShadow := true, xpc := 0xFF005 } 0x04100005
    (StandsOp s 512 4 0x04100006 ∧ getG (getCell (after (.mfsr 512) s) supKey) 1 = ⟨.data, 0⟩) ∧
    (StandsOp u 512 4 0x04100005 ∧ (getCell u supKey).inShadow = true ∧ getG (getCell (after (.mfsr 512) u) supKey) 1 = ⟨.data, 0xFF⟩) := by
  unfold StandsOp Stands; decide +kernel

/-- The cell after MTSR of g2 to SR number n. -/
def mtsr (c : Cell) (w : Word) (n : BitVec 32) : Cell := getCell (after (.mtsr 0) (atCell (setG c 2 w) (0x05020000 + n))) 0

/-- MTSR of every register a cell may write outside its handler. -/
theorem test_SpecialRegisterComplete_writes :
    StandsOp (atCell (withG [(2, ⟨.data, 0xFFFF⟩)]) 0x05020000) 0 5 0x05020000 ∧ (mtsr cellReset ⟨.data, 0xFFFF⟩ 0).lk = 0xFFFF ∧
      getFlags (mtsr cellReset ⟨.secret, 0xA⟩ 1) = ⟨true, false, true, false, true⟩ ∧
      StandsOp (atCell (withG [(2, ⟨.data, 0xFFFF⟩)]) 0x05020008) 0 5 0x05020008 ∧
      ((mtsr cellReset ⟨.data, 0x8C00⟩ 8).mask, (mtsr cellReset ⟨.data, 0x8C00⟩ 8).mdoneEn, (mtsr cellReset ⟨.data, 0x8C00⟩ 8).cdoneEn) = (true, true, true) := by
  unfold StandsOp Stands; decide +kernel

/-- MTSR in the handler: XCAUSE keeps MASK, XPC, XFLAGS, XCSEL, XGSEL and XGVAL. -/
theorem test_SpecialRegisterComplete_handlerWrites :
    StandsOp (atCell (setG shadowCell 2 ⟨.data, 0xFFF⟩) 0x05020009) 0 5 0x05020009 ∧ (mtsr shadowCell ⟨.data, 0xFFF⟩ 9).xpc = 0xFFF ∧
      (mtsr shadowCell ⟨.data, 0x400⟩ 8).mask = true ∧ (mtsr shadowCell ⟨.data, 0x400⟩ 8).cdoneEn = true ∧
      (mtsr shadowCell ⟨.data, 0x1F⟩ 12).main.flags = ⟨true, true, true, true, true⟩ ∧ (mtsr shadowCell ⟨.data, 0x1FF⟩ 13).xcsel = 0xFF ∧
      (mtsr shadowCell ⟨.data, 0x1F⟩ 14).xgsel = 15 ∧ bankG (mtsr shadowCell ⟨.secret, 6⟩ 15).main 2 = ⟨.secret, 6⟩ := by
  unfold StandsOp Stands; decide +kernel

/-- The supervisor's EVB while MASK is 1, its XPAGE and its MASK. -/
theorem test_SpecialRegisterComplete_supWrites :
    let c := fun w => { withG [(2, ⟨.data, w⟩)] with mask := true }
    let s := atSup (c 0x40) 0x05020002
    let u := atSup (setG { cellReset with inShadow := true, xpc := 5 } 2 ⟨.data, 0xFF⟩) 0x05020005
    let m := atSup (c 0) 0x05020008
    (StandsOp s 512 5 0x05020002 ∧ (getCell (after (.mtsr 512) s) supKey).evb = 0x40) ∧
    (StandsOp u 512 5 0x05020005 ∧ (getCell (after (.mtsr 512) u) supKey).xpc = 0xFF005) ∧
    (StandsOp m 512 5 0x05020008 ∧ (getCell (after (.mtsr 512) m) supKey).mask = false) := by
  unfold StandsOp Stands; decide +kernel

/-- A fault waiting at cell 0: the vector of cause TAG (EVB 0x100) holds entry 0x80. -/
theorem test_ExceptionEntryComplete_sync :
    let s := writeMem (atCell { cellReset with evb := 0x100, pend := some ⟨.tag, some 5⟩ } 0) (istoreBase 0 0 + 0x100 + Cause.tag.code.toNat) ⟨.code, 0x80⟩
    coreLive s 0 = true ∧ oks (vector s 0 (getCell s 0) Cause.tag.code) = some 0x80 ∧
      (let c := getCell (after (.exceptionEntry 0) s) 0
       (c.inShadow, c.mask, c.cause, c.xaddr, c.shadow.pc) = (true, true, Cause.tag.code, 5, 0x80)) := by
  decide +kernel

/-- CDONE before MDONE, then MDONE. -/
theorem test_ExceptionEntryComplete_async :
    let s := fun cd => writeMems (atCell { cellReset with evb := 0x100, pendC := cd, pendM := true } 0) (istoreBase 0 0 + 0x110) [⟨.code, 0xFFF⟩, ⟨.code, 0x90⟩]
    (asyncOpen (s true) 0 = true ∧ oks (vector (s true) 0 (getCell (s true) 0) 16) = some 0xFFF ∧ (getCell (after (.exceptionEntry 0) (s true)) 0).cause = 16 ∧
      (getCell (after (.exceptionEntry 0) (s true)) 0).pendM = true) ∧
    (asyncOpen (s false) 0 = true ∧ oks (vector (s false) 0 (getCell (s false) 0) 17) = some 0x90 ∧ (getCell (after (.exceptionEntry 0) (s false)) 0).cause = 17) := by
  decide +kernel

/-- An event routed to line 31 is taken by the supervisor as cause 63. -/
theorem test_ExceptionEntryComplete_line :
    let s := raise (setReg (writeMems (atSup { cellReset with evb := 0x10 } 0) (0x100 + 126) [⟨.code, 0xFF⟩, ⟨.code, 0xFFF⟩]) (R.EVC_ROUTE 615) 0x801F) 615
    coreLive s supKey = true ∧ asyncOpen s supKey = true ∧ asyncCause s supKey = some 63 ∧ oks (vector s supKey (getCell s supKey) 63) = some 0xFFFFF ∧
      (getCell (after (.exceptionEntry 512) s) supKey).cause = 63 ∧ (getCell (after (.exceptionEntry 512) s) supKey).shadow.pc = 0xFFFFF := by
  decide +kernel

/-- RETX of a handler that wrote c0 with more than its snapshot granted, and c1 with less. -/
theorem test_ReturnComplete_all :
    let c := { shadowCell with wrote := 3, main := { zeroBank with c := [(0, mkCap 0 64 3), (1, mkCap 0 8 1)] },
                               snap := [(0, mkCap 0 32 3), (1, mkCap 0 8 3)] }
    let s := atCell c 0x02000000
    StandsOp s 0 2 0x02000000 ∧ (getCell s 0).inShadow = true ∧ s.flt.first = none ∧
      (let d := getCell (after (.retx 0) s) 0
       d.inShadow = false ∧ d.mask = false ∧ d.hold = true ∧ d.main.pc = 0xFFF ∧ bankC d.main 0 = ⟨false, (mkCap 0 32 3).frags⟩ ∧ bankC d.main 1 = mkCap 0 8 1) ∧
      (after (.retx 0) s).flt.first.map (fun r => (r.cls, r.source, r.access)) = some (1, 577, .tag) := by
  unfold StandsOp Stands; decide +kernel

/-- HALT of a cell and of the supervisor; FENCE with nothing posted, and with a store posted. -/
theorem test_HaltFenceComplete_all :
    let s := atCell cellReset 0x01000000
    let u := atSup cellReset 0x01000000
    let f := fun n r => atCell { cellReset with posted := n, postRefused := r } 0x03000000
    (StandsOp s 0 1 0x01000000 ∧ (getCell (after (.halt 0) s) 0).halted = true ∧ getBit (after (.halt 0) s) (R.VAT_CELL_HALTED 0) 0 = true) ∧
    (StandsOp u 512 1 0x01000000 ∧ (getCell (after (.halt 512) u) supKey).halted = true ∧ (after (.halt 512) u).evc.pend.getLsbD 582 = true) ∧
    (StandsOp (f 0 true) 0 3 0x03000000 ∧ f0 (after (.fence 0) (f 0 true)) = ⟨false, false, false, true, false⟩ ∧ pc0 (after (.fence 0) (f 0 true)) = 1) ∧
    (StandsOp (f 1 false) 0 3 0x03000000 ∧ 0 < (getCell (f 1 false) 0).posted ∧ (getCell (after (.fence 0) (f 1 false)) 0).wait = .fence) := by
  unfold StandsOp Stands; decide +kernel

/-! ### The job port (R195 to R198, R321) -/

/-- A state whose vat 0 has tickets t in the deque of cell 0. -/
def dequed (s : State) (t : List Nat) : State := modVat s 0 fun v => { v with deques := [(0, t)] }

/-- The status forms and the cancel forms with no job. -/
theorem test_JobPortComplete_status :
    let s := fun p => atCell { cellReset with churnStatus := 0, macStatus := 3 } p
    (StandsOp (s 0x81100000) 0 0x81 0x81100000 ∧ g0 (after (.cwait 0) (s 0x81100000)) 1 = ⟨.data, 0⟩) ∧
    (StandsOp (s 0x81100001) 0 0x81 0x81100001 ∧ g0 (after (.cwaitW 0) (s 0x81100001)) 1 = ⟨.data, 0⟩ ∧ (f0 (after (.cwaitW 0) (s 0x81100001))).z = true) ∧
    (StandsOp (s 0x83100000) 0 0x83 0x83100000 ∧ g0 (after (.mwait 0) (s 0x83100000)) 1 = ⟨.data, 3⟩) ∧
    (StandsOp (s 0x83100001) 0 0x83 0x83100001 ∧ g0 (after (.mwaitW 0) (s 0x83100001)) 1 = ⟨.data, 3⟩) ∧
    (StandsOp (s 0x80100001) 0 0x80 0x80100001 ∧ g0 (after (.csubC 0) (s 0x80100001)) 1 = ⟨.data, 3⟩) ∧
    (StandsOp (s 0x82100001) 0 0x82 0x82100001 ∧ g0 (after (.msubC 0) (s 0x82100001)) 1 = ⟨.data, 3⟩) := by
  unfold StandsOp Stands; decide +kernel

/-- TAKE of the newest of two tickets, TAKE.W of none, DONE of ticket 1023 into a queue with a place and into a full one. -/
theorem test_JobPortComplete_tickets :
    let s := setReg (dequed (atCell cellReset 0x84100000) [1023, 4]) (R.VAT_TAIL_AGE 0) 0
    let w := atCell cellReset 0x84100001
    let d := fun n => modVat (atCell { withG [(1, ⟨.data, 1023⟩)] with ticket := some 1023 } 0x85100000) 0 fun v => { v with cq := List.replicate n 0 }
    (StandsOp s 0 0x84 0x84100000 ∧ deque s 0 0 = [1023, 4] ∧ tailOld s 0 4 = false ∧ g0 (after (.take 0) s) 1 = ⟨.data, 1023⟩ ∧
      deque (after (.take 0) s) 0 0 = [4] ∧ (getCell (after (.take 0) s) 0).ticket = some 1023) ∧
    (StandsOp w 0 0x84 0x84100001 ∧ deque w 0 0 = [] ∧ (∀ j, j < 16 → oldestUnpinned w 0 j = none ∨ (getCell w j).halted = true) ∧
      (getVat (after (.takeW 0) w) 0).waiters = [0]) ∧
    (StandsOp (d 63) 0 0x85 0x85100000 ∧ (getVat (d 63) 0).cq.length < 64 ∧ (getVat (after (.done 0) (d 63)) 0).cq.length = 64 ∧
      (getCell (after (.done 0) (d 63)) 0).ticket = none) ∧
    (64 ≤ (getVat (d 64) 0).cq.length ∧ (getCell (after (.done 0) (d 64)) 0).wait = .doneFull) := by
  unfold StandsOp Stands; decide +kernel

/-- TAKE and TAKE.W of the oldest ticket, which is older than VAT_TAIL_AGE. -/
theorem test_JobPortComplete_tail :
    let s := fun p => { setReg (dequed (atCell cellReset p) [1023, 4]) (R.VAT_TAIL_AGE 0) 1 with
      bat := { State.reset.bat with timeBase := 1000 } }
    (StandsOp (s 0x84100000) 0 0x84 0x84100000 ∧ tailOld (s 0x84100000) 0 4 = true ∧ g0 (after (.take 0) (s 0x84100000)) 1 = ⟨.data, 4⟩ ∧
      deque (after (.take 0) (s 0x84100000)) 0 0 = [1023]) ∧
    (StandsOp (s 0x84100001) 0 0x84 0x84100001 ∧ g0 (after (.takeW 0) (s 0x84100001)) 1 = ⟨.data, 4⟩) := by
  unfold StandsOp Stands; decide +kernel

/-- TAKE and TAKE.W of a ticket of cell 15, the last that is asked; TAKE of none. -/
theorem test_JobPortComplete_stolen :
    let s := fun p => modVat (atCell cellReset p) 0 fun v => { v with deques := [(15, [7, 5])] }
    (StandsOp (s 0x84100000) 0 0x84 0x84100000 ∧ deque (s 0x84100000) 0 0 = [] ∧
      (∀ m, m < 14 → oldestUnpinned (s 0x84100000) 0 (m + 1) = none) ∧ oldestUnpinned (s 0x84100000) 0 15 = some 5 ∧
      (getCell (s 0x84100000) 15).halted = false ∧ g0 (after (.take 0) (s 0x84100000)) 1 = ⟨.data, 5⟩ ∧
      deque (after (.take 0) (s 0x84100000)) 0 15 = [7] ∧ bit (ticketWord (after (.take 0) (s 0x84100000)) 0 5 1) 14 = true) ∧
    (StandsOp (s 0x84100001) 0 0x84 0x84100001 ∧ g0 (after (.takeW 0) (s 0x84100001)) 1 = ⟨.data, 5⟩) ∧
    (g0 (after (.take 0) (atCell cellReset 0x84100000)) 1 = ⟨.data, 0xFFFF⟩ ∧ (f0 (after (.take 0) (atCell cellReset 0x84100000))).z = true) := by
  unfold StandsOp Stands; decide +kernel

/-- RDRAW of 16 bits of the vat's queue, of the central queue, of none with every source stopped, and of none with one at work. -/
theorem test_JobPortComplete_draw :
    let s := fun p (own : Nat) (central : Nat) (stop : Bool) =>
      let u := if stop then (List.range 32).foldl (fun s n => modNoise s n fun x => { x with state := 3 }) (atCell cellReset p) else atCell cellReset p
      { modNoise u 0 (fun x => { x with bits := own }) with central := { u.central with bits := central } }
    let a := s 0x86100001 16 0 false
    let b := s 0x86100000 15 16 false
    let c := s 0x86100000 16 15 true
    let d := s 0x86100000 15 15 false
    (StandsOp a 0 0x86 0x86100001 ∧ 16 ≤ (getVat a 0).noise.bits ∧ (getVat a 0).noise.state ≠ 3 ∧ (getVat (after (.rdraw 0) a) 0).noise.bits = 0) ∧
    (StandsOp b 0 0x86 0x86100000 ∧ (getVat b 0).noise.bits < 16 ∧ 16 ≤ b.central.bits ∧ (after (.rdraw 0) b).central.bits = 0) ∧
    (StandsOp c 0 0x86 0x86100000 ∧ (getVat c 0).noise.state = 3 ∧ allStopped c = true ∧ (f0 (after (.rdraw 0) c)).c = false) ∧
    (StandsOp d 0 0x86 0x86100000 ∧ allStopped d = false ∧ (getCell (after (.rdraw 0) d) 0).wait = .rdraw) := by
  unfold StandsOp Stands; decide +kernel

/-- Cell 0 of vat 0 with a running job of each unit. -/
def jobbed (s : State) : State :=
  modVat s 0 fun v => { v with
    churn := { v.churn with jobs := [(0, some ⟨0x24, 1, 0, false, 0, nullCap, nullCap, [], [], false, false, [], [], none, none⟩)] }
    mac := { v.mac with jobs := [(0, some ⟨0, 0, 0, 0, 0, 0, 0, 0, nullCap, nullCap, nullCap, [], none, [], [], none, false, none⟩)] } }
/-- A cell whose c2 is a region of 32 words of its data store, for a descriptor. -/
def descrCell : Cell := setC cellReset 2 (mkCap d0 32 3)
/-- What the descriptor gives, where it gives words and changes nothing. -/
def given (s : State) (n rd : Nat) : Option (List Word) :=
  match descriptor s 0 d0 n rd with
  | (some (.ok ws), u) => if u = s then some ws else none
  | _ => none
theorem given_meets (s : State) (n rd : Nat) (ws : List Word) (h : given s n rd = some ws) : descriptor s 0 d0 n rd = (some (.ok ws), s) := by
  unfold given at h
  split at h
  · rename_i x u hx
    split at h <;> simp_all
  · cases h

/-- The waiting forms while the job runs wait; the cancel forms answer CANCELLED, the submissions BUSY. -/
theorem test_JobPortComplete_busy :
    let s := fun p => jobbed (atCell descrCell p)
    (StandsOp (s 0x81100001) 0 0x81 0x81100001 ∧ (getCell (after (.cwaitW 0) (s 0x81100001)) 0).wait = .cwaitW) ∧
    (StandsOp (s 0x83100001) 0 0x83 0x83100001 ∧ (getCell (after (.mwaitW 0) (s 0x83100001)) 0).wait = .mwaitW) ∧
    (StandsOp (s 0x80100001) 0 0x80 0x80100001 ∧ g0 (after (.csubC 0) (s 0x80100001)) 1 = ⟨.data, 2⟩) ∧
    (StandsOp (s 0x82100001) 0 0x82 0x82100001 ∧ g0 (after (.msubC 0) (s 0x82100001)) 1 = ⟨.data, 2⟩) ∧
    (StandsOp (s 0x80120000) 0 0x80 0x80120000 ∧ (given (s 0x80120000) 20 16).isSome ∧ g0 (after (.csub 0) (s 0x80120000)) 1 = ⟨.data, 1⟩) ∧
    (StandsOp (s 0x82120000) 0 0x82 0x82120000 ∧ (given (s 0x82120000) 24 18).isSome ∧ g0 (after (.msub 0) (s 0x82120000)) 1 = ⟨.data, 1⟩) := by
  unfold StandsOp Stands; decide +kernel

/-- MSUB of a CTR_INCREMENT (op 0x31) by 16 with KSRC NONE, which needs no region: with no counter, with counter 0 at 0, and with it at its
largest value. -/
theorem test_JobPortComplete_msub :
    let s := fun (ctr count : Nat) => setCounter (writeMems (atCell descrCell 0x82120000) d0
      [dataNat 0x31, dataNat 0xC000, dataNat 0, dataNat ctr, dataNat 16, dataNat 0]) 0 0 (BitVec.ofNat 48 count)
    let check := fun (s : State) => (macChecks s 0 0 (macRequest s 0 (readMems s d0 18) d0)).1
    let ran := fun (s : State) => (tget (fun _ => none) (getVat (after (.msub 0) s) 0).mac.jobs 0).map (·.ctrValue)
    (StandsOp (s 0 0) 0 0x82 0x82120000 ∧ given (s 0 0) 24 18 = some (readMems (s 0 0) d0 18) ∧ (getVat (s 0 0) 0).mac.kat = false ∧
      ((check (s 0 0)).bind oks).isSome = true ∧ g0 (after (.msub 0) (s 0 0)) 1 = ⟨.data, 0⟩ ∧ ran (s 0 0) = some none ∧
      (getCell (after (.msub 0) (s 0 0)) 0).macStatus = 1) ∧
    (ran (s 0x8000 7) = some (some 8) ∧ ((check (s 0x8000 7)).bind oks).isSome = true) ∧
    (ran (s 0x8000 ctrMax) = none ∧ ((check (s 0x8000 ctrMax)).bind oks).isSome = true ∧
      (getCell (after (.msub 0) (s 0x8000 ctrMax)) 0).macStatus = 11) := by
  unfold StandsOp Stands; decide +kernel

/-- A submission with no job answers 0: of zeros, which a check refuses, and of ECC_KEYGEN on curve 1, which is accepted. -/
theorem test_JobPortComplete_submit :
    let s := fun p => atCell descrCell p
    let u := writeMems (s 0x80120000) d0 ([dataNat 0x24, dataNat 0x100, dataNat 0, dataNat 0] ++
      (List.range 4).map (frag (mkCap (d0 + 64) 16 3)) ++ List.replicate 4 (dataNat 0) ++ (List.range 4).map (frag (mkCap (d0 + 128) 32 3)))
    (StandsOp (s 0x80120000) 0 0x80 0x80120000 ∧ (given (s 0x80120000) 20 16).isSome ∧
      (getVat (s 0x80120000) 0).churn.kat = false ∧ g0 (after (.csub 0) (s 0x80120000)) 1 = ⟨.data, 0⟩ ∧
      (getCell (after (.csub 0) (s 0x80120000)) 0).churnStatus = 2) ∧
    (StandsOp u 0 0x80 0x80120000 ∧ (given u 20 16).isSome ∧ g0 (after (.csub 0) u) 1 = ⟨.data, 0⟩ ∧
      (getCell (after (.csub 0) u) 0).churnStatus = 1 ∧ ((tget (fun _ => none) (getVat (after (.csub 0) u) 0).churn.jobs 0).map (·.op)) = some 0x24) ∧
    (StandsOp (s 0x82120000) 0 0x82 0x82120000 ∧ (given (s 0x82120000) 24 18).isSome ∧
      (getVat (s 0x82120000) 0).mac.kat = false ∧ g0 (after (.msub 0) (s 0x82120000)) 1 = ⟨.data, 0⟩) := by
  unfold StandsOp Stands; decide +kernel
/-! ### The Parlour (R78 to R96) -/

/-- Pail 0 after a doorbell of the host port, in mode m, with REQ_HELD set or not. -/
def rung (s : State) (v : BitVec 32) : PailState := getPail (after (.doorbell .host 0 v) s) 0

/-- The five cases of R85: a full pail; the area held; BOOT; lengths 15 and 8193; lengths 16 and 8192. -/
theorem test_DoorbellComplete_all :
    let s := live mSERVICE
    let full := withBells s (List.replicate 16 (bell .rung))
    let held := setPail s 0 { getPail s 0 with reqHeld := true }
    portLive s .host = true ∧ portLive full .host = true ∧ (getPail full 0).queue.length = 16 ∧ (rung full 0x00070010).overflow = true ∧
      (rung full 0x00070010).queue.length = 16 ∧
    (getPail held 0).queue.length < 16 ∧ (rung held 0x00070010).queue.map (·.phase) = [.ready (respond 2 0 [])] ∧
    mode (live mBOOT) = mBOOT ∧ portLive (live mBOOT) .host = true ∧ (rung (live mBOOT) 0x00070010).queue.map (·.phase) = [.ready (respond 2 0 [])] ∧
    (rung s 0x0007000F).queue.map (·.phase) = [.ready (respond 0x11 0 [])] ∧ (rung s 0x00072001).queue.map (·.phase) = [.ready (respond 0x11 0 [])] ∧
    (rung s 0x00070010).queue.map (fun d => (d.phase, d.tag, d.length)) = [(.rung, 7, 16)] ∧ (rung s 0x00072000).queue.map (·.phase) = [.rung] ∧
    (rung s 0x00070010).nextSeq = 1 ∧ (after (.doorbell .host 0 0x00070010) s).evc.pend.getLsbD 608 = true := by
  decide +kernel

/-- Bytes 1 to 3 of pail 63's request area keep byte 0; the last byte of an area; a read and a write of BAR0 below 0x1000. -/
theorem test_HostWriteComplete_all :
    let s := writeMem (live mSERVICE) 0x301FE000 ⟨.data, 0xAABB⟩
    let w := after (.hostPailWrite .aux 0xFC001 [1, 2, 3]) s
    portLive s .aux = true ∧ (0xFC001 % 0x4000 + 3 ≤ 0x2000 ∧ 0xFC001 + 3 ≤ 0x100000) ∧ readMem w 0x301FE000 = ⟨.data, 0x01BB⟩ ∧
      readMem w 0x301FE001 = ⟨.data, 0x0302⟩ ∧ (getPail w 63).writerAux = true ∧ (getPail w 63).writerHost = false ∧
    readMem (after (.hostPailWrite .host 0x1FFF [9]) s) 0x30180FFF = ⟨.data, 0x0900⟩ ∧
    (after (.bar0BadAccess .host 0xFFF true) s).flt.first.map (fun r => (r.source, r.master, r.access)) = some (578, portMaster .host, .write) := by
  decide +kernel

/-- A response of one body byte: the header's words and then the byte; the ring entry it queues. -/
theorem test_ResponseRingComplete_response :
    let s := withBells { live mSERVICE with parlour := { (live mSERVICE).parlour with ringEn := true } } [bell (.ready (respond 3 0x101 [0x5A]))]
    let t := after (.responseDelivery 0) s
    (getPail s 0).respValid = false ∧ (getPail t 0).respValid = true ∧ (getPail t 0).queue = [] ∧ readMem t (responseBase 0) = ⟨.data, 3⟩ ∧ readMem t (responseBase 0 + 2) = ⟨.data, 0xFFFF⟩ ∧
      readMem t (responseBase 0 + 8) = ⟨.data, 0x005A⟩ ∧ s.parlour.held.length < 128 ∧
      t.parlour.held.map (fun e => (e.pail, e.seq, e.status, e.respLength)) = [(0, 0xFFFF, 3, 17)] := by
  decide +kernel

/-- A state whose ring is enabled, of 2^12 entries, with one entry held. -/
def ringed : State :=
  let s := live mSERVICE
  { s with parlour :=
    { s.parlour with ringEn := true, sizeLog2 := 12, base := 0x1000, head := 4095, tail := 1, index := 0xFFFF, held := [{ pail := 63, seq := 1, status := 0, respLength := 16, tag := 7, aux := false }] } }
/-- A port that may master the bus with MSI-X on. -/
def masterPort (s : State) : PortCfg := { getPort s .host with busMaster := true, msixEnable := true }

/-- The entry at slot 4095: head wraps to 0, INDEX from 0xFFFF to 0. -/
theorem test_ResponseRingComplete_ring :
    let s := setPort ringed .host (masterPort ringed)
    let t := after .ringEntryWrite s
    s.parlour.ringEn = true ∧ ringFull s = false ∧ ringPort s = .host ∧ (getPort s .host).busMaster = true ∧ portLive s .host = true ∧
      t.parlour.head = 0 ∧ t.parlour.index = 0 ∧ t.parlour.held = [] ∧
      .hostWrite .host 0x10FF0 [63, 0, 1, 0, 0, 0, 16, 0, 7, 0, 0, 0] ∈ t.sent ∧ .hostWrite .host 0x10FFC [0xFF, 0xFF, 0, 0x80] ∈ t.sent ∧
    (after .ringWriteError s).parlour.ringErr = true ∧ (after .ringWriteError s).parlour.held = [] ∧ (after .ringWriteError s).evc.pend.getLsbD 610 = true := by
  decide +kernel

/-- RESP_DONE, CLR_OVERFLOW, RING_EN both ways, STATUS_INT_EN and the tail of a ring of 4096. -/
theorem test_ResponseRingComplete_writes :
    let s := setPail ringed 0 { getPail ringed 0 with respValid := true, overflow := true }
    s.boot.step ≠ 0 ∧ (getPail (after (.respDone 0) s) 0).respValid = false ∧ (after (.respDone 0) s).evc.pend.getLsbD 609 = true ∧
      (getPail (after (.clrOverflow 0) s) 0).overflow = false ∧ (live mSERVICE).parlour.ringEn = false ∧
      (after (.ringEn true) (live mSERVICE)).parlour.ringEn = true ∧ (after (.ringEn false) s).parlour.held = [] ∧
      (after (.statusIntEn true) s).parlour.statusIntEn = true ∧ s.parlour.held ≠ [] ∧ (after (.prlRingTail 0xFFFFFFFF) s).parlour.tail = 4095 ∧
      (after (.prlRingTail 0xFFFFFFFF) s).evc.pend.getLsbD 610 = true := by
  decide +kernel

/-- Resets of the port whose ring runs, their end, configuration writes, a pending vector 64 sent, the sideband and the UART. -/
theorem test_PortComplete_all :
    let s := ringed
    let c := setPort s .host { masterPort s with pend := 1 <<< 64, masked := 1 <<< 64, message := [(64, (0xFEE00000, 0x4040))] }
    let r := after (.functionLevelReset .host) s
    hasMain s = true ∧ ringPort s = .host ∧ r.parlour.ringEn = false ∧ (getPort r .host).inReset = true ∧
      (after (.pcieFundamentalReset .host) s).parlour.held = [] ∧ (getPort (after (.pcieResetEnd .host) r) .host).inReset = false ∧
      (after (.pcieResetEnd .host) r).evc.pend.getLsbD 611 = true ∧
    (getPort c .host).inReset = false ∧ (getPort (after (.configurationSpaceWrite .host (.busMaster false)) c) .host).busMaster = false ∧
      (getPort (after (.configurationSpaceWrite .host (.msixEnable false)) c) .host).msixEnable = false ∧
      (getPort (after (.configurationSpaceWrite .host (.functionMask true)) c) .host).functionMask = true ∧
      (getPort (after (.configurationSpaceWrite .host (.vectorMask 0 true)) c) .host).masked.getLsbD 0 = true ∧
    (getPort c .host).functionMask = false ∧ (getPort c .host).pend.getLsbD 64 = true ∧ .msix .host 64 0xFEE00000 0x4040 ∈ (after (.msixUnmask .host (some 64)) c).sent ∧
      (getPort (after (.msixUnmask .host (some 64)) c) .host).pend.getLsbD 64 = false ∧
    (after .bmcSidebandWrite s).evc.pend.getLsbD 614 = true ∧ (after (.uartReceive 0xFF) s).evc.pend.getLsbD 615 = true := by
  decide +kernel

/-- BAR0 and BAR2 keep their size's low bits 0; ASPM; the entry of vector 64; a vector sent when the function mask is cleared. -/
theorem test_PortComplete_configuration :
    let s := setPort ringed .host { masterPort ringed with functionMask := true, pend := 1, masked := 0, message := [(0, (8, 9))] }
    let w := fun (x : CfgOp) => getPort (after (.configurationSpaceWrite .host x) s) .host
    (w (.bar false 0xFFFFFFFFFFFFFFFF)).bar0 = 0xFFFFFFFFFFFFE000 ∧ (w (.bar true 0xFFFFFFFFFFFFFFFF)).bar2 = 0xFFFFFFFFFFF00000 ∧
      (w (.aspmL1 true)).aspmL1 = true ∧ vectorMessage (w (.vectorMessage 64 7 0xFFFFFFFF)) 64 = (7, 0xFFFFFFFF) ∧
    (getPort s .host).masked.getLsbD 0 = false ∧ (getPort s .host).pend.getLsbD 0 = true ∧
      .msix .host 0 8 9 ∈ (after (.msixUnmask .host none) s).sent ∧ (getPort (after (.msixUnmask .host none) s) .host).functionMask = false := by
  decide +kernel
/-! ### The Parlour's supervisor side and the registers (R6 to R9, R83, R86) -/

/-- A request's header and body, with no authority block. -/
def requestBytes (c part : Nat) (body : Bytes) : Bytes :=
  leBytes 2 c ++ [0, 0, BitVec.ofNat 8 part, 3] ++ leBytes 2 body.length ++ zeros 8 ++ body
/-- A state in which pail 0 holds a doorbell of a request that waits to be taken. -/
def asked (s : State) (b : Bytes) : State :=
  let u := withBells (writeMems s (requestBase 0) ((packWords b).map fun v => ⟨.data, v⟩)) [{ bell .rung with length := b.length }]
  { setPail u 0 { getPail u 0 with reqHeld := true, writerHost := true } with evc := { u.evc with pails := 1 } }

/-- Commands 0xFFFF and 0x0101 (DEV.INFO): the first is refused by check 3 and counted, the second is taken on; DROPPED 0xFFFF. -/
theorem test_RequestTakeComplete_all :
    let bad := asked (live mSERVICE) (requestBytes 0xFFFF 0 [])
    let good := asked (live mSERVICE) (requestBytes 0x0101 0 [])
    let r := { live mSERVICE with parlour := { (live mSERVICE).parlour with dropped := 0xFFFF } }
    bad.evc.pails.getLsbD 0 = true ∧ hasMain bad = true ∧ bad.fw.resetDue = none ∧
      errs (checkRequest bad 16 (requestBytes 0xFFFF 0 [])) = some (3, sBAD_COMMAND, 0) ∧
      (getPail (after (.pailEventTake 0) bad) 0).queue.map (·.phase) = [.ready (respond sBAD_COMMAND 0xFFFF [])] ∧
      tget (fun _ => (0 : Nat)) (after (.pailEventTake 0) bad).rejects 2 = 1 ∧ (getPail (after (.pailEventTake 0) bad) 0).reqHeld = false ∧
    (oks (checkRequest good 16 (requestBytes 0x0101 0 []))).isSome = true ∧ 0x0101 ∉ cellCommands ∧
      (getPail (after (.pailEventTake 0) good) 0).queue.map (·.part) = [some 0] ∧ (after (.pailEventTake 0) good).evc.pails = 0 ∧
    portLive r .aux = true ∧ (after (.prlRingDropped .aux) r).lastRead = ⟨.data, 0xFFFF⟩ ∧ (after (.prlRingDropped .aux) r).parlour.dropped = 0 := by
  decide +kernel

/-- A request of DEV.ATTEST with 32 bytes 0 as nonce, under the credential of partition 1 with COUNTER 1. -/
def attestBytes : Bytes :=
  let front := leBytes 2 0x0102 ++ [0, 0, 1, 3] ++ leBytes 2 32 ++ leBytes 2 32 ++ zeros 6 ++ zeros 32
  let block := [2, 0, 32, 0, 0, 0, 0, 0] ++ leBytes 8 1
  front ++ block ++ cmac 3 (zeros 32) (front ++ block ++ zeros 6)
/-- It is taken on, as a command of the cells. -/
theorem test_RequestTakeComplete_cell :
    let s := setPart (live mSERVICE) 1 (some { partitionZero with key := zeros 32, pails := 1 })
    let u := asked s attestBytes
    u.evc.pails.getLsbD 0 = true ∧ hasMain u = true ∧ u.fw.resetDue = none ∧
      (oks (checkRequest u 80 attestBytes)).map (fun r => (r.command, r.part)) = some (0x0102, 1) ∧ 0x0102 ∈ cellCommands := by
  decide +kernel

/-- A state in which register w holds 0xFFFF. -/
def full (w : Nat) : State := setReg (live mSERVICE) w 0xFFFF
/-- A clearing read of register w by master 0: it is allowed, returns what the register holds and clears its RC bits. -/
def clears (c : Instr) (w : Nat) : Prop :=
  ReadAllowed (full w) 0 w ∧ (after c (full w)).lastRead = dataWord (peekReg (full w) w) ∧
    getReg (after c (full w)) w = 0xFFFF &&& ~~~((regSpec w).map (·.rc)).getD 0

/-- The clearing reads of a vat's registers, in the last vat that is powered, and VAT_SKIM_COUNT of a spare. -/
theorem test_ClearingReadsComplete_vat :
    clears (.vatSkimCount 0 33) (R.VAT_SKIM_COUNT 33) ∧ clears (.chnMismatch 0 31) (R.CHN_MISMATCH 31) ∧ clears (.chnOps 0 31) (R.CHN_OPS 31) ∧
      clears (.chnSwitches 0 31) (R.CHN_SWITCHES 31) ∧ clears (.macReseeds 0 31) (R.MAC_RESEEDS 31) ∧ clears (.rngRctPeak 0 31) (R.RNG_RCT_PEAK 31) ∧
      clears (.rngAptPeak 0 31) (R.RNG_APT_PEAK 31) ∧ clears (.rngFallback 0 31) (R.RNG_FALLBACK 31) := by
  unfold clears ReadAllowed; decide +kernel

/-- The clearing reads of the mesh, the access table, DMA and the flash controller, at the greatest index of each. -/
theorem test_ClearingReadsComplete_central :
    clears (.mshBicCount 0) R.MSH_BIC_COUNT ∧ clears (.mshLate 0) R.MSH_LATE ∧ clears (.actViolCount 0) R.ACT_VIOL_COUNT ∧
      clears (.mshRtrAgeMax 0 35) (R.MSH_RTR_AGE_MAX 35) ∧ clears (.mshRtrGrants 0 35 5) (R.MSH_RTR_GRANTS 35 5) := by
  unfold clears ReadAllowed; decide +kernel
theorem test_ClearingReadsComplete_memory :
    clears (.dmaChCount 0 63) (R.DMA_CH_COUNT 63) ∧ clears (.flcLinkErrs 0) R.FLC_LINK_ERRS ∧ clears (.flcRetryCount 0 7) (R.FLC_RETRY_COUNT 7) ∧
      clears (.flcCorrMax 0 7) (R.FLC_CORR_MAX 7) ∧ clears (.flcBusyReads 0 7) (R.FLC_BUSY_READS 7) ∧ clears (.fgpBlocked 0 31) (R.FGP_BLOCKED 31) := by
  unfold clears ReadAllowed; decide +kernel

/-- The clearing reads of the ports, slots, tag, tamper and fault blocks. -/
theorem test_ClearingReadsComplete_ports :
    clears (.dvpIbiCount 0 47) (R.DVP_IBI_COUNT 47) ∧ clears (.clkTrefStatus 0) R.CLK_TREF_STATUS ∧ clears (.cslErrs 0 15) (R.CSL_ERRS 15) ∧
      clears (.tagRefusals 0) R.TAG_REFUSALS ∧ clears (.tmpSrcCount 0 47) (R.TMP_SRC_COUNT 47) ∧ clears (.fltRecoveries 0) R.FLT_RECOVERIES ∧
      clears (.fltClassCount 0 3) (R.FLT_CLASS_COUNT 3) := by
  unfold clears ReadAllowed; decide +kernel

/-- CLK_TB(0) latches the other words; master 4 is refused ACT_VIOL_COUNT by an empty table. -/
theorem test_ClearingReadsComplete_timeBase :
    let s := { live mSERVICE with bat := { (live mSERVICE).bat with timeBase := 0xFFFF00020001 } }
    let u := { live mSERVICE with act := { (live mSERVICE).act with applied := [] } }
    ReadAllowed s 0 (R.CLK_TB 0) ∧ (after (.clkTb 0) s).lastRead = ⟨.data, 1⟩ ∧ getReg (after (.clkTb 0) s) (R.CLK_TB 1) = 2 ∧
      getReg (after (.clkTb 0) s) (R.CLK_TB 2) = 0xFFFF ∧
    hasMain u = true ∧ checkWord u 4 R.ACT_VIOL_COUNT .read false = some (.noRegion, none) ∧ (after (.actViolCount 4) u).flt.first.isSome = true := by
  unfold ReadAllowed; decide +kernel

/-- A DATA word replaces RW bits and clears a W1C bit; a SECRET word and a hole are recorded; an empty table refuses master 4. -/
theorem test_RegisterWriteComplete_all :
    let s := setReg (live mSERVICE) R.ACT_STATUS 0x2001
    let u := { s with act := { s.act with applied := [] } }
    let ok := fun (s : State) (m : Master) (w : Nat) => region w = .register ∧ hasMain s = true ∧ swapHolds s w = false ∧ isPort m = false
    let judged := fun (sec : Bool) (w : Nat) (hole : Bool) => checkWord s 512 w .write sec = none ∧ isHole s w true = hole
    (ok s 512 R.ACT_SEL ∧ judged false R.ACT_SEL false ∧ regBlock R.ACT_SEL = 6 ∧ (regSpec R.ACT_SEL).isSome = true ∧
      getReg (after (.registerWrite 512 (BitVec.ofNat 32 R.ACT_SEL) ⟨.data, 0xFFFF⟩) s) R.ACT_SEL = 0x3FF) ∧
    (ok s 512 R.ACT_STATUS ∧ judged false R.ACT_STATUS false ∧
      getReg (after (.registerWrite 512 (BitVec.ofNat 32 R.ACT_STATUS) ⟨.data, 0x2000⟩) s) R.ACT_STATUS = 1) ∧
    (judged true R.ACT_SEL false ∧ (after (.registerWrite 512 (BitVec.ofNat 32 R.ACT_SEL) ⟨.secret, 1⟩) s).flt.first.map (·.access) = some .tag) ∧
    (ok s 512 (R.ACT_SEL + 0xFD) ∧ judged false (R.ACT_SEL + 0xFD) true ∧
      (after (.registerWrite 512 (BitVec.ofNat 32 (R.ACT_SEL + 0xFD)) ⟨.data, 1⟩) s).flt.first.isSome = true) ∧
    (ok u 4 R.CLK_TREF_STATUS ∧ checkWord u 4 R.CLK_TREF_STATUS .write false = some (.noRegion, none) ∧
      (after (.registerWrite 4 (BitVec.ofNat 32 R.CLK_TREF_STATUS) ⟨.data, 1⟩) u).flt.first.isSome = true) ∧
    (isPort 577 = true ∧ regBlock R.ACT_SEL ≠ 1 ∧ getReg (after (.registerWrite 577 (BitVec.ofNat 32 R.ACT_SEL) ⟨.data, 1⟩) s) R.ACT_SEL = 0) := by
  decide +kernel

/-! ### JTAG, power and boot (R44 to R53, R67, R451, R562) -/

/-- A device whose guard level is n (R68). -/
def levelled (n : Nat) : State := setFld (live mSERVICE) R.FLC_PROT 1 0 n

/-- The levels 0 to 2: debug at Open alone, EXTEST below Sealed. -/
theorem test_JtagComplete_all :
    let s := writeMem (levelled 0) 0 ⟨.secret, 7⟩
    hasMain s = true ∧ protection (levelled 1) ≠ 2 ∧ protection (levelled 2) = 2 ∧ mode (levelled 2) ≠ mTEST ∧ debugOpen (levelled 1) = false ∧
      .port "boundary" 0 [3] ∈ (after (.jtagInstruction (.extest 3)) (levelled 1)).sent ∧
      (after (.jtagInstruction (.extest 3)) (levelled 2)).sent = [] ∧
      debugOpen s = true ∧ isHole s 0 false = false ∧ region 0 = .supervisor ∧ (after (.jtagInstruction (.debugRead 0)) s).lastRead = zeroWord ∧
      readMem (after (.jtagInstruction (.debugWrite 0 ⟨.data, 9⟩)) s) 0 = ⟨.data, 9⟩ ∧
      readMem (after (.jtagInstruction (.debugWrite 0 ⟨.data, 9⟩)) (levelled 1)) 0 = zeroWord ∧
      readMem (after (.jtagInstruction (.debugWrite 0 ⟨.code, 9⟩)) s) 0 = ⟨.secret, 7⟩ ∧
      (readMem (writeMem s 0 ⟨.code, 7⟩) 0).tag = .code ∧ readMem (after (.jtagInstruction (.debugWrite 0 ⟨.data, 9⟩)) (writeMem s 0 ⟨.code, 7⟩)) 0 = ⟨.code, 7⟩ := by
  decide +kernel

/-- A device without main power, in mode m. -/
def dark (m : Nat) : State := { live m with ext := { (live m).ext with mainPower := false } }

/-- A device before its first OTP program. -/
def blankOtp (s : State) : State := { s with otp := [] }

/-- Power comes in VIGIL and with no battery before TEST is left; pulses of 999 and 10000 ns; resets; a dip and its end. -/
theorem test_PowerComplete_resets :
    let s := live mSERVICE
    let d := after (.dipBegin 8) s
    hasMain (dark mVIGIL) = false ∧ mode (dark mVIGIL) = mVIGIL ∧ mode (after .powerOnRelease (dark mVIGIL)) = mBOOT ∧
      getReg (after .powerOnRelease (dark mVIGIL)) R.PWR_RSTCAUSE = 0x11 ∧ fuseBlown (blankOtp (dark 0)) oTEST_EXIT = false ∧ mode (after .powerOnRelease (blankOtp (dark 0))) = mTEST ∧
      (after (.pinReset 10000) s).boot.step = 0 ∧ getReg (after (.pinReset 10000) s) R.PWR_RSTCAUSE = 3 ∧
      getReg (after (.pinReset 10000) s) R.PWR_MODE = BitVec.ofNat 16 (mSERVICE * 16 + mBOOT) ∧ (after (.pinReset 999) s).boot.step = 13 ∧
      s.boot.step ≠ 0 ∧ getReg (after .firmwareReset s) R.PWR_RSTCAUSE = 5 ∧ (after .recoveryRequestReset s).boot.recoveryRequest = true ∧
      s.ext.dip = none ∧ d.ext.dip = some 8 ∧ d.ext.dip ≠ none ∧ (after .dipEnd d).ext.dip = none := by
  decide +kernel

/-- Main power goes with the battery there and not; the battery goes with and without main power. -/
theorem test_PowerComplete_losses :
    let s := fun v => { live mSERVICE with ext := { (live mSERVICE).ext with dip := some 0, vbat := v },
                                           bat := { (live mSERVICE).bat with bootCounter := 5 } }
    hasMain (s true) = true ∧ (s true).ext.dip ≠ none ∧ (after .mainPowerLoss (s true)).bat.bootCounter = 5 ∧
      (after .mainPowerLoss (s true)).ext.mainPower = false ∧ (after .mainPowerLoss (s false)).bat = { State.reset.bat with lost := true } ∧
      (after .vbatLoss (s true)).ext.vbat = false ∧ (getSrc (after .vbatLoss (s true)) 38).firing = true ∧ (after .vbatLoss (dark mVIGIL)).bat.lost = true ∧ mode (after .vbatLoss (dark mVIGIL)) = 0 := by
  decide +kernel

/-- A device whose scrubbing ends next, in mode m. -/
def scrubbed (m : Nat) : State := { live m with boot := { (live m).boot with step := 0 } }
/-- Every self-test passes and every slot is whole. -/
def whole : SlotChecks := ⟨true, true⟩
/-- A device whose fuse SPENT is programmed. -/
def spentOtp (s : State) : State := (fuseBits s oSPENT).foldl (fun s q => otpSet s q.1 q.2) s
/-- Every source of the noise has passed its start-up tests (R284). -/
def started (s : State) : State := (List.range 34).foldl (fun s p => modNoise s p fun x => { x with state := 2 }) s

/-- Scrubbing ends in TEST; with the spend latch; with the fuse and the whole seed; with sources still to be tested; and, all tested,
with a self-test that failed. -/
theorem test_BootComplete_modes :
    let l := { scrubbed mBOOT with bat := { (scrubbed mBOOT).bat with spendLatch := true } }
    let f := { spentOtp (scrubbed mBOOT) with seedSet := BitVec.allOnes 256 }
    let b := started (scrubbed mBOOT)
    let go := fun (ok : Bool) s => after (.scrubComplete ok whole whole) s
    hasMain (scrubbed mTEST) = true ∧ (go true (scrubbed mTEST)).boot.step = 13 ∧ hasMain l = true ∧ l.boot.step = 0 ∧ mode l ≠ mTEST ∧
      l.bat.spendLatch = true ∧ fuseBlown l oSPENT = false ∧ (go true l).fw.otpJob.map (·.next) = some .decom ∧
    fuseBlown f oSPENT = true ∧ seedBits f = [] ∧ hasMain f = true ∧ mode f ≠ mTEST ∧
    (getVat (bootStep2 (bootStep1 { clocksSettled (scrubbed mBOOT) with boot := { (scrubbed mBOOT).boot with checks := ⟨true, whole, whole⟩, step := 1 } }).2) 31).noise.state = 1 ∧
      (bootStep1 { clocksSettled b with boot := { b.boot with checks := ⟨false, whole, whole⟩, step := 1 } }).1 = false ∧ (go true (scrubbed mBOOT)).boot.step = 3 ∧
    ((List.range 34).all fun p => decide ((getVat (bootStep2 (bootStep1 { clocksSettled b with boot := { b.boot with checks := ⟨false, whole, whole⟩, step := 1 } }).2) p).noise.state ≠ 1)) = true ∧
      mode (go false b) = mRECOVERY ∧ getFld (go false b) R.PWR_MODE 12 8 = 4 := by
  decide +kernel

/-- The last wait of a release order of 255 units, of none that is met, and of one that is not. -/
theorem test_BootComplete_release :
    let w := fun (t : Nat) => { live mBOOT with boot := { (live mBOOT).boot with step := 15 }, fw := { (live mBOOT).fw with release := [(0, 1, t)] } }
    (w 255).boot.step = 15 ∧ bootReason (w 255) = 0 ∧ mode (after (.releaseWaitEnd false) (w 255)) = mSERVICE ∧
    waitMet (w 256) 0 1 0 = false ∧ mode (after (.releaseWaitEnd false) (w 256)) = mSERVICE ∧
      (after (.releaseWaitEnd false) (w 256)).flt.first.map (·.source) = some 612 := by
  decide +kernel

/-- Bit 15 of OTP word 3 takes its pulse, misses its first and its second, as a fuse's bit does and as one of an owner slot; bit 255 of
the seed takes its pulse. -/
theorem test_BootComplete_otp :
    let s := fun b r n => { live mSERVICE with fw := { (live mSERVICE).fw with otpJob := some { bits := b, repeated := r, next := n } } }
    let a := s [(3, 15), (3, 14)] false .none
    let x := s [(3, 15), (3, 14)] true .none
    let o := s [(3, 15), (3, 14)] true (.owner 0 1 [])
    let h := s [(4111, 15)] false .decom
    let t := after (.otpPulseEnd true) a
    a.ext.dip = none ∧ (otpWord t 3).getLsbD 15 = true ∧ t.fw.otpJob.map (·.bits) = some [(3, 14)] ∧
      (after (.otpPulseEnd false) a).fw.otpJob.map (fun j => (j.bits.length, j.repeated)) = some (2, true) ∧
      (after (.otpPulseEnd false) x).fw.otpJob.map (fun j => (j.bits, j.repeated)) = some ([(3, 14)], false) ∧
      (after (.otpPulseEnd false) o).fw.otpJob.map (·.bits) = some [] ∧ (otpWord (after (.otpPulseEnd false) o) 3).getLsbD 15 = false ∧
      (after (.otpPulseEnd true) h).seedSet = 1 <<< 255 ∧ (after (.otpPulseEnd true) h).fw.otpJob.map (·.bits) = some [] := by
  decide +kernel

/-- The end of a program that leaves nothing to do, of SPENT by a pail with its fuse programmed, and of a decommissioning without it. -/
theorem test_BootComplete_otpEnd :
    let s := fun (u : State) n => { u with fw := { u.fw with otpJob := some { bits := [], repeated := false, next := n } } }
    let a := s (live mSERVICE) .none
    let b := s (spentOtp (live mSERVICE)) (.spent 0)
    let c := s (live mSERVICE) .decom
    a.ext.dip = none ∧ (after .otpProgramEnd a).fw.otpJob = none ∧ (after .otpProgramEnd a).evc.pend.getLsbD 616 = true ∧
      fuseBlown b oSPENT = true ∧ (after .otpProgramEnd b).fw.otpJob = none ∧
      fuseBlown c oSPENT = false ∧ (after .otpProgramEnd c).fw.otpJob.map (·.bits) = some (fuseBits c oSPENT) := by
  decide +kernel

/-- The tally takes the counts; a temperature-log entry is written where no tag job is. -/
theorem test_BootComplete_tally :
    let y := setFld (setReg (live mSERVICE) (R.TMP_SRC_COUNT 47) 0xFF) (R.FLT_CLASS_COUNT 3) 7 0 9
    mode y = mSERVICE ∧ (after .tallyWrite y).store.tally.faults = y.store.tally.faults + classSum y ∧ getFld (after .tallyWrite y) (R.TMP_SRC_COUNT 47) 7 0 = 0 ∧
    y.tag.job = none ∧ tagWriteRefused y 3 = none ∧ (after (.tempLogEntry 0xFFFF 0) y).tag.job.map (·.record) = some 3 := by
  decide +kernel

/-- The entry is built while no port is PENDING and every measured port has its result. -/
theorem test_BootComplete_entry :
    let s := { live mBOOT with boot := { (live mBOOT).boot with step := 10 } }
    s.boot.step = 10 ∧ ((List.range 32).all fun p => decide (modeNow s p ≠ 3)) = true ∧ ((List.range 48).all fun p => !dvpMeasured s p) = true := by
  decide +kernel
/-! ### Requests carried out by firmware (R109 to R121) -/

/-- DEV.INFO in SPENT; with 256 random bits to draw; with none, every source stopped, and one at work. -/
theorem test_DeviceCommandsComplete_info :
    let bits := fun (s : State) n => takenIn { setReg s R.RNG_CQ_CFG 0 with central := { s.central with bits := n } } (reqOf 0x0101 0 [])
    let p := takenIn (live mSPENT) (reqOf 0x0101 0 [])
    isTaken p 0x0101 = true ∧ mode p = mSPENT ∧
    isTaken (bits rich 256) 0x0101 = true ∧ mode (bits rich 256) ≠ mSPENT ∧ softEnough (bits rich 256) 32 = true ∧
      (after (.devInfo 0) (bits rich 256)).central.bits = 0 ∧ (after (.devInfo 0) (bits rich 256)).fw.challenges.length = 1 ∧
    mode (bits noiseless 255) ≠ mSPENT ∧ softEnough (bits noiseless 255) 32 = false ∧ allStopped (bits noiseless 255) = true ∧
      (answered (after (.devInfo 0) (bits noiseless 255))).map (·.1) = some sRNG_STOPPED ∧
    softEnough (bits rich 255) 32 = false ∧ allStopped (bits rich 255) = false ∧ isTaken (after (.devInfo 0) (bits rich 255)) 0x0101 = true := by
  decide +kernel

/-- A request of a command whose body is b, carried out by cell 0 of vat 0. -/
def atWork (c : Nat) (b : Bytes) : State := cellIn worked (reqOf c 0 b)
/-- DEV.ATTEST with its vat fed, with runs that differ, and with the vat's source stopped: with bits of no vat, and with every source
stopped. -/
theorem test_DeviceCommandsComplete_attest :
    let r := reqOf 0x0102 0 (zeros 32)
    let a := atWork 0x0102 (zeros 32)
    let x := fun (s : State) => { modNoise s 0 (fun y => { y with state := 3 }) with central := { s.central with bits := 255 } }
    let z := (List.range 32).foldl (fun s n => modNoise s n fun y => { y with state := 3 }) a
    cellHas a 0x0102 r = true ∧ isFed a (256 + (allDraws 0x11 192 p256).sum) = true ∧
      done (after (.devAttest 0 true) a) = some (sFAULT_DETECTED, []) ∧
    cellHas (x a) 0x0102 r = true ∧ (getVat (x a) 0).noise.state = 3 ∧ (x a).central.bits < 256 ∧ allStopped (x a) = false ∧ done (after (.devAttest 0 true) (x a)) = none ∧
    cellHas (x z) 0x0102 r = true ∧ (getVat (x z) 0).noise.state = 3 ∧ (x z).central.bits < 256 ∧ (getVat (x z) 0).wants = [] ∧ allStopped (x z) = true ∧ done (after (.devAttest 0 true) (x z)) = some (sRNG_STOPPED, []) := by
  decide +kernel

/-- DEV.RESET and its delay. -/
theorem test_DeviceCommandsComplete_reset :
    let r := takenIn rich (reqOf 0x0103 0 [1])
    let w := { rich with fw := { rich.fw with devResetDue := some true } }
    isTaken r 0x0103 = true ∧ answered (after (.devReset 0) r) = some (sOK, []) ∧
    hasMain w = true ∧ w.boot.step ≠ 0 ∧ (after .devResetDelay w).boot.recoveryRequest = true ∧ (after .devResetDelay w).boot.step = 0 := by
  decide +kernel

/-- DEV.SET_PROTECTION to the level in force, down from 2 and from 1, up to 1 and to 2; a lowering that is due. -/
theorem test_DeviceCommandsComplete_protection :
    let s := fun now want => takenIn (setFld rich R.FLC_PROT 1 0 now) (reqOf 0x0104 0 [want])
    let l := { rich with fw := { rich.fw with lowerDue := true } }
    isTaken (s 0 0) 0x0104 = true ∧ otpBusy (s 0 0) = false ∧ protection (s 2 1) = 2 ∧ protection (s 1 0) = 1 ∧
      answered (after (.devSetProtection 0) (s 0 0)) = some (sOK, []) ∧ answered (after (.devSetProtection 0) (s 2 1)) = some (sNO_AUTHORITY, []) ∧
      (after (.devSetProtection 0) (s 1 0)).bat.lowerPending = true ∧ protection (after (.devSetProtection 0) (s 0 1)) = 1 ∧
      (after (.devSetProtection 0) (s 1 2)).fw.otpJob.map (·.bits) = some (fuseBits (s 1 2) oSEALED) ∧
    hasMain l = true ∧ l.boot.step ≠ 0 ∧ l.fw.lowerDue = true := by
  decide +kernel

/-- DEV.SPEND; a decommissioning that is due without the fuse, without the seed, and with both, as a command and at BOOT step 1. -/
theorem test_DeviceCommandsComplete_spend :
    let s := takenIn rich (reqOf 0x0105 0 [])
    let d := { rich with fw := { rich.fw with spendDue := true } }
    let f := (fuseBits d oSPENT).foldl (fun s q => otpSet s q.1 q.2) d
    let e := { f with seedSet := BitVec.allOnes 256 }
    isTaken s 0x0105 = true ∧ otpBusy s = false ∧ (after (.devSpend 0) s).bat.spendLatch = true ∧
    d.boot.step ≠ 0 ∧ hasMain d = true ∧ d.ext.dip = none ∧ d.fw.spendDue = true ∧ d.fw.otpJob = none ∧ fuseBlown d oSPENT = false ∧
      (after .decommissioning d).fw.otpJob.map (·.bits) = some (fuseBits d oSPENT) ∧
    f.fw.otpJob = none ∧ fuseBlown f oSPENT = true ∧ seedBits f ≠ [] ∧ (after .decommissioning f).fw.otpJob.map (·.bits) = some (seedBits f) ∧
    fuseBlown e oSPENT = true ∧ seedBits e = [] ∧ e.boot.step ≠ 1 := by
  decide +kernel

/-- The state of a device that boots and finds itself spent. -/
theorem test_DeviceCommandsComplete_spentBoot :
    let d := { rich with fw := { rich.fw with spendDue := true }, boot := { rich.boot with step := 1 } }
    let e := { (fuseBits d oSPENT).foldl (fun s q => otpSet s q.1 q.2) d with seedSet := BitVec.allOnes 256 }
    e.fw.spendDue = true ∧ hasMain e = true ∧ e.ext.dip = none ∧ e.fw.otpJob = none ∧ fuseBlown e oSPENT = true ∧ seedBits e = [] ∧ e.boot.step = 1 := by
  decide +kernel

/-- A device with an owner: slot 0 holds a hash and its CRC (R58, R63). -/
def withOwner (s : State) : State := (ownerBits s 0 (zeros 31 ++ [1])).foldl (fun s q => otpSet s q.1 q.2) s
/-- OWN.CLAIM of an unclaimed device, with the share refused, and of one that has an owner; a generation whose test fails. -/
theorem test_OwnerPartitionComplete_claim :
    let r : Request := { reqOf 0x0201 0 [] with auth := .owner [1] [2] }
    let s := takenIn rich r
    let x := { s with tmp := { s.tmp with shareRefused := true } }
    let o := takenIn (withOwner rich) r
    isTaken s 0x0201 = true ∧ otpBusy s = false ∧ ownerSlot s = none ∧ emptySlot s = some 0 ∧ s.tmp.shareRefused = false ∧
      answered (after (.ownClaim 0 false) s) = some (sFAULT_DETECTED, []) ∧
    isTaken x 0x0201 = true ∧ otpBusy x = false ∧ ownerSlot x = none ∧ emptySlot x = some 0 ∧ x.tmp.shareRefused = true ∧
    isTaken o 0x0201 = true ∧ otpBusy o = false ∧ ownerSlot o = some 0 ∧ answered (after (.ownClaim 0 true) o) = some (sWRONG_MODE, []) := by
  decide +kernel
/-- OWN.TRANSFER to the next slot and OWN.REKEY, each with a generation whose test fails too. -/
theorem test_OwnerPartitionComplete_transfer :
    let x := takenIn (withOwner rich) (reqOf 0x0202 0 [1])
    let k := takenIn (withOwner rich) (reqOf 0x0203 0 [])
    isTaken x 0x0202 = true ∧ otpBusy x = false ∧ x.fw.ring = none ∧ emptySlot x = some 1 ∧ x.tmp.shareRefused = false ∧
      answered (after (.ownTransfer 0 false) x) = some (sFAULT_DETECTED, []) ∧
    isTaken k 0x0203 = true ∧ k.tmp.shareRefused = false ∧
      answered (after (.ownRekey 0 false) k) = some (sFAULT_DETECTED, []) := by
  decide +kernel
/-- A doorbell whose command began at time 0, at 10 s and one microsecond past it. -/
def soughtAt (s : State) (r : Request) (n : BitVec 48) : State :=
  withBells { s with bat := { s.bat with timeBase := n } } [{ bell (.taken r) with since := some 0 }]
/-- How a try of the search for a Herd Book key ends, where it finds none. -/
def tried (s : State) : Option Nat :=
  match (herdTry s).1 with
  | .error e => some e
  | .ok _ => none
/-- The search for a key at its limit of 10 s and past it, in each of the three commands; with every source stopped; a transfer while a
write of the ring goes on. -/
theorem test_OwnerPartitionComplete_search :
    let c : Request := { reqOf 0x0201 0 [] with auth := .owner [1] [2] }
    let late := fun (s : State) r => soughtAt s r 10000001
    let n := takenIn noiseless c
    let w := takenIn { withOwner rich with fw := { (withOwner rich).fw with ring := some { slot := 1, fails := 0, begun := true } } } (reqOf 0x0202 0 [1])
    isTaken (late rich c) 0x0201 = true ∧ answered (after (.ownClaim 0 true) (late rich c)) = some (sINTERNAL, []) ∧
      answered (after (.ownClaim 0 false) (soughtAt rich c 10000000)) = some (sFAULT_DETECTED, []) ∧
    answered (after (.ownTransfer 0 true) (late (withOwner rich) (reqOf 0x0202 0 [1]))) = some (sINTERNAL, []) ∧
    answered (after (.ownRekey 0 true) (late (withOwner rich) (reqOf 0x0203 0 []))) = some (sINTERNAL, []) ∧
    isTaken n 0x0201 = true ∧ otpBusy n = false ∧ ownerSlot n = none ∧ tried n = some sRNG_STOPPED ∧
      answered (after (.ownClaim 0 true) n) = some (sRNG_STOPPED, []) ∧
    isTaken w 0x0202 = true ∧ w.fw.ring.isSome = true ∧ isTaken (after (.ownTransfer 0 true) w) 0x0202 = true := by
  decide +kernel

/-- A device with partition 0 that owns everything and partition 15 of four pails. -/
def parted : State :=
  setPart (setPart rich 0 (some partitionZero)) 15 (some { partitionZero with key := zeros 32, gen := 0xFFFF, pails := 4, share := 1 })
/-- A body of PART.CREATE: partition, then quotas (R119). -/
def quotaBody (i : BitVec 8) (keys : BitVec 8) : Bytes := [i, 0, keys, 0, 0, 0, 0, 0, 0, 1, 1, 0]

/-- PART.CREATE of a partition that is there, of one whose quotas do not fit, and of one whose do. -/
theorem test_OwnerPartitionComplete_create :
    let s := fun i q => takenIn parted (reqOf 0x0301 0 (quotaBody i q))
    let big : Bytes := [14, 0, 1, 0, 1, 0, 0, 0, 0, 1, 1, 0]
    let b := takenIn parted (reqOf 0x0301 0 big)
    let dry := fun (u : State) => takenIn { setReg u R.RNG_CQ_CFG 0 with central := { u.central with bits := 511 } } (reqOf 0x0301 0 (quotaBody 14 0))
    softEnough (s 14 0) 64 = true ∧ isTaken (dry parted) 0x0301 = true ∧ getPart (dry parted) 14 = none ∧ quotasFit (dry parted) 14 (quotaBody 14 0) = true ∧
      softEnough (dry parted) 64 = false ∧ allStopped (dry parted) = false ∧ getPart (dry noiseless) 14 = none ∧
      quotasFit (dry noiseless) 14 (quotaBody 14 0) = true ∧ softEnough (dry noiseless) 64 = false ∧ allStopped (dry noiseless) = true ∧
      answered (after (.partCreate 0) (dry noiseless)) = some (sINTERNAL, []) ∧
    isTaken (s 14 0) 0x0301 = true ∧ getPart (s 14 0) 14 = none ∧ quotasFit (s 14 0) 14 (quotaBody 14 0) = true ∧
      getPart (s 15 0) 15 ≠ none ∧ answered (after (.partCreate 0) (s 15 0)) = some (sEXISTS, []) ∧
    isTaken b 0x0301 = true ∧ getPart b 14 = none ∧ quotasFit b 14 big = false ∧ answered (after (.partCreate 0) b) = some (sQUOTA, []) := by
  decide +kernel

/-- NEW_CREDENTIAL at generation 0xFFFF, STATUS, SET_QUOTA within and above what is left, and DELETE of partition 15; DELETE of none. -/
theorem test_OwnerPartitionComplete_rest :
    let s := fun c b => takenIn parted (reqOf c 0 b)
    let big : Bytes := [15, 0, 1, 0, 1, 0, 0, 0, 0, 1, 1, 0]
    let e := { s 0x0302 [15] with act := { rich.act with shadow := [(511, { openEntry with owner := 15 })] } }
    softEnough (s 0x0305 [15]) 64 = true ∧ isTaken e 0x0302 = true ∧ (shadowEntry e 511).owner.toNat = 15 ∧ (appliedEntry e 511).lock = false ∧
      (shadowEntry e 511).enable = true ∧ (shadowEntry (after (.partDelete 0) e) 511).enable = false ∧
    (getPart parted 15).isSome = true ∧ isTaken (s 0x0305 [15]) 0x0305 = true ∧ isTaken (s 0x0304 [15]) 0x0304 = true ∧
      (answered (after (.partStatus 0) (s 0x0304 [15]))).map (fun a => (a.1, a.2.take 4)) = some (sOK, [15, 0, 0xFF, 0xFF]) ∧
    isTaken (s 0x0303 (quotaBody 15 2)) 0x0303 = true ∧ quotasFit (s 0x0303 (quotaBody 15 2)) 15 (quotaBody 15 2) = true ∧
      (getPart (after (.partSetQuota 0) (s 0x0303 (quotaBody 15 2))) 15).map (·.keys) = some 2 ∧
    quotasFit (s 0x0303 big) 15 big = false ∧ answered (after (.partSetQuota 0) (s 0x0303 big)) = some (sQUOTA, []) ∧
    isTaken (s 0x0302 [15]) 0x0302 = true ∧ pailsUse (s 0x0302 [15]) 15 = 0 ∧
      (s 0x0302 [15]).fw.quorums.any (fun x => decide (x.part = 15)) = false ∧ getPart (after (.partDelete 0) (s 0x0302 [15])) 15 = none ∧
    getPart (s 0x0302 [14]) 14 = none ∧ answered (after (.partDelete 0) (s 0x0302 [14])) = some (sNOT_FOUND, []) := by
  decide +kernel
/-! ### Keys and counters (R122 to R128) -/

/-- KEY.GENERATE of a COUNTED key whose counter is another's; of types 1 and 6; to a slot in use; of types 0x10 and 0x12. -/
theorem test_KeyCounterComplete_generate :
    let body := fun (t hi slot ctr : BitVec 8) => ([t, 0, 0, hi, slot, 0, ctr, ctr] : Bytes)
    let s := fun t hi slot ctr => atWork 0x0401 (body t hi slot ctr)
    let has := fun t hi slot ctr => cellHas (s t hi slot ctr) 0x0401 (reqOf 0x0401 0 (body t hi slot ctr))
    let fed := fun t => isFed (s t 0 7 0xFF) (8 * keyBytesOf t.toNat + storeBits (keyBytesOf t.toNat))
    has 1 4 7 0 = true ∧ ownCounter (s 1 4 7 0) (reqOf 0x0401 0 (body 1 4 7 0)) 0 = false ∧
      done (after (.keyGenerate 0 .agree) (s 1 4 7 0)) = some (sNOT_FOUND, []) ∧
    has 1 0 7 0xFF = true ∧ oks (pickSlot (s 1 0 7 0xFF) 7 (keyBytesOf 1)) = some 7 ∧ (getVat (s 1 0 7 0xFF) 0).mac.ownerRoot = true ∧ fed 1 = true ∧
      done (after (.keyGenerate 0 .mac) (s 1 0 7 0xFF)) = some (sINTERNAL, []) ∧
    has 6 0 7 0xFF = true ∧ oks (pickSlot (s 6 0 7 0xFF) 7 (keyBytesOf 6)) = some 7 ∧ fed 6 = true ∧
    has 0x10 0 7 0xFF = true ∧ oks (pickSlot (s 0x10 0 7 0xFF) 7 (5 * rsaHalf 0x10)) = some 7 ∧
    has 0x12 0 7 0xFF = true ∧ oks (pickSlot (s 0x12 0 7 0xFF) 7 (5 * rsaHalf 0x12)) = some 7 ∧
      (done (after (.keyGenerate 0 .agree) (s 0x12 0 7 0xFF))).map (·.1) = some sPENDING := by
  decide +kernel
/-- A READY key of a type and usage in partition 0, with a public part. -/
def keyOf (type : Nat) (usage : BitVec 16) (pub : Bytes) : KeySlot :=
  { state := 2, type := type, curve := 0, part := 0, usage := usage, counter := 0xFFFF, kcv := [1, 2, 3], record := [], pub := pub }
/-- KEY.GENERATE to a slot in use; of a key of curve 1, to which the vat's queue can give all it draws; a generation that times out. -/
theorem test_KeyCounterComplete_more :
    let b : Bytes := [1, 0, 0, 0, 7, 0, 0xFF, 0xFF]
    let e : Bytes := [0x20, 1, 0, 0, 7, 0, 0xFF, 0xFF]
    let s := setKey (atWork 0x0401 b) 7 (some (keyOf 1 0 []))
    let c := atWork 0x0401 e
    let w := setKey rich 0xFFFE (some { keyOf 0x10 0 [] with state := 1 })
    cellHas s 0x0401 (reqOf 0x0401 0 b) = true ∧ errs (pickSlot s 7 (keyBytesOf 1)) = some sEXISTS ∧
      done (after (.keyGenerate 0 .agree) s) = some (sEXISTS, []) ∧
    cellHas c 0x0401 (reqOf 0x0401 0 e) = true ∧ storeCurve c 1 = some p256 ∧ oks (pickSlot c 7 (scalarBytes p256)) = some 7 ∧
      (getVat c 0).mac.ownerRoot = true ∧ isFed c ((allDraws 0x24 0 p256).sum + storeBits (scalarBytes p256)) = true ∧
      done (after (.keyGenerate 0 .churn) c) = some (sFAULT_DETECTED, []) ∧
    (getKey w 0xFFFE).map (·.state) = some 1 ∧ (getKey (after (.keyGenerationTimeout 0xFFFE) w) 0xFFFE).map (·.state) = some 3 := by
  decide +kernel

/-- KEY.IMPORT of a public RSA key of 256 bytes, and of the base point of P-256. -/
theorem test_KeyCounterComplete_import :
    let body : Bytes := [2, 0x30, 0, 0, 2, 0, 0, 0, 0xFF, 0xFF, 0, 1, 0, 0, 0, 0] ++ List.replicate 256 0xFF
    let ecc : Bytes := [3, 1, 2, 0, 2, 0, 0, 0, 0xFF, 0xFF, 65, 0, 0, 0, 0, 0] ++ [4] ++ beBytes 32 p256.gx ++ beBytes 32 p256.gy
    isFed (atWork 0x0402 body) (storeBits 256) = true ∧ (getVat (atWork 0x0402 body) 0).mac.ownerRoot = true ∧ isFed (atWork 0x0402 ecc) (storeBits 65) = true ∧
    cellHas (atWork 0x0402 body) 0x0402 (reqOf 0x0402 0 body) = true ∧ byteAt body 0 = 2 ∧ (body.drop 16).length = 256 ∧ u16 body 8 = 0xFFFF ∧
      oks (pickSlot (atWork 0x0402 body) (u16 body 4) 256) = some 2 ∧
    cellHas (atWork 0x0402 ecc) 0x0402 (reqOf 0x0402 0 ecc) = true ∧ byteAt ecc 0 = 3 ∧ storeCurve (atWork 0x0402 ecc) 1 = some p256 ∧
      pointOf p256 (ecc.drop 16) = some (p256.gx, p256.gy) ∧ u16 ecc 8 = 0xFFFF ∧ oks (pickSlot (atWork 0x0402 ecc) 2 65) = some 2 := by
  decide +kernel

/-- The key of 32 bytes 7. -/
def sevens : Bytes := List.replicate 32 7
/-- The body of KEY.IMPORT of a blob under the key of slot 1, into slot 5. -/
def importBody (blob : Bytes) : Bytes := [1, 0, 0xFF, 7, 5, 0, 1, 0, 0xFF, 0xFF] ++ leBytes 2 blob.length ++ zeros 4 ++ blob
/-- KEY.IMPORT of no blob under that key, whose check fails. -/
theorem test_KeyCounterComplete_importError :
    let r := reqOf 0x0402 0 (importBody [])
    let s := keyedCell r 3 sevens 0x20 sevens
    ∃ kw, TakenCell s 0 0x0402 (bellOf r) r 0 0 0 ∧ byteAt r.body 0 = 1 ∧ needKey s (bellOf r) r (u16 r.body 6) 6 = .ok kw ∧ kw.type ≤ 3 ∧
      chargeUse s kw = (true, s) ∧ OpensTo s 0 1 kw sevens ∧ openBlob s sevens (r.body.drop 16) = .error (sINTEGRITY, 0) ∧
      Fed s 0 (openBits kw + maskBits (kwBlocks (r.body.drop 16).length)) := by
  obtain ⟨k1, k2, h, hn, c1, _, o1, _, b1, _, t1, _⟩ := keyedCell_meets (reqOf 0x0402 0 (importBody [])) 3 sevens 0x20 sevens rfl (by decide) (by decide)
  exact ⟨k1, h, by decide, (hn 6 (by decide)).1, by omega, c1 _, o1, rfl, keyedCell_fed _ _ _ _ _ _ (by rw [b1]; decide)⟩
/-- A key of type 1 wrapped under it. -/
def wrapped1 : Bytes := kwWrap sevens (keyBlock 1 0 8 (List.replicate 16 9))
/-- KEY.IMPORT of that blob. -/
theorem test_KeyCounterComplete_importBlob :
    let r := reqOf 0x0402 0 (importBody wrapped1)
    let s := keyedCell r 3 sevens 0x20 sevens
    ∃ kw, TakenCell s 0 0x0402 (bellOf r) r 0 0 0 ∧ byteAt r.body 0 = 1 ∧ needKey s (bellOf r) r (u16 r.body 6) 6 = .ok kw ∧ kw.type ≤ 3 ∧
      chargeUse s kw = (true, s) ∧ OpensTo s 0 1 kw sevens ∧ openBlob s sevens (r.body.drop 16) = .ok (1, 0, 8, List.replicate 16 9) ∧
      (8 &&& BitVec.ofNat 16 (u16 r.body 2)).getLsbD 10 = decide (u16 r.body 8 ≠ 0xFFFF) ∧ pickSlot s (u16 r.body 4) 16 = .ok 5 ∧
      Fed s 0 (openBits kw + maskBits (kwBlocks (r.body.drop 16).length) + storeBits 16) := by
  obtain ⟨k1, k2, h, hn, c1, _, o1, _, b1, _, t1, _⟩ := keyedCell_meets (reqOf 0x0402 0 (importBody wrapped1)) 3 sevens 0x20 sevens rfl (by decide) (by decide)
  have hl : wrapped1.length = 40 := kwWrap_length _ _ 4 rfl rfl
  have hd : (reqOf 0x0402 0 (importBody wrapped1)).body.drop 16 = wrapped1 := by
    rw [reqOf, importBody, List.drop_left' (by simp [leBytes_length, zeros])]
  have hu : kwUnwrap sevens wrapped1 = some (keyBlock 1 0 8 (List.replicate 16 9)) := kwUnwrap_kwWrap _ _ 4 rfl rfl (by decide)
  refine ⟨k1, h, rfl, (hn 6 (by decide)).1, by omega, c1 _, o1, ?_, by decide, keyedCell_pick _ _ _ _ _ _ _ (by decide) (by decide),
    keyedCell_fed _ _ _ _ _ _ (by rw [b1, hd, hl]; decide)⟩
  rw [hd, openBlob, hu]
  rfl

/-- KEY.EXPORT of slot 1 under slot 2; of slot 9, which is not there; under slot 9. -/
theorem test_KeyCounterComplete_export :
    (let r := reqOf 0x0403 0 [1, 0, 2, 0]
     let s := keyedCell r 0x20 sevens 3 sevens
     ∃ k1 k2, TakenCell s 0 0x0403 (bellOf r) r 0 0 0 ∧ needKey s (bellOf r) r (u16 r.body 0) 9 = .ok k1 ∧
       needKey s (bellOf r) r (u16 r.body 2) 5 = .ok k2 ∧ k2.type ≤ 3 ∧ chargeUse s k2 = (true, s) ∧ OpensTo s 0 1 k1 sevens ∧ OpensTo s 0 2 k2 sevens ∧
       Fed s 0 (openBits k1 + openBits k2 + twiceBits (kwBlocks (kwWrap sevens (keyBlock k1.type k1.curve k1.usage sevens)).length))) ∧
    (let r := reqOf 0x0403 0 [9, 0, 2, 0]
     let s := keyedCell r 0x20 sevens 3 sevens
     TakenCell s 0 0x0403 (bellOf r) r 0 0 0 ∧ needKey s (bellOf r) r (u16 r.body 0) 9 = .error sNOT_FOUND) ∧
    (let r := reqOf 0x0403 0 [1, 0, 9, 0]
     let s := keyedCell r 0x20 sevens 3 sevens
     ∃ k, TakenCell s 0 0x0403 (bellOf r) r 0 0 0 ∧ needKey s (bellOf r) r (u16 r.body 0) 9 = .ok k ∧
       needKey s (bellOf r) r (u16 r.body 2) 5 = .error sNOT_FOUND) := by
  refine ⟨?_, ?_, ?_⟩
  · obtain ⟨k1, k2, h, hn, _, c2, o1, o2, b1, b2, t1, t2, hc, hu⟩ := keyedCell_meets (reqOf 0x0403 0 [1, 0, 2, 0]) 0x20 sevens 3 sevens rfl (by decide) (by decide)
    refine ⟨k1, k2, h, (hn 9 (by decide)).1, (hn 5 (by decide)).2, by omega, c2 _, o1, o2, keyedCell_fed _ _ _ _ _ _ ?_⟩
    rw [b1, b2, t1, hc, hu, kwWrap_length _ _ 6 rfl rfl]
    decide
  · obtain ⟨k1, k2, h, hn, _⟩ := keyedCell_meets (reqOf 0x0403 0 [9, 0, 2, 0]) 0x20 sevens 3 sevens rfl (by decide) (by decide)
    exact ⟨h, rfl⟩
  · obtain ⟨k1, k2, h, hn, _⟩ := keyedCell_meets (reqOf 0x0403 0 [1, 0, 9, 0]) 0x20 sevens 3 sevens rfl (by decide) (by decide)
    exact ⟨k1, h, (hn 9 (by decide)).1, rfl⟩

/-- KEY.DELETE, KEY.INFO and KEY.PUBLIC of slot 0xFFFE; the first two by another partition; KEY.PUBLIC of a key that has none and of an
empty slot. -/
theorem test_KeyCounterComplete_slots :
    let s := fun c part pub => takenIn (setKey rich 0xFFFE (some (keyOf 0x31 0 pub))) (reqOf c part [0xFE, 0xFF])
    isTaken (s 0x0404 0 [4, 5]) 0x0404 = true ∧ (getKey (s 0x0404 0 [4, 5]) 0xFFFE).map (·.part) = some 0 ∧
      getKey (after (.keyDelete 0) (s 0x0404 0 [4, 5])) 0xFFFE = none ∧
      answered (after (.keyInfo 0) (s 0x0405 0 [4, 5])) = some (sOK, [0xFE, 0xFF, 2, 0x31, 0, 0, 0, 0, 0xFF, 0xFF, 1, 2, 3, 0, 0, 0]) ∧
      (seeKey (s 0x0406 0 [4, 5]) (bell (.taken (reqOf 0x0406 0 [0xFE, 0xFF]))) (reqOf 0x0406 0 []) 0xFFFE).map (·.pub) = some [4, 5] ∧
      answered (after (.keyPublic 0) (s 0x0406 0 [4, 5])) = some (sOK, [4, 5]) ∧
      answered (after (.keyPublic 0) (s 0x0406 0 [])) = some (sBAD_PARAMETER, []) ∧
      answered (after (.keyPublic 0) (s 0x0406 1 [4, 5])) = some (sNOT_FOUND, []) ∧
      isTaken (s 0x0404 1 []) 0x0404 = true ∧ answered (after (.keyDelete 0) (s 0x0404 1 [])) = some (sNOT_FOUND, []) ∧
      answered (after (.keyInfo 0) (s 0x0405 1 [])) = some (sNOT_FOUND, []) := by
  decide +kernel

/-- A state whose partition 0 has some counters. -/
def counting (s : State) (l : List Nat) : State := { s with store := { s.store with counters := l.map fun c => (c, some 0) } }
/-- CTR.ALLOCATE where counters 0 to 2 are taken; RELEASE of one, of a bound one and of another's. -/
theorem test_KeyCounterComplete_counters :
    let a := takenIn (counting rich [0, 1, 2]) (reqOf 0x0411 0 [])
    let s := fun l => takenIn (counting rich l) (reqOf 0x0414 0 [5, 0])
    let b := setKey (s [5]) 1 (some { keyOf 1 0x400 [] with counter := 5 })
    isTaken a 0x0411 = true ∧ counterOwner a 3 = none ∧ vatStateOf a 0 ≠ 3 ∧ (∀ c, c < 3 → counterOwner a c ≠ none) ∧
      counterOwner (after (.ctrAllocate 0) a) 3 = some 0 ∧
    isTaken (s [5]) 0x0414 = true ∧ ownCounter (s [5]) (reqOf 0x0414 0 []) 5 = true ∧ counterBound (s [5]) 5 = false ∧
      earlierTaken (s [5]) (bell (.taken (reqOf 0x0414 0 [5, 0]))) (fun _ => true) = false ∧ counterOwner (after (.ctrRelease 0) (s [5])) 5 = none ∧
    counterBound b 5 = true ∧ ownCounter b (reqOf 0x0414 0 []) 5 = true ∧ answered (after (.ctrRelease 0) b) = some (sBAD_PARAMETER, []) ∧
    ownCounter (s [4]) (reqOf 0x0414 0 []) 5 = false ∧ answered (after (.ctrRelease 0) (s [4])) = some (sNOT_FOUND, []) := by
  decide +kernel
/-- CTR.READ of counter 5 and of another's; INCREMENT by 2 below and past 2^48, and of another's. -/
theorem test_KeyCounterComplete_increment :
    let s := fun c l (v : BitVec 48) => modMac (counting (atWork c [5, 0, 2, 0]) l) 0 fun u => { u with counters := [(5, v)] }
    let has := fun c l v => cellHas (s c l v) c (reqOf c 0 [5, 0, 2, 0])
    has 0x0412 [5] 7 = true ∧ ownCounter (s 0x0412 [5] 7) (reqOf 0x0412 0 []) 5 = true ∧ done (after (.ctrRead 0) (s 0x0412 [5] 7)) = some (sOK, [7, 0, 0, 0, 0, 0]) ∧
    has 0x0412 [4] 7 = true ∧ done (after (.ctrRead 0) (s 0x0412 [4] 7)) = some (sNOT_FOUND, []) ∧
    has 0x0413 [5] 0xFFFFFFFFFFFD = true ∧ earlierTaken (s 0x0413 [5] 0) (bellOf (reqOf 0x0413 0 [5, 0, 2, 0])) (fun _ => true) = false ∧
      (counterAt (s 0x0413 [5] 0xFFFFFFFFFFFD) 0 5).toNat + 2 < 2 ^ 48 ∧
      done (after (.ctrIncrement 0) (s 0x0413 [5] 0xFFFFFFFFFFFD)) = some (sOK, List.replicate 6 0xFF) ∧
    has 0x0413 [5] 0xFFFFFFFFFFFE = true ∧ done (after (.ctrIncrement 0) (s 0x0413 [5] 0xFFFFFFFFFFFE)) = some (sCOUNTER_EXHAUSTED, []) ∧
    has 0x0413 [4] 0 = true ∧ done (after (.ctrIncrement 0) (s 0x0413 [4] 0)) = some (sNOT_FOUND, []) := by
  decide +kernel
/-! ### Commands that use keys (R129 to R138) -/

/-- SIG.SIGN of one byte under slot 1, scheme b. -/
def signBody (b : BitVec 8) : Bytes := [1, 0, b, 0, 1, 0, 0, 0, 0xAA]
/-- Two primes' places of 128 bytes 0xFF each, and what else the material of a key of type 0x10 has. -/
def rsaBytes : Bytes := List.replicate 640 0xFF
/-- SIG.SIGN with schemes 1 and 2 and a key of type 0x10. -/
theorem test_CryptoCommandsComplete_signRsa (b : BitVec 8) :
    let r := reqOf 0x0501 0 (signBody b)
    let s := keyedCell r 0x10 rsaBytes 0x20 sevens
    ∃ k, TakenCell s 0 0x0501 (bellOf r) r 0 0 0 ∧ needKey s (bellOf r) r (u16 r.body 0) 0 = .ok k ∧ (b = 1 ∨ b = 2 → schemeFits (byteAt r.body 2) k.type = true) ∧
      chargeUse s k = (true, s) ∧ OpensTo s 0 1 k rsaBytes ∧ primesOk rsaBytes (rsaHalf k.type) = true ∧
      Fed s 0 (openBits k + 256 + (allDraws 0x11 (rsaHalf k.type) p256).sum) := by
  obtain ⟨k1, k2, h, hn, c1, _, o1, _, b1, _, t1, _⟩ := keyedCell_meets (reqOf 0x0501 0 (signBody b)) 0x10 rsaBytes 0x20 sevens rfl (by decide +kernel) (by decide)
  refine ⟨k1, h, (hn 0 (by decide)).1, ?_, c1 _, o1, ?_, keyedCell_fed _ _ _ _ _ _ ?_⟩
  · rw [t1]; rintro (rfl | rfl) <;> rfl
  · rw [t1]; decide +kernel
  · rw [t1, b1]; decide +kernel
/-- SIG.SIGN with scheme 3 and a scalar of P-256, and one that is 0. -/
theorem test_CryptoCommandsComplete_signEcc :
    (let r := reqOf 0x0501 0 (signBody 3)
     let s := keyedCell r 0x20 sevens 0x20 sevens
     ∃ k, TakenCell s 0 0x0501 (bellOf r) r 0 0 0 ∧ needKey s (bellOf r) r (u16 r.body 0) 0 = .ok k ∧ schemeFits 3 k.type = true ∧
       chargeUse s k = (true, s) ∧ OpensTo s 0 1 k sevens ∧ storeCurve s k.curve = some p256 ∧ scalarOk p256 sevens = true ∧
       Fed s 0 (openBits k + (allDraws 0x21 0 p256).sum)) ∧
    (let r := reqOf 0x0501 0 (signBody 3)
     let s := keyedCell r 0x20 (zeros 32) 0x20 sevens
     ∃ k, TakenCell s 0 0x0501 (bellOf r) r 0 0 0 ∧ needKey s (bellOf r) r (u16 r.body 0) 0 = .ok k ∧ schemeFits 3 k.type = true ∧
       chargeUse s k = (true, s) ∧ OpensTo s 0 1 k (zeros 32) ∧ storeCurve s k.curve = some p256 ∧ scalarOk p256 (zeros 32) = false ∧ Fed s 0 (openBits k)) := by
  constructor
  · obtain ⟨k1, k2, h, hn, c1, _, o1, _, b1, _, t1, _, hc, _⟩ := keyedCell_meets (reqOf 0x0501 0 (signBody 3)) 0x20 sevens 0x20 sevens rfl (by decide) (by decide)
    exact ⟨k1, h, (hn 0 (by decide)).1, by rw [t1]; rfl, c1 _, o1, by rw [hc]; rfl, by decide +kernel, keyedCell_fed _ _ _ _ _ _ (by rw [b1]; decide +kernel)⟩
  · obtain ⟨k1, k2, h, hn, c1, _, o1, _, b1, _, t1, _, hc, _⟩ := keyedCell_meets (reqOf 0x0501 0 (signBody 3)) 0x20 (zeros 32) 0x20 sevens rfl (by decide) (by decide)
    exact ⟨k1, h, (hn 0 (by decide)).1, by rw [t1]; rfl, c1 _, o1, by rw [hc]; rfl, by decide +kernel, keyedCell_fed _ _ _ _ _ _ (by rw [b1]; decide +kernel)⟩

/-- SIG.VERIFY, scheme 3, with the key of slot 1. -/
theorem test_CryptoCommandsComplete_verify :
    let r := reqOf 0x0502 0 ([0, 3, 0, 0, 1, 0] ++ zeros 10)
    let s := keyedCell r 0x20 sevens 0x20 sevens
    ∃ k, TakenCell s 0 0x0502 (bellOf r) r 0 0 0 ∧ byteAt r.body 0 = 0 ∧ needKey s (bellOf r) r (u16 r.body 4) 1 = .ok k ∧ byteAt r.body 1 = 3 ∧
      schemeFits 3 k.type = true ∧ chargeUse s k = (true, s) ∧ OpensTo s 0 1 k sevens ∧ Fed s 0 (openBits k) := by
  obtain ⟨k1, k2, h, hn, c1, _, o1, _, b1, _, t1, _⟩ := keyedCell_meets (reqOf 0x0502 0 ([0, 3, 0, 0, 1, 0] ++ zeros 10)) 0x20 sevens 0x20 sevens rfl (by decide) (by decide)
  exact ⟨k1, h, rfl, (hn 1 (by decide)).1, rfl, by rw [t1]; rfl, c1 _, o1, keyedCell_fed _ _ _ _ _ _ (by rw [b1]; decide +kernel)⟩
/-- SIG.VERIFY with a key in the body: an RSA key of 256 bytes, the base point of P-256, a curve that is not there. -/
theorem test_CryptoCommandsComplete_verifyBody :
    let rsa : Bytes := [1, 1, 0, 0, 0, 0, 0, 1, 0, 0, 0, 0] ++ zeros 4 ++ List.replicate 256 0xFF
    let ecc : Bytes := [1, 3, 1, 0, 0, 0, 65, 0, 0, 0, 0, 0] ++ zeros 4 ++ [4] ++ beBytes 32 p256.gx ++ beBytes 32 p256.gy
    let no : Bytes := [1, 3, 15, 0, 0, 0, 0, 0, 0, 0, 0, 0] ++ zeros 4
    let has := fun b => cellHas (atWork 0x0502 b) 0x0502 (reqOf 0x0502 0 b)
    has rsa = true ∧ u16 rsa 6 = 256 ∧ beNat (slice rsa 16 256) % 2 = 1 ∧ bitLen (beNat (slice rsa 16 256)) = 8 * 256 ∧
      done (after (.sigVerify 0) (atWork 0x0502 rsa)) = some (sOK, [0]) ∧
    has ecc = true ∧ byteAt ecc 1 = 3 ∧ storeCurve (atWork 0x0502 ecc) 1 = some p256 ∧ pointOf p256 (slice ecc 16 65) = some (p256.gx, p256.gy) ∧
      done (after (.sigVerify 0) (atWork 0x0502 ecc)) = some (sOK, [0]) ∧
    has no = true ∧ storeCurve (atWork 0x0502 no) 15 = none ∧ done (after (.sigVerify 0) (atWork 0x0502 no)) = some (sNOT_FOUND, []) := by
  decide +kernel

/-- The body of KA.ECDH: slot 1, a key of type 3 into slot 5, and the base point of P-256 as the other side's point. -/
def ecdhBody : Bytes := [1, 0, 3, 0, 0, 0, 5, 0] ++ zeros 40 ++ [4] ++ beBytes 32 p256.gx ++ beBytes 32 p256.gy
/-- KA.ECDH of it. -/
theorem test_CryptoCommandsComplete_ecdh :
    let r := reqOf 0x0503 0 ecdhBody
    let s := keyedCell r 0x20 sevens 0x20 sevens
    ∃ k, TakenCell s 0 0x0503 (bellOf r) r 0 0 0 ∧ needKey s (bellOf r) r (u16 r.body 0) 2 = .ok k ∧ k.type = 0x20 ∧
      bit (BitVec.ofNat 16 (u16 r.body 4)) 10 = false ∧ storeCurve s k.curve = some p256 ∧ pointOf p256 (r.body.drop 48) = some (p256.gx, p256.gy) ∧
      pickSlot s (u16 r.body 6) (keyBytesOf (byteAt r.body 2)) = .ok 5 ∧ chargeUse s k = (true, s) ∧ OpensTo s 0 1 k sevens ∧
      scalarOk p256 sevens = true ∧ byteAt r.body 2 = 3 ∧
      Fed s 0 (openBits k + (allDraws 0x23 0 p256).sum + twiceBits (kdfBlocks (byteAt r.body 8) 1 (8 * 32)) + storeBits 32) := by
  obtain ⟨k1, k2, h, hn, c1, _, o1, _, b1, _, t1, _, hc, _⟩ := keyedCell_meets (reqOf 0x0503 0 ecdhBody) 0x20 sevens 0x20 sevens rfl (by decide) (by decide)
  exact ⟨k1, h, (hn 2 (by decide)).1, t1, by decide +kernel, by rw [hc]; rfl, by decide +kernel,
    keyedCell_pick _ _ _ _ _ _ _ (by decide +kernel) (by decide +kernel), c1 _, o1, by decide +kernel, rfl,
    keyedCell_fed _ _ _ _ _ _ (by rw [b1]; decide +kernel)⟩

/-- A curve of prime order 7 over the field of 5, in the form of CURVE.LOAD, as entry 4. -/
def smallCurve : Bytes := [4, 1, 5, 2, 1, 0, 1, 7, 1]
/-- The same over an even number. -/
def evenCurve : Bytes := [4, 1, 4, 2, 1, 0, 1, 7, 1]
/-- 5 and 7 pass Miller-Rabin to any bases. -/
theorem small_primes (l : List Nat) : mrTest 5 l = true ∧ mrTest 7 l = true := by
  have h5 : ∀ a < 2, mrRound 5 (a + 2) = true := by decide
  have h7 : ∀ a < 4, mrRound 7 (a + 2) = true := by decide
  constructor <;> simp only [mrTest, Bool.and_eq_true, List.all_eq_true]
  · exact ⟨⟨rfl, rfl⟩, fun a _ => h5 _ (Nat.mod_lt _ (by decide))⟩
  · exact ⟨⟨rfl, rfl⟩, fun a _ => h7 _ (Nat.mod_lt _ (by decide))⟩
/-- CURVE.LOAD of that curve passes every check of R239 whatever bases are drawn; of a curve over an even number it fails the first, before
a draw; of an entry in use; with every source stopped. -/
theorem test_CryptoCommandsComplete_curve (bases : List Nat) :
    let s := takenIn rich (reqOf 0x0504 0 smallCurve)
    let e := takenIn rich (reqOf 0x0504 0 evenCurve)
    let u := { s with store := { s.store with curves := [(4, some p256)] } }
    let held := fun (s : State) => (those 34 (fun n => powered s (phys s n))).any (fun n => entryHeld s (phys s n) 4)
    isTaken s 0x0504 = true ∧ storeCurve s (byteAt smallCurve 0) = none ∧ held s = false ∧ those 34 (fun n => powered s (phys s n)) ≠ [] ∧
      allStopped s = false ∧ curveStart (curveOfBody smallCurve) bases = none ∧ curveRest (curveOfBody smallCurve) bases = none ∧
    isTaken e 0x0504 = true ∧ storeCurve e (byteAt evenCurve 0) = none ∧ held e = false ∧ those 34 (fun n => powered e (phys e n)) ≠ [] ∧
      allStopped e = false ∧ curveStart (curveOfBody evenCurve) bases = some 1 ∧
    isTaken u 0x0504 = true ∧ storeCurve u (byteAt smallCurve 0) ≠ none ∧ answered (after (.curveLoad 0) u) = some (sEXISTS, []) := by
  have hp : curveOfBody smallCurve = ⟨1, 5, 2, 1, 0, 1, 7, 1⟩ := by decide +kernel
  have he : curveOfBody evenCurve = ⟨1, 4, 2, 1, 0, 1, 7, 1⟩ := by decide +kernel
  refine ⟨by decide +kernel, by decide +kernel, by decide +kernel, by decide +kernel, by decide +kernel, ?_, ?_, by decide +kernel,
    by decide +kernel, by decide +kernel, by decide +kernel, by decide +kernel, ?_, by decide +kernel, by decide +kernel, by decide +kernel⟩
  · simp only [hp, curveStart, (small_primes bases).1]
    decide +kernel
  · simp only [hp, curveRest, (small_primes bases).2]
    decide +kernel
  · simp only [curveStart, he]
    rfl
theorem test_CryptoCommandsComplete_curveDry :
    let s := takenIn noiseless (reqOf 0x0504 0 smallCurve)
    let c := curveOfBody smallCurve
    isTaken s 0x0504 = true ∧ storeCurve s 4 = none ∧ (∀ n ∈ those 34 (fun n => powered s (phys s n)), entryHeld s (phys s n) 4 = false ∧
      (getVat s (phys s n)).noise.state = 3) ∧ allStopped s = true ∧ fieldOk c = true ∧ s.central.bits < 16 * c.words ∧
      answered (after (.curveLoad 0) s) = some (sINTERNAL, []) := by
  decide +kernel

/-- The body of MAC.GENERATE and MAC.VERIFY: 4 bytes of CMAC, KIND k and ROOT r, slot 1, with 8 bytes of data inline. -/
def macBody (k r : BitVec 8) : Bytes := [1, 0, 4, 0, k, r, 0, 0, 1, 0] ++ zeros 34 ++ [8, 0, 0, 0] ++ zeros 8
theorem seeKey_of_need {s : State} {d : Doorbell} {r : Request} {i b : Nat} {k : KeySlot} (h : needKey s d r i b = .ok k) : seeKey s d r i = some k := by
  unfold needKey at h
  split at h
  · cases h
  · rename_i x hx
    split at h
    · cases h; exact hx
    · cases h
/-- Both with the key of slot 1. -/
theorem test_CryptoCommandsComplete_mac (verify : Bool) :
    let c := if verify then 0x0602 else 0x0601
    let r := reqOf c 0 (macBody 0 0)
    let s := keyedCell r 3 sevens 3 sevens
    ∃ n, TakenCell s 0 c (bellOf r) r 0 0 0 ∧ kspecRefusal s (bellOf r) r (if verify then 4 else 3) = none ∧ bit r.flags 1 = false ∧
      KspecKey s 0 (bellOf r) r 3 sevens s n ∧ Fed s 0 (n + maskBits (macBlocks 1 0 3 8)) := by
  have go : ∀ c b, bit (0xFBFF : BitVec 16) b = true →
      let r := reqOf c 0 (macBody 0 0)
      let s := keyedCell r 3 sevens 3 sevens
      ∃ n, TakenCell s 0 c (bellOf r) r 0 0 0 ∧ kspecRefusal s (bellOf r) r b = none ∧ bit r.flags 1 = false ∧
        KspecKey s 0 (bellOf r) r 3 sevens s n ∧ Fed s 0 (n + maskBits (macBlocks 1 0 3 8)) := by
    intro c b hb
    obtain ⟨k1, k2, h, hn, c1, _, o1, _, b1, _, t1, _⟩ := keyedCell_meets (reqOf c 0 (macBody 0 0)) 3 sevens 3 sevens rfl (by decide) (by decide)
    have hk := (hn b hb).1
    have hs : u16 (reqOf c 0 (macBody 0 0)).body 8 = 1 := rfl
    refine ⟨openBits k1, h, ?_, by show bit (0 : BitVec 16) 1 = false; decide, .inl ⟨rfl, k1, seeKey_of_need hk, t1.symm, c1 _, o1, rfl⟩,
      keyedCell_fed _ _ _ _ _ _ (by rw [b1]; decide +kernel)⟩
    unfold kspecRefusal
    have hz : byteAt (reqOf c 0 (macBody 0 0)).body 4 = 0 := rfl
    have ha : byteAt (reqOf c 0 (macBody 0 0)).body 0 = 1 := rfl
    have hl : byteAt (reqOf c 0 (macBody 0 0)).body 2 = byteAt (macBody 0 0) 2 := rfl
    simp only [hz, if_true, hs, hk, t1, ha, hl]
    decide
  cases verify
  · exact go _ 3 (by decide)
  · exact go _ 4 (by decide)
/-- With a key derived from the owner root; with no key in slot 1. -/
theorem test_CryptoCommandsComplete_macRoot :
    let w := atWork 0x0601 (macBody 1 1)
    let z := atWork 0x0602 (macBody 0 0)
    cellHas w 0x0601 (reqOf 0x0601 0 (macBody 1 1)) = true ∧ kspecRefusal w (bellOf (reqOf 0x0601 0 (macBody 1 1))) (reqOf 0x0601 0 (macBody 1 1)) 3 = none ∧
      byteAt (macBody 1 1) 4 ≠ 0 ∧ rootLoaded (getVat w 0).mac (byteAt (macBody 1 1) 5) = true ∧
      isFed w (maskBits (kdfBlocks 10 (1 + byteAt (macBody 1 1) 6) 256) + twiceBits (macBlocks 1 0 3 8)) = true ∧
    cellHas z 0x0602 (reqOf 0x0602 0 (macBody 0 0)) = true ∧
      kspecRefusal z (bellOf (reqOf 0x0602 0 (macBody 0 0))) (reqOf 0x0602 0 (macBody 0 0)) 4 = some (sNOT_FOUND, 0) ∧
      done (after (.macVerify 0 false) z) = some (sNOT_FOUND, []) := by
  decide +kernel
/-- With the host's data: a channel is started, one has failed, and one has done. -/
theorem test_CryptoCommandsComplete_macDma :
    let r : Request := { reqOf 0x0601 0 (macBody 1 1) with flags := 2 }
    let bell : Doorbell := { bellOf r with dma := some 63 }
    let s := withBells (ticketed worked) [bellOf r]
    let f := withBells (ticketed worked) [bell]
    let g := setReg f (R.DMA_CH_EVENT 63) 8
    let h := (List.range 64).foldl (fun s c => modDma s c (fun x => { x with halted := true })) s
    cellHas h 0x0601 r = true ∧ (List.range 64).find? (fun c => decide (dmaState (getDma h c) = 0)) = none ∧
      (List.range 64).find? (fun c => decide (dmaState (getDma h c) = 3)) = some 0 ∧
    cellHas s 0x0601 r = true ∧ kspecRefusal s (bellOf r) r 3 = none ∧ bit r.flags 1 = true ∧ dmaInUse s = false ∧
      (List.range 64).find? (fun c => decide (dmaState (getDma s c) = 0)) = some 0 ∧
    cellHasBell f 0x0601 bell r = true ∧ kspecRefusal f bell r 3 = none ∧ (getDma f 63).phase = .idle ∧ getBit f (R.DMA_CH_EVENT 63) 3 = false ∧
      (done (after (.macGenerate 0 false) f)).map (·.1) = some sINTEGRITY ∧
    cellHasBell g 0x0601 bell r = true ∧ getBit g (R.DMA_CH_EVENT 63) 3 = true ∧ u32 (macBody 1 1) 44 ≤ 2 * dmaBufferWords ∧
      rootLoaded (getVat (endMacDma g 0 63 bell) 0).mac 1 = true ∧
      isFed g (maskBits (kdfBlocks 10 (1 + byteAt (macBody 1 1) 6) 256) + maskBits (macBlocks 1 0 3 8)) = true := by
  decide +kernel

/-- PIN 1234 of PAN 123456789012 enciphered under it in format 4 (R136). -/
def pinBlock : Bytes := aesEnc sevens (xorB (aesEnc sevens ([0x44, 0x12, 0x34, 0xAA, 0xAA, 0xAA, 0xAA, 0xAA] ++ zeros 8)) (panBlock16 [1, 2, 3, 4, 5, 6, 7, 8, 9, 0, 1, 2]))
/-- The body of PIN.TRANSLATE of a block from slot 1 to slot 2, both in format 4. -/
def pinBody (block : Bytes) : Bytes := [4, 4, 1, 0, 2, 0, 12, 0, 0x31, 0x32, 0x33, 0x34, 0x35, 0x36, 0x37, 0x38, 0x39, 0x30, 0x31, 0x32] ++ zeros 8 ++ block
/-- The PIN opens. -/
theorem pin_opens : openPin 4 [1, 2, 3, 4, 5, 6, 7, 8, 9, 0, 1, 2] 3 sevens pinBlock = some [1, 2, 3, 4] := by
  obtain ⟨k1, k2⟩ := aesKeys_32 sevens rfl
  have h1 := aesDec_aesEnc sevens ([0x44, 0x12, 0x34, 0xAA, 0xAA, 0xAA, 0xAA, 0xAA] ++ zeros 8) rfl (by omega) k2
  have l1 := aesEnc_length_32 sevens ([0x44, 0x12, 0x34, 0xAA, 0xAA, 0xAA, 0xAA, 0xAA] ++ zeros 8) rfl
  have lp : (panBlock16 [1, 2, 3, 4, 5, 6, 7, 8, 9, 0, 1, 2]).length = 16 := by decide
  have h2 := aesDec_aesEnc sevens (xorB (aesEnc sevens ([0x44, 0x12, 0x34, 0xAA, 0xAA, 0xAA, 0xAA, 0xAA] ++ zeros 8))
    (panBlock16 [1, 2, 3, 4, 5, 6, 7, 8, 9, 0, 1, 2])) (by rw [xorB_length, l1, lp]; rfl) (by omega) k2
  simp only [openPin, pinBlock, if_true]
  rw [h2, xorB_self _ _ (by rw [l1, lp]), h1]
  decide
/-- PIN.TRANSLATE of a block of 16 bytes finds its keys and is fed; of that block it finds the PIN, of zeros it finds none. -/
theorem test_CryptoCommandsComplete_pin (block : Bytes) (hb : block.length = 16) :
    let r := reqOf 0x0701 0 (pinBody block)
    let s := keyedCell r 3 sevens 1 (List.replicate 16 7)
    (∃ k1 k2, TakenCell s 0 0x0701 (bellOf r) r 0 0 0 ∧ needKey s (bellOf r) r (u16 r.body 2) 7 = .ok k1 ∧ needKey s (bellOf r) r (u16 r.body 4) 8 = .ok k2 ∧
      pinKeyFits (byteAt r.body 0) k1.type = true ∧ pinKeyFits (byteAt r.body 1) k2.type = true ∧ chargeUse s k1 = (true, s) ∧ chargeUse s k2 = (true, s) ∧
      OpensTo s 0 1 k1 sevens ∧ OpensTo s 0 2 k2 (List.replicate 16 7) ∧ k1.type = 3 ∧ Fed s 0 (openBits k1 + openBits k2 + 128 + twiceBits 2)) ∧
      panDigits r.body = [1, 2, 3, 4, 5, 6, 7, 8, 9, 0, 1, 2] ∧ slice r.body 28 16 = block := by
  obtain ⟨k1, k2, h, hn, c1, c2, o1, o2, b1, b2, t1, t2, _⟩ := keyedCell_meets (reqOf 0x0701 0 (pinBody block)) 3 sevens 1 (List.replicate 16 7) rfl (by decide) (by decide)
  refine ⟨⟨k1, k2, h, (hn 7 (by decide)).1, (hn 8 (by decide)).2, by rw [t1]; rfl, by rw [t2]; rfl, c1 _, c2 _, o1, o2, t1,
    keyedCell_fed _ _ _ _ _ _ (by rw [b1, b2]; decide +kernel)⟩, ?_, ?_⟩
  · simp [panDigits, reqOf, pinBody, slice, byteAt, zeros]
  · simp [reqOf, pinBody, slice, zeros, hb]
theorem test_CryptoCommandsComplete_pinNone : openPin 4 [1, 2, 3, 4, 5, 6, 7, 8, 9, 0, 1, 2] 3 sevens (zeros 16) = none ∧ pinBlock.length = 16 :=
  ⟨by decide +kernel, aesEnc_length_32 _ _ rfl⟩

/-- KEY.TRANSLATE of 16 bytes between keys of types 4 and 5, and of 8, which is no key. -/
theorem test_CryptoCommandsComplete_translate (n : Nat) (hn : n = 16 ∨ n = 8) :
    let r := reqOf 0x0702 0 ([2, 2, 1, 0, 2, 0] ++ zeros (10 + n))
    let s := keyedCell r 4 (List.replicate 16 7) 5 (List.replicate 24 7)
    (∃ k1 k2, TakenCell s 0 0x0702 (bellOf r) r 0 0 0 ∧ needKey s (bellOf r) r (u16 r.body 2) 6 = .ok k1 ∧ needKey s (bellOf r) r (u16 r.body 4) 5 = .ok k2 ∧
      k1.type = 4 ∧ k2.type = 5 ∧ chargeUse s k1 = (true, s) ∧ chargeUse s k2 = (true, s) ∧ OpensTo s 0 1 k1 (List.replicate 16 7) ∧
      OpensTo s 0 2 k2 (List.replicate 24 7) ∧ Fed s 0 (openBits k1 + openBits k2 + twiceBits 2)) ∧
    (n = 16 → ∃ q, openTranslated s r.body (List.replicate 16 7) = .ok q) ∧ (n = 8 → openTranslated s r.body (List.replicate 16 7) = .error (sBAD_PARAMETER, 8)) := by
  have go : ∀ b : Bytes, u16 b 2 = 1 → u16 b 4 = 2 →
      let r := reqOf 0x0702 0 b
      let s := keyedCell r 4 (List.replicate 16 7) 5 (List.replicate 24 7)
      ∃ k1 k2, TakenCell s 0 0x0702 (bellOf r) r 0 0 0 ∧ needKey s (bellOf r) r (u16 r.body 2) 6 = .ok k1 ∧ needKey s (bellOf r) r (u16 r.body 4) 5 = .ok k2 ∧
      k1.type = 4 ∧ k2.type = 5 ∧ chargeUse s k1 = (true, s) ∧ chargeUse s k2 = (true, s) ∧ OpensTo s 0 1 k1 (List.replicate 16 7) ∧
      OpensTo s 0 2 k2 (List.replicate 24 7) ∧ Fed s 0 (openBits k1 + openBits k2 + twiceBits 2) := by
    intro b h1 h2
    obtain ⟨k1, k2, h, hn, c1, c2, o1, o2, b1, b2, t1, t2, _⟩ := keyedCell_meets (reqOf 0x0702 0 b) 4 (List.replicate 16 7) 5 (List.replicate 24 7) rfl (by decide) (by decide)
    exact ⟨k1, k2, h, by rw [show u16 (reqOf 0x0702 0 b).body 2 = 1 from h1]; exact (hn 6 (by decide)).1,
      by rw [show u16 (reqOf 0x0702 0 b).body 4 = 2 from h2]; exact (hn 5 (by decide)).2, t1, t2, c1 _, c2 _, o1, o2,
      keyedCell_fed _ _ _ _ _ _ (by rw [b1, b2]; decide +kernel)⟩
  rcases hn with rfl | rfl
  · exact ⟨go _ rfl rfl, fun _ => ⟨_, rfl⟩, fun h => absurd h (by decide)⟩
  · exact ⟨go _ rfl rfl, fun h => absurd h (by decide), fun _ => rfl⟩

/-- RNG.GET of 32 bytes: from a queue that holds just so many above SOFT_FLOOR 0; with every source stopped; with one at work. -/
theorem test_CryptoCommandsComplete_random :
    let s := fun (u : State) n => takenIn { setReg u R.RNG_CQ_CFG 0 with central := { u.central with bits := n } } (reqOf 0x0801 0 [32, 0])
    isTaken (s rich 256) 0x0801 = true ∧ softEnough (s rich 256) 32 = true ∧ (after (.rngGet 0) (s rich 256)).central.bits = 0 ∧
    isTaken (s noiseless 255) 0x0801 = true ∧ softEnough (s noiseless 255) 32 = false ∧ allStopped (s noiseless 255) = true ∧
      answered (after (.rngGet 0) (s noiseless 255)) = some (sRNG_STOPPED, []) ∧
    softEnough (s rich 255) 32 = false ∧ allStopped (s rich 255) = false ∧ isTaken (after (.rngGet 0) (s rich 255)) 0x0801 = true := by
  decide +kernel
/-! ### Custody (R139, R140, R471) -/

/-- The public key of a custodian whose card signs session 6 with both factors 1. -/
def custodianKey : Bytes := beBytes 32 0x4879ffb6115a263a5772deaf3d4516f7e4e9d2e00d96a614cdf9e55ff3b88269
  ++ beBytes 32 0xe8177d96a6603e4aed3a57bff093cc41034bba82edb6cb0ae60782889ca6a3a4
/-- The number whose x coordinate signs session 6: the digest of the data, with both factors 1. -/
def cardNumber : Nat := 0xb401b4bd7e4f321db95fcae00d274ab8aa2cf1852d1495c382356d981f63d771
/-- The same for a custodian who takes part in session 1. -/
def importKey : Bytes := beBytes 32 0x32ba0477cd16917fc6e480481bab3eaffa78036a71c3356c03be5a5735f69e18
  ++ beBytes 32 0xb01c0cac9933da610e9bc51aeee1b1e90d7685f3f077bd535102f0d1c410ebf9
def importNumber : Nat := 0x6dabc1c16aa6baa394cd5d356b6eac101811b0bf78ce32a1ee893cad4b0a83f
/-- A policy of two custodians, m of whom are needed. -/
def policyOf (m : Nat) : Policy :=
  { m := m, aid := [1, 2, 3, 4, 5], cla := 0x80, ins := 0x10, codes := [], custodians := [([1, 0], custodianKey), ([2, 0], importKey)], body := [], modulus := [] }
/-- A session of partition 0 that signs commands, with nothing collected. -/
def session6 : Quorum := { id := 6, part := 0, purpose := 1, type := 0, usage := 0, slot := 0, target := [], challenge := [], priv := 0, point := [], ends := 1000, got := [] }
/-- A session of partition 0 that imports a key of type 1 into slot 5, its ephemeral key 1. -/
def session1 : Quorum := { session6 with id := 1, purpose := 2, type := 1, slot := 5, priv := 1 }
/-- A state under a policy that needs m, with sessions. -/
def custody (s : State) (m : Nat) (q : List Quorum) : State :=
  { s with store := { s.store with policy := some (policyOf m) }, fw := { s.fw with quorums := q, nextId := 7 } }

/-- CUS.POLICY; CUS.BEGIN with three sessions and with four, of an import with units of bank 2 and with none, with no more bits, and with
no policy. -/
theorem test_CustodyConfigComplete_begin :
    let p := takenIn rich (reqOf 0x0901 0 ([2, 1] ++ zeros 120))
    let s := fun n => takenIn (custody rich 2 (List.replicate n session6)) (reqOf 0x0902 0 ([1] ++ zeros 39))
    let full := takenIn (custody rich 2 [{ session1 with type := 3 }]) (reqOf 0x0902 0 ([2, 0, 3] ++ zeros 37))
    let dry := takenIn (custody noiseless 2 []) (reqOf 0x0902 0 ([1] ++ zeros 39))
    let n := takenIn rich (reqOf 0x0902 0 ([1] ++ zeros 39))
    isTaken p 0x0901 = true ∧ (after (.cusPolicy 0) p).store.policy.map (·.m) = some 2 ∧
    isTaken (s 3) 0x0902 = true ∧ (s 3).store.policy.isSome = true ∧ (s 3).fw.quorums.length < 4 ∧ softEnough (s 3) 64 = true ∧
    isTaken (s 4) 0x0902 = true ∧ 4 ≤ (s 4).fw.quorums.length ∧ answered (after (.cusBegin 0) (s 4)) = some (sQUOTA, []) ∧
    isTaken full 0x0902 = true ∧ byteAt (zeros 3) 0 ≠ 2 ∧ unitsLeft full (keyBytesOf 3) = true ∧ unitsUsed full = 2 ∧
    isTaken dry 0x0902 = true ∧ dry.fw.quorums.length < 4 ∧ softEnough dry 64 = false ∧ allStopped dry = true ∧
      answered (after (.cusBegin 0) dry) = some (sRNG_STOPPED, []) ∧
    isTaken n 0x0902 = true ∧ n.store.policy = none ∧ answered (after (.cusBegin 0) n) = some (sNOT_FOUND, []) := by
  decide +kernel

/-- The request CUS.CARD for a session, in card slot 0. -/
def cardReq (id : Byte) : Request := reqOf 0x0903 0 [id, 0, 0, 0, 0]
/-- A device with one session whose CUS.CARD is at a stage, carried out by cell 0 of vat 0. -/
def carding (m : Nat) (q : Quorum) (x : CardStage) : State :=
  withBells (ticketed (custody worked m [q])) [{ bellOf (cardReq (BitVec.ofNat 8 q.id)) with card := x }]
/-- Card slot 0's operation has ended with a CODE and received bytes. -/
def cardEnded (s : State) (code : Nat) (rx : Bytes) : State :=
  setBit (setFld (setFld (setRegs s (R.CSL_RX 0 0) (packWords rx)) (R.CSL_RESULT 0) 15 12 code) (R.CSL_RESULT 0) 8 0 rx.length) (R.CSL_EVENT 0) 0 true
/-- The first five words of CSL_TX of card slot 0. -/
def sentWords (s : State) : List (BitVec 16) := (List.range 5).map fun j => getReg s (R.CSL_TX 0 j)
/-- The hypotheses that all clauses on a card have in common. -/
def cardMeets (s : State) (m : Nat) (q : Quorum) (x : CardStage) : Bool :=
  cellHasBell s 0x0903 { bellOf (cardReq (BitVec.ofNat 8 q.id)) with card := x } (cardReq (BitVec.ofNat 8 q.id)) &&
    decide (findQuorum s (cardReq (BitVec.ofNat 8 q.id)) q.id = some q) && decide (s.store.policy = some (policyOf m))
/-- The same once slot 0's operation has ended with a CODE. -/
def cardMeetsEnd (s : State) (m : Nat) (q : Quorum) (x : CardStage) (code : Nat) : Bool :=
  cardMeets s m q x && getBit s (R.CSL_EVENT 0) 0 && decide (getFld s (R.CSL_RESULT 0) 15 12 = code)

/-- CUS.CARD with no such session; with the card to activate, and active already. -/
theorem test_CustodyConfigComplete_cardStart :
    let s := carding 2 session6 .start
    let z := withBells (ticketed (custody worked 2 [])) [bellOf (cardReq 6)]
    let r := setFld s (R.CSL_STATUS 0) 15 13 2
    cellHas z 0x0903 (cardReq 6) = true ∧ findQuorum z (cardReq 6) 6 = none ∧ done (after (.cusCard 0 false) z) = some (sNOT_FOUND, []) ∧
    cardMeets s 2 session6 .start = true ∧ slotInUse s { bellOf (cardReq 6) with card := .start } 0 = false ∧ cslState s 0 = 0 ∧
    cardMeets r 2 session6 .start = true ∧ slotInUse r { bellOf (cardReq 6) with card := .start } 0 = false ∧ cslState r 0 = 2 ∧
      sentWords (after (.cusCard 0 false) r) = [0xA400, 0x0004, 0x0105, 0x0302, 0x0504] := by
  decide +kernel
/-- Its stages before the answer: an operation in progress, one that failed with each kind of CODE, the activation done, the application
selected and not. -/
theorem test_CustodyConfigComplete_cardStages :
    let w := carding 2 session6 .activate
    let f := fun code => cardEnded (carding 2 session6 .select) code []
    let a := cardEnded w 0 []
    let l := cardEnded (carding 2 session6 .select) 0 [0x90, 0x00]
    let n := cardEnded (carding 2 session6 .select) 0 [0x6A, 0x82]
    cardMeets w 2 session6 .activate = true ∧ getBit w (R.CSL_EVENT 0) 0 = false ∧
    cardMeetsEnd (f kREMOVED_UNKNOWN) 2 session6 .select kREMOVED_UNKNOWN = true ∧
      done (after (.cusCard 0 false) (f kREMOVED_UNKNOWN)) = some (sCARD_REMOVED_UNKNOWN, []) ∧
    done (after (.cusCard 0 false) (f kREFUSED)) = some (sINTERNAL, []) ∧ done (after (.cusCard 0 false) (f kTIMEOUT)) = some (sCARD_ERROR, []) ∧
    cardMeetsEnd a 2 session6 .activate kOK = true ∧ cardMeetsEnd l 2 session6 .select kOK = true ∧ slotAnswer l 0 = some ([], 0x9000) ∧
    sentWords (after (.cusCard 0 false) l) = [0x1080, 0x0000, 0x0605, 0x0000, 0x0100] ∧
    cardMeetsEnd n 2 session6 .select kOK = true ∧ slotAnswer n 0 = some ([], 0x6A82) ∧ done (after (.cusCard 0 false) n) = some (sCARD_ERROR, []) := by
  decide +kernel

/-- The card's signature of session 6 verifies under the custodian's key. -/
theorem card_signs : ecdsaVerify p256 (beNat (custodianKey.take 32)) (beNat (custodianKey.drop 32)) (beNat (sha256 (cardData session6)))
    cardNumber cardNumber = true := by
  decide +kernel
theorem import_signs : ecdsaVerify p256 (beNat (importKey.take 32)) (beNat (importKey.drop 32)) (beNat (sha256 (cardData session1)))
    importNumber importNumber = true := by
  decide +kernel
/-- What the custodian's card answers: its ID and a signature with r and s both n. -/
def cardAnswer (id : Bytes) (n : Nat) : Bytes := id ++ beBytes 32 n ++ beBytes 32 n
/-- A card that answers so. -/
def cardAnswers (m : Nat) (q : Quorum) (a : Bytes) : State := cardEnded (carding m q .answer) 0 (a ++ [0x90, 0x00])
def cardAnswersMeet (m : Nat) (q : Quorum) (a : Bytes) : Bool :=
  cardMeetsEnd (cardAnswers m q a) m q .answer kOK && decide (slotAnswer (cardAnswers m q a) 0 = some (a, 0x9000))

/-- An answer too short, of an unknown custodian, with a false signature, of one who has contributed; and one that counts, as the first of
two and as the only one. -/
theorem test_CustodyConfigComplete_card :
    let a := cardAnswer [1, 0] cardNumber
    let two := { session6 with got := [([1, 0], [])] }
    cardAnswersMeet 2 session6 (a.take 65) = true ∧ (a.take 65).length = 65 ∧ done (after (.cusCard 0 false) (cardAnswers 2 session6 (a.take 65))) = some (sCARD_ERROR, []) ∧
    cardAnswersMeet 2 session6 (cardAnswer [3, 0] cardNumber) = true ∧ (policyOf 2).custodians.find? (fun x => x.1 == [3, 0]) = none ∧
      done (after (.cusCard 0 false) (cardAnswers 2 session6 (cardAnswer [3, 0] cardNumber))) = some (sNO_AUTHORITY, []) ∧
    cardAnswersMeet 2 session6 (cardAnswer [1, 0] 0) = true ∧ ecdsaVerify p256 (beNat (custodianKey.take 32)) (beNat (custodianKey.drop 32))
      (beNat (sha256 (cardData session6))) 0 0 = false ∧
    cardAnswersMeet 2 two a = true ∧ cardData two = cardData session6 ∧ two.got.any (fun g => g.1 == a.take 2) = true ∧
    cardAnswersMeet 2 session6 a = true ∧ a.length = 66 ∧ a.take 2 = [1, 0] ∧
      (policyOf 2).custodians.find? (fun x => x.1 == [1, 0]) = some ([1, 0], custodianKey) ∧
      beNat ((slice a 2 64).take 32) = cardNumber ∧ beNat ((slice a 2 64).drop 32) = cardNumber ∧ session6.got.length + 1 < (policyOf 2).m ∧
    cardAnswersMeet 1 session6 a = true ∧ (policyOf 1).m ≤ session6.got.length + 1 := by
  decide +kernel
/-- The component of custodian 2, wrapped for session 1, and that card's whole answer. -/
def component : Bytes := List.replicate 16 7
def importAnswer : Bytes := cardAnswer [2, 0] importNumber ++ [193, 31, 30, 93, 52, 166, 194, 222, 1, 179, 208, 157, 78, 240, 207, 51, 134, 42, 97, 188, 119, 135, 45, 78]
/-- An import's component counts, as the first of two and as the only one, where the key goes to slot 5. -/
theorem test_CustodyConfigComplete_cardImport :
    cardAnswersMeet 2 session1 importAnswer = true ∧ cardAnswersMeet 1 session1 importAnswer = true ∧ 66 ≤ importAnswer.length ∧ session1.purpose ≠ 1 ∧
      (policyOf 1).custodians.find? (fun c => c.1 == importAnswer.take 2) = some ([2, 0], importKey) ∧
      beNat ((slice importAnswer 2 64).take 32) = importNumber ∧ beNat ((slice importAnswer 2 64).drop 32) = importNumber := by
  decide +kernel
theorem test_CustodyConfigComplete_cardComponent :
    openComponent session1 importKey (importAnswer.drop 66) = some component ∧ component.length = keyBytesOf session1.type := by
  decide +kernel
theorem test_CustodyConfigComplete_cardStore :
    let s := cardAnswers 1 session1 importAnswer
    isFed s ((allDraws 0x23 0 p256).sum + storeBits 16) = true ∧ (getVat s 0).mac.ownerRoot = true ∧
      oks (pickSlot { s with fw := { s.fw with quorums := [] } } 5 16) = some 5 := by
  decide +kernel

/-- CUS.STATUS, CUS.END; the session's end at its time and one microsecond before it. -/
theorem test_CustodyConfigComplete_sessions :
    let s := fun c => takenIn (custody rich 2 [session6]) (reqOf c 0 [6, 0, 0, 0])
    let at_ := fun (n : BitVec 48) => { custody rich 2 [session6] with bat := { (custody rich 2 [session6]).bat with timeBase := n } }
    isTaken (s 0x0904) 0x0904 = true ∧ (answered (after (.cusStatus 0) (s 0x0904))).map (fun a => a.2.take 4) = some [1, 0, 2, 0] ∧
    isTaken (s 0x0905) 0x0905 = true ∧ (after (.cusEnd 0) (s 0x0905)).fw.quorums = [] ∧
    (at_ 1000).fw.quorums.find? (fun x => x.id == (6#32).toNat) = some session6 ∧ (after (.sessionTimeout 6) (at_ 1000)).fw.quorums = [] ∧
      (after (.sessionTimeout 6) (at_ 999)).fw.quorums = [session6] := by
  decide +kernel

/-- CFG.SET of a tamper record with its disable fuse: queued, in progress, programmed, and refused under a quorum ticket; of a wrong
length. -/
theorem test_CustodyConfigComplete_fuse :
    let rec_ : Bytes := [1, 0, 0, 0, 0xD5, 0, 0, 0]
    let b : Bytes := [1, 0, 5, 0, 0, 0, 0, 0] ++ rec_
    let s := takenIn rich (reqOf 0x0A02 0 b)
    let q := takenIn rich { reqOf 0x0A02 0 b with auth := .ticket 3 }
    let w := { s with fw := { s.fw with fuseWait := [(0, 5)] } }
    let z := { w with otp := tset (fun _ => 0) w.otp (0x100 + 16 * 5 + 15) 0x1F }
    isTaken s 0x0A02 = true ∧ (0, 5) ∉ s.fw.fuseWait ∧ cfgExists 1 5 = true ∧ cfgLengthOk 1 rec_ = true ∧ (cfgRules s 1 5 rec_).all (·.1) = true ∧
      byteAt rec_ 4 = 0xD5 ∧ (after (.cfgSet 0) s).fw.fuseWait = [(0, 5)] ∧
    isTaken w 0x0A02 = true ∧ srcFused w 5 = false ∧ (after (.cfgSet 0) w).fw.fuseWait = [(0, 5)] ∧
    isTaken z 0x0A02 = true ∧ (0, 5) ∈ z.fw.fuseWait ∧ srcFused z 5 = true ∧ answered (after (.cfgSet 0) z) = some (sOK, []) ∧
    isTaken q 0x0A02 = true ∧ (cfgRules q 1 5 rec_).all (·.1) = true ∧ answered (after (.cfgSet 0) q) = some (sNO_AUTHORITY, []) ∧
    answered (after (.cfgSet 0) (takenIn rich (reqOf 0x0A02 0 (b.take 12)))) = some (sBAD_LENGTH, []) ∧ cfgLengthOk 1 (rec_.take 4) = false ∧
    cfgExists 0 0 = false ∧ answered (after (.cfgGet 0) (takenIn rich (reqOf 0x0A01 0 (zeros 4)))) = some (sNOT_FOUND, []) ∧
    calOtp rich 0x500 = none ∧ answered (after (.calGet 0) (takenIn rich (reqOf 0x0A03 0 [0, 5]))) = some (sNOT_FOUND, []) ∧
    rich.flt.first = none ∧ answered (after (.fltAck 0) (takenIn rich (reqOf 0x0C02 0 (zeros 6)))) = some (sNOT_FOUND, []) := by
  decide +kernel

/-- CFG.GET and CFG.SET of item 7, of an item that is not there; CAL.GET and CAL.SET of monitor 0 at its bound and past it. -/
theorem test_CustodyConfigComplete_records :
    let rec_ : Bytes := [1, 0, 0, 0, 3, 0, 0, 0]
    let s := fun c b => takenIn rich (reqOf c 0 b)
    let b7 : Bytes := [7, 0, 0, 0, 0, 0, 0, 0] ++ rec_
    isTaken (s 0x0A01 [7, 0, 0, 0]) 0x0A01 = true ∧ cfgExists 7 0 = true ∧
    isTaken (s 0x0A02 b7) 0x0A02 = true ∧ cfgLengthOk 7 rec_ = true ∧ (cfgRules (s 0x0A02 b7) 7 0 rec_).all (·.1) = true ∧
      getCfg (after (.cfgSet 0) (s 0x0A02 b7)) 7 0 = some rec_ ∧ cfgExists 7 1 = false ∧
      answered (after (.cfgSet 0) (s 0x0A02 ([7, 0, 1, 0, 0, 0, 0, 0] ++ rec_))) = some (sNOT_FOUND, []) ∧
    isTaken (s 0x0A03 [0, 4]) 0x0A03 = true ∧ (calOtp (s 0x0A03 [0, 4]) 0x400).isSome = true ∧
      (answered (after (.calGet 0) (s 0x0A03 [0, 4]))).map (·.1) = some sOK ∧
    isTaken (s 0x0A04 [0, 4, 4, 0]) 0x0A04 = true ∧ clampOffset (calBound (s 0x0A04 [0, 4, 4, 0]) 0x400) 4 = 4 ∧
      calOffset (after (.calSet 0) (s 0x0A04 [0, 4, 4, 0])) 0x400 = 4 ∧ clampOffset (calBound (s 0x0A04 [0, 4, 5, 0]) 0x400) 5 ≠ 5 ∧
      answered (after (.calSet 0) (s 0x0A04 [0, 4, 5, 0])) = some (sBAD_PARAMETER, []) := by
  decide +kernel

/-- FLT.READ, FLT.ACK of the record in force by its time stamp and by another, TMP.STATUS. -/
theorem test_CustodyConfigComplete_faults :
    let w := fault rich 1 578 .tag 0 0x30000000
    let s := fun c b => takenIn w (reqOf c 0 b)
    let stamp := (w.flt.first.map (fun f => leBytes 6 f.stamp.toNat)).getD []
    isTaken (s 0x0C01 []) 0x0C01 = true ∧ (answered (after (.fltRead 0) (s 0x0C01 []))).map (·.1) = some sOK ∧
    isTaken (s 0x0C02 stamp) 0x0C02 = true ∧ w.flt.first.isSome = true ∧ (after (.fltAck 0) (s 0x0C02 stamp)).flt.first = none ∧
      answered (after (.fltAck 0) (s 0x0C02 (List.replicate 6 0xFF))) = some (sNOT_FOUND, []) ∧
    isTaken (s 0x0C03 []) 0x0C03 = true ∧ (answered (after (.tmpStatus 0) (s 0x0C03 []))).map (fun a => a.2.length) = some 384 := by
  decide +kernel

/-! ### Vats (R142 to R146, R211 to R216) -/

/-- A device whose logical vat n has STATE x. -/
def vatIn (s : State) (n x : Nat) : State := setVatState s n x
/-- It has taken a command for vat 31, whose STATE is x. -/
def vatTaken (c x : Nat) (rest : Bytes) : State := takenIn (vatIn rich 31 x) (reqOf c 0 ([31, 0] ++ rest))
/-- The same while a RELOAD or a TRIM of vat 31 goes on for a pail. -/
def loadingFor (s : State) (p : Nat) : State := { s with fw := { s.fw with reload := [(p, 31)] } }
def trimmingFor (s : State) (p : Nat) : State := { s with fw := { s.fw with trims := [⟨p, 31, 1000, 0x155⟩] } }
/-- Pail 0's command is refused with BAD_PARAMETER. -/
def wrongly (c : Instr) (s : State) : Bool := decide (answered (after c s) = some (sBAD_PARAMETER, []))

/-- VAT.STATUS; VAT.QUIESCE of an ACTIVE vat, one in STATE 5, one in STATE 3, and one that drains; the drain, before and after, and the
time limit. -/
theorem test_VatCommandsComplete_quiesce :
    let s := fun x => vatTaken 0x0B02 x []
    let q := fun (s : State) => { s with fw := { s.fw with quiesce := [(0, 31)] } }
    let w := modVat (q (s 1)) 31 (fun v => { v with clkStable := true })
    let f := setReg (setCell w 496 { getCell w 496 with ticket := some 0 }) (R.VAT_CELL_RUN 31) 1
    isTaken (vatTaken 0x0B01 0 []) 0x0B01 = true ∧
      (answered (after (.vatStatus 0 1000) (vatTaken 0x0B01 0 []))).map (fun a => (a.2.take 2, a.2.length)) = some ([0, 31], 16) ∧
    isTaken (s 0) 0x0B02 = true ∧ (0, 31) ∉ (s 0).fw.quiesce ∧ vatStateOf (s 0) 31 = 0 ∧ vatStateOf (after (.vatQuiesce 0) (s 0)) 31 = 1 ∧
    isTaken (s 5) 0x0B02 = true ∧ (0, 31) ∉ (s 5).fw.quiesce ∧ vatStateOf (s 5) 31 = 5 ∧ vatStateOf (after (.vatQuiesce 0) (s 5)) 31 = 2 ∧
    isTaken (s 3) 0x0B02 = true ∧ vatStateOf (s 3) 31 = 3 ∧ wrongly (.vatQuiesce 0) (s 3) = true ∧
    vatStateOf w 31 = 1 ∧ isTaken w 0x0B02 = true ∧ w.fw.quiesce.find? (fun x => x.2 == 31) = some (0, 31) ∧ drained w (phys w 31) = true ∧
      vatStateOf (after (.drained 31) w) 31 = 2 ∧ answered (after (.quiesceTimeout 31) w) = some (sPARTIAL, []) ∧
    vatStateOf f 31 = 1 ∧ isTaken f 0x0B02 = true ∧ drained f (phys f 31) = false := by
  decide +kernel

/-- VAT.TRIM of a quiesced vat, while its own or another goes on, of an active vat; its measurement at the bound of 1 per cent and past
it. -/
theorem test_VatCommandsComplete_trim :
    let s := vatTaken 0x0B04 2 [0xE8, 3]
    let w := trimmingFor s 0
    isTaken s 0x0B04 = true ∧ s.fw.trims = [] ∧ s.fw.reload = [] ∧ vatStateOf s 31 = 2 ∧ (after (.vatTrim 0) s).fw.trims.length = 1 ∧
      boundary (after (.vatTrim 0) s) 31 = 1 ∧
    isTaken w 0x0B04 = true ∧ (after (.vatTrim 0) w).fw.trims = w.fw.trims ∧
    isTaken (trimmingFor s 1) 0x0B04 = true ∧ wrongly (.vatTrim 0) (trimmingFor s 1) = true ∧ wrongly (.vatTrim 0) (loadingFor s 1) = true ∧
    isTaken (vatTaken 0x0B04 0 [0xE8, 3]) 0x0B04 = true ∧ wrongly (.vatTrim 0) (vatTaken 0x0B04 0 [0xE8, 3]) = true ∧
    w.fw.trims.find? (fun x => x.vat == 31) = some ⟨0, 31, 1000, 0x155⟩ ∧
    (1000 * 990 ≤ (1010000#32).toNat ∧ (1010000#32).toNat ≤ 1000 * 1010) ∧ (after (.trimMeasurementEnd 31 1010000) w).fw.trims = [] ∧
      1000 * 1010 < (1010001#32).toNat ∧ (getVat (after (.trimMeasurementEnd 31 1010001) w) 31).trim = 0x155 := by
  decide +kernel

/-- VAT.RELOAD with no image verified, while its own goes on, in another state; VAT.RESUME, and of a vat whose reload failed. -/
theorem test_VatCommandsComplete_reload :
    let s := fun x => vatTaken 0x0B03 x ([0, 0] ++ zeros 32)
    let r := fun x => vatTaken 0x0B06 x []
    let bad := { r 2 with fw := { (r 2).fw with vatBad := [31] } }
    isTaken (s 2) 0x0B03 = true ∧ (0, 31) ∉ (s 2).fw.reload ∧ (s 2).fw.reload = [] ∧
    isTaken (loadingFor (s 2) 0) 0x0B03 = true ∧ (after (.vatReload 0) (loadingFor (s 2) 0)).fw.reload = [(0, 31)] ∧
    wrongly (.vatReload 0) (s 1) = true ∧ wrongly (.vatReload 0) (loadingFor (s 2) 1) = true ∧ wrongly (.vatReload 0) (trimmingFor (s 2) 1) = true ∧
    isTaken (r 2) 0x0B06 = true ∧ vatStateOf (r 2) 31 = 2 ∧ 31 ∉ (r 2).fw.vatBad ∧ (r 2).fw.reload = [] ∧ (r 2).fw.trims = [] ∧
      vatStateOf (after (.vatResume 0) (r 2)) 31 = 0 ∧ getReg (after (.vatResume 0) (r 2)) (R.VAT_CELL_RUN 31) = 0xFFFF ∧
    isTaken (r 0) 0x0B06 = true ∧ vatStateOf (r 0) 31 ≠ 2 ∧ wrongly (.vatResume 0) (r 0) = true ∧
    isTaken bad 0x0B06 = true ∧ wrongly (.vatResume 0) bad = true ∧ wrongly (.vatResume 0) (loadingFor (r 2) 1) = true := by
  decide +kernel

/-- VAT.RELOAD of an image verified in this boot starts the loader, one that the loader refuses ends in INTEGRITY, and so does one whose
digest is not the verified one. -/
theorem test_VatCommandsComplete_image :
    let dg : Bytes := List.replicate 32 5
    let v := { rich with fw := { rich.fw with cells := [{ image := 1, status := 0, digest := dg, len := 68 }] } }
    let w := setReg (writeMems v (imageBase 1) ([0x5043, 0x4D49, 3, 1, 2, 0, 0, 0].map dataWord)) (R.VAT_CELL_RUN 31) 0
    let s := fun (v : State) (d : Bytes) => takenIn (vatIn v 31 2) (reqOf 0x0B03 0 ([31, 0, 1, 0] ++ d))
    isTaken (s w dg) 0x0B03 = true ∧ imageVerified (s w dg) 1 dg = true ∧ (getVat (startLoad (s w dg) 31 1) 31).loading ≠ none ∧
      (after (.vatReload 0) (s w dg)).fw.reload = [(0, 31)] ∧
    isTaken (s v dg) 0x0B03 = true ∧ imageVerified (s v dg) 1 dg = true ∧ (getVat (startLoad (s v dg) 31 1) 31).loading = none ∧
      answered (after (.vatReload 0) (s v dg)) = some (sINTEGRITY, []) ∧
    isTaken (s w (zeros 32)) 0x0B03 = true ∧ imageVerified (s w (zeros 32)) 1 (zeros 32) = false ∧
      answered (after (.vatReload 0) (s w (zeros 32))) = some (sINTEGRITY, []) := by
  decide +kernel

/-- VAT.RETIRE with a spare and 24 vats active or 23, with none and 24 left active or 23. -/
theorem test_VatCommandsComplete_retire :
    let retired := fun (k : Nat) => (List.range k).foldl (fun s n => setVatState s n 3) rich
    let s := fun k => takenIn (vatIn (vatIn (retired k) 31 2) 33 4) (reqOf 0x0B05 0 [31, 0])
    let n := fun k => takenIn (vatIn (retired k) 31 2) (reqOf 0x0B05 0 [31, 0])
    isTaken (s 8) 0x0B05 = true ∧ vatStateOf (s 8) 31 = 2 ∧ spareOf (s 8) = some 33 ∧ activeVats (s 8) = 24 ∧ (s 8).store.curves = [] ∧
    isTaken (s 9) 0x0B05 = true ∧ vatStateOf (s 9) 31 = 2 ∧ spareOf (s 9) = some 33 ∧ activeVats (s 9) = 23 ∧
      answered (after (.vatRetire 0 true) (s 9)) = some (sQUOTA, []) ∧
    isTaken (n 7) 0x0B05 = true ∧ vatStateOf (n 7) 31 = 2 ∧ spareOf (n 7) = none ∧ activeVats (n 7) - 1 = 24 ∧
      answered (after (.vatRetire 0 true) (n 7)) = some (sOK, [0xFF]) ∧ vatStateOf (after (.vatRetire 0 true) (n 7)) 31 = 3 ∧
    isTaken (n 8) 0x0B05 = true ∧ spareOf (n 8) = none ∧ activeVats (n 8) - 1 = 23 ∧ answered (after (.vatRetire 0 true) (n 8)) = some (sQUOTA, []) ∧
    isTaken { s 8 with swap := some (0, 1) } 0x0B05 = true ∧ (s 8).swap = none ∧ (s 8).fw.reload = [] ∧ (s 8).fw.trims = [] ∧ (n 7).swap = none ∧
      (after (.vatRetire 0 true) { s 8 with swap := some (0, 1) }).fw.vatState = (s 8).fw.vatState ∧
    wrongly (.vatRetire 0 true) (loadingFor (vatTaken 0x0B05 2 []) 1) = true ∧ wrongly (.vatRetire 0 true) (trimmingFor (vatTaken 0x0B05 2 []) 1) = true ∧
    isTaken (vatTaken 0x0B05 0 []) 0x0B05 = true ∧ wrongly (.vatRetire 0 true) (vatTaken 0x0B05 0 []) = true := by
  decide +kernel
/-! ### The Herd Book and updates (R152 to R182) -/

/-- An entry numbered n of 64 bytes. -/
def entryOf (n : Nat) : Bytes := [0x48, 0x42, 0x4B, 0x54, 0, 0, 0, 0] ++ leBytes 6 n ++ zeros 50

/-- HB.HEAD; HB.READ of an entry held and of none; HB.ACK past the newest; HB.ANNOTATE; HB.PUBKEY. -/
theorem test_HerdBookUpdateComplete_book :
    let s := fun c b => takenIn rich (reqOf c 0 b)
    let h := takenIn { rich with fw := { rich.fw with held := some (entryOf 5) } } (reqOf 0x0D02 0 (leBytes 6 5))
    isTaken (s 0x0D01 []) 0x0D01 = true ∧
    isTaken h 0x0D02 = true ∧ findEntry h 5 = none ∧ entryNumber (entryOf 5) = 5 ∧
      (answered (after (.hbRead 0) h)).map (·.1) = some sNOT_PERSISTED ∧ answered (after (.hbRead 0) (s 0x0D02 (leBytes 6 5))) = some (sNOT_FOUND, []) ∧
    isTaken (s 0x0D03 (leBytes 6 5)) 0x0D03 = true ∧ (s 0x0D03 (leBytes 6 5)).fw.ring = none ∧ newestNumber (s 0x0D03 (leBytes 6 5)) < 5 ∧
      answered (after (.hbAck 0 0 0) (s 0x0D03 (leBytes 6 5))) = some (sBAD_PARAMETER, []) ∧
    isTaken (s 0x0D04 (zeros 34)) 0x0D04 = true ∧ (after (.hbAnnotate 0) (s 0x0D04 (zeros 34))).store.annotations.length = 1 ∧
    isTaken (s 0x0D05 []) 0x0D05 = true := by
  decide +kernel

/-- A persisted entry numbered n with no record lists (R168, R170). -/
def slotEntryOf (n : Nat) : Bytes := [0x48, 0x42, 0x4B, 0x54, 3, 0, 0x80, 2] ++ leBytes 6 n ++ zeros 626
/-- A device whose flash link is up and whose ring holds entries 5 and 6, the first of which has been acknowledged. -/
def penned : State :=
  let s := { rich with flash := { rich.flash with linkUp := true } }
  setPage (setPage (setPage s (pageKey s 7 (slotPage 0)) (packWords (slotEntryOf 5))) (pageKey s 7 (slotPage 3967)) (packWords (slotEntryOf 6)))
    (pageKey s 7 0) (packWords (ackPage 5))

/-- HB.READ of a persisted entry in the ring's last slot. -/
theorem test_HerdBookUpdateComplete_read :
    let s := takenIn penned (reqOf 0x0D02 0 (leBytes 6 6))
    isTaken s 0x0D02 = true ∧ findEntry s 6 = some (slotEntryOf 6) := by
  decide +kernel
/-- HB.ACK of the newest entry, of an entry acknowledged before, of one past the newest. -/
theorem test_HerdBookUpdateComplete_ack :
    let s := fun n => takenIn penned (reqOf 0x0D03 0 (leBytes 6 n))
    isTaken (s 6) 0x0D03 = true ∧ (s 6).fw.ring = none ∧ newestNumber (s 6) = 6 ∧ acked (s 6) = 5 ∧ (ackPlace (s 6) (ackCurrent (s 6)) 0).1 = some 1 ∧
      (s 6).flash.linkUp = true ∧ (s 6).ext.dip = none ∧ (s 6).fw.held = none ∧
    isTaken (s 5) 0x0D03 = true ∧ 5 ≤ acked (s 5) ∧ isTaken (s 7) 0x0D03 = true ∧ newestNumber (s 7) < 7 := by
  decide +kernel
/-- It is recorded, and is not where the link is down; a write that it lets begin is awaited, and so is one in progress. -/
theorem test_HerdBookUpdateComplete_ackRecord :
    let s := takenIn penned (reqOf 0x0D03 0 (leBytes 6 6))
    let h := { s with fw := { s.fw with held := some (slotEntryOf 7) } }
    let w := { s with fw := { s.fw with ring := some { slot := 1, fails := 0, begun := true } } }
    let d := { s with flash := { s.flash with linkUp := false } }
    (recordAck s 6 0 0).1 = true ∧ (ringNext (recordAck s 6 0 0).2 0).fw.ring = none ∧ acked (recordAck s 6 0 0).2 = 6 ∧
    isTaken d 0x0D03 = true ∧ d.fw.ring = none ∧ newestNumber d = 6 ∧ acked d = 5 ∧ (recordAck d 6 0 0).1 = false ∧
      answered (after (.hbAck 0 0 0) d) = some (sINTERNAL, []) ∧
    isTaken h 0x0D03 = true ∧ h.fw.ring = none ∧ (recordAck h 6 0 0).1 = true ∧ (ringNext (recordAck h 6 0 0).2 0).fw.ring ≠ none ∧
    isTaken w 0x0D03 = true ∧ w.fw.ring.isSome = true := by
  decide +kernel

/-- A device with an update session 9 on a slot that expects total bytes. -/
def updating (slot total : Nat) : State :=
  let s := writeStaging rich slot { state := stRECEIVING, total := total, digest := [], installSeq := 0, outcome := 0, pages := 0 }
  { s with fw := { s.fw with upd := some (9, slot) }, flash := { s.flash with linkUp := true } }
/-- UPD.BEGIN with both slots empty, on an installed slot, with a session open; UPD.STATUS; UPD.ABORT of the open session's slot. -/
theorem test_HerdBookUpdateComplete_session :
    let b : Bytes := [1, 0, 0, 0, 0, 0x10, 0, 0]
    let s := takenIn rich (reqOf 0x0E01 0 b)
    let w := takenIn (writeStaging rich 1 { state := stINSTALLED, total := 0, digest := [], installSeq := 0, outcome := 0, pages := 0 }) (reqOf 0x0E01 0 b)
    let u := takenIn (updating 1 4096) (reqOf 0x0E01 0 b)
    let a := takenIn (updating 1 4096) (reqOf 0x0E05 0 b)
    isTaken s 0x0E01 = true ∧ (getStaging s 1).state ≠ stINSTALLED ∧ (getStaging s 2).state ≠ stSTAGED ∧ s.fw.upd = none ∧
      (getStaging (after (.updBegin 0) s) 1).total = 4096 ∧
    isTaken w 0x0E01 = true ∧ (getStaging w 1).state = stINSTALLED ∧ answered (after (.updBegin 0) w) = some (sBAD_PARAMETER, []) ∧
    (getStaging u 1).state ≠ stINSTALLED ∧ u.fw.upd ≠ none ∧ answered (after (.updBegin 0) u) = some (sEXISTS, []) ∧
    isTaken (takenIn rich (reqOf 0x0E03 0 [1])) 0x0E03 = true ∧
    isTaken a 0x0E05 = true ∧ (getStaging a 1).state ≠ stINSTALLED ∧ (after (.updAbort 0) a).fw.upd = none ∧
    isTaken (takenIn w (reqOf 0x0E05 0 b)) 0x0E05 = true ∧ answered (after (.updAbort 0) (takenIn w (reqOf 0x0E05 0 b))) = some (sBAD_PARAMETER, []) := by
  decide +kernel
/-- UPD.BLOCK of the last, short block, and again; past TOTAL, short before the end; with the link down, in a dip, on a retired block. -/
theorem test_HerdBookUpdateComplete_block :
    let b := fun (off len : Nat) => reqOf 0x0E02 0 ([9, 0, 0, 0] ++ leBytes 4 off ++ leBytes 2 len ++ zeros 6 ++ [1, 2, 3, 4, 5, 6, 7, 8])
    let s := takenIn (updating 1 8) (b 0 8)
    let t := after (.updBlock 0 0) s
    let again := setPage s (pageKey s 4 0) (pageWords t (pageKey s 4 0))
    let down := { s with flash := { s.flash with linkUp := false } }
    let dip := { s with ext := { s.ext with dip := some 0 } }
    let gone := retireBlock s 256 3
    isTaken s 0x0E02 = true ∧ updSlotOf s (b 0 8) = some 1 ∧ 8 ≤ (getStaging s 1).total ∧ blockUsable s 256 = true ∧
      pageBlank s 4 0 = true ∧ s.flash.linkUp = true ∧ s.ext.dip = none ∧ (pageWords t (pageKey s 4 0)).take 5 = [0x0201, 0x0403, 0x0605, 0x0807, 0xFFFF] ∧
    pageBlank again 4 0 = false ∧ answered (after (.updBlock 0 0) again) = some (sEXISTS, []) ∧
    isTaken (takenIn (updating 1 8) (b 8 8)) 0x0E02 = true ∧ answered (after (.updBlock 0 0) (takenIn (updating 1 8) (b 8 8))) = some (sBAD_PARAMETER, []) ∧
    isTaken (takenIn (updating 1 9) (b 0 8)) 0x0E02 = true ∧ answered (after (.updBlock 0 0) (takenIn (updating 1 9) (b 0 8))) = some (sBAD_PARAMETER, []) ∧
    isTaken down 0x0E02 = true ∧ updSlotOf down (b 0 8) = some 1 ∧ answered (after (.updBlock 0 0) down) = some (sINTEGRITY, []) ∧
    isTaken dip 0x0E02 = true ∧ updSlotOf dip (b 0 8) = some 1 ∧ answered (after (.updBlock 0 0) dip) = some (sINTEGRITY, []) ∧
    isTaken gone 0x0E02 = true ∧ updSlotOf gone (b 0 8) = some 1 ∧
    isTaken (takenIn rich (b 0 8)) 0x0E02 = true ∧ updSlotOf (takenIn rich (b 0 8)) (b 0 8) = none := by
  decide +kernel
/-- UPD.COMMIT of a package all programmed, with the link down, of one not all programmed, and with no session. -/
theorem test_HerdBookUpdateComplete_commit :
    let r := reqOf 0x0E04 0 [9, 0, 0, 0]
    let u := updating 1 8
    let c := takenIn (setPage u (pageKey u 4 0) (packWords ([1, 2, 3, 4, 5, 6, 7, 8] ++ List.replicate 4088 0xFF))) r
    let d := { c with flash := { c.flash with linkUp := false } }
    isTaken c 0x0E04 = true ∧ updSlotOf c r = some 1 ∧ allProgrammed c 1 8 = true ∧ c.flash.linkUp = true ∧
    isTaken d 0x0E04 = true ∧ updSlotOf d r = some 1 ∧ allProgrammed d 1 8 = true ∧ answered (after (.updCommit 0 true) d) = some (sINTEGRITY, []) ∧
    isTaken (takenIn u r) 0x0E04 = true ∧ allProgrammed (takenIn u r) 1 8 = false ∧ answered (after (.updCommit 0 true) (takenIn u r)) = some (sBAD_PARAMETER, []) ∧
    isTaken (takenIn rich r) 0x0E04 = true ∧ updSlotOf (takenIn rich r) r = none := by
  decide +kernel

/-! ### The vats (R186 to R221, R325) -/

/-- A vat's deques given tickets. -/
def queued (s : State) (p k : Nat) (l : List Nat) : State := setDeque s p k l

/-- PUSH to deque 15 with 63 tickets and with 64, and to a vat that does not admits; DRAIN of a deque that holds one and of none; an empty pop. -/
theorem test_DequeSkimComplete_push :
    let s := queued rich 0 15 (List.range 63)
    let full := queued rich 0 15 (List.range 64)
    let shut := setReg rich (R.VAT_CTRL 0) 3
    let one := queued rich 0 15 [1023]
    admits s 0 = true ∧ (deque s 0 15).length = 63 ∧ (getVat s 0).waiters = [] ∧ (deque (after (.push 0 0x3FFF) s) 0 15).take 2 = [1023, 0] ∧
    (deque full 0 15).length = 64 ∧ getReg (after (.push 0 0x3FFF) full) (R.VAT_DQ_RESULT 0) = 0x4000 ∧ admits shut 0 = false ∧
    (getVat one 0).waiters = [] ∧ oldestUnpinned one 0 15 = some 1023 ∧ getReg (after (.drain 0 15) one) (R.VAT_DQ_RESULT 0) = 0x83FF ∧
      oldestUnpinned one 0 14 = none ∧ (getVat one 0).cq = [] := by
  decide +kernel
/-- A pop of ticket 1023 whose request pail 0 waits for, or whose response a cell has written; of the ticket of a key generation. -/
theorem test_DequeSkimComplete_pop :
    let q := fun (kind : BitVec 16) (d : Doorbell) =>
      writeMems (modVat (withBells rich [d]) 0 (fun v => { v with cq := [1023, 4] })) (ticketBase 0 1023) [dataWord 0xFFFF, dataWord kind]
    let s := q 0 (bellOf (reqOf 0x0104 0 []))
    let e := q 0 { bellOf (reqOf 0x0104 0 []) with phase := .done (reqOf 0x0104 0 []) (respond sOK 0x0104 []) }
    let g := q 0x2000 (bellOf (reqOf 0x0104 0 []))
    (getVat s 0).cq = [1023, 4] ∧ (∀ i, i < 16 → (getCell s i).wait ≠ .doneFull) ∧ bit (ticketWord s 0 1023 1) 13 = false ∧
      ((getPail s 0).queue.find? (fun q => decide (q.seq = ticketWord s 0 1023 0) && q.buf.isSome)).map (fun d => d.phase) = some (.taken (reqOf 0x0104 0 [])) ∧
      (getVat (after (.vatCqPop 0) s) 0).cq = [4] ∧
    bit (ticketWord e 0 1023 1) 13 = false ∧ ((getPail e 0).queue.find? (fun q => decide (q.seq = ticketWord e 0 1023 0) && q.buf.isSome)).map (fun d => d.phase)
      = some (.done (reqOf 0x0104 0 []) (respond sOK 0x0104 [])) ∧
    (getVat g 0).cq = [1023, 4] ∧ bit (ticketWord g 0 1023 1) 13 = true := by
  decide +kernel
/-- A vat that may skim: its one running cell waits. -/
def hungry (cfg : BitVec 16) : State := setReg (modVat rich 0 fun v => { v with waiters := [0] }) (R.VAT_SKIM_CFG 0) cfg
/-- A skim request with all directions open and with none; its service by no neighbour and by one; its replies; the back-off's end. -/
theorem test_DequeSkimComplete_skim :
    let s := hungry 0x8000
    let shut := hungry 0x8F00
    let asked := fun (d : Nat) (r : Option (Option (List Word))) => modVat (hungry 0x8000) 0 fun v => { v with skim := some ⟨d, 5, r⟩ }
    let rich1 := queued (setReg (asked 0 none) (R.VAT_CTRL 1) 0x13) 1 15 [1023]
    let ws := List.replicate 32 (dataWord 9)
    let home := modVat (asked 0 (some (some ws))) 0 fun v => { v with waiters := [] }
    powered s 0 = true ∧ admits s 0 = true ∧ getBit s (R.VAT_SKIM_CFG 0) 15 = true ∧ allWaiting s 0 = true ∧ (getVat s 0).skim = none ∧
      (getVat s 0).backoff = false ∧ freeTicket s 0 = some 0 ∧ nextDir s 0 0 = some 0 ∧ maySkim s 0 = true ∧ (getVat (after (.skimRequest 0) s) 0).skim = some ⟨0, 0, none⟩ ∧
    maySkim shut 0 = true ∧ maySkim rich 0 = false ∧ nextDir shut 0 0 = none ∧ freeTicket shut 0 = some 0 ∧ (getVat (after (.skimRequest 0) shut) 0).backoff = true ∧
    neighbour (asked 3 none) 0 3 = none ∧ (getVat (asked 3 none) 0).skim = some ⟨3, 5, none⟩ ∧
    (getVat rich1 0).skim = some ⟨0, 5, none⟩ ∧ neighbour rich1 0 0 = some 1 ∧ powered rich1 1 = true ∧ admits rich1 1 = true ∧ boundary rich1 1 = 0 ∧
      greatest (unpinnedCount rich1 1) (List.range 16) = some 15 ∧ oldestUnpinned rich1 1 15 = some 1023 ∧ deque (after (.skimServe 0) rich1) 1 15 = [] ∧
    maySkim (asked 0 (some none)) 0 = true ∧ nextDir (asked 0 (some none)) 0 1 = some 1 ∧ nextDir (asked 3 (some none)) 0 4 = none ∧
      maySkim (modVat (asked 0 (some none)) 0 fun v => { v with waiters := [] }) 0 = false ∧ (getVat (after (.skimReply 0) (asked 0 (some none))) 0).skim = some ⟨1, 5, none⟩ ∧
    (getVat home 0).waiters = [] ∧ (getVat home 0).skim = some ⟨0, 5, some (some ws)⟩ ∧ (getVat (after (.skimReply 0) home) 0).skim = none := by
  decide +kernel

/-- A device in the middle of a swap of vats 0 and 33; one whose supervisor has halted; one whose vat 1, which vat 0 asks, is in HOLD. -/
def swapping : State := { rich with swap := some (0, 33) }
def supDead (s : State) : State := setCell s supKey { getCell s supKey with halted := true }
theorem test_DequeSkimComplete_waits :
    let held := modVat (setReg rich (R.VAT_CTRL 1) 7) 0 fun v => { v with skim := some ⟨0, 5, none⟩ }
    swapHolds swapping (R.VAT_CTRL 0) = true ∧ swapHolds swapping (R.VAT_CTRL 33) = true ∧ swapHolds swapping (R.VAT_CTRL 1) = false ∧
    swapHolds rich (R.VAT_CTRL 0) = false ∧ supHalted rich = false ∧ supHalted (supDead rich) = true ∧
    (getVat held 0).skim = some ⟨0, 5, none⟩ ∧ neighbour held 0 0 = some 1 ∧ powered held 1 = true ∧ boundary held 1 = 1 ∧
      (getVat (after (.skimServe 0) held) 0).skim = some ⟨0, 5, none⟩ := by
  decide +kernel

/-- A hold limit of the MAC unit and a ticket limit of cell 15 bite; a halted cell 15 is taken out, three others halted. -/
theorem test_VatControlComplete_limits :
    let s := setReg rich (R.VAT_WDOG_CFG 0) 0x0101
    let w := setCell s 15 { getCell s 15 with ticket := some 3 }
    let h := setReg (setReg rich (R.VAT_CELL_RUN 0) 0x8000) (R.VAT_CELL_HALTED 0) 0x8007
    getFld s (R.VAT_WDOG_CFG 0) 15 8 ≠ 0 ∧ s.flt.first = none ∧ getReg (after (.holdLimitBite 0 .mac 15) s) (R.VAT_WDOG_UNIT 0) = 0xF4 ∧
    getFld w (R.VAT_WDOG_CFG 0) 7 0 ≠ 0 ∧ (getCell w 15).ticket ≠ none ∧ getReg (after (.ticketLimitBite 0 15) w) (R.VAT_WDOG_CELL 0) = 0x8000 ∧
    getBit h (R.VAT_CELL_HALTED 0) 15 = true ∧ getBit h (R.VAT_CELL_RUN 0) 15 = true ∧ deque h 0 15 = [] ∧ haltedCount h 0 = 4 ∧
      haltedCount { h with regs := (setReg h (R.VAT_CELL_HALTED 0) 0x8003).regs } 0 < 4 ∧
      getReg (after (.cellHaltHandling 0 15) (setReg h (R.VAT_CELL_HALTED 0) 0x8003)) (R.VAT_CELL_RUN 0) = 0 := by
  decide +kernel
/-- VAT_CTRL: POWER kept with BOUNDARY 3, POWER dropped while OPEN and while CLOSED with the clock running (refused), and while CLOSED and stopped. -/
theorem test_VatControlComplete_ctrl :
    let w := R.VAT_CTRL 33
    let s := fun v => setReg rich w v
    phys rich 33 = 33 ∧ bit (3 : BitVec 16) 0 = true ∧ getReg (after (.vatCtrlWrite 33 0xFFFF) (s 3)) w = 0x1B ∧
    fld (3 : BitVec 16) 3 2 ≠ 2 ∧ getReg (after (.vatCtrlWrite 33 0) (s 3)) w = 3 ∧ (s 3).flt.first = none ∧
    fld (0xB : BitVec 16) 3 2 = 2 ∧ bit (0xB : BitVec 16) 1 = true ∧ bit (getReg (after (.vatCtrlWrite 33 0) (s 0xB)) w) 0 = true ∧
    fld (9 : BitVec 16) 3 2 = 2 ∧ bit (9 : BitVec 16) 1 = false ∧ getReg (after (.vatCtrlWrite 33 0) (s 9)) w = 0 ∧
    getReg (after (.vatCellRun 0 0x8000) rich) (R.VAT_CELL_RUN 0) = 0x8000 := by
  decide +kernel
/-- VAT_SWAP of vats 0 and 33 that may swap, of vat 34, of a vat that may not; its completion. -/
theorem test_VatControlComplete_swap :
    let s := setReg (setReg rich (R.VAT_CELL_RUN 0) 0) (R.VAT_CTRL 0) 3
    let go := { s with swap := some (0, 33) }
    bit (0xA100 : BitVec 16) 15 = true ∧ s.swap = none ∧ swapOk s (phys s 0) = true ∧ swapOk s (phys s 33) = true ∧
      (after (.vatSwap 0xA100) s).swap = some (0, 33) ∧ bit (0xA200 : BitVec 16) 15 = true ∧ getBit (after (.vatSwap 0xA200) s) R.VAT_SWAP_STATUS 1 = true ∧
      swapOk rich (phys rich 0) = false ∧ go.swap ≠ none ∧ phys (after .swapComplete go) 0 = 33 ∧ phys (after .swapComplete go) 33 = 0 := by
  decide +kernel
/-- VAT_LOAD of a good image at the lowest address, and of one while cells run; the load's end with ENTRY 0 and an event base. -/
theorem test_VatControlComplete_load :
    let listed := fun (s : State) => { s with fw := { s.fw with cells := [{ image := 0, status := 0, digest := zeros 32, len := 68 }] } }
    let img := fun s => writeMems (listed s) 0x10080000 ([0x5043, 0x4D49, 3, 0, 2, 0, 0, 0xFF00].map dataWord)
    let at_ := fun s => setReg (setReg s (R.VAT_LOAD_ADDR_LO 0) 0) (R.VAT_LOAD_ADDR_HI 0) 0x1008
    let s := at_ (img (setReg rich (R.VAT_CELL_RUN 0) 0))
    let run := at_ (img rich)
    let l := modVat s 0 fun v => { v with loading := some 0x10080000 }
    (getVat s 0).loading = none ∧ getReg s (R.VAT_CELL_RUN 0) = 0 ∧ (regPair s (R.VAT_LOAD_ADDR_LO 0) (R.VAT_LOAD_ADDR_HI 0)).toNat = 0x10080000 ∧
      imageOk s 0x10080000 = true ∧ powered s 0 = true ∧ (getVat (after (.vatLoad 0 1) s) 0).loading = some 0x10080000 ∧
    getReg run (R.VAT_CELL_RUN 0) ≠ 0 ∧ (getVat (after (.vatLoad 0 1) run) 0).loadErr = true ∧
    (getVat l 0).loading = some 0x10080000 ∧ l.boot.step ≠ 7 ∧ l.fw.reload = [] ∧ (getVat (after (.loadComplete 0) l) 0).loadDone = true ∧
      (getCell (after (.loadComplete 0) l) 15).evb = 0xFF00 := by
  decide +kernel
/-- Cells' halts while no channel serves a command; writes that a swap holds; an APPLY that follows the swap; an image whose words the
table grants, and one whose words it refuses. -/
theorem test_VatControlComplete_waits :
    let later := { swapping with act := { swapping.act with applying := true, shadow := [] } }
    let shut := { rich with act := { rich.act with applied := [(0, { openEntry with read := false })] } }
    dmaInUse rich = false ∧ supHalted (supDead rich) = true ∧ swapHolds rich (R.VAT_CTRL 33) = false ∧ swapHolds swapping (R.VAT_CTRL 33) = true ∧
    (after (.vatCtrlWrite 33 0) swapping).regs = swapping.regs ∧ later.act.applying = true ∧ later.swap = some (0, 33) ∧
      (after .swapComplete later).act.applied = [] ∧ (after .swapComplete later).act.applying = false ∧
      (after .swapComplete swapping).act = swapping.act ∧
    imageRefused rich 0x10080000 = none ∧ (imageRefused shut 0x10080000).isSome = true := by
  decide +kernel
/-- The hold limit of a vat with BOUNDARY 1: a request of transfer 3 waits for it, and none. -/
theorem test_VatControlComplete_hold :
    let s := setReg rich (R.VAT_CTRL 0) 7
    let t : Transfer := { addr := 0x020C0000, master := 600, ty := 1, words := [], len := 0, age := 0, phase := .request, core := supKey, offset := 0, cause := none, abandoned := false, pos := some 0, hop := 0, judged := false }
    let x := { s with mesh := { s.mesh with xfers := [(3, some t)] } }
    hasMain s = true ∧ boundary s 0 = 1 ∧ powered s 0 = true ∧ s.mesh.xfers = [] ∧ heldAt x (waddrNow x t.addr.toNat t.pos) = true ∧
      (∀ q, q < 34 → (getVat x q).churn.jobs = [] ∧ (getVat x q).mac.jobs = []) ∧ (∀ c, c < 64 → (getDma s c).phase = .idle) ∧
      region t.addr.toNat = .vat 0 0xC0000 ∧ phys x 0 = 0 ∧ hasMain x = true ∧ boundary x 0 = 1 ∧ powered x 0 = true ∧ (∀ c, c < 64 → (getDma x c).phase = .idle) ∧ (getXfer (after (.boundaryHoldTimeout 0) x) 3).map (·.phase) = some (.reply 10) := by
  decide +kernel

/-! ### Churn, MAC unit and noise (R222 to R293) -/

/-- A churn job of an operation. -/
def cjob (op : Nat) (input : List Word) : ChurnJob :=
  { op := op, curve := 0, size := 0, rep := false, descr := 0x020C0000, keyCap := mkCap 0 0 0, outCap := mkCap 0 0 0,
    key := [], input := input, cancel := false, begun := false, owed := [], later := [], pair := none, results := none }
/-- A device whose churn of vat 0 has jobs, held by cell 15. -/
def churning (l : List (Nat × ChurnJob)) (busy : Bool) : State :=
  modChurn rich 0 fun c => { c with jobs := l.map (fun x => (x.1, some x.2)), holder := 15, busy := busy }
/-- A yield point that grants cell 15 again, and one that switches; with an RSA_VERIFY, which goes on; with a job whose late check
fails; with a cancelled job and one that goes on, past their draws. -/
theorem test_ChurnComplete_yield :
    let s := churning [(15, cjob 0x12 [])] false
    let w := churning [(2, cjob 0x12 [])] false
    let v := churning [(15, cjob 0x12 [])] true
    let late := churning [(15, cjob 0x11 [])] true
    let x := churning [(15, { cjob 0x21 [] with cancel := true })] true
    let y := churning [(15, { cjob 0x21 [] with owed := [256, 64] })] true
    churnWaiting s 0 = [15] ∧ (arbGrant s 1 [15]).1 = some 15 ∧ s.tmp.stall = false ∧ getReg (after (.yieldPoint 0) s) (R.CHN_SWITCHES 0) = 0 ∧
    churnWaiting w 0 = [2] ∧ (arbGrant w 1 [2]).1 = some 2 ∧ getReg (after (.yieldPoint 0) w) (R.CHN_SWITCHES 0) = 1 ∧
    (getVat v 0).churn.busy = true ∧ (getVat v 0).churn.holder = 15 ∧
    (getVat late 0).churn.busy = true ∧ lateCheck (cjob 0x11 []) p256 = some (3, 1) ∧ (getCell (after (.yieldPoint 0) late) 15).churnStatus = 3 ∧
    lateCheck (cjob 0x21 []) p256 = none ∧ (getVat x 0).churn.busy = true ∧ (drawAll x 0 2 []).1 = .served ∧
      getReg (after (.yieldPoint 0) x) (R.CHN_EVENT 0) = 2 ∧ (getCell (after (.yieldPoint 0) x) 15).churnStatus = 14 ∧
    (getVat y 0).churn.busy = true ∧ (drawAll y 0 2 [256, 64]).1 = .served ∧ (drawAll y 0 2 [256, 64]).2.1 = [] := by
  decide +kernel
/-- A churn job's end: an RSA key whose modulus is short; a draw that waits, and one of sources that have all stopped; an RSA_KEYGEN
that finds no primes yet; a result that is the identity; a private job with a mismatch; a cancelled job; the ends of a signing, of a
CURVE_SET and of another job. -/
theorem test_ChurnComplete_end :
    let s := churning [(15, cjob 0x11 [])] true
    let w := fun (op : Nat) => churning [(15, { cjob op [] with begun := true })] true
    let dry := { churning [(15, { cjob 0x21 [] with begun := true, owed := [64], later := [64] })] true with central := { bits := 0, next := 0 } }
    let off := (List.range 34).foldl (fun s n => modNoise s n fun z => { z with state := 3 }) dry
    let x := churning [(15, cjob 0x21 [])] true
    lateCheck (cjob 0x11 []) p256 = some (3, 1) ∧ (getCell (after (.churnJobEnd 0 false) s) 15).churnStatus = 3 ∧
    (getVat dry 0).churn.busy = true ∧ (drawAll dry 0 2 [64, 64]).1 = .waits ∧ (drawAll off 0 2 [64, 64]).1 = .stopped ∧
      (getCell (after (.churnJobEnd 0 false) off) 15).churnStatus = 15 ∧
    (getVat (w 0x13) 0).churn.busy = true ∧ (drawAll (w 0x13) 0 2 []).2.1 = [] ∧
    lateCheck (cjob 0x21 []) p256 = none ∧ resultCheck (cjob 0x21 []) p256 = none ∧ isPrivate 0x21 = true ∧
      (getCell (after (.churnJobEnd 0 true) x) 15).churnStatus = 13 ∧ getReg (after (.churnJobEnd 0 true) x) (R.CHN_LAST_MISMATCH 0) = 0xF021 ∧
    (getCell (after (.churnJobEnd 0 false) (churning [(15, { cjob 0x21 [] with cancel := true })] true)) 15).churnStatus = 14 ∧
    resultCheck (cjob 0x12 []) p256 = none ∧ resultCheck (cjob 0x31 []) p256 = none ∧ (getVat (w 0x31) 0).churn.busy = true := by
  decide +kernel
/-- A number as a churn's operand: 16 words, little-endian. -/
def operand (n : Nat) : List Word := (List.range 16).map fun i => dataWord (BitVec.ofNat 16 (n / 2 ^ (16 * i)))
/-- ECDH whose product is the identity: the scalar 0 stands for every multiple of the order. -/
theorem test_ChurnComplete_identity :
    let j := cjob 0x23 (operand p256.gx ++ operand p256.gy)
    lateCheck j p256 = none ∧ resultCheck j p256 = some (cBAD_POINT, 2) := by
  decide +kernel
/-- The operands of CURVE_SET: y² = x³ + 2x + 1 over the integers modulo p, with the point (0, 1) of order n and cofactor 1. -/
def tinyCurve (p n : BitVec 16) : List Word := [1, p, 2, 1, 0, 1, n, 1].map dataWord
/-- Modulo 5 and with order 7 it passes every check, whatever the bases. -/
theorem test_ChurnComplete_curveStart (bases : List Nat) : curveStart (curveOfInput (tinyCurve 5 7)) bases = none := by
  have h : mrTest 5 bases = true := by
    simp only [mrTest, Bool.and_eq_true, List.all_eq_true]
    refine ⟨by decide, fun b _ => ?_⟩
    have : b % (5 - 3) < 2 := Nat.mod_lt _ (by decide)
    generalize b % (5 - 3) = x at this
    exact (by decide : ∀ x, x < 2 → mrRound 5 (x + 2) = true) x this
  have hp : (curveOfInput (tinyCurve 5 7)).p = 5 := by decide
  have hf : fieldOk (curveOfInput (tinyCurve 5 7)) = true := by decide
  have hb : ¬ ¬ ((curveOfInput (tinyCurve 5 7)).a < (curveOfInput (tinyCurve 5 7)).p ∧ (curveOfInput (tinyCurve 5 7)).b < (curveOfInput (tinyCurve 5 7)).p ∧
      onCurve (curveOfInput (tinyCurve 5 7)) (curveOfInput (tinyCurve 5 7)).gx (curveOfInput (tinyCurve 5 7)).gy = true) := by decide
  rw [curveStart, if_neg (by rw [hp, hf, h]; simp), if_neg hb]
theorem test_ChurnComplete_curveRest (bases : List Nat) : curveRest (curveOfInput (tinyCurve 5 7)) bases = none := by
  have h : mrTest 7 bases = true := by
    simp only [mrTest, Bool.and_eq_true, List.all_eq_true]
    refine ⟨by decide, fun b _ => ?_⟩
    have : b % (7 - 3) < 4 := Nat.mod_lt _ (by decide)
    generalize b % (7 - 3) = x at this
    exact (by decide : ∀ x, x < 4 → mrRound 7 (x + 2) = true) x this
  have hn : (curveOfInput (tinyCurve 5 7)).n = 7 := by decide
  have hr : bitLen 7 ≤ 16 * (curveOfInput (tinyCurve 5 7)).words ∧ ecMul (curveOfInput (tinyCurve 5 7)) 7 (basePoint (curveOfInput (tinyCurve 5 7))) = none := by
    decide +kernel
  rw [curveRest, hn, if_neg (fun q => q ⟨h, hr⟩), if_neg (by decide), if_neg (by decide)]
/-- Modulo 1 it fails the first check, and with order 1 the third, whatever the bases. -/
theorem test_ChurnComplete_curveFails (bases : List Nat) :
    curveStart (curveOfInput (tinyCurve 1 7)) bases = some 1 ∧ curveRest (curveOfInput (tinyCurve 5 1)) bases = some 3 := by
  have hp : (curveOfInput (tinyCurve 1 7)).p = 1 := by decide
  have hn : (curveOfInput (tinyCurve 5 1)).n = 1 := by decide
  constructor
  · rw [curveStart, hp]; simp [mrTest]
  · rw [curveRest, hn]; simp [mrTest]
/-- A CURVE_SET whose p is even; ones whose draws wait and are served; a cancelled one. A job that keeps its results, and one a result of
which waits for a swap. -/
theorem test_ChurnComplete_set :
    let s := fun input owed cancel => churning [(15, { cjob 0x31 input with owed := owed, cancel := cancel })] true
    let dry := fun (s : State) => { s with central := { bits := 0, next := 0 } }
    let kept := churning [(15, { cjob 0x21 [] with results := some ([], []) })] true
    let swaps := { churning [(15, cjob 0x21 [])] true with swap := some (0, 33) }
    fieldOk (curveOfInput (tinyCurve 4 7)) = false ∧ (getCell (after (.yieldPoint 0) (s (tinyCurve 4 7) [] false)) 15).churnStatus = 12 ∧
    fieldOk (curveOfInput (tinyCurve 5 7)) = true ∧ fieldOk (curveOfInput (tinyCurve 1 7)) = true ∧ fieldOk (curveOfInput (tinyCurve 5 1)) = true ∧
    (drawAll (dry (s (tinyCurve 5 7) [16] false)) 0 2 [16]).1 = .waits ∧ (drawAll (s (tinyCurve 5 7) [16] false) 0 2 [16]).1 = .served ∧
      (drawAll (s (tinyCurve 5 7) [16] false) 0 2 [16]).2.1 = [] ∧ (drawAll (s (tinyCurve 5 7) [] true) 0 2 []).1 = .served ∧
      (drawAll (s (tinyCurve 5 7) [] true) 0 2 []).2.1 = [] ∧
    (getVat kept 0).churn.busy = true ∧ tget (fun _ => none) (getVat (after (.chnCancel 0 0x8000) kept) 0).churn.jobs 15
      = some { cjob 0x21 [] with results := some ([], []) } ∧
    churnResultsWait swaps (cjob 0x21 []) ([], [zeroWord]) = true ∧ swaps.swap ≠ none := by
  decide +kernel
/-- CHN_CANCEL of a job that waits and of the one that runs; CHN_KAT with no job and with one; both on a vat without power; the tests'
ends. -/
theorem test_ChurnComplete_kat :
    let s := churning [(15, cjob 0x12 [])] false
    let w := churning [(15, cjob 0x12 [])] true
    let k := modChurn rich 0 fun c => { c with kat := true }
    let off := setReg rich (R.VAT_CTRL 0) 0
    off.ext.mainPower = true ∧ accessWaits off (R.CHN_CANCEL 0) = false ∧ accessWaits s (R.CHN_CANCEL 0) = false ∧ accessWaits w (R.CHN_CANCEL 0) = false ∧
      accessWaits rich (R.CHN_KAT 0) = false ∧ isHole off (R.CHN_CANCEL 0) true = true ∧ isHole off (R.CHN_KAT 0) true = true ∧
      (after (.chnCancel 0 1) off).flt.first.map (·.addr) = some (BitVec.ofNat 32 (R.CHN_CANCEL 0)) ∧
    s.ext.mainPower = true ∧ isHole s (R.CHN_CANCEL 0) true = false ∧ isHole s (R.CHN_KAT 0) true = false ∧
    (getVat s 0).churn.busy = false ∧ tget (fun _ => none) (getVat (after (.chnCancel 0 0x8000) s) 0).churn.jobs 15 = none ∧
    isHole w (R.CHN_CANCEL 0) true = false ∧ tget (fun _ => none) (getVat (after (.chnCancel 0 0x8000) w) 0).churn.jobs 15 = some { cjob 0x12 [] with cancel := true } ∧
    isHole rich (R.CHN_KAT 0) true = false ∧ (getVat rich 0).churn.kat = false ∧ (getVat rich 0).churn.jobs = [] ∧
      (getVat (after (.chnKat 0 0x8000) rich) 0).churn.kat = true ∧
    (getVat s 0).churn.jobs ≠ [] ∧ (getVat k 0).churn.kat = true ∧ (0 : Nat) ∉ k.fw.katWait ∧ k.flt.first = none ∧
      (getVat (after (.churnKatEnd 0 false) k) 0).churn.katFail = true := by
  decide +kernel

/-- A MAC job over AES keys that are already formed. -/
def mjob (op ktype len : Nat) (mode : BitVec 16) (input : List Word) : MacJob :=
  { op := op, ksrc := 0, root := 0, ktype := ktype, mode := mode, ctr := 0, length := len, descr := 0x020C0000,
    keyCap := mkCap 0 0 0, inCap := mkCap 0x020C0000 0x1000 3, outCap := mkCap 0x020C2000 0x1000 7, keyWords := [], keyBytes := some (zeros 16),
    input := input, expected := [], ctrValue := none, cancel := false, results := none }
/-- A device whose MAC unit of vat 0 runs a job of cell 15. -/
def macing (j : MacJob) (busy : Bool) : State :=
  modMac rich 0 fun u => { u with jobs := [(15, some j)], holder := 15, busy := busy }
/-- A grant point with no holder; one in the middle of 2048 bytes of CMAC; the end of an eight-byte SHA job. -/
theorem test_MacUnitComplete_grants :
    let s := macing (mjob 4 0 8 0 []) false
    let j := mjob 1 2 2048 0 []
    let w := macing j true
    let e := macing (mjob 4 0 8 0 []) true
    macHolder s 0 = none ∧ macWaiting s 0 = [15] ∧ (arbGrant s 2 [15]).1 = some 15 ∧
    macHolder w 0 = some (15, j) ∧ j.input.length + 512 < jobInWords j ∧ (oks (Sys2Proof.Machine.keyed w 0 j)).map (·.1) = some j ∧
      ((readInput w (masterOfKey w 15) j 512).1.bind oks).map (·.input.length) = some 512 ∧ (useBlocks w 0 64).1 = .served ∧
      (tget (fun _ => none) (getVat (after (.macGrantPoint 0) w) 0).mac.jobs 15).map (·.input.length) = some 512 ∧
    macHolder e 0 = some (15, mjob 4 0 8 0 []) ∧ jobInWords (mjob 4 0 8 0 []) ≤ 512 ∧ ((readInput e (masterOfKey e 15) (mjob 4 0 8 0 []) 512).1.bind oks).isSome = true ∧
      (oks (Sys2Proof.Machine.keyed e 0 (mjob 4 0 8 0 []))).isSome = true ∧ (useBlocks e 0 4).1 = .served ∧ (getCell (after (.macJobEnd 0) e) 15).macStatus = 0 := by
  decide +kernel
/-- The ends of a CTR_READ of a cancelled job and of one that goes on, of CTR_INCREMENTs up to the largest value and past it; a job whose
key needs a root that is not loaded. -/
theorem test_MacUnitComplete_jobs :
    let c := fun (op n : Nat) (cancel : Bool) =>
      modMac (macing { mjob op 2 n 0 [] with cancel := cancel } true) 0 fun u => { u with counters := [(0, 0xFFFFFFFFFFFE)] }
    let k := macing { mjob 1 2 2048 0 [] with keyBytes := none, ksrc := 1, root := 1 } true
    macHolder (c 0x30 0 true) 0 = some (15, { mjob 0x30 2 0 0 [] with cancel := true }) ∧ jobInWords (mjob 0x30 2 0 0 []) ≤ 512 ∧
      (getCell (after (.macJobEnd 0) (c 0x30 0 true)) 15).macStatus = 14 ∧
    macHolder (c 0x31 1 false) 0 = some (15, mjob 0x31 2 1 0 []) ∧ (counterAt (c 0x31 1 false) 0 0).toNat + 1 < 2 ^ 48 ∧
    2 ^ 48 ≤ (counterAt (c 0x31 2 false) 0 0).toNat + 2 ∧ (getCell (after (.macJobEnd 0) (c 0x31 2 false)) 15).macStatus = 11 ∧
    (macHolder k 0).isSome = true ∧ errs (Sys2Proof.Machine.keyed k 0 { mjob 1 2 2048 0 [] with keyBytes := none, ksrc := 1, root := 1 }) = some 5 := by
  decide +kernel
/-- Jobs whose input, whose descriptor and whose output wait for a swap; one that keeps its results; none that waits. -/
theorem test_MacUnitComplete_waits :
    let swap := fun (s : State) => { s with swap := some (0, 33) }
    let j := mjob 1 2 2048 0 []
    let i := mjob 4 0 8 0 []
    let o := { i with mode := 0x20, inCap := mkCap 0x10000000 0x1000 3, descr := 0x10001000 }
    let r := { i with results := some ([], 0) }
    macHolder (swap (macing j true)) 0 = some (15, j) ∧ spanWaits (swap (macing j true)) ((capOf j.inCap).base + j.input.length) 512 = true ∧
      min 512 (jobInWords j - j.input.length) = 512 ∧ oks (Sys2Proof.Machine.keyed (swap (macing j true)) 0 j) = some (j, 0) ∧
    macHolder (swap (macing i true)) 0 = some (15, i) ∧ jobInWords i ≤ i.input.length + 512 ∧
      spanWaits (swap (macing i true)) ((capOf i.inCap).base + i.input.length) (min 512 (jobInWords i - i.input.length)) = true ∧
    ((readInput (swap (macing o true)) (masterOfKey (swap (macing o true)) 15) o 512).1.bind oks).isSome = true ∧
      spanWaits (swap (macing o true)) (capOf o.outCap).base 16 = true ∧
      (tget (fun _ => none) (getVat (after (.macJobEnd 0) (swap (macing o true))) 0).mac.jobs 15).map (·.results.isSome) = some true ∧
    macHolder (macing r true) 0 = some (15, r) ∧ jobInWords r ≤ r.input.length + 512 ∧
      tget (fun _ => none) (getVat (after (.macCancel 0 0x8000) (macing r true)) 0).mac.jobs 15 = some r ∧
    spanWaits (macing i true) (capOf i.outCap).base 16 = false ∧ spanWaits (macing i true) i.descr.toNat 24 = false := by
  decide +kernel
/-- MAC_CANCEL; MAC_KAT with no job and with one; the registers of a vat without power; the tests' ends. -/
theorem test_MacUnitComplete_kat :
    let s := macing (mjob 4 0 8 0 []) false
    let k := modMac rich 0 fun c => { c with kat := true }
    let off := setReg rich (R.VAT_CTRL 0) 0
    accessWaits off (R.MAC_CANCEL 0) = false ∧ accessWaits off (R.MAC_CTR_CMD 0) = false ∧ accessWaits s (R.MAC_KAT 0) = false ∧
      accessWaits s (R.MAC_CANCEL 0) = false ∧ accessWaits rich (R.MAC_CTR_CMD 0) = false ∧
    isHole off (R.MAC_CANCEL 0) true = true ∧ isHole off (R.MAC_KAT 0) true = true ∧ isHole off (R.MAC_CTR_CMD 0) true = true ∧
    isHole s (R.MAC_CANCEL 0) true = false ∧ isHole s (R.MAC_KAT 0) true = false ∧ isHole rich (R.MAC_KAT 0) true = false ∧
      isHole rich (R.MAC_CTR_CMD 0) true = false ∧
    (getVat s 0).mac.busy = false ∧ tget (fun _ => none) (getVat (after (.macCancel 0 0x8000) s) 0).mac.jobs 15 = none ∧
    (getVat rich 0).mac.kat = false ∧ (getVat rich 0).mac.jobs = [] ∧ (getVat (after (.macKat 0 0x8000) rich) 0).mac.kat = true ∧
    (getVat s 0).mac.jobs ≠ [] ∧ (getVat k 0).mac.kat = true ∧ (0 : Nat) ∉ k.fw.katWait ∧ (getVat (after (.macKatEnd 0 true) k) 0).mac.katPass = true ∧
      k.flt.first = none := by
  decide +kernel
/-- Counter 63 two short of its largest value: an increment of 1 reaches it, one of 2 does not pass it. -/
theorem test_MacUnitComplete_counters :
    let s := fun a => setReg (setReg (modMac rich 0 fun u => { u with counters := [(63, 0xFFFFFFFFFFFE)] }) (R.MAC_CTR_SEL 0) 63) (R.MAC_CTR_ARG 0 0) a
    (counterAt (s 1) 0 63).toNat = 2 ^ 48 - 2 ∧ (counterAt (after (.macCtrIncrement 0) (s 1)) 0 63).toNat = 2 ^ 48 - 1 ∧
      getReg (after (.macCtrIncrement 0) (s 2)) (R.MAC_CTR_STATUS 0) = 3 := by
  decide +kernel

/-- A source's state. -/
def source_ (st : BitVec 2) (bits : Nat) : State := modNoise rich 0 fun z => { z with state := st, bits := bits }
/-- A window just under both cut-offs with a full queue and one short of it; the start-up test's end. -/
theorem test_NoiseComplete_window :
    (getVat (source_ 2 32512) 0).noise.state = 2 ∧ (getVat (after (.aptWindowComplete 0 40 799) (source_ 2 32512)) 0).noise.bits = 32768 ∧
    (getVat (after (.aptWindowComplete 0 40 799) (source_ 2 32768)) 0).noise.bits = 32768 ∧
    getReg (after (.aptWindowComplete 0 40 799) (source_ 2 0)) (R.RNG_APT_PEAK 0) = 799 ∧
    powered (source_ 1 0) 0 = true ∧ sampling (source_ 1 0) 0 = true ∧ (source_ 1 0).boot.step = 13 ∧ sampling (source_ 2 0) 0 = true ∧
      sampling (setReg (source_ 1 0) (R.VAT_CTRL 0) 0x11) 0 = false := by
  decide +kernel
/-- A health test that fails while source 28 fires, and while it is quiet. -/
theorem test_NoiseComplete_failure :
    let s := source_ 1 0
    let f := setSrc s 28 { getSrc s 28 with firing := true }
    sampling f 0 = true ∧ sampling s 0 = true ∧ f.boot.step = 13 ∧ (getSrc f 28).firing = true ∧ (getVat f 0).noise.state = 1 ∧
    (getSrc s 28).firing = false ∧ s.bat.firing.getLsbD 28 = false ∧ srcFused s 28 = false ∧ inVigil s = false ∧ responseOf s 28 = 1 := by
  decide +kernel
/-- The central queue's last 256 bits; a waiting RDRAW served; reads just above the floor and at it. -/
theorem test_NoiseComplete_queue :
    let s := { source_ 2 8448 with central := { bits := 524032, next := 0 } }
    let low := fun n => setReg { rich with central := { rich.central with bits := n } } R.RNG_CQ_CFG 1
    s.central.bits + 256 ≤ 524288 ∧ s.central.next = 0 ∧ powered s 0 = true ∧ higherAsks s 0 4 = false ∧ getFld s (R.RNG_SRC_CFG 0) 7 0 < 8448 / 256 ∧
    524288 < { rich with central := { bits := 524033, next := 0 } }.central.bits + 256 ∧
    rich.fw.rootDue = false ∧ (∀ q, q < 48 → nonceWaits rich q = false) ∧ getFld (low 272) R.RNG_CQ_CFG 11 0 * 256 + 16 ≤ 272 ∧
      (low 271).central.bits < getFld (low 271) R.RNG_CQ_CFG 11 0 * 256 + 16 ∧ (after .rngCqData (low 272)).central.bits = 256 ∧
    (low 256).central.bits ≤ getFld (low 256) R.RNG_CQ_CFG 11 0 * 256 ∧ getBit (after .rngCqData (low 256)) R.RNG_CQ_STATUS 14 = true := by
  decide +kernel
/-- Cell 15 waits at an RDRAW, which is fetched; its vat's queue has just enough bits, too few, or a stopped source. -/
theorem test_NoiseComplete_rdraw :
    let at_ := fun s => writeMems (setCell s 15 { setPc (getCell rich 15) 0 with wait := .rdraw }) (istoreBase 0 15) [⟨.code, 0x8400⟩, ⟨.code, 0x0001⟩]
    let r := at_ (source_ 2 16)
    let d := at_ (source_ 2 15)
    let x := at_ (source_ 3 16)
    let first := fun s => (List.range 16).find? (fun k => decide ((getCell s k).wait = .rdraw))
    let word := fun s => match fetch s 15 with
      | .word w => some w
      | _ => none
    first r = some 15 ∧ (getVat r 0).noise.bits = 16 ∧ (getVat r 0).noise.state ≠ 3 ∧ word r = some 0x84000001 ∧
    (getVat r 0).wants = [] ∧ (getVat d 0).wants = [] ∧ lowerAsks d 0 = false ∧ logicalOf d 0 = 0 ∧
    first d = some 15 ∧ (getVat d 0).noise.bits < 16 ∧ 16 ≤ d.central.bits ∧ word d = some 0x84000001 ∧
    first x = some 15 ∧ (getVat x 0).noise.state = 3 ∧ word x = some 0x84000001 ∧ getReg (after (.internalDraw 0) x) (R.RNG_FALLBACK 0) = 1 := by
  decide +kernel

/-! ### The mesh and the access table (R356 to R387) -/

/-- A transfer of one word. -/
def moving (addr : BitVec 32) (ty : BitVec 4) (ws : List Word) (ph : XferPhase) : Transfer :=
  { addr := addr, master := 15, ty := ty, words := ws, len := 1, age := 0, phase := ph, core := 15, offset := 0, cause := none, abandoned := false, pos := none, hop := 0, judged := false }
/-- A device with that transfer, number 3, in flight; its core is cell 15 of vat 0. -/
def flying (s : State) (t : Transfer) : State := { s with mesh := { s.mesh with xfers := [(3, some t)], replies := repliesAfter [] 3 (some t) } }
/-- A read of the last word of SRAM; a write and a posted store, to a word of CODE and not: each reaches its endpoint. -/
theorem test_MeshComplete_arrives :
    let r := flying rich (moving 0x103FFFFF 0 [] .request)
    let w := flying rich (moving 0x103FFFFF 1 [dataWord 9] .request)
    let p := flying rich (moving 0x103FFFFF 2 [dataWord 9] .request)
    let c := flying (writeMem rich 0x103FFFFF ⟨.code, 1⟩) (moving 0x103FFFFF 1 [dataWord 9] .request)
    let there := fun (s : State) =>
      let v := (getXfer s 3).elim s fun t => setXfer s 3 (some { t with judged := true })
      let u := travel (releaseOutputs v 15) 3 (allRounds v)
      (getXfer u 3).map fun q => xferHead u q
    there r = some none ∧ there w = some none ∧ there p = some none ∧ there c = some none := by
  decide +kernel
/-- The same transfers served there; a request at a vat in HOLD. -/
theorem test_MeshComplete_request :
    let r := flying rich (moving 0x103FFFFF 0 [] .request)
    let w := flying rich (moving 0x103FFFFF 1 [dataWord 9] .request)
    let p := flying rich (moving 0x103FFFFF 2 [dataWord 9] .request)
    let c := flying (writeMem rich 0x103FFFFF ⟨.code, 1⟩) (moving 0x103FFFFF 1 [dataWord 9] .request)
    let h := flying (setReg rich (R.VAT_CTRL 0) 7) (moving 0x020C0000 0 [] .request)
    waddrNow r 0x103FFFFF none = 0x103FFFFF ∧
    region 0x103FFFFF = .sram ∧ isHole r 0x103FFFFF false = false ∧ isHole w 0x103FFFFF true = false ∧ heldAt r 0x103FFFFF = false ∧
      (getXfer (after (.meshRequest 3 true 0 []) r) 3).map (·.phase) = some (.reply 8) ∧ readMem (after (.meshRequest 3 true 0 []) w) 0x103FFFFF = dataWord 9 ∧
    egressStore p 15 0x103FFFFF [dataWord 9] = none ∧ readMem (after (.meshRequest 3 true 0 []) p) 0x103FFFFF = dataWord 9 ∧
    (readMem c (physAddr c 0x103FFFFF)).tag = .code ∧ (getXfer (after (.meshRequest 3 true 0 []) c) 3).map (·.phase) = some (.reply 10) ∧
    waddrNow h 0x020C0000 none = 0x020C0000 ∧ heldAt h 0x020C0000 = true := by
  decide +kernel
/-- The reply to a load of G15, the acknowledgement of a posted store, a late reply, and a reply behind an output that master 0 holds. -/
theorem test_MeshComplete_reply :
    let wait := fun w => setCell rich 15 { getCell rich 15 with wait := w, posted := 1 }
    let load := moving 0x10000000 0 [⟨.secret, 5⟩] (.reply 8)
    let r := flying (wait (.mem ⟨.loadG 15, 1, [], none⟩)) load
    let a := flying (wait .none) (moving 0x10000000 2 [] (.reply 9))
    let l := flying (wait .none) { load with abandoned := true }
    let home := fun (s : State) => let u := travelBack (releaseOutputs s 15) 3 (allRounds s); (getXfer u 3).map fun q => xferHead u q
    let far := moving 0x020C0000 0 [⟨.secret, 5⟩] (.reply 8)
    let b := flying (wait .none) far
    let b := { b with mesh := { b.mesh with held := [(4, 1)] } }
    home r = some none ∧ home a = some none ∧ home l = some none ∧ waddrNow r 0x10000000 none = 0x10000000 ∧ region 0x10000000 = .sram ∧
    (getCell r 15).wait = .mem ⟨.loadG 15, 1, [], none⟩ ∧ getG (getCell (after (.meshReply 3 0 []) r) 15) 15 = ⟨.secret, 5⟩ ∧
    (getCell a 15).wait = .none ∧ (getCell (after (.meshReply 3 0 []) a) 15).posted = 0 ∧ getReg (after (.meshReply 3 0 []) l) R.MSH_LATE = 1 ∧
    xferHead b far = some (0, 4, 4) ∧ outputHeld b 15 0 4 = true ∧ getXfer (after (.meshReply 3 0 []) b) 3 = some far := by
  decide +kernel
/-- A posted store refused at the egress: its window covers nothing; a reply's time limit. -/
theorem test_MeshComplete_refused :
    let s := flying (setCell { rich with act := { rich.act with applied := [] } } 15 { getCell rich 15 with posted := 1 }) (moving 0x10000000 2 [dataWord 9] .request)
    let t := flying rich (moving 0x10000000 0 [] .request)
    (egressStore s 15 0x10000000 [dataWord 9]).isSome = true ∧ (moving 0x10000000 2 [dataWord 9] .request).judged = false ∧ (getCell s 15).wait = .none ∧ s.flt.first = none ∧
      (getCell (after (.postedWriteRefusal 3) s) 15).postRefused = true ∧
    t.flt.first = none ∧ (getXfer (after (.replyTimeout 3) t) 3).map (·.abandoned) = some true := by
  decide +kernel
/-- The link watchdog of router 0's output 0; ABORT with nothing in flight and with a transfer that holds the output; the supervisor's watchdog. -/
theorem test_MeshComplete_watchdogs :
    let s := setReg rich (R.MSH_RTR_WDOG_CFG 0) 1
    let h := flying { rich with mesh := { rich.mesh with held := [(0, 16)] } } (moving 0x10000000 0 [] .request)
    let w := setReg rich R.MSH_SWDOG_CFG 1
    hasMain s = true ∧ outputExists 0 0 = true ∧ getFld s (R.MSH_RTR_WDOG_CFG 0) 7 0 ≠ 0 ∧ s.flt.first = none ∧
      tget (fun _ => (0 : Nat)) (after (.linkWatchdogBite 0 0 0x3FF) s).mesh.held 0 = 1024 ∧
    s.mesh.xfers = [] ∧ tget (fun _ => (0 : Nat)) h.mesh.held 0 = (moving 0x10000000 0 [] .request).master.toNat + 1 ∧
      xferHead h (moving 0x10000000 0 [] .request) = some (0, 0, 4) ∧
      (getXfer (after (.mshRtrAbort 0 1) h) 3).map (·.phase) = some (.reply 10) ∧ tget (fun _ => (0 : Nat)) (after (.mshRtrAbort 0 1) h).mesh.held 0 = 0 ∧
    getReg w R.MSH_SWDOG_CFG ≠ 0 ∧ w.flt.first = none ∧ getBit (after .supervisorWatchdogBite w) R.MSH_SWDOG_STATUS 0 = true := by
  decide +kernel
/-- APPLY, with no swap in progress, with one, and while one is waited for; a WRITE of a usable entry, of an empty one, over a locked one; CLEAR_PART over an unlocked entry and a locked one. -/
theorem test_AccessTableComplete :
    let show_ := fun (s : State) (e : ActEntry) => ((wordsOfEntry e).zipIdx.foldl (fun s x => setReg s (R.ACT_ENTRY x.2) x.1) s)
    let s := show_ (setReg rich R.ACT_SEL 511) openEntry
    let e := show_ (setReg rich R.ACT_SEL 511) { zeroEntry with base := 1 }
    let l := { s with act := { s.act with applied := [(511, { openEntry with lock := true })] } }
    let c := { rich with act := { rich.act with shadow := [(1, { openEntry with owner := 15 }), (2, { openEntry with owner := 15, lock := true })], applied := [(2, { openEntry with owner := 15, lock := true })] } }
    let w := { rich with swap := some (0, 1) }
    rich.act.applying = false ∧ rich.swap = none ∧ (after .apply rich).act.applied = rich.act.shadow ∧
    w.swap ≠ none ∧ (after .apply w).act.applying = true ∧ (after .apply w).act.applied = rich.act.applied ∧
    after .apply (after .apply w) = after .apply w ∧
    hasMain s = true ∧ openEntry.empty = false ∧ (appliedEntry s 511).lock = false ∧ shadowEntry (after .actWrite s) 511 = openEntry ∧
    (entryOfWords (fun j => getReg e (R.ACT_ENTRY j))).empty = true ∧ getBit (after .actWrite e) R.ACT_STATUS 13 = true ∧ (appliedEntry l 511).lock = true ∧
    (shadowEntry (after (.clearPart 15) c) 1).enable = false ∧ (shadowEntry (after (.clearPart 15) c) 2).enable = true := by
  decide +kernel
/-- The code word of a word, and three of its bits changed. -/
theorem test_CheckCodeDetects :
    receiveWord (codeWord ⟨.secret, 0xFFFF⟩) = some ⟨.secret, 0xFFFF⟩ ∧
    receiveWord (codeWord ⟨.secret, 0xFFFF⟩ ^^^ BitVec.twoPow 25 0 ^^^ BitVec.twoPow 25 23 ^^^ BitVec.twoPow 25 24) = none := by
  decide +kernel

/-! ### DMA (R388 to R402) -/

/-- A device whose channel 63 is in a phase with a descriptor, its host space enabled and its port a bus master. -/
def channel (ph : DmaPhase) (q : Option DmaDesc) : State :=
  let s := modDma (setReg rich (R.DMA_CH_CFG 63) 4) 63 fun d => { d with phase := ph, desc := q }
  setPort s .host { getPort s .host with busMaster := true }
/-- A descriptor from RAM to the host, of 256 bytes, with a control word. -/
def outward (control : BitVec 32) (moved : Nat) : DmaDesc :=
  { control := control, src := ⟨2, [(0x10000000, 256)]⟩, dst := ⟨0, [(0x1000, 256)]⟩, next := 0x2020, total := 256, moved := moved }
/-- The bytes of such a descriptor with CONTROL's top byte and TOTAL's low byte. -/
def descrBytes (own total : Byte) : Bytes :=
  [0, 0, 0, own, 0, 0, 0, 0, 0, 0, 0, 0, 2, 0, 1, 1] ++ zeros 8 ++ [total, 1, 0, 0, 0, 0, 0, 0]
    ++ leBytes 8 0x10000000 ++ leBytes 4 256 ++ zeros 4 ++ leBytes 8 0x1000 ++ leBytes 4 256 ++ zeros 4
/-- START on a boundary and off it; ABORT of a fetch and of a descriptor that moves. -/
theorem test_DmaComplete_control :
    let s := setReg (channel .idle none) (R.DMA_CH_DESC 63 0) 0xFFE0
    let w := setReg (channel .idle none) (R.DMA_CH_DESC 63 0) 0xFFE1
    let m := channel .move (some (outward 0x80000000 128))
    hasMain s = true ∧ descAligned (descSpace s 63) (regQuad s (R.DMA_CH_DESC 63 0)) = true ∧ (getDma s 63).phase = .idle ∧
      (getDma (after (.dmaStart 63) s) 63).phase = .fetch ∧ descAligned (descSpace w 63) (regQuad w (R.DMA_CH_DESC 63 0)) = false ∧
      (getDma (after (.dmaStart 63) w) 63).halted = true ∧ (getDma m 63).phase ≠ .idle ∧
    (getDma (after (.dmaAbort 63) (channel .fetch none)) 63).phase = .idle ∧
    (getDma m 63).phase = .move ∧ (getDma (after (.dmaAbort 63) m) 63).stopping = true := by
  decide +kernel
/-- Fetch of a good descriptor, of one with OWN 0, of one whose TOTAL is wrong, and one the host does not answer. -/
theorem test_DmaComplete_fetch :
    let s := channel .fetch none
    let e := fun b => slice b 0 (descLength (slice b 0 32))
    let good := descrBytes 0x80 0
    (getDma s 63).phase = .fetch ∧ descSpace s 63 = 0 ∧ hostOpen s 63 0 = true ∧ (descOf (e good)).control.getLsbD 31 = true ∧ descBad (e good) = none ∧
      (getDma (after (.descriptorFetch 63 (some good) false) s) 63).phase = .move ∧ (descOf (e (descrBytes 0 0))).control.getLsbD 31 = false ∧
    descBad (e (descrBytes 0x80 2)) = some (0, false) ∧ (descOf (e (descrBytes 0x80 2))).control.getLsbD 31 = true ∧
      (getDma (after (.descriptorFetch 63 none false) s) 63).halted = true := by
  decide +kernel
/-- A burst of 256 bytes to the host; its write-back with IRQ and LINK, and without; a write-back and a move the host does not answer. -/
theorem test_DmaComplete_burst :
    let s := channel .move (some (outward 0x80000000 0))
    let w := channel (.writeBack (dmaStatus 0 0 false) 0) (some (outward 0xE0000000 256))
    let x := channel (.writeBack (dmaStatus 0 0 false) 0) (some (outward 0x80000000 256))
    let m := channel .move (some { outward 0x80000000 2 with src := ⟨0, [(0x1000, 256)]⟩, dst := ⟨2, [(0x10000000, 256)]⟩ })
    s.tmp.stall = false ∧ (getDma s 63).desc = some (outward 0x80000000 0) ∧ hostOpen s 63 0 = true ∧
      (∀ i, i < 128 → checkWord s (dmaMaster 63) (0x10000000 + i) .read false = none ∧ (readMem s (0x10000000 + i)).tag = .data) ∧
      (getDma (after (.burst 63 none none) s) 63).phase = .writeBack (dmaStatus 0 0 false) 0 ∧
    hostOpen w 63 0 = true ∧ descAligned 0 0x2020 = true ∧ (getDma (after (.descriptorWriteBack 63 true false) w) 63).phase = .fetch ∧
    (getDma (after (.descriptorWriteBack 63 true false) x) 63).phase = .idle ∧ (getDma (after (.descriptorWriteBack 63 false false) x) 63).halted = true ∧
    (channel .fetch none).flt.first = none ∧ (getDma (after (.hostCompletionTimeout 63) (channel .fetch none)) 63).halted = true ∧
    (getDma m 63).phase = .move ∧ (getDma (after (.hostCompletionTimeout 63) m) 63).phase = .writeBack (dmaStatus 6 0 false) 254 := by
  decide +kernel

/-! ### Flash (R403 to R429) -/

/-- A device whose flash link is up, bank 7 in a state, its target block 63 and page 63. -/
def flashy (k : FlashBank) : State :=
  setReg (setBank { rich with flash := { rich.flash with linkUp := true } } 7 k) (R.FLC_ADDR 7) 0xFFF
/-- A window read of the last word of the last page, in a buffer and not. -/
theorem test_FlashComplete_read :
    let s := setReg (flashy ⟨[4095], [], none⟩) R.FLC_PROT 0
    let w := setReg (flashy ⟨[], [], none⟩) R.FLC_PROT 0
    hasMain s = true ∧ flashPlace 0x23FFFFFF = (7, 4095, 2047) ∧ flashOpen s 15 = true ∧ checkWord s 15 0x23FFFFFF .read false = none ∧
      (after (.flashWindowRead 15 0x23FFFFFF) s).lastRead = dataWord 0xFFFF ∧ checkWord w 15 0x23FFFFFF .read false = none ∧
      (getBank (after (.flashWindowRead 15 0x23FFFFFF) w) 7).loads = [⟨4095, [.bus 15 0x23FFFFFF]⟩] := by
  decide +kernel
/-- A page load's end, done and failed. -/
theorem test_FlashComplete_load :
    let s := flashy ⟨[1, 2], [⟨4095, []⟩], none⟩
    (getBank s 7).loads = [⟨4095, []⟩] ∧ (getBank (after (.pageLoadEnd 7 7 40 .done) s) 7).buffers.head? = some 4095 ∧
      getReg (after (.pageLoadEnd 7 7 40 .failed) s) (R.FLC_UNCORR_LAST 7) = 0x8FFF := by
  decide +kernel
/-- Each command begins on a good block, on a RETIRED block, on a page that is not blank; it is refused while another runs. -/
theorem test_FlashComplete_begin :
    let s := setReg (flashy ⟨[], [], none⟩) (R.FLC_SRC_HI 7) 0x1000
    let bad := setFlashBlock s 511 ⟨2, 4, none⟩
    let full := setPage s (pageKey s 7 4095) [0]
    let run := flashy ⟨[], [], some { op := 2, block := 0, page := 0, phase := 2, code := none, pulses := 0, spare := none, data := [] }⟩
    let job := fun c s => (getBank (after c s) 7).job.map (fun j => (j.phase, j.code))
    (hasMain s = true ∧ s.flash.linkUp = true ∧ (getBank s 7).job = none ∧ (getBank s 7).loads = [] ∧ s.ext.dip = none) ∧
    (getReg s (R.FLC_SRC_LO 7)).toNat % 16 = 0 ∧ blockUsable s 511 = true ∧ pageBlank s 7 4095 = true ∧ job (.program 7) s = some (2, none) ∧
    blockUsable bad 511 = false ∧ job (.program 7) bad = some (1, some 5) ∧ pageBlank full 7 4095 = false ∧ job (.program 7) full = some (1, some 1) ∧
    job (.erase 7) s = some (2, none) ∧ job (.erase 7) bad = some (1, some 5) ∧ job (.blankCheck 7) full = some (1, some 1) ∧
    job (.retire 7) bad = some (1, some 9) ∧ job (.replace 7) s = some (1, some 9) ∧ (freeSpares bad).head? = some 0 ∧ job (.replace 7) bad = some (2, none) ∧
    (getBank run 7).job ≠ none ∧ getBit (after (.erase 7) run) (R.FLC_BANK_STATUS 7) 14 = true := by
  decide +kernel
/-- What PROGRAM reads from SRAM. -/
def wordsRead (r : OpRead) : Option (Nat × Bool) :=
  match r with
  | .words ws => some (ws.length, ws.all fun w => decide (w.tag = .data))
  | _ => none
theorem test_FlashComplete_source :
    let s := setReg (flashy ⟨[], [], none⟩) (R.FLC_SRC_HI 7) 0x1000
    (regPair s (R.FLC_SRC_LO 7) (R.FLC_SRC_HI 7)).toNat = 0x10000000 ∧
      wordsRead (opRead s 579 0x10000000 2048).1 = some (2048, true) ∧
      (∀ i, i < 2048 → isRam s (0x10000000 + i) = true) := by
  decide +kernel
/-- The program of an entry in bank 7 that ends well; the link comes up with no write of the ring. -/
theorem test_FlashComplete_ring :
    let s := flashy ⟨[], [], some { op := 1, block := 63, page := 63, phase := 2, code := none, pulses := 0, spare := none, data := [7] }⟩
    let w := { s with fw := { s.fw with ring := some { slot := 3967, fails := 0, begun := true }, held := some [1] } }
    w.fw.ring.isSome = true ∧ (after (.flashCommandEnd 7 .done) w).fw.ring = none ∧ (after (.flashCommandEnd 7 .done) w).fw.held = none ∧
    hasMain rich = true ∧ rich.fw.ring = none ∧ (after .linkUp rich).flash.linkUp = true := by
  decide +kernel
/-- Erase pulses that end good, short and past the last; ends of a program, of commands refused, of a retirement; FLC_PROT. -/
theorem test_FlashComplete_end :
    let job := fun op ph code pulses => ({ op := op, block := 63, page := 63, phase := ph, code := code, pulses := pulses, spare := none, data := [7] } : FlashJob)
    let s := fun j => flashy ⟨[], [], some j⟩
    let run := fun c j => (getBank (after c (s j)) 7).job
    run (.erasePulseEnd 7 true) (job 2 2 none 11) = some (job 2 3 (some 0) 12) ∧ run (.erasePulseEnd 7 false) (job 2 2 none 10) = some (job 2 2 none 11) ∧
    run (.flashCommandEnd 7 .done) (job 1 2 none 0) = none ∧ pageWords (after (.flashCommandEnd 7 .done) (s (job 1 2 none 0))) (pageKey rich 7 4095) = [7] ∧
    (∀ c ∈ [1, 5, 6, 7, 9], ∀ op ∈ [1, 3, 4], getFld (after (.flashCommandEnd 7 .done) (s (job op 1 (some c) 0))) (R.FLC_RESULT 7) 15 12 = c) ∧
    (flashBlock (after (.flashCommandEnd 7 .done) (s (job 4 1 (some 0) 0))) 511).reason = 4 ∧
    (getFld rich R.FLC_PROT 1 0 = 3 ∧ getFld (after (.flcProt 0) rich) R.FLC_PROT 1 0 = 0) ∧
    getFld (after (.flcProt 1) (setReg rich R.FLC_PROT 2)) R.FLC_PROT 1 0 = 2 := by
  decide +kernel

/-! ### The platform ports (R430 to R453) -/

/-- A guard port's MODE, its busy bits and more. -/
def guarded (m : Nat) (pending cs : Bool) : State :=
  setBit (setBit (setFld rich (R.FGP_STATUS 3) 15 14 m) (R.FGP_STATUS 3) 13 pending) (R.FGP_STATUS 3) 12 cs
/-- A state whose platform gate is open. -/
def gated (s : State) : State := setBit s R.CTP_GATE 0 true
/-- MEASURE from HOLD; a measurement of one byte that ends, fails or runs out of time. -/
theorem test_GuardPortComplete_measure :
    let s := guarded 0 false false
    let m := setReg (setReg (guarded 3 false false) (R.FGP_MLIMIT 3) 0x2000) (R.FGP_RANGE 3 2) 1
    hasMain s = true ∧ modeNow s 3 = 0 ∧ modeNow (after (.measure 3) s) 3 = 3 ∧ modeNow m 3 = 3 ∧ getBit m (R.FGP_STATUS 3) 13 = false ∧
    measuredLength m 3 = 1 ∧ getReg (after (.measurementEnd 3 (some [0x61])) m) (R.FGP_DIGEST 3 0) = 0x97CA ∧
    getFld (after (.measurementEnd 3 none) m) (R.FGP_STATUS 3) 3 0 = 2 ∧ getFld (after (.measureTimeLimit 3) m) (R.FGP_STATUS 3) 3 0 = 3 := by
  decide +kernel
/-- MODE: GUARD with the gate open and shut, HOLD with the gate shut, with CS# high and low; the rise of CS# with and without a mode that waits. -/
theorem test_GuardPortComplete_mode :
    let s := guarded 0 false false
    let low := guarded 1 false true
    let pend := setFld (guarded 0 true true) (R.FGP_CTRL 3) 1 0 2
    gateOpen (gated s) = true ∧ upCs (gated s) 3 = false ∧ modeNow (gated s) 3 ≠ 3 ∧ modeNow (after (.fgpModeWrite 3 2) (gated s)) 3 = 2 ∧
    gateOpen s = false ∧ modeNow (after (.fgpModeWrite 3 3) s) 3 = 0 ∧ upCs low 3 = true ∧ getBit (after (.fgpModeWrite 3 0) low) (R.FGP_STATUS 3) 13 = true ∧
    pend.boot.step ≠ 14 ∧ getBit pend (R.FGP_STATUS 3) 13 = true ∧ modeNow pend 3 ≠ 3 ∧ modeNow (after (.upstreamCsRise 3) pend) 3 = 2 ∧
    getBit low (R.FGP_STATUS 3) 13 = false ∧ modeNow (after (.upstreamCsRise 3) low) 3 = 1 := by
  decide +kernel
/-- A command to a port that passes, a chip erase and a read to one that guards. -/
theorem test_GuardPortComplete_command :
    let s := guarded 2 false false
    let out := fun (op : Byte) (a : BitVec 32) (s : State) => (after (.guardCommand 3 op a) s).sent.drop s.sent.length
    modeNow (guarded 0 false false) 3 = 0 ∧ out 0xC7 0 (guarded 0 false false) = [] ∧
    modeNow (guarded 1 false false) 3 = 1 ∧ upCs (after (.guardCommand 3 0xC7 0) (guarded 1 false false)) 3 = true ∧
      out 0x20 0x123456 (guarded 1 false false) = [.port "FGP" 3 [0x20, 0x12, 0x34, 0x56]] ∧ out 0xC7 0 s = [.port "FGP_CUT" 3 [0xC7]] ∧
      out 0x21 0x123456 s = [.port "FGP_CUT" 3 [0x21, 0, 0x12, 0x34, 0x56]] ∧ out 0x03 0x123456 s = [.port "FGP" 3 [0x03]] ∧
    hasMain s = true ∧ upCs s 3 = false ∧ modeNow s 3 = 2 ∧ guardRefuses s 3 0xC7 0 = true ∧ getReg (after (.guardCommand 3 0xC7 0) s) (R.FGP_BLOCKED 3) = 1 ∧
    guardRefuses s 3 0x03 0xFFFFFF = false ∧ getReg (after (.guardCommand 3 0x03 0xFFFFFF) s) (R.FGP_BLOCKED 3) = 0 := by
  decide +kernel

/-- A device port with a length to send, from SRAM and to SRAM. -/
def talking (n : BitVec 16) (busy : Bool) : State :=
  setBit (setReg (setReg (setReg rich (R.DVP_TX_LEN 7) n) (R.DVP_TX_ADDR 7 1) 0x1000) (R.DVP_RX_ADDR 7 1) 0x1000) (R.DVP_STATUS 7) 15 busy
/-- SEND of one byte, of none and of one too many; ADDRESS acknowledged and not. -/
theorem test_DevicePortComplete_send :
    let s := talking 1
    hasMain (s false) = true ∧ dvpBusy (s false) 7 = false ∧ getFld (s false) (R.DVP_TX_LEN 7) 13 0 = 1 ∧ (opRead (s false) 580 0x10000000 1).1 = .words [dataWord 0] ∧
    (regPair (s false) (R.DVP_TX_ADDR 7 0) (R.DVP_TX_ADDR 7 1)).toNat = 0x10000000 ∧ dvpBusy (after (.send 7) (s false)) 7 = true ∧
    getFld (after (.send 7) (talking 0 false)) (R.DVP_STATUS 7) 13 12 = 3 ∧ 8192 < getFld (talking 8193 false) (R.DVP_TX_LEN 7) 13 0 ∧
    dvpBusy (s true) 7 = true ∧ dvpOpen (s false) 7 = false ∧ getBit (after (.address 7 true) (s false)) (R.DVP_STATUS 7) 14 = true ∧
    getFld (after (.address 7 false) (s false)) (R.DVP_STATUS 7) 13 12 = 1 := by
  decide +kernel
/-- A reply of two bytes, one too long, one with an error, none in time; an in-band interrupt enabled and not. -/
theorem test_DevicePortComplete_reply :
    let s := talking 0 true
    let i := setBit (talking 0 false) (R.DVP_CFG 7) 13 true
    dvpOpen s 7 = false ∧ dvpBusy s 7 = true ∧ (opWrite s 580 0x10000000 ((packWords [1, 2]).map dataWord)).1 = .done ∧
      getFld (after (.dvpReply 7 [1, 2] false) s) (R.DVP_RX_LEN 7) 13 0 = 2 ∧ getFld (after (.dvpReply 7 (zeros 8193) false) s) (R.DVP_STATUS 7) 13 12 = 3 ∧
      getFld (after (.dvpReply 7 [] true) s) (R.DVP_STATUS 7) 13 12 = 3 ∧ getFld (after (.dvpReplyTimeout 7) s) (R.DVP_STATUS 7) 13 12 = 2 ∧
    getBit i (R.DVP_CFG 7) 13 = true ∧ dvpBusy i 7 = false ∧ getReg (after (.ibi 7) i) (R.DVP_IBI_COUNT 7) = 1 ∧
    getBit (talking 0 false) (R.DVP_CFG 7) 13 = false ∧ getReg (after (.ibi 7) (talking 0 false)) (R.DVP_IBI_COUNT 7) = 0 := by
  decide +kernel
/-- SEND and a reply whose buffers lie in vat 0 while it is being swapped. -/
theorem test_DevicePortComplete_waits :
    let at_ := fun (s : State) => { setReg (setReg s (R.DVP_TX_ADDR 7 1) 0x020C) (R.DVP_RX_ADDR 7 1) 0x020C with swap := some (0, 33) }
    let s := at_ (talking 1 false)
    let r := at_ (talking 0 true)
    hasMain s = true ∧ dvpBusy s 7 = false ∧ (regPair s (R.DVP_TX_ADDR 7 0) (R.DVP_TX_ADDR 7 1)).toNat = 0x020C0000 ∧
      (opRead s 580 0x020C0000 1).1 = .waits ∧ (after (.send 7) s).sent = s.sent ∧
    dvpOpen r 7 = false ∧ dvpBusy r 7 = true ∧ (regPair r (R.DVP_RX_ADDR 7 0) (R.DVP_RX_ADDR 7 1)).toNat = 0x020C0000 ∧
      (opWrite r 580 0x020C0000 ((packWords [1, 2]).map dataWord)).1 = .waits ∧ dvpBusy (after (.dvpReply 7 [1, 2] false) r) 7 = true := by
  decide +kernel
/-- Port 7's exchange of step 9: before ADDRESS, in step k of R446 with a message out, and waiting for the nonce. -/
def spdmPort (k : Nat) (busy : Bool) : State :=
  let s := setCfg (talking 0 busy) 3 7 (some (1 :: zeros 75))
  { s with boot := { s.boot with step := 9 }, fw := { s.fw with dvpStep := [(7, k)] } }
theorem test_DevicePortComplete_exchange :
    let s := spdmPort
    hasMain (s 0 false) = true ∧ dvpOpen (s 0 false) 7 = true ∧ dvpBusy (s 0 false) 7 = false ∧ dvpStep (after (.address 7 true) (s 0 false)) 7 = 2 ∧
      dvpResult (after (.address 7 false) (s 0 false)) 7 = some (3, []) ∧
    dvpOpen (s 3 true) 7 = true ∧ dvpBusy (s 3 true) 7 = true ∧ dvpResult (after (.dvpReply 7 [] true) (s 3 true)) 7 = some (4, []) ∧
      dvpResult (after (.dvpReplyTimeout 7) (s 3 true)) 7 = some (3, []) ∧ dvpStep (s 3 true) 7 = 3 ∧
    nonceWaits (s 7 false) 7 = true := by
  decide +kernel
/-- The gate; CTP_OUT; an edge of STAT that is counted; PPS edges: a first, a fourth in the window, one early, none; the crystal. -/
theorem test_DevicePortComplete_time :
    let s := setReg rich (R.CTP_CFG 7) 1
    let p := fun l r (k : Bool) => setBit { rich with pps := { rich.pps with last := l, run := r } } R.CLK_TREF_STATUS 15 k
    gateOpen (after (.ctpGate 1) rich) = true ∧ getReg (after (.ctpOut 7 0xFFFF) rich) (R.CTP_OUT 7) = 7 ∧
    s.ext.ctpStat.getLsbD 7 = false ∧ getBit s (R.CTP_CFG 7) 0 = true ∧ getBit (after (.statEdge 7 true) s) (R.CTP_EVENT 7) 0 = true ∧
    (p none 3 false).pps.last = none ∧ ppsLocked (p none 3 false) = false ∧ (after (.ppsEdge 7) (p none 3 false)).pps.run = 0 ∧
    ppsLocked (after (.ppsEdge 1000050) (p (some 0) 3 false)) = true ∧ ppsLocked (p (some 0) 0 true) = true ∧
      ppsLocked (after (.ppsEdge 999949) (p (some 0) 0 true)) = false ∧ ppsLocked (after .ppsTimeout (p (some 0) 0 true)) = false ∧
    getBit rich R.CLK_TREF_STATUS 14 ≠ !getBit rich R.CLK_TREF_STATUS 14 ∧
      (after (.xtalStatusChange (!getBit rich R.CLK_TREF_STATUS 14)) rich).ext.xtalOk = !getBit rich R.CLK_TREF_STATUS 14 := by
  decide +kernel

/-! ### Card slots (R459 to R471) -/

/-- A device with a card in slot 1: CSL_CFG, STATE, the status bits 12 (BUSY), 11 (class B), 10 (T=1), and its slot. -/
def carded (cfg : BitVec 16) (st : Nat) (busy b t1 : Bool) (c : CardSlot) : State :=
  let s := setReg { rich with ext := { rich.ext with cards := 2 } } (R.CSL_CFG 1) cfg
  setSlot (setBit (setBit (setBit (setFld s (R.CSL_STATUS 1) 15 13 st) (R.CSL_STATUS 1) 12 busy) (R.CSL_STATUS 1) 11 b) (R.CSL_STATUS 1) 10 t1) 1 c
/-- A slot with nothing sent. -/
def idleSlot : CardSlot := { cmd := [], gathered := [], turns := 0, retries := 0, clockStop := 0, unsent := [], clkDiv := 20 }
/-- ACTIVATE in class C and in class B alone, while busy, with no card. -/
theorem test_CardsComplete_activate :
    let s := fun cfg busy => carded cfg 0 busy false false idleSlot
    let empty := { s 0x8000 false with ext := { (s 0x8000 false).ext with cards := 0 } }
    hasMain (s 0x8000 false) = true ∧ getBit (s 0x8000 false) (R.CSL_STATUS 1) 8 = false ∧ cslBusy (s 0x8000 false) 1 = false ∧ cardPresent (s 0x8000 false) 1 = true ∧
      getReg (after (.activate 1) (s 0x8000 false)) (R.CSL_PARAMS 1) = 0x1100 ∧ getBit (after (.activate 1) (s 0x4000 false)) (R.CSL_STATUS 1) 11 = true ∧
    cslBusy (s 0x8000 true) 1 = true ∧ getFld (after (.activate 1) (s 0x8000 true)) (R.CSL_RESULT 1) 15 12 = 11 ∧
    cardPresent empty 1 = false ∧ cslBusy empty 1 = false ∧ getFld (after (.activate 1) empty) (R.CSL_RESULT 1) 15 12 = 1 := by
  decide +kernel
/-- An answer to reset with no interface byte, one that is not intact, one that stops, none, in class C and in class B. -/
theorem test_CardsComplete_atr :
    let c := carded 0xC000 1 true false false idleSlot
    let b := carded 0xC000 1 true true false idleSlot
    let atr : Bytes := [0x3B, 0x00]
    cslState c 1 = 1 ∧ getBit c (R.CSL_STATUS 1) 8 = false ∧ (parseAtr atr).isSome = true ∧
      ((parseAtr atr).map fun g => ((atrParams g).global, selectParams (atrParams g) false true)) = some (none, some (0, 0x11)) ∧
      getBit c (R.CSL_CFG 1) 13 = false ∧ getReg (after (.atrComplete 1 atr true true true) c) (R.CSL_PARAMS 1) = 0x1100 ∧
    getFld (after (.atrComplete 1 atr false true true) c) (R.CSL_RESULT 1) 15 12 = 3 ∧ getFld (after (.atrCharacterTimeout 1) c) (R.CSL_RESULT 1) 15 12 = 3 ∧
    getBit c (R.CSL_STATUS 1) 11 = false ∧ getBit (after (.noAtr 1) c) (R.CSL_STATUS 1) 11 = true ∧ getFld (after (.noAtr 1) b) (R.CSL_RESULT 1) 15 12 = 2 := by
  decide +kernel
/-- EXCHANGE of four bytes, of none, and with the card not active. -/
theorem test_CardsComplete_exchange :
    let s := fun st n => setReg (carded 0 st false false false idleSlot) (R.CSL_TX_LEN 1) n
    cslState (s 2 4) 1 = 2 ∧ getFld (s 2 4) (R.CSL_TX_LEN 1) 8 0 = 4 ∧ (getSlot (after (.exchange 1) (s 2 4)) 1).cmd = [0, 0, 0, 0, 0] ∧
    getFld (s 2 3) (R.CSL_TX_LEN 1) 8 0 = 3 ∧ getFld (after (.exchange 1) (s 2 3)) (R.CSL_RESULT 1) 15 12 = 11 ∧ cslState (s 1 4) 1 ≠ 2 ∧
    getFld (after (.exchange 1) (s 2 262)) (R.CSL_RESULT 1) 15 12 = 11 := by
  decide +kernel
/-- Responses under T=1; under T=0 the last, one with 61, one with 6C; an error; time-outs. -/
theorem test_CardsComplete_response :
    let w := carded 0 3 true false false { idleSlot with cmd := [0, 0xA4, 4, 0, 2, 7, 8], unsent := [7, 8] }
    let s := fun t1 turns retries => carded 0 3 true false t1 { idleSlot with cmd := [0, 0xA4, 4, 0, 0], gathered := [1], turns := turns, retries := retries }
    cslState (s true 0 0) 1 = 3 ∧ getFld (after (.cardResponse 1 [0x90, 0] 0 false 1) (s true 0 0)) (R.CSL_RESULT 1) 8 0 = 2 ∧
    getFld (after (.cardResponse 1 [0x90, 0] 0 false 1) (s false 0 0)) (R.CSL_RESULT 1) 8 0 = 3 ∧
    (getSlot (after (.cardResponse 1 [7, 0x61, 9] 0 false 1) (s false 15 0)) 1).cmd = [0, 0xC0, 0, 0, 9] ∧
    (getSlot (after (.cardResponse 1 [0x6C, 9] 0 false 1) (s false 15 0)) 1).cmd = [0, 0xA4, 4, 0, 9] ∧
    getFld (after (.cardResponse 1 [0, 0] 0 true 1) (s false 0 0)) (R.CSL_RESULT 1) 15 12 = 4 ∧
    getFld (after (.cardWaitingTimeout 1) (s false 0 0)) (R.CSL_RESULT 1) 15 12 = 5 ∧ (getSlot (after (.cardWaitingTimeout 1) (s true 0 5)) 1).retries = 6 ∧
    getFld (after (.cardWaitingTimeout 1) (s true 0 6)) (R.CSL_RESULT 1) 15 12 = 6 ∧
    (getSlot (after (.cardResponse 1 [0xA4] 0 false 0) w) 1).unsent = [] ∧ (getSlot (after (.cardResponse 1 [0x5B] 0 false 0) w) 1).unsent = [8] ∧
    (getSlot (after (.cardResponse 1 [0x60] 0 false 0) w) 1).unsent = [7, 8] := by
  decide +kernel
/-- DEACTIVATE, insertion, removal from each state, overcurrent, clock stop. -/
theorem test_CardsComplete_end :
    let s := fun st busy => carded 0x1000 st busy false false { idleSlot with clockStop := 1 }
    let out := { s 0 false with ext := { (s 0 false).ext with cards := 0 } }
    getBit (after (.deactivate 1) (s 3 true)) (R.CSL_STATUS 1) 8 = true ∧ cslState (after (.deactivate 1) (s 2 false)) 1 = 0 ∧
    cardPresent out 1 = false ∧ cardPresent (after (.cardInsertion 1) out) 1 = true ∧ cslState (s 1 true) 1 = 1 ∧ cslState (s 3 true) 1 = 3 ∧
    getFld (after (.cardRemoval 1 true) (s 1 true)) (R.CSL_RESULT 1) 15 12 = 1 ∧ cslState (after (.cardRemoval 1 true) (s 2 false)) 1 = 0 ∧
    getFld (after (.cardRemoval 1 false) (s 3 true)) (R.CSL_RESULT 1) 15 12 = 9 ∧ getFld (after (.overcurrent 1) (s 3 true)) (R.CSL_RESULT 1) 15 12 = 7 ∧
    getBit (s 2 false) (R.CSL_CFG 1) 12 = true ∧ getBit (after (.clockStop 1) (s 2 false)) (R.CSL_STATUS 1) 9 = true := by
  decide +kernel

/-! ### The ear tag (R476 to R497) -/

/-- A tag in the field with an air state. -/
def inField (main : Bool) (a : TagAir) : State := { rich with ext := { rich.ext with field := true, mainPower := main }, tag := { rich.tag with air := a } }
/-- An air state by STATE, slot counter and half. -/
def airIn (st slot : Nat) (half : Bool) : TagAir :=
  { state := st, q := 15, slot := slot, session := 3, rn := 7, handle := 9, cover := 5, half := half, truncate := none }
/-- FIELD_ON with main power and without; a flag's expiry; FIELD_LOSS. -/
theorem test_TagAirComplete_field :
    let s := { rich with tag := { rich.tag with flags := 0x1F } }
    let off := { s with ext := { s.ext with mainPower := false } }
    let on := { inField true (airIn 5 0 false) with tag := { (inField true (airIn 5 0 false)).tag with flags := 0x1F } }
    let off' := { after .fieldOn off with tag := { (after .fieldOn off).tag with fieldJob := some ⟨.field, 7, []⟩ } }
    s.ext.field = false ∧ hasMain s = true ∧ getBit (after .fieldOn s) R.TAG_EVENT 0 = true ∧ hasMain off = false ∧ mode off ≠ mVIGIL ∧ mode (after .fieldOn off) = mFIELD ∧
    (after (.flagPersistenceExpiry 4) s).tag.flags = 0xF ∧ (after (.flagPersistenceExpiry 1) on).tag.flags = 0x1D ∧
    on.ext.field = true ∧ (after .fieldLoss on).tag.flags = 0x1E ∧
    off'.ext.field = true ∧ hasMain off' = false ∧ mode off' = mFIELD ∧ mode (after .fieldLoss off') = 0 ∧ (after .fieldLoss off').tag.fieldJob = none := by
  decide +kernel
/-- SELECT of SL by the EPC bank's second word; QUERY that matches and that does not; QUERY_REP from each state. -/
theorem test_TagAirComplete_inventory :
    let s := fun st n => inField true (airIn st n false)
    let sel : SelectArgs := { target := 4, action := 0, bank := 1, pointer := 16, mask := [false, false, true], truncate := false }
    let q := fun t => ({ sel := 0, session := 3, target := t, q := 0 } : QueryArgs)
    maskMatches (s 0 0) sel = true ∧ (after (.select sel) (s 0 0)).tag.flags = 0x10 ∧
    (s 0 0).tag.flags.getLsbD 3 = (q false).target ∧
    (s 0 0).tag.flags.getLsbD 3 ≠ (q true).target ∧ (after (.query (q true)) (s 2 0)).tag.air.state = 0 ∧
    (after (.queryRep 3) (s 1 2)).tag.air.slot = 1 ∧ (after (.queryRep 3) (s 1 1)).tag.air.state = 2 ∧ (after (.queryRep 3) (s 1 0)).tag.air.slot = 0x7FFF ∧
    (after (.queryRep 3) (s 2 0)).tag.air.slot = 0x7FFF ∧ (after (.queryRep 3) (s 5 0)).tag.flags = 8 ∧ (after (.queryAdjust 3 0) (s 3 0)).tag.air.state = 0 := by
  decide +kernel
/-- ACK right and wrong; NAK; REQ_RN from each state; KILL. -/
theorem test_TagAirComplete_singulation :
    let s := fun st => inField true (airIn st 0 false)
    (s 2).tag.air.truncate = none ∧ (after (.ack 7) (s 2)).tag.air.state = 3 ∧ (after (.ack 8) (s 3)).tag.air.slot = 0x7FFF ∧
    (after .nak (s 5)).tag.air.state = 1 ∧ accessPassword (s 3) = (0, 0) ∧ (after (.reqRn 7) (s 3)).tag.air.state = 5 ∧
    (after (.reqRn 9) (s 4)).tag.air.state = 4 ∧ getReg (after (.kill 0 9) (s 5)) R.TAG_REFUSALS = 1 := by
  decide +kernel
/-- ACCESS with each half of the password, and a wrong first half. -/
theorem test_TagAirComplete_access :
    let s := fun h => inField true (airIn 4 0 h)
    (5 : BitVec 16) ^^^ 5 = (accessPassword (s false)).1 ∧ (after (.access 5 9) (s false)).tag.air.half = true ∧
    (5 : BitVec 16) ^^^ 5 = (accessPassword (s true)).2 ∧ (after (.access 5 9) (s true)).tag.air.state = 5 ∧
    (4 : BitVec 16) ^^^ 5 ≠ (accessPassword (s false)).1 ∧ (after (.access 4 9) (s false)).tag.air.slot = 0x7FFF := by
  decide +kernel
/-- READ of the EPC bank's last word, of a password; WRITE and BLOCK_WRITE of a field record and of one that may not be written; LOCK. -/
theorem test_TagAirComplete_memory :
    let s := inField true (airIn 5 0 false)
    let ws : List (BitVec 16) := [1, 2, 3, 4, 5, 6, 7, 8]
    (airWord s 1 7).isSome = true ∧ 7 + 1 ≤ bankSize 1 ∧ (after (.read 1 7 1 9) s).sent.length = s.sent.length + 1 ∧
    getReg (after (.read 0 3 1 9) s) R.TAG_REFUSALS = 1 ∧
    userRecord 0x7F = some (7, 7) ∧ userRecord 0x78 = some (7, 0) ∧ fieldUnlocked s = true ∧ s.tag.fieldJob = none ∧ s.tag.job = none ∧
      (getRecord s 7).damaged = false ∧ (getRecord s 7).seq ≠ 0xFFFFFF ∧ hasMain s = true ∧ (after (.write 3 0x7F 0 9) s).tag.fieldJob.isSome = true ∧
      (after (.blockWrite 3 0x78 ws 9) s).tag.fieldJob.isSome = true ∧
    userRecord 0x49 = some (3, 33) ∧ getReg (after (.write 3 0x49 0 9) s) R.TAG_REFUSALS = 1 ∧
    (3 : BitVec 10) &&& 0x3FC &&& ~~~1 = 0 ∧ (userLocks s).getLsbD 0 = false ∧ (getRecord s 8).damaged = false ∧ (getRecord s 8).seq ≠ 0xFFFFFF ∧
      (after (.lock 3 1 9) s).tag.fieldJob.map (·.record) = some 8 := by
  decide +kernel

/-- A record of n words whose copies agree, whose backup is stale, and whose copies are both damaged. -/
def recordOf (n : Nat) (p b : Option (BitVec 24)) : TagRecord :=
  { primary := ⟨List.replicate n 7, p⟩, backup := ⟨List.replicate n 6, b⟩ }
/-- TAG_READ of a record whose backup is newer and of a damaged one; TAG_WRITE of record 11 and of record 0. -/
theorem test_TagMemoryComplete_commands :
    let s := setRecord rich 11 (recordOf 4 none (some 5))
    let d := setRecord rich 11 (recordOf 4 none none)
    hasMain s = true ∧ bit (0xA00B : BitVec 16) 15 = true ∧ fld (0xA00B : BitVec 16) 14 13 = 1 ∧ fld (0xA00B : BitVec 16) 4 0 = 11 ∧ s.tag.job = none ∧
    (getRecord s 11).damaged = false ∧ getReg (after (.tagRead 0xA00B) s) (R.TAG_BUF 3) = 6 ∧ getReg (after (.tagRead 0xA00B) s) R.TAG_RESULT = 0x0800 ∧
    (getRecord d 11).damaged = true ∧ d.flt.first = none ∧ getReg (after (.tagRead 0xA00B) d) R.TAG_RESULT = 0x4000 ∧
    fld (0xC00B : BitVec 16) 14 13 = 2 ∧ tagWriteRefused s 11 = none ∧ ((after (.tagWrite 0xC00B) s).tag.job.map (·.record)) = some 11 ∧
    tagWriteRefused s 0 = some 3 ∧ fld (0xC000 : BitVec 16) 4 0 = 0 ∧ getReg (after (.tagWrite 0xC000) s) R.TAG_RESULT = 0x3000 := by
  decide +kernel
/-- The end of a step that is not the last, of the last, of a repair's, of a field write's; none in progress; a repair that is needed and one that is not. -/
theorem test_TagMemoryComplete_steps :
    let st := fun q => (⟨true, q, 6, [1, 2, 3, 4]⟩ : TagStep)
    let s := fun l => { rich with tag := { rich.tag with job := some ⟨.supervisor, 11, l⟩ } }
    let f := { rich with tag := { rich.tag with fieldJob := some ⟨.field, 7, [st true]⟩ } }
    let stale := setRecord rich 11 (recordOf 4 (some 5) (some 4))
    let r := { stale with tag := { stale.tag with job := some ⟨.repair, 11, [st true]⟩, repairs := [11] } }
    rich.boot.step ≠ 12 ∧ (after (.tagProgramEnd false) (s [st false, st true])).tag.job = some ⟨.supervisor, 11, [st true]⟩ ∧
    (getRecord (after (.tagProgramEnd false) (s [st true])) 11).backup.seq = some 6 ∧ (after (.tagProgramEnd false) (s [st true])).tag.job = none ∧
    r.boot.step ≠ 12 ∧ (after (.tagProgramEnd false) r).tag.job = none ∧ (after (.tagProgramEnd false) r).tag.repairs = [] ∧
    f.boot.step ≠ 12 ∧ (after (.tagProgramEnd true) f).tag.fieldJob = none ∧ f.tag.job = none ∧ (s [st true]).tag.fieldJob = none ∧
    stale.tag.job = none ∧ stale.tag.fieldJob = none ∧ hasMain stale = true ∧ (getRecord stale 11).agrees = false ∧ (getRecord stale 11).damaged = false ∧
      (after (.tagRepair 11) stale).tag.job = some ⟨.repair, 11, repairSteps (getRecord stale 11)⟩ ∧ (getRecord rich 11).agrees = true := by
  decide +kernel

/-! ### Tamper, faults and calibration (R499 to R523) -/

/-- A device whose source i has a response, a configuration and a state. -/
def sourced (s : State) (i : Nat) (resp : BitVec 16) (firing : Bool) : State := setSrc (setReg s (R.TMP_SRC_CFG i) resp) i { getSrc s i with firing := firing }
/-- An episode of source 0 with EVENT, STALL and HOLD; one with RESET; one in VIGIL; one path alone where both must agree. -/
theorem test_TamperComplete_start :
    let s := sourced rich 0 7 false
    let r := sourced rich 0 8 false
    let v := sourced (withOwner (live mVIGIL)) 10 0x40 false
    let b := sourced rich 0 0x0107 false
    srcReserved 0 = false ∧ srcFused s 0 = false ∧ (getSrc s 0).firing = false ∧ s.bat.firing.getLsbD 0 = false ∧ inVigil s = false ∧ s.ext.dip = none ∧
      responseOf s 0 = 7 ∧ (after (.tamperEpisodeStart [0] true true) s).tmp.stall = true ∧ mode s ≠ mTEST ∧ evidence s 0 < 240 ∧ s.tmp.queue.length < 255 ∧
      (after (.tamperEpisodeStart [0] true true) s).tmp.queue = [0] ∧ (responseOf s 0).toNat < 8 ∧
    responseOf r 0 = 9 ∧ (getLatch (after (.tamperEpisodeStart [0] true true) r) 0).fired = true ∧ inVigil r = false ∧
    inVigil v = true ∧ srcVigil 10 = true ∧ srcFused v 10 = false ∧ srcReserved 10 = false ∧ v.bat.firing.getLsbD 10 = false ∧ v.ext.dip = none ∧
      (getLatch (after (.tamperEpisodeStart [10] true true) v) 10).evidence = 1 ∧ (responseOf v 10).getLsbD 6 = true ∧ (after (.tamperEpisodeStart [10] true true) v).bat.spendLatch = true ∧
    srcSingle 0 = false ∧ getBit b (R.TMP_SRC_CFG 0) 8 = true ∧ (getSrc b 0).settling = false := by
  decide +kernel
/-- The end of an episode; a disagreement of source 0; quiet periods, one owner and two. -/
theorem test_TamperComplete_quiet :
    let s := sourced rich 0 7 true
    let own := fun s i => setSrc s i { getSrc s i with ownsHold := true, ownsStall := true }
    let one := { own (setReg rich (R.TMP_SRC_QUIET 0) 1) 0 with tmp := { rich.tmp with hold := true, stall := true } }
    let two := own one 47
    (getSrc (after (.tamperEpisodeEnd 0) s) 0).firing = false ∧ srcSingle 0 = false ∧
      getFld (after (.disagreement 0) s) (R.TMP_SRC_COUNT 0) 7 0 = 1 ∧
    quietOf two 0 ≠ 0 ∧ (getSrc two 0).firing = false ∧ (getSrc two 47).ownsHold = true ∧ (after (.quietPeriodEnd 0) two).tmp.hold = two.tmp.hold ∧
    (getSrc s 0).firing = true ∧ srcFused s 0 = false := by
  decide +kernel
/-- Evidence to program; a disable fuse to program; TMP_FUSE of the three kinds of source. -/
theorem test_TamperComplete_evidence :
    let s := { rich with tmp := { rich.tmp with queue := [47] } }
    let f := { rich with tmp := { rich.tmp with fuseJobs := [0] } }
    let g := (List.range 7).foldl (fun s j => otpSet s 0x10F j) f
    s.ext.dip = none ∧ (evidenceBit s 47).isSome = true ∧ (∀ j, j < 48 → (getSrc s j).deferred = 0) ∧ (after (.evidenceProgramEnd true) s).tmp.queue = [] ∧
      (after (.evidenceProgramEnd true) s).otp ≠ s.otp ∧
    f.tmp.queue = [] ∧ (after (.evidenceProgramEnd true) f).tmp.fuseJobs = [0] ∧ (after (.evidenceProgramEnd true) g).tmp.fuseJobs = [] ∧
    fld (0xD51C : BitVec 16) 15 8 = 0xD5 ∧ fld (0xD51C : BitVec 16) 5 0 = 28 ∧ getBit (after (.tmpFuse 0xD51C) rich) R.TMP_ACTIVE 2 = true ∧
    fld (0xD500 : BitVec 16) 5 0 = 0 ∧ srcReserved 0 = false ∧ srcFused rich 0 = false ∧ (after (.tmpFuse 0xD500) rich).tmp.fuseJobs = [0] ∧ srcReserved 63 = true := by
  decide +kernel
/-- A record released by its stamp and not by another; a storm's end; an offset at its bound and past it; settling's end; source 38. -/
theorem test_TamperComplete_records :
    let s := fault rich 1 578 .tag 0 0x30000000
    let st := { rich with flt := { rich.flt with storm := true } }
    let c := setReg rich R.CAL_ITEM 0x400
    s.flt.first.isSome = true ∧ ((s.flt.first.map fun f => (after (.fltAckRegister (f.stamp.setWidth 16)) s).flt.first) = some none) ∧
      ((s.flt.first.map fun f => (after (.fltAckRegister (f.stamp.setWidth 16 + 1)) s).flt.first.isSome) = some true) ∧
    st.flt.storm = true ∧ (after .stormEnd st).flt.storm = false ∧ Sys2Proof.Machine.calOffset (after (.calOffset 5) c) 0x400 = 4 ∧
    (∀ j ∈ calSources 0x400, (getSrc (after (.settlingEnd 0x400) (after (.calOffset 5) c)) j).settling = false) ∧
    (after (.tamperEpisodeEnd 38) rich).ext.vbat = true := by
  decide +kernel

/-! ### The machine as a whole -/

/-- The supervisor's write of a CAP word to a DMA register: the access table allows it, and only its record is left. -/
theorem test_RegisterWriteTagFault :
    let a := R.CAL_ITEM
    region a = .register ∧ (⟨.cap, 1⟩ : Word).tag ≠ .data ∧ hasMain rich = true ∧ checkWord rich 512 a .write (isSecret ⟨.cap, 1⟩) = none ∧ isHole rich a true = false ∧
      getReg (after (.registerWrite 512 (BitVec.ofNat 32 a) ⟨.cap, 1⟩) rich) a = getReg rich a ∧
      (after (.registerWrite 512 (BitVec.ofNat 32 a) ⟨.cap, 1⟩) rich).flt.first.isSome = true := by
  decide +kernel
/-- The supervisor's writes of the ring's base and configuration, enabled and not. -/
theorem test_RingSetupWhileDisabled :
    let en := { rich with parlour := { rich.parlour with ringEn := true } }
    let w := fun i v s => after (.registerWrite 512 (BitVec.ofNat 32 (0x30100000 + i)) (dataWord v)) s
    rich.boot.step ≠ 0 ∧ hasMain rich = true ∧ (∀ i, i < 14 → 8 ≤ i → checkWord rich 512 (0x30100000 + i) .write false = none ∧ isHole rich (0x30100000 + i) true = false) ∧
    rich.parlour.ringEn = false ∧ (w 8 0xFFFF rich).parlour.base = 0xFFC0 ∧ (w 11 0x8000 rich).parlour.base = 0x8000000000000000 ∧
    (w 12 0x010F rich).parlour.sizeLog2 = 12 ∧ (w 12 0 rich).parlour.sizeLog2 = 4 ∧ (w 12 0x010F en).parlour = en.parlour ∧
    isPort 577 = true ∧ swapHolds rich 0x3010000C = false ∧ portLive rich (portOf (decide ((577 : Master) = 578))) = true ∧
      (after (.registerWrite 577 0x3010000C (dataWord 0x010F)) rich).parlour.sizeLog2 = 12 := by
  decide +kernel
/-- BLANK_CHECK of a page that is not blank in a RETIRED block. -/
theorem test_BlankCheckTellsBlank :
    let s := setFlashBlock (setPage (flashy ⟨[], [], none⟩) (pageKey rich 7 4095) [0]) 511 ⟨2, 4, none⟩
    let u := after (.flashCommandEnd 7 .done) (after (.blankCheck 7) s)
    hasMain s = true ∧ s.flash.linkUp = true ∧ (getBank s 7).job = none ∧ pageBlank s 7 4095 = false ∧ getFld u (R.FLC_RESULT 7) 15 12 = 1 ∧ (getBank u 7).job = none := by
  decide +kernel
/-- A card's removal and a field's loss leave RAM as it was. -/
theorem test_CardAndFieldFrames :
    ∃ t u, exec (.cardRemoval 1 true) (carded 0 2 false false false idleSlot) = .next t ∧ exec .fieldLoss (inField true (airIn 5 0 false)) = .next u ∧
      cardPresent t 1 = false ∧ u.ext.field = false := ⟨_, _, rfl, rfl, by decide +kernel, by decide +kernel⟩
/-- A tick at the end of a second with main power and without; a step with two commands waiting takes the first. -/
theorem test_StepRunsFront :
    let tick := fun (s : State) => match step s with
      | .next t => t
      | _ => s
    let bare := { rich with pending := [], ext := { rich.ext with mainPower := false, vbat := true, xtalOk := true } }
    let two := { rich with pending := [.raise 0, .drain 0 0] }
    rich.pending = [] ∧ hasMain rich = true ∧ rich.pps.slew = 0 ∧ (tick rich).bat.timeBase = rich.bat.timeBase + 1 ∧
    hasMain bare = false ∧ (tick bare).bat.timeBase = bare.bat.timeBase + 1 ∧ (tick { bare with ext := { bare.ext with vbat := false } }).bat.timeBase = bare.bat.timeBase ∧
    (tick two).pending = [.drain 0 0] := by
  decide +kernel
/-- The state after reset meets what every step keeps, and a step answers from it. -/
theorem test_StepKeepsCanonicalForm : MemOk State.reset ∧ RegsOk State.reset ∧ ∃ t, step State.reset = .next t := by
  unfold MemOk RegsOk
  exact ⟨by decide +kernel, by decide +kernel, _, rfl⟩
/-- An OTP bit that reads 1. -/
theorem test_OtpBitsStay : ∃ o i, OtpBit (after (.evidenceProgramEnd true) { rich with tmp := { rich.tmp with queue := [47] } }) o i := by
  unfold OtpBit
  exact ⟨0x100 + 16 * 47, 0, by decide +kernel⟩

/-! ### WellFormed: a term each check refuses -/

/-- Operands just outside what their command can carry are ill-formed. -/
theorem test_wf_refuses :
    ∀ c ∈ [Instr.hostPailWrite .host 0 [], .hostPailWrite .host 0 (zeros 513), .hostPailWrite .aux 0 (zeros 257), .hostPailWrite .host 0xFFFFF [0, 0],
      .bar0BadAccess .host 0x1000 false, .meshRequest 0 false 0 (List.replicate 17 0), .meshReply 0 0 (List.replicate 17 0),
      .descriptorFetch 0 (some (zeros 31)) false, .descriptorFetch 0 (some (zeros 513)) false, .burst 0 (some (zeros 257)) none,
      .flashWindowRead 0 0x1FFFFFFF, .flashWindowRead 0 0x24000000, .registerWrite 0 0x2FFFFFFF zeroWord, .registerWrite 0 0x3F000000 zeroWord,
      .atrComplete 0 [0x3B] true true true, .atrComplete 0 (zeros 34) true true true, .cardResponse 0 [0x90] 0 false 0,
      .blockWrite 3 0 [] 0, .blockWrite 3 0 (List.replicate 9 0) 0,
      .tamperEpisodeStart [] true true, .tamperEpisodeStart [1, 1] true true, .tamperEpisodeStart [1] false false], c.wf = false := by
  decide +kernel
/-- Operands at their bounds are well-formed. -/
theorem test_wf_accepts :
    ∀ c ∈ [Instr.hostPailWrite .host 0xFFE00 (zeros 512), .hostPailWrite .aux 0xFFFFF [0], .bar0BadAccess .host 0xFFF false,
      .meshRequest 0 false 0 (List.replicate 16 0), .meshReply 0 0 [], .descriptorFetch 0 (some (zeros 512)) false, .descriptorFetch 0 none false,
      .burst 0 (some (zeros 256)) none, .flashWindowRead 0 0x23FFFFFF, .registerWrite 0 0x3EFFFFFF zeroWord, .atrComplete 0 (zeros 33) true true true,
      .cardResponse 0 [0x90, 0] 0 false 0, .blockWrite 3 0 (List.replicate 8 0) 0, .tamperEpisodeStart [0, 47] true false], c.wf = true := by
  decide +kernel

end Sys2Proof.Tests
end

section
/-!
PROOFS. Reads and writes of registers by a master (R6, R8, R9, R455): what a read clears or latches, what a refused read leaves, and the
tag fault of a word that is not DATA.
-/
namespace Sys2Proof.Machine

variable {s : State} {m : Master} {w : Nat}

/-! ### What a read does to the register (R6) -/

/-- The waddrs of the blocks CHN_ to VAT_ but for the three registers a read of which does more than clear RC bits: RNG_CQ_DATA, CLK_TB(0)
and VAT_CQ_POP. -/
def PlainRead (w : Nat) : Prop :=
  0x30200000 ≤ w ∧ w < 0x31300000 ∧ w ≠ R.RNG_CQ_DATA ∧ w ≠ R.CLK_TB 0 ∧ (0x31200000 ≤ w → w % 0x1000 ≠ 0x13)

theorem region_register (h1 : 0x30200000 ≤ w) (h2 : w < 0x3F000000) : region w = .register := by
  rw [region, if_neg (by omega), if_neg (by omega), if_neg (by omega), if_neg (by omega), if_neg (by omega), if_neg (by omega),
    if_pos (by omega)]

theorem PlainRead.region_eq (h : PlainRead w) : region w = .register := by
  obtain ⟨hlo, hhi, -⟩ := h
  exact region_register hlo (by omega)

theorem readReg_plain (h : PlainRead w) : readReg s w = (peekReg s w, clearRc s (physReg s w)) := by
  obtain ⟨hlo, hhi, hdata, htb, hpop⟩ := h
  have hblock : regBlock w ≠ 1 := by unfold regBlock; omega
  have hcq : ¬(vatInst w = true ∧ regBlock w = 18 ∧ regOff w % 0x1000 = 0x13) := by
    rintro ⟨-, hb, ho⟩
    unfold regBlock at hb
    unfold regOff at ho
    exact hpop (by omega) (by omega)
  simp only [readReg, if_neg hblock, if_neg hdata, if_neg hcq, if_neg htb]

theorem readReg_timeBase : readReg s (R.CLK_TB 0) = (s.bat.timeBase.setWidth 16,
    setRegs s (R.CLK_TB 1) [(s.bat.timeBase >>> 16).setWidth 16, (s.bat.timeBase >>> 32).setWidth 16]) := by
  have hcq : ¬(vatInst (R.CLK_TB 0) = true ∧ regBlock (R.CLK_TB 0) = 18 ∧ regOff (R.CLK_TB 0) % 0x1000 = 0x13) := by decide
  simp only [readReg, if_neg (show regBlock (R.CLK_TB 0) ≠ 1 by decide), if_neg (show R.CLK_TB 0 ≠ R.RNG_CQ_DATA by decide), if_neg hcq, if_true]

/-! ### What clearing leaves -/

theorem clearRc_clears {r : RegSpec} (h : regSpec w = some r) : getReg (clearRc s w) w = getReg s w &&& ~~~r.rc := by
  simp only [clearRc, h]
  split
  · next hrc => rw [hrc, show ~~~(0 : BitVec 16) = BitVec.allOnes 16 from rfl, BitVec.and_allOnes]
  · exact getReg_setReg_same ..

/-- Clearing the RC bits of a register is at most one write of it. -/
theorem clearRc_cases (s : State) (w : Nat) : clearRc s w = s ∨ ∃ v, clearRc s w = setReg s w v := by
  unfold clearRc
  split
  · split
    · exact .inl rfl
    · exact .inr ⟨_, rfl⟩
  · exact .inl rfl

theorem quiet_setReg (s : State) (w : Nat) (v : BitVec 16) : Quiet s (setReg s w v) [w] :=
  ⟨fun _ => rfl, fun _ hx => getReg_setReg_other s v (List.ne_of_not_mem_cons hx), fun _ => rfl⟩

theorem clearRc_frame (s : State) (w : Nat) : Quiet s (clearRc s w) [w] ∧ (clearRc s w).evc = s.evc ∧ (clearRc s w).flt = s.flt := by
  obtain h | ⟨v, h⟩ := clearRc_cases s w <;> rw [h]
  · exact ⟨⟨fun _ => rfl, fun _ _ => rfl, fun _ => rfl⟩, rfl, rfl⟩
  · exact ⟨quiet_setReg s w v, rfl, rfl⟩

/-! ### A read as a command -/

theorem destRead_register {v : BitVec 16} {t : State} (hr : region w = .register) (hh : isHole s w false = false)
    (hq : readReg s w = (v, t)) : destRead s w = (.word (dataWord v), t) := by
  unfold destRead
  rw [hh, if_neg Bool.false_ne_true]
  generalize readReg s w = q at hq ⊢
  subst hq
  simp only [hr]

theorem regRead_allowed {v : BitVec 16} {t : State} (h : ReadAllowed s m w) (hr : region w = .register)
    (hq : readReg s w = (v, t)) : regRead m w s = { t with lastRead := dataWord v } := by
  obtain ⟨hmain, hwait, hcheck, hhole⟩ := h
  simp only [regRead, hmain, hwait, hcheck, destRead_register hr hhole hq, Bool.true_eq_false, Bool.false_eq_true, or_self, if_false]

theorem Quiet.lastRead {t : State} {ws : List Nat} (h : Quiet s t ws) (x : Word) : Quiet s { t with lastRead := x } ws := h
theorem getReg_lastRead (t : State) (x : Word) (i : Nat) : getReg { t with lastRead := x } i = getReg t i := rfl

/-- What `lastRead` holds is no part of what clearing changes. -/
theorem readCleared_of_clears {t : State} (hquiet : Quiet s t [physReg s w]) (hevc : t.evc = s.evc) (hflt : t.flt = s.flt)
    (hclears : ∀ r, regSpec (physReg s w) = some r → getReg t (physReg s w) = getReg s (physReg s w) &&& ~~~r.rc) :
    ReadCleared s { t with lastRead := dataWord (peekReg s w) } w :=
  ⟨rfl, hclears, hquiet, hevc, hflt⟩

/-- A read that is allowed returns the register and clears its RC bits (R6). -/
theorem regRead_clears (h : ReadAllowed s m w) (hp : PlainRead w) : ReadCleared s (regRead m w s) w := by
  rw [regRead_allowed h hp.region_eq (readReg_plain hp)]
  obtain ⟨hquiet, hevc, hflt⟩ := clearRc_frame s (physReg s w)
  exact readCleared_of_clears hquiet hevc hflt fun _ => clearRc_clears

theorem answers_regRead {c : Instr} (hc : exec c s = .next (regRead m w s)) (hp : PlainRead w) (h : ReadAllowed s m w) :
    Answers c s fun t => ReadCleared s t w :=
  ⟨_, hc, regRead_clears h hp⟩

/-- A read of CLK_TB(0) latches the other two words of the time base (R455). -/
theorem regRead_timeBase (h : ReadAllowed s m (R.CLK_TB 0)) : regRead m (R.CLK_TB 0) s =
    { setReg (setReg s (R.CLK_TB 1) ((s.bat.timeBase >>> 16).setWidth 16)) (R.CLK_TB 2) ((s.bat.timeBase >>> 32).setWidth 16) with
      lastRead := dataWord (s.bat.timeBase.setWidth 16) } :=
  regRead_allowed h (region_register (by decide) (by decide)) readReg_timeBase

theorem quiet_setReg_setReg {u v : Nat} (a b : BitVec 16) : Quiet s (setReg (setReg s u a) v b) [u, v] := by
  refine ⟨fun _ => rfl, fun x hx => ?_, fun _ => rfl⟩
  obtain ⟨hu, hv⟩ := List.ne_and_not_mem_of_not_mem_cons hx
  rw [getReg_setReg_other _ _ (List.ne_of_not_mem_cons hv), getReg_setReg_other _ _ hu]

theorem regRead_timeBase_latches (h : ReadAllowed s m (R.CLK_TB 0)) :
    let t := regRead m (R.CLK_TB 0) s
    t.lastRead = dataWord (s.bat.timeBase.setWidth 16) ∧ getReg t (R.CLK_TB 1) = (s.bat.timeBase >>> 16).setWidth 16 ∧
      getReg t (R.CLK_TB 2) = (s.bat.timeBase >>> 32).setWidth 16 ∧ Quiet s t [R.CLK_TB 1, R.CLK_TB 2] := by
  rw [regRead_timeBase h]
  refine ⟨rfl, ?_, ?_, (quiet_setReg_setReg ..).lastRead _⟩
  · rw [getReg_lastRead, getReg_setReg_other _ _ (by decide), getReg_setReg_same]
  · rw [getReg_lastRead, getReg_setReg_same]

/-! ### A refused read (R9, R374) -/

theorem refusal_lastRead (s : State) (r : Refuse) (e : Option Nat) (acc : AccessType) (m : BitVec 10) (a : Nat) :
    (refusal s r e acc m a).lastRead = s.lastRead := by
  obtain ⟨g, ev, f, fw, h⟩ := fault_frame (noteRefusal s r e) 1 578 acc m (BitVec.ofNat 32 a) false
  rw [refusal, h]
  rfl

theorem regRead_refused {r : Refuse} {e : Option Nat} (hmain : hasMain s = true) (hwait : accessWaits s w = false)
    (hcheck : checkWord s m w .read false = some (r, e)) (hr : r ≠ .reservedMaster) : regRead m w s = refusal s r e .read m w := by
  simp [regRead, tableRefusal, hmain, hwait, hcheck, hr]

/-- Settles O24: each command is `regRead` of its register. The registers that clear are plain by their waddrs, CLK_TB(0) latches, and
the table's refusal is a record and nothing read. -/
theorem clearingReadsComplete : Obligations.ClearingReadsComplete := by
  intro s m rc
  have plain : ∀ {c w}, exec c s = .next (regRead m w s) → PlainRead w → rc c w := fun hc hp => answers_regRead hc hp
  refine ⟨fun v => ⟨plain rfl ?_, plain rfl ?_, plain rfl ?_, plain rfl ?_, plain rfl ?_, plain rfl ?_, plain rfl ?_, plain rfl ?_⟩,
    plain rfl ?_, plain rfl ?_, plain rfl ?_, fun r => ⟨plain rfl ?_, fun o => plain rfl ?_⟩, fun c => plain rfl ?_, plain rfl ?_,
    fun b => ⟨plain rfl ?_, plain rfl ?_, plain rfl ?_⟩, fun p => plain rfl ?_, fun p => plain rfl ?_, plain rfl ?_,
    fun i => plain rfl ?_, plain rfl ?_, fun i => plain rfl ?_, plain rfl ?_, fun i => plain rfl ?_,
    fun h => ⟨_, rfl, regRead_timeBase_latches h⟩,
    fun r e hmain hwait hcheck hr => ⟨_, congrArg Host.Outcome.next (regRead_refused hmain hwait hcheck hr), rfl, refusal_lastRead ..⟩⟩
  all_goals
    simp only [PlainRead, R.RNG_CQ_DATA, R.CLK_TB, R.VAT_SKIM_COUNT, R.CHN_MISMATCH, R.CHN_OPS, R.CHN_SWITCHES, R.MAC_RESEEDS, R.RNG_RCT_PEAK,
      R.RNG_APT_PEAK, R.RNG_FALLBACK, R.MSH_BIC_COUNT, R.MSH_LATE, R.ACT_VIOL_COUNT, R.MSH_RTR_AGE_MAX, R.MSH_RTR_GRANTS, R.DMA_CH_COUNT,
      R.FLC_LINK_ERRS, R.FLC_RETRY_COUNT, R.FLC_CORR_MAX, R.FLC_BUSY_READS, R.FGP_BLOCKED, R.DVP_IBI_COUNT, R.CLK_TREF_STATUS, R.CSL_ERRS,
      R.TAG_REFUSALS, R.TMP_SRC_COUNT, R.FLT_RECOVERIES, R.FLT_CLASS_COUNT]
    omega

/-! ### A write of a word that is not DATA (R8) -/

theorem isRam_register (h : region w = .register) : isRam s w = false := by simp [isRam, h]

theorem destWrite_notData {x : Word} (loader : Bool) (hr : region w = .register) (hh : isHole s w true = false) (hx : x.tag ≠ .data) :
    destWrite s m w x loader = (.tag, s) := by
  simp [destWrite, hr, hh, hx]

/-- A write that the access table allows of a word not tagged DATA is a tag fault, and the register is not reached. -/
theorem regWrite_notData {x : Word} (h : WriteAllowed s m w (isSecret x)) (hr : region w = .register) (hx : x.tag ≠ .data) :
    regWrite m w x s = fault s 1 578 .tag m (BitVec.ofNat 32 w) := by
  obtain ⟨hmain, hport, hwait, hcheck, hhole⟩ := h
  simp [regWrite, hmain, hport, hwait, hcheck, destWrite_notData false hr hhole hx]

/-- Settles O52: the waddr is no RAM, and what `regWrite` records names it as it stands. -/
theorem registerWriteTagFault : Obligations.RegisterWriteTagFault := by
  intro s m waddr x hr hx h
  have hw := regWrite_notData h hr hx
  rw [BitVec.ofNat_toNat, BitVec.setWidth_eq] at hw
  show execRegisterWrite m waddr x s = _
  rw [execRegisterWrite, isRam_register hr, if_neg Bool.false_ne_true, hw]

end Sys2Proof.Machine
end

section
/-!
PROOFS. What every command keeps (R24, R25, R51, R508): the rest of the queue, the canonical form of memory and of the registers, and
every OTP bit that reads 1. `Kept s t` says it of two states. Only six functions of the model change these fields themselves: `setReg`,
`writeMem`, `scrub`, `otpSet`, `vatOff` and `volatileReset`; for every other function it follows along its branches.
-/
namespace Sys2Proof.Machine

variable {s t u : State} {α β γ : Type}

/-- From `s`, a command may reach `t`: the queue behind it stands, canonical forms stay canonical and no OTP bit is lost. -/
structure Kept (s t : State) : Prop where
  pending : t.pending = s.pending
  mem : MemOk s → MemOk t
  regs : RegsOk s → RegsOk t
  otp : ∀ o i, OtpBit s o i → OtpBit t o i

/-! ### The fields it speaks of -/

theorem Kept.refl (s : State) : Kept s s := ⟨rfl, id, id, fun _ _ => id⟩

/-- A change of any other field. -/
theorem Kept.frame (h : Kept s t)
    {a1 a2 a3 a4 a5 a6 a7 a8 a9 a10 a11 a12 a13 a14 a15 a16 a17 a18 a19 a20 a21 a22 a23 a24 a25 a26 a27 a28 a29 a30} :
    Kept s { t with
      remap := a1, swap := a2, cells := a3, vats := a4, central := a5, mesh := a6, act := a7, evc := a8, flt := a9, tmp := a10, bat := a11,
      seedSet := a12, identityRoot := a13, ownerRoot := a14, sessionRoot := a15, calOffsets := a16, flash := a17, dma := a18, pps := a19,
      cards := a20, tag := a21, parlour := a22, fw := a23, store := a24, rejects := a25, boot := a26, ext := a27, fresh := a28,
      lastRead := a29, sent := a30 } :=
  ⟨h.pending, h.mem, h.regs, h.otp⟩

theorem setReg_kept {w v} (h : Kept s t) : Kept s (setReg t w v) :=
  ⟨h.pending, h.mem, fun g => setReg_keeps_form _ _ _ (h.regs g), h.otp⟩

theorem writeMem_kept {a w} (h : Kept s t) : Kept s (writeMem t a w) :=
  ⟨h.pending, fun g => writeMem_keeps_form _ _ _ (h.mem g), h.regs, h.otp⟩

theorem scrub_kept {lo hi} (h : Kept s t) : Kept s (scrub t lo hi) :=
  ⟨h.pending, fun g => scrub_keeps_form _ _ _ (h.mem g), h.regs, h.otp⟩

theorem otpSet_kept {o i} (h : Kept s t) : Kept s (otpSet t o i) :=
  ⟨h.pending, h.mem, h.regs, fun o i g => otpSet_keeps _ _ _ _ _ (h.otp o i g)⟩

/-! ### Branches, folds and parts of a result -/

/-- Names the proof about an intermediate state once; the state itself is read off the goal. -/
theorem through {P : Prop} (hf : Kept s t → P) (h : Kept s t) : P := hf h

theorem ite_kept {c : Prop} [Decidable c] (h : Kept s t) (g : Kept s u) : Kept s (if c then t else u) := by
  split <;> assumption

theorem ite_fst_kept {c : Prop} [Decidable c] {p q : State × α} (h : Kept s p.1) (g : Kept s q.1) : Kept s (if c then p else q).1 := by
  split <;> assumption

theorem ite_snd_kept {c : Prop} [Decidable c] {p q : α × State} (h : Kept s p.2) (g : Kept s q.2) : Kept s (if c then p else q).2 := by
  split <;> assumption

/-- A fold keeps it when each of its steps does; `part` is where in the folded value the state stands. -/
theorem foldl_part_kept {σ : Type} (part : σ → State) {f : σ → α → σ} {l : List α} {p : σ}
    (hf : ∀ {p x}, Kept s (part p) → Kept s (part (f p x))) (h : Kept s (part p)) : Kept s (part (l.foldl f p)) := by
  induction l generalizing p with
  | nil => exact h
  | cons _ _ ih => exact ih (hf h)

theorem foldl_kept {f : State → α → State} {l : List α} (hf : ∀ {u x}, Kept s u → Kept s (f u x)) (h : Kept s t) :
    Kept s (l.foldl f t) :=
  foldl_part_kept id hf h

theorem foldl_fst_kept {f : State × β → α → State × β} {l : List α} {b : β} (hf : ∀ {p x}, Kept s p.1 → Kept s (f p x).1)
    (h : Kept s t) : Kept s (l.foldl f (t, b)).1 :=
  foldl_part_kept Prod.fst hf h

theorem foldl_snd_kept {f : β × State → α → β × State} {l : List α} {b : β} (hf : ∀ {p x}, Kept s p.2 → Kept s (f p x).2)
    (h : Kept s t) : Kept s (l.foldl f (b, t)).2 :=
  foldl_part_kept Prod.snd hf h

theorem foldl_third_kept {f : β × γ × State → α → β × γ × State} {l : List α} {b : β} {c : γ}
    (hf : ∀ {p x}, Kept s p.2.2 → Kept s (f p x).2.2) (h : Kept s t) : Kept s (l.foldl f (b, c, t)).2.2 :=
  foldl_part_kept (fun p : β × γ × State => p.2.2) hf h

theorem pair_fst_kept {a : α} (h : Kept s t) : Kept s (t, a).1 := h
theorem pair_snd_kept {a : α} (h : Kept s t) : Kept s (a, t).2 := h

theorem fst_kept {p : State × α} {a} (e : p = (u, a)) (h : Kept s p.1) : Kept s u := by subst e; exact h
theorem snd_kept {p : α × State} {a} (e : p = (a, u)) (h : Kept s p.2) : Kept s u := by subst e; exact h
theorem third_kept {p : α × β × State} {a b} (e : p = (a, b, u)) (h : Kept s p.2.2) : Kept s u := by subst e; exact h

theorem some_kept (e : some t = some u) (h : Kept s t) : Kept s u := Option.some.inj e ▸ h

theorem some_ite_kept {c : Prop} [Decidable c] {v : State} (e : (if c then some t else some v) = some u) (h : Kept s t) (g : Kept s v) :
    Kept s u := by
  split at e
  exacts [some_kept e h, some_kept e g]

theorem getD_kept {o : Option State} (ho : ∀ {u}, o = some u → Kept s u) (h : Kept s t) : Kept s (o.getD t) := by
  cases o with
  | none => exact h
  | some _ => exact ho rfl

/-- The state in which the work of an interval leaves the device. -/
def ChurnWork.after : ChurnWork → State
  | .waits s => s
  | .ended s => s
  | .goes _ s => s

theorem after_kept {w v : ChurnWork} (e : w = v) (h : Kept s w.after) : Kept s v.after := e ▸ h

/-- A command answers, and keeps it. -/
def NextKept (s : State) : Host.Outcome State Fault Refusal → Prop
  | .next t => Kept s t
  | _ => False

theorem ite_next {c : Prop} [Decidable c] {o q} (h : NextKept s o) (g : NextKept s q) : NextKept s (if c then o else q) := by
  split <;> assumption

end Sys2Proof.Machine
end

section
/-!
PROOFS. What every command keeps, lemma by lemma: registers, memory, flash and the access table.
Each lemma follows the branches of the function it names.
-/
namespace Sys2Proof.Machine

variable {s t u : State}

/-! ### Registers, memory, faults and draws -/

theorem setFld_kept {w hi lo n} (h : Kept s t) : Kept s (setFld t w hi lo n) := setReg_kept h
theorem setBit_kept {w i b} (h : Kept s t) : Kept s (setBit t w i b) := setFld_kept h
theorem countReg_kept {w top} (h : Kept s t) : Kept s (countReg t w top) := setReg_kept h
theorem countFld_kept {w hi lo} (h : Kept s t) : Kept s (countFld t w hi lo) := setFld_kept h

theorem writeMems_kept {a ws} (h : Kept s t) : Kept s (writeMems t a ws) := by
  induction ws generalizing t a with
  | nil => exact h
  | cons _ _ ih => exact ih (writeMem_kept h)

theorem setCell_kept {k c} (h : Kept s t) : Kept s (setCell t k c) := h.frame
theorem modCell_kept {k f} (h : Kept s t) : Kept s (modCell t k f) := setCell_kept h
theorem setVat_kept {p v} (h : Kept s t) : Kept s (setVat t p v) := h.frame
theorem modVat_kept {p f} (h : Kept s t) : Kept s (modVat t p f) := setVat_kept h
theorem modChurn_kept {p f} (h : Kept s t) : Kept s (modChurn t p f) := modVat_kept h
theorem modMac_kept {p f} (h : Kept s t) : Kept s (modMac t p f) := modVat_kept h
theorem modNoise_kept {p f} (h : Kept s t) : Kept s (modNoise t p f) := modVat_kept h
theorem raise_kept {n} (h : Kept s t) : Kept s (raise t n) := h.frame
theorem raiseVat_kept {p k} (h : Kept s t) : Kept s (raiseVat t p k) := ite_kept (raise_kept h) h
theorem eventBit_kept {w i src} (h : Kept s t) : Kept s (eventBit t w i src) := ite_kept h (raise_kept (setBit_kept h))
theorem eventVat_kept {w i p k} (h : Kept s t) : Kept s (eventVat t w i p k) := ite_kept h (raiseVat_kept (setBit_kept h))
theorem raisePail_kept {p} (h : Kept s t) : Kept s (raisePail t p) := ite_kept h (raise_kept h.frame)
theorem clearPail_kept {p} (h : Kept s t) : Kept s (clearPail t p) := h.frame

theorem latchFault_kept {r} (h : Kept s t) : Kept s (latchFault t r) := by
  unfold latchFault
  dsimp only
  split
  exacts [raise_kept (.frame (countReg_kept h)), through (fun hx => ite_kept (raise_kept hx) hx) (.frame (countReg_kept h))]

theorem stormCount_kept (h : Kept s t) : Kept s (stormCount t) := ite_kept (raise_kept h.frame.frame) h.frame
theorem countVatFault_kept {source master} (h : Kept s t) : Kept s (countVatFault t source master) := ite_kept h.frame h

theorem fault_kept {cls source acc master addr posted} (h : Kept s t) : Kept s (fault t cls source acc master addr posted) :=
  through (fun hx => ite_kept (raise_kept hx) hx) (countVatFault_kept (stormCount_kept (latchFault_kept h)))

theorem busFault_kept {acc master addr} (h : Kept s t) : Kept s (busFault t acc master addr) := fault_kept h
theorem draw16_kept (h : Kept s t) : Kept s (draw16 t).2 := h.frame
theorem drawBits_kept {bits} (h : Kept s t) : Kept s (drawBits t bits).2 := h.frame
theorem drawBytes_kept {n} (h : Kept s t) : Kept s (drawBytes t n).2 := drawBits_kept h
theorem elapsed_kept (h : Kept s t) : Kept s (elapsed t).2 := h.frame
theorem send_kept {m} (h : Kept s t) : Kept s (send t m) := h.frame

/-! ### Flash blocks and pages (R423) -/

theorem setFlashBlock_kept {n b} (h : Kept s t) : Kept s (setFlashBlock t n b) := h.frame
theorem tableWritten_kept (h : Kept s t) : Kept s (tableWritten t) := h.frame
theorem retireBlock_kept {n reason} (h : Kept s t) : Kept s (retireBlock t n reason) := tableWritten_kept (setFlashBlock_kept h)
theorem spoilSpare_kept {x} (h : Kept s t) : Kept s (spoilSpare t x) := h.frame

theorem mapSpare_kept {n x} (h : Kept s t) : Kept s (mapSpare t n x) := by
  unfold mapSpare
  dsimp only
  refine tableWritten_kept (setFlashBlock_kept (.frame ?_))
  split
  exacts [spoilSpare_kept h, h]

theorem setPage_kept {k ws} (h : Kept s t) : Kept s (setPage t k ws) := h.frame
theorem erasePhys_kept {b} (h : Kept s t) : Kept s (erasePhys t b) := h.frame
theorem programBytes_kept {bank page bs} (h : Kept s t) : Kept s (programBytes t bank page bs) := ite_kept h (setPage_kept h)
theorem eraseBlock_kept {n} (h : Kept s t) : Kept s (eraseBlock t n) := ite_kept (erasePhys_kept h) h
theorem eraseBlocks_kept {bank lo hi} (h : Kept s t) : Kept s (eraseBlocks t bank lo hi) := foldl_kept eraseBlock_kept h
theorem eraseBank_kept {bank} (h : Kept s t) : Kept s (eraseBank t bank) := eraseBlocks_kept h

theorem tornPage_kept {k alt} (h : Kept s t) : Kept s (tornPage t k alt) :=
  ite_kept (setPage_kept (draw16_kept h)) (setPage_kept (draw16_kept h))

theorem tornSlot_kept {k ws} (h : Kept s t) : Kept s (tornSlot t k ws) :=
  ite_kept (setPage_kept (draw16_kept h)) (tornPage_kept (draw16_kept h))

theorem tearJob_kept {bank j} (h : Kept s t) : Kept s (tearJob t bank j) :=
  ite_kept h (ite_kept (tornSlot_kept h) (ite_kept (tornPage_kept h) (ite_kept (foldl_kept tornPage_kept h) h)))

theorem tableChange_kept {bank j code} (h : Kept s t) : Kept s (tableChange t bank j code) := by
  unfold tableChange
  dsimp only
  refine ite_kept (retireBlock_kept h) (ite_kept ?_ (ite_kept (retireBlock_kept h) (ite_kept (retireBlock_kept h) h)))
  split
  exacts [mapSpare_kept h, h]

theorem tearTable_kept {bank j} (h : Kept s t) : Kept s (tearTable t bank j) := by
  unfold tearTable
  split
  exacts [h, ite_kept (tableChange_kept (draw16_kept h)) (draw16_kept h)]

theorem tearAll_kept (h : Kept s t) : Kept s (tearAll t) := by
  unfold tearAll
  dsimp only
  refine .frame (foldl_kept (fun hu => ?_) h)
  split
  exacts [tearTable_kept (tearJob_kept hu), hu]

theorem writeProt_kept {v} (h : Kept s t) : Kept s (writeProt t v) := ite_kept (setFld_kept h) h
theorem setBank_kept {b v} (h : Kept s t) : Kept s (setBank t b v) := h.frame

/-! ### The access table and the arbiters (R371, R377) -/

theorem setShadow_kept {i e} (h : Kept s t) : Kept s (setShadow t i e) := h.frame
theorem noteRefusal_kept {r entry} (h : Kept s t) : Kept s (noteRefusal t r entry) := countReg_kept (setReg_kept h)
theorem refusal_kept {r entry acc m a} (h : Kept s t) : Kept s (refusal t r entry acc m a) := fault_kept (noteRefusal_kept h)
theorem applyTable_kept (h : Kept s t) : Kept s (applyTable t) := h.frame
theorem requestApply_kept (h : Kept s t) : Kept s (requestApply t) := ite_kept h (ite_kept h.frame (applyTable_kept h))
theorem actWrite_kept (h : Kept s t) : Kept s (actWrite t) := ite_kept (setBit_kept h) (setShadow_kept h)

theorem setRegs_kept {w vs} (h : Kept s t) : Kept s (setRegs t w vs) := by
  induction vs generalizing t w with
  | nil => exact h
  | cons _ _ ih => exact ih (setReg_kept h)

theorem actLoad_kept (h : Kept s t) : Kept s (actLoad t) := setRegs_kept h
theorem clearEntry_kept {part i} (h : Kept s t) : Kept s (clearEntry part t i) := ite_kept (setShadow_kept h) h
theorem clearPart_kept {part} (h : Kept s t) : Kept s (clearPart t part) := foldl_kept clearEntry_kept h
theorem setArb_kept {i o a} (h : Kept s t) : Kept s (setArb t i o a) := h.frame

theorem arbGrant_kept {i reqs} (h : Kept s t) : Kept s (arbGrant t i reqs).2 := by
  unfold arbGrant
  dsimp only
  split
  exacts [h, setArb_kept h]

theorem outputGrant_kept {r o heads} (h : Kept s t) : Kept s (outputGrant t r o heads).2 := by
  unfold outputGrant
  dsimp only
  split
  exacts [h, setReg_kept (countReg_kept (setArb_kept h))]

/-! ### Operands, engine jobs, faults and halts -/

theorem supAccess_kept {acc w} (h : Kept s t) (h' : Kept s u) : Kept s (supAccess t acc w u) :=
  ite_kept h (ite_kept (busFault_kept h) h')

theorem linkGrants_kept {req n} (h : Kept s t) : Kept s (linkGrants t req n) := by
  induction n generalizing t with
  | zero => exact h
  | succ _ ih => exact ih (.frame (setArb_kept h))

theorem modBank_kept {b f} (h : Kept s t) : Kept s (modBank t b f) := setBank_kept h

theorem touchBuffer_kept {b p i} (h : Kept s t) : Kept s (touchBuffer t b p i) :=
  ite_kept (setBank_kept (modBank_kept h)) (modBank_kept h)

theorem noteDecode_kept {b page retries corrections} (h : Kept s t) : Kept s (noteDecode t b page retries corrections) :=
  through (fun hx => ite_kept hx (setReg_kept (countReg_kept (eventBit_kept hx))))
    (ite_kept (eventBit_kept (setReg_kept h)) (setReg_kept h))

theorem bufferPage_kept {b page retries corrections} (h : Kept s t) : Kept s (bufferPage t b page retries corrections) :=
  noteDecode_kept (modBank_kept h)

theorem pageLost_kept {b page corrections} (h : Kept s t) : Kept s (pageLost t b page corrections) :=
  setReg_kept (eventBit_kept (noteDecode_kept h))

theorem busyRead_kept {b} (h : Kept s t) : Kept s (busyRead t b) := eventBit_kept (countReg_kept h)

theorem pageNow_kept {m acc a} (h : Kept s t) : Kept s (pageNow t m acc a).2 := by
  have hl : ∀ {g n}, Kept s (linkGrants t g n) := linkGrants_kept h
  unfold pageNow
  refine ite_snd_kept h (ite_snd_kept (busyRead_kept h) (ite_snd_kept (pair_snd_kept (touchBuffer_kept hl)) ?_))
  refine ite_snd_kept (pair_snd_kept (touchBuffer_kept (bufferPage_kept (draw16_kept hl)))) ?_
  exact pair_snd_kept (fault_kept (pageLost_kept (draw16_kept hl)))

theorem pagesNow_kept {m acc l} (h : Kept s t) : Kept s (pagesNow m acc t l).2 := by
  induction l generalizing t with
  | nil => exact h
  | cons _ _ ih =>
    unfold pagesNow
    split
    · next e => exact ih (snd_kept e (pageNow_kept h))
    · next e => exact snd_kept e (pageNow_kept h)

theorem engineRefused_kept {acc m a} (h : Kept s t) : Kept s (engineRefused t acc m a) := by
  unfold engineRefused
  split
  exacts [ite_kept (busFault_kept h) (refusal_kept h), busFault_kept h]

theorem opRead_kept {m a n} (h : Kept s t) : Kept s (opRead t m a n).2 := by
  unfold opRead
  dsimp only
  refine ite_snd_kept h ?_
  split
  · exact busFault_kept h
  · split
    · exact refusal_kept h
    · split
      · refine engineRefused_kept ?_
        split
        exacts [ite_kept (busyRead_kept h) h, h]
      · split
        · next e => exact busFault_kept (snd_kept e (pagesNow_kept h))
        · next e => exact snd_kept e (pagesNow_kept h)

theorem opWritePart_kept {m a ws} (h : Kept s t) : Kept s (opWritePart t m a ws).2 := by
  unfold opWritePart
  split
  · exact refusal_kept h
  · split
    · exact engineRefused_kept h
    · split
      · exact fault_kept (noteRefusal_kept h)
      · split
        exacts [fault_kept h, writeMems_kept h]

theorem opWriteParts_kept {m a ws l} (h : Kept s t) : Kept s (opWriteParts t m a ws l).2 := by
  induction l generalizing t with
  | nil => exact h
  | cons _ _ ih =>
    unfold opWriteParts
    split
    · next e => exact ih (snd_kept e (opWritePart_kept h))
    · exact opWritePart_kept h

theorem opWrite_kept {m a ws} (h : Kept s t) : Kept s (opWrite t m a ws).2 := ite_snd_kept h (opWriteParts_kept h)
theorem opPut_kept {m a w} (h : Kept s t) : Kept s (opPut t m a w) := opWrite_kept h

theorem churnEnd_kept {p k descr status detail writeDesc} (h : Kept s t) : Kept s (churnEnd t p k descr status detail writeDesc) := by
  unfold churnEnd
  dsimp only
  refine modChurn_kept (modVat_kept (ite_kept ?_ (modCell_kept (ite_kept (opPut_kept (opPut_kept h)) h))))
  split
  · exact modCell_kept (ite_kept (opPut_kept (opPut_kept h)) h)
  · exact modCell_kept (modCell_kept (ite_kept (opPut_kept (opPut_kept h)) h))

theorem churnAbandon_kept {p k} (h : Kept s t) : Kept s (churnAbandon t p k) := by
  unfold churnAbandon
  split
  exacts [h, eventVat_kept (churnEnd_kept h)]

theorem churnGrant_kept {p} (h : Kept s t) : Kept s (churnGrant t p) := by
  unfold churnGrant
  dsimp only
  split
  · exact modChurn_kept h
  · split
    · next e => exact modChurn_kept (snd_kept e (arbGrant_kept h))
    · next e => exact through (fun hx => modChurn_kept (ite_kept (countReg_kept hx) hx)) (snd_kept e (arbGrant_kept h))

theorem churnCancel_kept {p k} (h : Kept s t) : Kept s (churnCancel t p k).2 := by
  unfold churnCancel
  dsimp only
  split
  exacts [h, ite_snd_kept h (ite_snd_kept (pair_snd_kept (modChurn_kept h)) (churnAbandon_kept h))]

theorem macEnd_kept {p k descr status detail writeDesc} (h : Kept s t) : Kept s (macEnd t p k descr status detail writeDesc) := by
  unfold macEnd
  dsimp only
  refine modMac_kept (modVat_kept (ite_kept ?_ (modCell_kept (ite_kept (opPut_kept (opPut_kept h)) h))))
  split
  · exact modCell_kept (ite_kept (opPut_kept (opPut_kept h)) h)
  · exact modCell_kept (modCell_kept (ite_kept (opPut_kept (opPut_kept h)) h))

theorem macAbandon_kept {p k} (h : Kept s t) : Kept s (macAbandon t p k) := by
  unfold macAbandon
  split
  exacts [h, eventVat_kept (macEnd_kept h)]

theorem macCancel_kept {p k} (h : Kept s t) : Kept s (macCancel t p k).2 := by
  unfold macCancel
  dsimp only
  split
  exacts [h, ite_snd_kept h (ite_snd_kept (pair_snd_kept (modMac_kept h)) (macAbandon_kept h))]

theorem haltCore_kept {k acc addr} (h : Kept s t) : Kept s (haltCore t k acc addr) :=
  through (fun hx => ite_kept (raise_kept (fault_kept (setBit_kept hx)))
    (modVat_kept (macCancel_kept (churnCancel_kept (raiseVat_kept (setBit_kept hx)))))) (modCell_kept (fault_kept h))

theorem syncFault_kept {k f acc} (h : Kept s t) : Kept s (syncFault t k f acc) :=
  ite_kept (haltCore_kept h) (modCell_kept (fault_kept h))

theorem cellInstr_kept {core op legal} {body : State → Nat → Cell → BitVec 32 → State} (h : Kept s t)
    (hb : ∀ {u k c p}, Kept s u → Kept s (body u k c p)) : Kept s (cellInstr t core op legal body) := by
  unfold cellInstr
  dsimp only
  refine ite_kept ?_ h
  split
  exacts [h, ite_kept (ite_kept (hb h) (syncFault_kept h)) h]

theorem noteEgress_kept {n} (h : Kept s t) : Kept s (noteEgress t n) := by
  unfold noteEgress
  split
  exacts [noteRefusal_kept h, h]

end Sys2Proof.Machine
end

section
/-!
PROOFS. What every command keeps, lemma by lemma: cells, vats and resets.
Each lemma follows the branches of the function it names.
-/
namespace Sys2Proof.Machine

variable {s t u : State}

/-! ### Arithmetic -/

theorem aluRRR_kept {core op rdC f} (h : Kept s t) : Kept s (aluRRR t core op rdC f) := cellInstr_kept h setCell_kept
theorem aluRRI_kept {core op lim f} (h : Kept s t) : Kept s (aluRRI t core op lim f) := cellInstr_kept h setCell_kept

theorem compare_kept {core op imm f} (h : Kept s t) : Kept s (compare t core op imm f) :=
  cellInstr_kept h fun hu => ite_kept (syncFault_kept hu) (setCell_kept hu)

/-! ### Capabilities (R330) -/

theorem capInstr_kept {core op legal gs f} (h : Kept s t) : Kept s (capInstr t core op legal gs f) := by
  unfold capInstr
  refine cellInstr_kept h fun hu => ite_kept (syncFault_kept hu) ?_
  split
  exacts [setCell_kept hu, syncFault_kept hu]

/-! ### Exceptions and special registers (R340, R352) -/

theorem takeCause_kept {k cause async addr} (h : Kept s t) : Kept s (takeCause t k cause async addr) := by
  unfold takeCause
  dsimp only
  split
  exacts [modCell_kept (modCell_kept (modVat_kept h)), haltCore_kept (modCell_kept (modVat_kept h))]

theorem execExceptionEntry_kept {core} (h : Kept s t) : NextKept s (execExceptionEntry core t) := by
  unfold execExceptionEntry
  dsimp only
  refine ite_next h ?_
  split
  · exact takeCause_kept h
  · split
    · exact takeCause_kept (modCell_kept h)
    · refine ite_next ?_ h
      split
      · split
        exacts [takeCause_kept (syncFault_kept (noteEgress_kept h)), syncFault_kept (noteEgress_kept h)]
      · refine ite_next h ?_
        split
        exacts [takeCause_kept (syncFault_kept h), syncFault_kept h]

theorem returnX_kept {k c} (h : Kept s t) : Kept s (returnX t k c) := foldl_kept fault_kept (setCell_kept h)

theorem mfsrValue_kept {k c sr} (h : Kept s t) : Kept s (mfsrValue t k c sr).2.2 := by
  unfold mfsrValue
  split
  case h_4 => exact elapsed_kept h
  all_goals exact h

theorem execMtsr_kept {core} (h : Kept s t) : NextKept s (execMtsr core t) := by
  unfold execMtsr
  refine cellInstr_kept h fun hu => ite_kept ?_ (syncFault_kept hu)
  split
  exacts [setCell_kept hu, syncFault_kept hu]

/-! ### Loads, stores and the block instructions (R303 to R319) -/

theorem setXfer_kept {i q} (h : Kept s t) : Kept s (setXfer t i q) := h.frame
theorem newXfer_kept {q} (h : Kept s t) : Kept s (newXfer t q) := setXfer_kept h.frame
theorem memGrant_kept {k} (h : Kept s t) : Kept s (memGrant t k).2 := ite_snd_kept h (arbGrant_kept h)
theorem blockFault_kept {k f acc note} (h : Kept s t) : Kept s (blockFault t k f acc note) := syncFault_kept (noteEgress_kept h)
theorem blockSend_kept {k a ty op ws age} (h : Kept s t) : Kept s (blockSend t k a ty op ws age) := modCell_kept (newXfer_kept h)

theorem blockRead_kept {k cap off need op} (h : Kept s t) : Kept s (blockRead t k cap off need op).2 := by
  unfold blockRead
  dsimp only
  split
  · exact h
  · refine ite_snd_kept h ?_
    split
    exacts [memGrant_kept h, ite_snd_kept (ite_snd_kept (memGrant_kept h) (memGrant_kept h)) (blockSend_kept (memGrant_kept h))]

theorem blockNext_kept {k p} (h : Kept s t) : Kept s (blockNext t k p) :=
  ite_kept (ite_kept (setCell_kept h) (setCell_kept (setCell_kept h)))
    (ite_kept (syncFault_kept (setCell_kept h)) (ite_kept (syncFault_kept (setCell_kept h)) (setCell_kept h)))

theorem blockWrite_kept {k p w} (h : Kept s t) : Kept s (blockWrite t k p w) := by
  unfold blockWrite
  dsimp only
  split
  · exact blockFault_kept h
  · refine ite_kept h ?_
    split
    · exact blockFault_kept (memGrant_kept h)
    · refine ite_kept ?_ (blockSend_kept (memGrant_kept h))
      split
      exacts [blockFault_kept (memGrant_kept h), blockNext_kept (writeMem_kept (memGrant_kept h))]

theorem blockSource_kept {k p x} (h : Kept s t) : Kept s (blockSource t k p x) := by
  unfold blockSource
  dsimp only
  refine ite_kept ?_ (blockWrite_kept h)
  split
  · next e => exact snd_kept e (blockRead_kept h)
  · next e => exact blockFault_kept (snd_kept e (blockRead_kept h))
  · next e => exact blockWrite_kept (snd_kept e (blockRead_kept h))

theorem blockResume_kept {k a op w} (h : Kept s t) : Kept s (blockResume t k a op w) := by
  unfold blockResume
  split
  · exact h
  · split
    exacts [blockNext_kept h, ite_kept (blockWrite_kept h) (blockFault_kept h), ite_kept (blockSource_kept h) (blockFault_kept h)]

theorem finishMem_kept {k a w} (h : Kept s t) : Kept s (finishMem t k a w) := by
  have hc {f} : Kept s (modCell t k f) := modCell_kept h
  unfold finishMem
  dsimp only
  split
  · exact syncFault_kept hc
  · split
    case h_5 => exact blockResume_kept hc
    all_goals
      split
      exacts [setCell_kept hc, syncFault_kept hc]

theorem loadPart_kept {k a st part} (h : Kept s st.1) : Kept s (loadPart k a st part).1 := by
  unfold loadPart
  dsimp only
  split
  · exact noteEgress_kept (memGrant_kept h)
  · split
    exacts [memGrant_kept h, newXfer_kept (memGrant_kept h)]

theorem partsIssued_kept {k a st} (h : Kept s st.1) : Kept s (partsIssued k a st) := ite_kept (finishMem_kept h) (modCell_kept h)

theorem issueLoad_kept {k op a n} (h : Kept s t) : Kept s (issueLoad t k op a n) :=
  ite_kept h (partsIssued_kept (foldl_fst_kept loadPart_kept h))

theorem storePart_kept {k a ws st part} (h : Kept s st.1) : Kept s (storePart k a ws st part).1 := by
  unfold storePart
  dsimp only
  split
  · exact noteEgress_kept (memGrant_kept h)
  · split
    · split
      exacts [memGrant_kept h, writeMems_kept (memGrant_kept h)]
    · exact newXfer_kept (memGrant_kept h)

theorem issueStore_kept {k op a ws} (h : Kept s t) : Kept s (issueStore t k op a ws) :=
  ite_kept h (partsIssued_kept (foldl_fst_kept storePart_kept h))

theorem issuePosted_kept {k a w} (h : Kept s t) : Kept s (issuePosted t k a w) :=
  ite_kept h (ite_kept (modCell_kept h) (modCell_kept (newXfer_kept (memGrant_kept h))))

theorem storeWord_kept {k a w} (h : Kept s t) : Kept s (storeWord t k a w) := ite_kept (issuePosted_kept h) (issueStore_kept h)

theorem execLd_kept {core} (h : Kept s t) : NextKept s (execLd core t) := by
  unfold execLd
  refine cellInstr_kept h fun hu => ?_
  split
  exacts [syncFault_kept hu, issueLoad_kept hu]

theorem execSt_kept {core} (h : Kept s t) : NextKept s (execSt core t) := by
  unfold execSt
  refine cellInstr_kept h fun hu => ?_
  split
  exacts [syncFault_kept hu, storeWord_kept hu]

theorem execLdx_kept {core} (h : Kept s t) : NextKept s (execLdx core t) := by
  unfold execLdx
  refine cellInstr_kept h fun hu => ?_
  split
  · exact syncFault_kept hu
  · split
    exacts [syncFault_kept hu, issueLoad_kept hu]

theorem execStx_kept {core} (h : Kept s t) : NextKept s (execStx core t) := by
  unfold execStx
  refine cellInstr_kept h fun hu => ?_
  split
  · exact syncFault_kept hu
  · split
    exacts [syncFault_kept hu, storeWord_kept hu]

theorem execCld_kept {core} (h : Kept s t) : NextKept s (execCld core t) := by
  unfold execCld
  refine cellInstr_kept h fun hu => ?_
  split
  exacts [syncFault_kept hu, issueLoad_kept hu]

theorem execCst_kept {core} (h : Kept s t) : NextKept s (execCst core t) := by
  unfold execCst
  refine cellInstr_kept h fun hu => ?_
  split
  exacts [syncFault_kept hu, issueStore_kept hu]

theorem frameGrants_kept {k a n} (h : Kept s t) : Kept s (frameGrants t k a n) := foldl_kept memGrant_kept h

theorem execCallm_kept {core} (h : Kept s t) : NextKept s (execCallm core t) := by
  unfold execCallm
  dsimp only
  refine cellInstr_kept h fun hu => ite_kept (syncFault_kept hu) (ite_kept (syncFault_kept hu) ?_)
  split
  · exact syncFault_kept hu
  · split
    · exact syncFault_kept (noteEgress_kept hu)
    · split
      exacts [syncFault_kept hu, setCell_kept (writeMems_kept (frameGrants_kept hu))]

theorem readDs_kept {k c off n f} (h : Kept s t) (e : readDs t k c off n = .error (u, f)) : Kept s u := by
  unfold readDs at e
  split at e
  · cases e
    exact h
  · split at e <;> cases e
    exact noteEgress_kept h

theorem execRetm_kept {core} (h : Kept s t) : NextKept s (execRetm core t) := by
  unfold execRetm
  dsimp only
  refine cellInstr_kept h fun hu => ite_kept (syncFault_kept hu) ?_
  split
  · next e => exact syncFault_kept (readDs_kept hu e)
  · refine ite_kept (syncFault_kept hu) (ite_kept (syncFault_kept hu) ?_)
    split
    · next e => exact syncFault_kept (readDs_kept hu e)
    · split
      exacts [syncFault_kept hu, ite_kept (syncFault_kept hu) (setCell_kept (frameGrants_kept hu))]

theorem postedEnd_kept {k refused} (h : Kept s t) : Kept s (postedEnd t k refused) := modCell_kept h

/-! ### Grants of the routers (R377) -/

theorem moveReply_kept {n} (h : Kept s t) : Kept s (moveReply t n) := by
  unfold moveReply
  dsimp only
  split
  exacts [h, .frame (setXfer_kept h)]

theorem hopGrantWith_kept {r o extra} (h : Kept s t) : Kept s (hopGrantWith t r o extra).2 := by
  unfold hopGrantWith
  dsimp only
  split
  · next e => exact snd_kept e (outputGrant_kept h)
  · next e =>
      refine foldl_kept (fun hu => ?_) (snd_kept e (outputGrant_kept h))
      split
      exacts [hu, setXfer_kept hu]

theorem travel_kept {n k} (h : Kept s t) : Kept s (travel t n k) := by
  induction k generalizing t with
  | zero => exact h
  | succ _ ih =>
    unfold travel
    split
    · exact h
    · split
      · exact h
      · split
        exacts [ih (moveReply_kept h), ite_kept h (ih (hopGrantWith_kept h))]

theorem travelBack_kept {n k} (h : Kept s t) : Kept s (travelBack t n k) := by
  induction k generalizing t with
  | zero => exact h
  | succ _ ih =>
    unfold travelBack
    split
    · exact h
    · split
      · exact h
      · split
        exacts [ih (moveReply_kept h), h]

theorem passOutput_kept {r o inp age k} (h : Kept s t) : Kept s (passOutput t r o inp age k).1 := by
  induction k generalizing t age with
  | zero => exact h
  | succ _ ih =>
    unfold passOutput
    split
    · exact ih (moveReply_kept h)
    · dsimp only
      split
      · next e =>
        have hu := snd_kept e (hopGrantWith_kept h)
        split
        exacts [hu, ih hu]
      · next e => exact snd_kept e (hopGrantWith_kept h)

theorem grantRoute_kept {age l inp} (h : Kept s t) : Kept s (grantRoute t age l inp) := by
  induction l generalizing t age inp with
  | nil => exact h
  | cons p _ ih =>
    obtain ⟨r, o⟩ := p
    unfold grantRoute
    have hp := passOutput_kept (r := r) (o := o) (inp := inp) (age := age) (k := allRounds t) h
    split
    next e => exact ih (fst_kept e hp)

/-! ### Deques, skims and the loader (R186 to R210) -/

theorem setDeque_kept {p k l} (h : Kept s t) : Kept s (setDeque t p k l) := modVat_kept h
theorem setStolen_kept {p q} (h : Kept s t) : Kept s (setStolen t p q) := writeMem_kept h
theorem removeTicket_kept {p k q} (h : Kept s t) : Kept s (removeTicket t p k q) := setDeque_kept h

theorem dequeTake_kept {p k} (h : Kept s t) : Kept s (dequeTake t p k).2 := by
  unfold dequeTake
  dsimp only
  split
  · exact removeTicket_kept h
  · split
    · exact h
    · split
      exacts [h, setStolen_kept (removeTicket_kept h)]

theorem giveTicket_kept {p k q} (h : Kept s t) : Kept s (giveTicket t p k q) := by
  unfold giveTicket
  dsimp only
  split
  exacts [h, modCell_kept h]

theorem serveWaiter_kept {p k} (h : Kept s t) : Kept s (serveWaiter p t k) := by
  unfold serveWaiter
  dsimp only
  split
  · next e => exact snd_kept e (dequeTake_kept h)
  · next e => exact giveTicket_kept (modVat_kept (snd_kept e (dequeTake_kept h)))

theorem serveWaiters_kept {p} (h : Kept s t) : Kept s (serveWaiters t p) := foldl_kept serveWaiter_kept h
theorem setResult_kept {p valid full q} (h : Kept s t) : Kept s (setResult t p valid full q) := setReg_kept h

theorem dqPush_kept {p k q} (h : Kept s t) : Kept s (dqPush t p k q) :=
  ite_kept (setResult_kept h) (serveWaiters_kept (modVat_kept (setDeque_kept (setResult_kept h))))

theorem dqDrain_kept {p k} (h : Kept s t) : Kept s (dqDrain t p k) := by
  unfold dqDrain
  split
  exacts [serveWaiters_kept (setResult_kept h), serveWaiters_kept (setResult_kept (removeTicket_kept h))]

theorem cqAppend_kept {p q} (h : Kept s t) : Kept s (cqAppend t p q) := by
  unfold cqAppend
  exact modVat_kept (ite_kept (raiseVat_kept h) h)

theorem acceptDone_kept {p k q} (h : Kept s t) : Kept s (acceptDone t p k q) := modCell_kept (cqAppend_kept h)

theorem cqPop_kept {p} (h : Kept s t) : Kept s (cqPop t p).2 := by
  unfold cqPop
  dsimp only
  split
  · exact h
  · split
    · exact pair_snd_kept (modVat_kept h)
    · split
      exacts [pair_snd_kept (modVat_kept h), acceptDone_kept (modVat_kept h)]

theorem stopWaiting_kept {key} (h : Kept s t) : Kept s (stopWaiting t key) := by
  unfold stopWaiting
  dsimp only
  split
  exacts [h, h, modVat_kept (modCell_kept h)]

theorem writeCellRun_kept {p v} (h : Kept s t) : Kept s (writeCellRun t p v) :=
  foldl_kept stopWaiting_kept (ite_kept (setReg_kept h) (modVat_kept (setReg_kept h)))

theorem skimDry_kept {p} (h : Kept s t) : Kept s (skimDry t p) := raiseVat_kept (modVat_kept h)

theorem skimTry_kept {p q d} (h : Kept s t) : Kept s (skimTry t p q d) := by
  unfold skimTry
  dsimp only
  split
  exacts [skimDry_kept h, modVat_kept (grantRoute_kept h)]

theorem execSkimRequest_kept {vat} (h : Kept s t) : NextKept s (execSkimRequest vat t) := by
  unfold execSkimRequest
  dsimp only
  refine ite_next ?_ h
  split
  exacts [h, skimTry_kept h]

theorem execSkimServe_kept {vat} (h : Kept s t) : NextKept s (execSkimServe vat t) := by
  unfold execSkimServe
  dsimp only
  split
  · exact h
  · refine ite_next h ?_
    split
    · exact modVat_kept h
    · refine ite_next h (ite_next (modVat_kept h) ?_)
      split
      · exact modVat_kept h
      · split
        exacts [modVat_kept h, modVat_kept (grantRoute_kept (grantRoute_kept (countFld_kept (setStolen_kept (removeTicket_kept h)))))]

theorem execSkimReply_kept {vat} (h : Kept s t) : NextKept s (execSkimReply vat t) := by
  unfold execSkimReply
  dsimp only
  split
  · exact h
  · split
    · exact h
    · exact ite_kept (skimTry_kept h) (modVat_kept h)
    · split
      · exact giveTicket_kept (modVat_kept (modVat_kept (writeMems_kept (countFld_kept h))))
      · exact setDeque_kept (modVat_kept (writeMems_kept (countFld_kept h)))

theorem vatOff_kept {p} (h : Kept s t) : Kept s (vatOff t p) :=
  scrub_kept ⟨h.pending, h.mem, fun g => tcanon_tclear _ _ _ _ (tcanon_tclear _ _ _ _ (tcanon_tclear _ _ _ _ (h.regs g))), h.otp⟩

theorem writeVatCtrl_kept {p v} (h : Kept s t) : Kept s (writeVatCtrl t p v) :=
  through (fun hx => ite_kept (modNoise_kept hx) (ite_kept (vatOff_kept hx) hx))
    (modVat_kept (setReg_kept (ite_kept (busFault_kept h) h)))

theorem writeVatSwap_kept {v} (h : Kept s t) : Kept s (writeVatSwap t v) := ite_kept h (ite_kept (setBit_kept h.frame) (setBit_kept h))
theorem swapRemap_kept {a b} (h : Kept s t) : Kept s (swapRemap t a b) := h.frame
theorem vatAccess_kept {n} (h : Kept s t) (h' : Kept s u) : Kept s (vatAccess t n u) := ite_kept h h'

theorem execSwapComplete_kept (h : Kept s t) : NextKept s (execSwapComplete t) := by
  unfold execSwapComplete
  dsimp only
  split
  exacts [h, through (fun hx => ite_kept (applyTable_kept hx) hx) (.frame (swapRemap_kept h))]

theorem abandonAll_kept {p} (h : Kept s t) : Kept s (abandonAll t p) :=
  through (fun hy => through (fun hx => ite_kept (eventVat_kept hx) hx) (ite_kept (eventVat_kept hy) hy))
    (modVat_kept (modChurn_kept h))

theorem dropCauses_kept {p} (h : Kept s t) : Kept s (dropCauses t p) := foldl_kept modCell_kept h

theorem writeLoadCtrl_kept {p v} (h : Kept s t) : Kept s (writeLoadCtrl t p v) := by
  unfold writeLoadCtrl
  dsimp only
  refine ite_kept (modVat_kept h) (ite_kept (raiseVat_kept (modVat_kept (modVat_kept h))) ?_)
  split
  · exact raiseVat_kept (modVat_kept (refusal_kept (modVat_kept h)))
  · exact ite_kept (raiseVat_kept (modVat_kept (modVat_kept h))) (modVat_kept (abandonAll_kept (dropCauses_kept (modVat_kept h))))

theorem loaderPart_kept {p n off ws} (h : Kept s t) : Kept s (loaderPart t p n off ws) := by
  unfold loaderPart
  split
  exacts [refusal_kept h, writeMems_kept h]

theorem loaderWrite_kept {p n off size ws} (h : Kept s t) : Kept s (loaderWrite t p n off size ws) :=
  ite_kept (foldl_kept loaderPart_kept h) (writeMems_kept (scrub_kept h))

theorem loadCell_kept {p n entry evb code dat k} (h : Kept s t) : Kept s (loadCell p n entry evb code dat t k) :=
  setCell_kept (loaderPart_kept (loaderWrite_kept (loaderWrite_kept h)))

theorem runLoader_kept {p a} (h : Kept s t) : Kept s (runLoader t p a) := by
  unfold runLoader
  exact modVat_kept (setReg_kept (setRegs_kept (loaderWrite_kept (foldl_kept loadCell_kept h))))

theorem loadComplete_kept {p} (h : Kept s t) : Kept s (loadComplete t p) := by
  unfold loadComplete
  split
  exacts [h, raiseVat_kept (runLoader_kept h)]

theorem takeInstr_kept {core w} (h : Kept s t) : Kept s (takeInstr core t w) := by
  unfold takeInstr
  refine cellInstr_kept h fun hu => ?_
  split
  · next e => exact giveTicket_kept (snd_kept e (dequeTake_kept hu))
  · next e => exact through (fun hx => ite_kept (modVat_kept (setCell_kept hx)) (giveTicket_kept hx)) (snd_kept e (dequeTake_kept hu))

theorem execDone_kept {core} (h : Kept s t) : NextKept s (execDone core t) :=
  cellInstr_kept h fun hu => ite_kept (syncFault_kept hu)
    (ite_kept (syncFault_kept hu) (ite_kept (setCell_kept hu) (acceptDone_kept hu)))

/-! ### Resets (R50) -/

theorem otpPut_kept {o i} (h : Kept s t) : Kept s (otpPut t o i) := ite_kept h.frame (otpSet_kept h)
theorem clearShare_kept (h : Kept s t) : Kept s (clearShare t) := h.frame

theorem newShare_kept {sh} (h : Kept s t) (e : newShare t sh = some u) : Kept s u := by
  unfold newShare at e
  split at e <;> cases e
  exact h.frame

theorem setLatch_kept {i l} (h : Kept s t) : Kept s (setLatch t i l) := h.frame
theorem setSrc_kept {i q} (h : Kept s t) : Kept s (setSrc t i q) := h.frame
theorem latchSource_kept {i} (h : Kept s t) : Kept s (latchSource t i) := setLatch_kept h
theorem latchAll_kept (h : Kept s t) : Kept s (latchAll t) := foldl_kept latchSource_kept h
theorem mirrorRegs_kept (h : Kept s t) : Kept s (mirrorRegs t) := foldl_kept setReg_kept h
theorem resetVats_kept (h : Kept s t) : Kept s (resetVats t) := foldl_kept (fun hu => modNoise_kept (setReg_kept hu)) h

theorem regsOk_reset : RegsOk State.reset := by
  unfold RegsOk
  decide

theorem volatileReset_kept (h : Kept s t) : Kept s (volatileReset t) :=
  have ht := tearAll_kept h
  foldl_kept (fun hu => ite_kept (setSrc_kept hu) hu)
    (mirrorRegs_kept (resetVats_kept ⟨ht.pending, fun _ => rfl, fun _ => regsOk_reset, ht.otp⟩))

theorem setMode_kept {m} (h : Kept s t) : Kept s (setMode t m) := setFld_kept h

theorem resetDevice_kept {i recovery} (h : Kept s t) : Kept s (resetDevice t i recovery) :=
  .frame (setBit_kept (setReg_kept (setReg_kept (volatileReset_kept (latchAll_kept h)))))

theorem firmwareReset_kept {recovery} (h : Kept s t) : Kept s (firmwareReset t recovery) := ite_kept h (resetDevice_kept h)

/-! ### The tamper unit (R498 to R523) -/

theorem queueEvidence_kept {i} (h : Kept s t) : Kept s (queueEvidence t i) := ite_kept h (ite_kept h.frame (setSrc_kept h))
theorem wipeKeys_kept (h : Kept s t) : Kept s (wipeKeys t) := foldl_kept modMac_kept (setBit_kept (.frame (clearShare_kept h)))
theorem spendNow_kept (h : Kept s t) : Kept s (spendNow t) := .frame (clearShare_kept h)

theorem wipeRoots_kept (h : Kept s t) : Kept s (wipeRoots t) :=
  through (fun hx => ite_kept (.frame hx) hx) (foldl_kept modMac_kept (setBit_kept h.frame))

theorem stallCells_kept (h : Kept s t) : Kept s (stallCells t) := foldl_kept (fun hu => ite_kept hu (stopWaiting_kept hu)) h

theorem setHoldStall_kept {l} (h : Kept s t) : Kept s (setHoldStall t l) :=
  foldl_kept (fun hu => through (fun hx => ite_kept (setSrc_kept (stallCells_kept (.frame hx))) hx)
    (ite_kept (setSrc_kept hu.frame) hu)) h

theorem reportSource_kept {i} (h : Kept s t) : Kept s (reportSource t i) := raise_kept (countFld_kept (setBit_kept h))

theorem vigilEpisode_kept {i} (h : Kept s t) : Kept s (vigilEpisode t i) :=
  .frame (setLatch_kept (ite_kept (.frame (clearShare_kept h)) (ite_kept (clearShare_kept h) h)))

theorem startEpisodes_kept {l} (h : Kept s t) : Kept s (startEpisodes t l) := by
  unfold startEpisodes
  dsimp only
  refine ite_kept (foldl_kept vigilEpisode_kept h) (ite_kept ?_ (foldl_kept reportSource_kept ?_))
  · split
    · exact through (fun hy => through (fun hx => resetDevice_kept
        (foldl_kept setLatch_kept (wipeRoots_kept (ite_kept (wipeKeys_kept hx) hx)))) (ite_kept (spendNow_kept hy) hy))
        (foldl_kept (fun hu => queueEvidence_kept (setSrc_kept hu)) h)
    · exact through (fun hy => through (fun hx => resetDevice_kept (foldl_kept setLatch_kept (ite_kept (wipeKeys_kept hx) hx)))
        (ite_kept (spendNow_kept hy) hy)) (foldl_kept (fun hu => queueEvidence_kept (setSrc_kept hu)) h)
  · split
    · exact through (fun hy => through (fun hx => setHoldStall_kept (wipeRoots_kept (ite_kept (wipeKeys_kept hx) hx)))
        (ite_kept (spendNow_kept hy) hy)) (foldl_kept (fun hu => queueEvidence_kept (setSrc_kept hu)) h)
    · exact through (fun hy => through (fun hx => setHoldStall_kept (ite_kept (wipeKeys_kept hx) hx)) (ite_kept (spendNow_kept hy) hy))
        (foldl_kept (fun hu => queueEvidence_kept (setSrc_kept hu)) h)

theorem fireSource_kept {i} (h : Kept s t) : Kept s (fireSource t i) := startEpisodes_kept h
theorem noteMismatch_kept {point m} (h : Kept s t) : Kept s (noteMismatch t point m) := setReg_kept (countReg_kept h)

theorem tableRefusal_kept {r e acc m a} (h : Kept s t) : Kept s (tableRefusal t r e acc m a) :=
  ite_kept (fireSource_kept (noteMismatch_kept (refusal_kept h))) (refusal_kept h)

theorem disagreeNow_kept {i} (h : Kept s t) : Kept s (disagreeNow t i) := raise_kept (setBit_kept (countFld_kept h))
theorem dropHoldStall_kept (h : Kept s t) : Kept s (dropHoldStall t) := h.frame

theorem admitDeferred_kept (h : Kept s t) : Kept s (admitDeferred t) := by
  unfold admitDeferred
  dsimp only
  split
  exacts [ite_kept (setSrc_kept h.frame) h, h]

theorem execEvidenceProgramEnd_kept {took} (h : Kept s t) : NextKept s (execEvidenceProgramEnd took t) := by
  unfold execEvidenceProgramEnd
  refine ite_next h ?_
  split
  · refine admitDeferred_kept ?_
    split
    exacts [otpSet_kept h.frame, h.frame]
  · split
    · exact h
    · refine through (fun hx => ite_next hx (setSrc_kept hx.frame)) ?_
      split
      exacts [otpSet_kept h, h]

theorem writeTmpFuse_kept {v} (h : Kept s t) : Kept s (writeTmpFuse t v) :=
  ite_kept h (ite_kept (setBit_kept h) (ite_kept h (.frame (setSrc_kept h))))

theorem applyLatch_kept (h : Kept s t) : Kept s (applyLatch t) := by
  refine through (fun hl => .frame (ite_kept hl (setBit_kept hl))) (foldl_kept (fun hu => ?_) h)
  refine setSrc_kept (through (fun hx => ite_kept (setBit_kept (setFld_kept hx)) hx) ?_)
  refine through (fun hx => ite_kept (raise_kept (setBit_kept hx)) hx) (foldl_kept (fun hv => ?_) hu)
  refine ite_kept (queueEvidence_kept hv) ?_
  split
  exacts [otpSet_kept hv, hv]

theorem resumeHoldStall_kept (h : Kept s t) : Kept s (resumeHoldStall t) := h.frame

theorem writeFltAck_kept {v} (h : Kept s t) : Kept s (writeFltAck t v) := by
  unfold writeFltAck
  dsimp only
  split
  exacts [h, ite_kept h.frame h]

theorem setOffset_kept {item v} (h : Kept s t) : Kept s (setOffset t item v) :=
  through (fun hx => ite_kept (.frame hx) hx) (foldl_kept setSrc_kept (.frame (ite_kept h (setBit_kept h))))

theorem writeCalItem_kept {v} (h : Kept s t) : Kept s (writeCalItem t v) := ite_kept (setReg_kept h) (setBit_kept (setReg_kept h))
theorem writeCalOffset_kept {v} (h : Kept s t) : Kept s (writeCalOffset t v) := ite_kept (setOffset_kept h) h

end Sys2Proof.Machine
end

section
/-!
PROOFS. What every command keeps, lemma by lemma: the Parlour, DMA and the engines.
Each lemma follows the branches of the function it names.
-/
namespace Sys2Proof.Machine

variable {s t u : State}

/-! ### The Parlour (R77 to R100) -/

theorem setPail_kept {p v} (h : Kept s t) : Kept s (setPail t p v) := h.frame
theorem modPail_kept {p f} (h : Kept s t) : Kept s (modPail t p f) := setPail_kept h
theorem setPort_kept {port c} (h : Kept s t) : Kept s (setPort t port c) := h.frame
theorem sendVector_kept {port v} (h : Kept s t) : Kept s (sendVector t port v) := send_kept h

theorem signalVector_kept {port v} (h : Kept s t) : Kept s (signalVector t port v) :=
  ite_kept h (ite_kept (setPort_kept h) (sendVector_kept h))

theorem signalBoth_kept (h : Kept s t) : Kept s (signalBoth t) := signalVector_kept (signalVector_kept h)
theorem prlEvent_kept {i} (h : Kept s t) : Kept s (prlEvent t i) := ite_kept h (ite_kept (signalBoth_kept h.frame) h.frame)
theorem enterMode_kept {m} (h : Kept s t) : Kept s (enterMode t m) := ite_kept h (prlEvent_kept (setMode_kept h))
theorem setRingEn_kept {v} (h : Kept s t) : Kept s (setRingEn t v) := ite_kept h.frame (ite_kept h.frame h.frame)
theorem setStatusInt_kept {v} (h : Kept s t) : Kept s (setStatusInt t v) := ite_kept (signalBoth_kept h.frame) h.frame
theorem setRingTail_kept {v} (h : Kept s t) : Kept s (setRingTail t v) := ite_kept h.frame (raise_kept h.frame)
theorem queueRing_kept {e} (h : Kept s t) : Kept s (queueRing t e) := ite_kept h (ite_kept (prlEvent_kept h.frame) h.frame)
theorem complete_kept {p seq r} (h : Kept s t) : Kept s (complete t p seq r) := modPail_kept h

theorem afterDelivery_kept {a} (h : Kept s t) : Kept s (afterDelivery t a) := by
  unfold afterDelivery
  dsimp only
  split
  exacts [h, h.frame, h.frame, h.frame, h.frame]

theorem deliver_kept {p} (h : Kept s t) : Kept s (deliver t p) := by
  unfold deliver
  dsimp only
  split
  · exact h
  · split
    exacts [ite_kept h (afterDelivery_kept (queueRing_kept (setPail_kept (writeMems_kept h)))), h]

theorem execRingEntryWrite_kept (h : Kept s t) : NextKept s (execRingEntryWrite t) := by
  unfold execRingEntryWrite
  dsimp only
  split
  exacts [h, through (fun hx => ite_next h (ite_kept (signalVector_kept hx) hx)) (.frame (send_kept (send_kept h)))]

theorem respDone_kept {p} (h : Kept s t) : Kept s (respDone t p) := ite_kept (raise_kept (modPail_kept h)) h
theorem clrOverflow_kept {p} (h : Kept s t) : Kept s (clrOverflow t p) := modPail_kept h
theorem accept_kept {p port value phase} (h : Kept s t) : Kept s (accept t p port value phase) := modPail_kept h

theorem ring_kept {port p value} (h : Kept s t) : Kept s (ring t port p value) :=
  ite_kept (prlEvent_kept (setPail_kept h)) (ite_kept (accept_kept h)
    (ite_kept (accept_kept h) (ite_kept (accept_kept h) (raisePail_kept (modPail_kept (accept_kept h))))))

theorem mergeByte_kept {a odd b} (h : Kept s t) : Kept s (mergeByte t a odd b) := writeMem_kept h

theorem pailBytes_kept {port off bs} (h : Kept s t) : Kept s (pailBytes port t off bs) := by
  induction bs generalizing t off with
  | nil => exact h
  | cons _ _ ih => exact ih (ite_kept (modPail_kept (mergeByte_kept h)) h)

theorem readsZero_kept {isWrite} (h : Kept s t) : Kept s (readsZero t isWrite) := ite_kept h h.frame

theorem sendPending_kept {port} (h : Kept s t) : Kept s (sendPending t port) :=
  foldl_kept (fun hu => ite_kept (sendVector_kept (setPort_kept hu)) hu) h

theorem execMsixUnmask_kept {port vector} (h : Kept s t) : NextKept s (execMsixUnmask port vector t) := by
  unfold execMsixUnmask
  dsimp only
  refine ite_next h ?_
  split <;> exact sendPending_kept (setPort_kept h)

theorem execConfigurationSpaceWrite_kept {port op} (h : Kept s t) : NextKept s (execConfigurationSpaceWrite port op t) := by
  unfold execConfigurationSpaceWrite
  dsimp only
  refine ite_next h ?_
  split
  · exact sendPending_kept (setPort_kept h)
  · exact sendPending_kept (setPort_kept h)
  · exact sendPending_kept (setPort_kept h)
  · exact setPort_kept h
  · exact setPort_kept h
  · exact setPort_kept h
  · exact sendPending_kept (setPort_kept h)

theorem resetPort_kept {port} (h : Kept s t) : Kept s (resetPort t port) :=
  ite_kept h (ite_kept (.frame (setPort_kept h)) (setPort_kept h))

theorem prlWrite_kept {m w x} (h : Kept s t) : Kept s (prlWrite t m w x) := by
  have hr {p c y} := ring_kept (port := p) (p := c) (value := y) h
  have hm {p f} := modPail_kept (p := p) (f := f) h
  unfold prlWrite
  generalize hi : w - 0x30100000 = i
  refine ite_kept h (ite_kept h ?_)
  split
  exacts [setRingEn_kept (setStatusInt_kept h), .frame h, .frame h, .frame h, .frame h, .frame h, .frame h,
    setRingTail_kept h, ite_kept (by
    generalize i % 0x10 = j
    split
    exacts [hr, through (fun hx => ite_kept (respDone_kept hx) hx) (ite_kept (clrOverflow_kept h) h), hm, h]) h]

/-! ### Channels of DMA (R388 to R402) -/

theorem setDma_kept {c d} (h : Kept s t) : Kept s (setDma t c d) := h.frame
theorem modDma_kept {c f} (h : Kept s t) : Kept s (modDma t c f) := setDma_kept h
theorem dmaEvent_kept {c i} (h : Kept s t) : Kept s (dmaEvent t c i) := eventBit_kept h
theorem setQuad_kept {w n} (h : Kept s t) : Kept s (setQuad t w n) := setRegs_kept h
theorem dmaHalt_kept {c} (h : Kept s t) : Kept s (dmaHalt t c) := dmaEvent_kept (modDma_kept h)

theorem beginFetch_kept {c a} (h : Kept s t) : Kept s (beginFetch t c a) :=
  ite_kept (modDma_kept (setQuad_kept (setQuad_kept h))) (dmaHalt_kept (modDma_kept (setQuad_kept h)))

theorem dmaStart_kept {c} (h : Kept s t) : Kept s (dmaStart t c) := ite_kept (beginFetch_kept h) h

theorem beginWriteBack_kept {c code element dstSide residue} (h : Kept s t) : Kept s
    (beginWriteBack t c code element dstSide residue) := by
  unfold beginWriteBack
  exact modDma_kept h

theorem dmaAbort_kept {c} (h : Kept s t) : Kept s (dmaAbort t c) := by
  unfold dmaAbort
  dsimp only
  split
  · exact h
  · exact dmaEvent_kept (modDma_kept h)
  · exact beginWriteBack_kept (modDma_kept h)
  · exact ite_kept (beginWriteBack_kept (modDma_kept h)) h
  · exact h

theorem dmaRecord_kept {c f} (h : Kept s t) : Kept s (dmaRecord t c f) := by
  unfold dmaRecord
  dsimp only
  refine fault_kept ?_
  split
  exacts [noteRefusal_kept h, h]

theorem mismatchFires_kept {f} (h : Kept s t) : Kept s (mismatchFires t f) := ite_kept (fireSource_kept h) h

theorem fetchFails_kept {c f} (h : Kept s t) : Kept s (fetchFails t c f) :=
  mismatchFires_kept (dmaHalt_kept (modDma_kept (dmaRecord_kept h)))

theorem burstFails_kept {c f element dstSide residue} (h : Kept s t) : Kept s (burstFails t c f element dstSide residue) :=
  mismatchFires_kept (beginWriteBack_kept (dmaRecord_kept h))

theorem writeBackFails_kept {c f} (h : Kept s t) : Kept s (writeBackFails t c f) :=
  mismatchFires_kept (dmaEvent_kept (dmaHalt_kept (modDma_kept (dmaRecord_kept h))))

theorem dmaBusFails_kept {c} (h : Kept s t) : Kept s (dmaBusFails t c) := by
  unfold dmaBusFails
  dsimp only
  split
  · exact ite_kept (fetchFails_kept h) h
  · exact ite_kept (burstFails_kept h) (burstFails_kept h)
  · exact ite_kept (writeBackFails_kept h) h
  · exact h
  · exact h

theorem dmaPortFails_kept {port c} (h : Kept s t) : Kept s (dmaPortFails t port c) := by
  have hf {s'} (hx : Kept s s') : Kept s (match (getDma s' c).phase with
      | .writeBack _ _ => if descSpace s' c = port then writeBackFails s' c ⟨dHOST, 0, none⟩ else s'
      | _ => s') := by
    split
    exacts [ite_kept (writeBackFails_kept hx) hx, hx]
  refine hf ?_
  split
  exacts [ite_kept (fetchFails_kept h) h, ite_kept (burstFails_kept h) h, h]

theorem portResets_kept {port} (h : Kept s t) : Kept s (portResets t port) :=
  resetPort_kept (ite_kept (foldl_kept dmaPortFails_kept h) h)

theorem writeDmaCtrl_kept {c v} (h : Kept s t) : Kept s (writeDmaCtrl t c v) :=
  through (fun hx => ite_kept (dmaAbort_kept hx) hx) (ite_kept (dmaStart_kept h) h)

/-! ### The noise source (R280 to R294) -/

theorem internalDraw_kept {p q bits} (h : Kept s t) : Kept s (internalDraw t p q bits).2 :=
  ite_snd_kept (pair_snd_kept (modVat_kept h)) (ite_snd_kept (pair_snd_kept (modNoise_kept (modVat_kept h)))
    (ite_snd_kept (countReg_kept (.frame (modVat_kept h))) (ite_kept (modVat_kept h) h)))

theorem kdfDraw_kept {bits x} (h : Kept s t) (e : kdfDraw t bits = some (x, u)) : Kept s u := by
  unfold kdfDraw at e
  split at e <;> cases e
  exact h.frame.frame

theorem softRead_kept (h : Kept s t) : Kept s (softRead t).2 := ite_snd_kept (setBit_kept h) (draw16_kept h.frame)

/-- The words read one after the other by a software read of the central queue. -/
theorem softBatch_fold_kept {l : List Nat} {v b} (h : Kept s t) :
    Kept s (l.foldl (fun (st : List (BitVec 16) × State × Bool) _ =>
      let dry := softDry st.2.1
      let (v, s) := softRead st.2.1
      (st.1 ++ [v], s, st.2.2 || dry)) (v, t, b)).2.1 := by
  induction l generalizing t v b with
  | nil => exact h
  | cons _ _ ih => exact ih (softRead_kept h)

theorem softBatch_kept {n} (h : Kept s t) : Kept s (softBatch t n).2 := by
  unfold softBatch
  dsimp only
  split <;> exact softBatch_fold_kept h

theorem sampledOn_kept {p longest} (h : Kept s t) : Kept s (sampledOn t p longest) := by
  unfold sampledOn
  exact modNoise_kept (drawBits_kept (draw16_kept h))

theorem seePeaks_kept {p run count} (h : Kept s t) : Kept s (seePeaks t p run count) := setReg_kept (setReg_kept h)
theorem seenBelow_kept {top} (h : Kept s t) : Kept s (seenBelow t top).2 := draw16_kept h

theorem sourceFails_kept {p test} (h : Kept s t) : Kept s (sourceFails t p test) := by
  unfold sourceFails
  dsimp only
  refine ite_kept h (fireSource_kept (modNoise_kept ?_))
  split <;> exact seePeaks_kept (seenBelow_kept h)

theorem sourceStarts_kept {p} (h : Kept s t) : Kept s (sourceStarts t p) := by
  unfold sourceStarts
  dsimp only
  exact ite_kept (modNoise_kept (sampledOn_kept (seePeaks_kept (seenBelow_kept (seenBelow_kept h))))) h

theorem refillCentral_kept (h : Kept s t) : Kept s (refillCentral t) := by
  unfold refillCentral
  dsimp only
  refine ite_kept h ?_
  split
  · exact h
  · exact through (fun hx => ite_kept (fireSource_kept (noteMismatch_kept (.frame hx))) (.frame hx))
      (draw16_kept (modNoise_kept (grantRoute_kept h)))

theorem giveDraw_kept {k ok} (h : Kept s t) : Kept s (giveDraw t k ok) := by
  unfold giveDraw
  dsimp only
  split
  exacts [h, modCell_kept (ite_snd_kept (draw16_kept h) h)]

theorem execRdraw_kept {core} (h : Kept s t) : NextKept s (execRdraw core t) :=
  cellInstr_kept h fun hu => by
    split
    · next e => exact giveDraw_kept (snd_kept e (ite_snd_kept hu (internalDraw_kept hu)))
    · next e => exact giveDraw_kept (snd_kept e (ite_snd_kept hu (internalDraw_kept hu)))
    · next e => exact setCell_kept (snd_kept e (ite_snd_kept hu (internalDraw_kept hu)))

theorem execInternalDraw_kept {vat} (h : Kept s t) : NextKept s (execInternalDraw vat t) := by
  unfold execInternalDraw
  dsimp only
  split
  · exact h
  · split
    · next e => exact giveDraw_kept (snd_kept e (internalDraw_kept h))
    · next e => exact giveDraw_kept (snd_kept e (internalDraw_kept h))
    · next e => exact snd_kept e (internalDraw_kept h)

/-! ### Churn (R222 to R254) -/

theorem churnTag_kept {p k a} (h : Kept s t) : Kept s (churnTag t p k a) := eventVat_kept (fault_kept h)

theorem rsaSearch_kept {l} (h : Kept s t) : Kept s (rsaSearch t l).2 :=
  pair_snd_kept (foldl_snd_kept drawBits_kept (drawBits_kept (foldl_snd_kept drawBits_kept (drawBits_kept h))))

theorem churnChecks_kept {p m d} (h : Kept s t) : Kept s (churnChecks t p m d).2 := by
  unfold churnChecks
  dsimp only
  split
  · exact h
  · split
    · exact h
    · refine ite_snd_kept h (ite_snd_kept h (ite_snd_kept h (ite_snd_kept h (ite_snd_kept h ?_))))
      split
      · next e => exact snd_kept e (opRead_kept h)
      · next e => exact snd_kept e (opRead_kept h)
      · next e =>
        have hk := snd_kept e (opRead_kept h)
        split
        · next e => exact snd_kept e (opRead_kept hk)
        · next e => exact snd_kept e (opRead_kept hk)
        · next e =>
          have hi := snd_kept e (opRead_kept hk)
          refine ite_snd_kept hi (ite_snd_kept hi ?_)
          split <;> exact hi

theorem putJob_kept {p k job} (h : Kept s t) : Kept s (putJob t p k job) := modChurn_kept h

theorem churnSubmit_kept {p k descr d} (h : Kept s t) (e : churnSubmit t p k descr d = some u) : Kept s u := by
  unfold churnSubmit at e
  dsimp only at e
  split at e
  · cases e
  · next e' =>
    have hc := snd_kept e' (churnChecks_kept (modCell_kept h))
    exact some_kept e (churnEnd_kept (ite_kept (churnTag_kept hc) hc))
  · next e' =>
    have hc := snd_kept e' (churnChecks_kept (modCell_kept h))
    exact some_kept e (ite_kept (modChurn_kept (putJob_kept (opPut_kept hc)))
      (churnGrant_kept (modChurn_kept (putJob_kept (opPut_kept hc)))))

theorem writeChnCancel_kept {p v} (h : Kept s t) : Kept s (writeChnCancel t p v) := foldl_kept churnCancel_kept h
theorem drawBases_kept {c} (h : Kept s t) : Kept s (drawBases t c).2 := drawBits_kept h

theorem writeResults_kept {m l} (h : Kept s t) : Kept s (writeResults t m l).2 := by
  induction l generalizing t with
  | nil => exact h
  | cons _ _ ih =>
    unfold writeResults
    split
    · next e => exact ih (snd_kept e (opWrite_kept h))
    · next e => exact snd_kept e (opWrite_kept h)

theorem churnWrite_kept {p k job res} (h : Kept s t) : Kept s (churnWrite t p k job res) := by
  unfold churnWrite
  dsimp only
  refine ite_kept (putJob_kept h) (churnGrant_kept ?_)
  split
  · next e => exact churnEnd_kept (countReg_kept (snd_kept e (writeResults_kept (elapsed_kept h))))
  · next e => exact churnEnd_kept (snd_kept e (writeResults_kept (elapsed_kept h)))
  · next e => exact eventVat_kept (churnEnd_kept (snd_kept e (writeResults_kept (elapsed_kept h))))

theorem mismatchRecord_kept {p k op descr} (h : Kept s t) : Kept s (mismatchRecord t p k op descr) :=
  fault_kept (eventVat_kept (setReg_kept (countReg_kept h)))

theorem churnMismatch_kept {p k job} (h : Kept s t) : Kept s (churnMismatch t p k job) := mismatchRecord_kept (churnEnd_kept h)
theorem curveRefused_kept {p k job n} (h : Kept s t) : Kept s (curveRefused t p k job n) := eventVat_kept (churnEnd_kept h)

theorem curveSetEnd_kept {p k job} (h : Kept s t) : Kept s (curveSetEnd t p k job) := by
  unfold curveSetEnd
  dsimp only
  split
  exacts [churnWrite_kept (modChurn_kept (drawBases_kept h)), churnGrant_kept (curveRefused_kept (drawBases_kept h))]

theorem drawAll_kept {p q l} (h : Kept s t) : Kept s (drawAll t p q l).2.2 := by
  induction l generalizing t with
  | nil => exact h
  | cons _ _ ih =>
    unfold drawAll
    split
    · next e => exact ih (snd_kept e (internalDraw_kept h))
    · next e => exact snd_kept e (internalDraw_kept h)

theorem churnDry_kept {p k job} (h : Kept s t) : Kept s (churnDry t p k job) := eventVat_kept (churnEnd_kept h)

theorem curveDraws_kept {p k job last} (h : Kept s t) : Kept s (curveDraws t p k job last).after := by
  unfold curveDraws
  dsimp only
  split
  · next e => exact putJob_kept (third_kept e (drawAll_kept h))
  · next e => exact churnDry_kept (third_kept e (drawAll_kept h))
  · next e => exact putJob_kept (third_kept e (drawAll_kept h))

theorem curveWork_kept {p k job last} (h : Kept s t) : Kept s (curveWork t p k job last).after := by
  unfold curveWork
  dsimp only
  split
  · exact curveRefused_kept h
  · split
    · next e => exact putJob_kept (third_kept e (drawAll_kept h))
    · next e => exact churnDry_kept (third_kept e (drawAll_kept h))
    · next e =>
        split
        · exact curveRefused_kept (drawBases_kept (third_kept e (drawAll_kept h)))
        · exact curveDraws_kept (drawBases_kept (third_kept e (drawAll_kept h)))

theorem churnWork_kept {p k job c last} (h : Kept s t) : Kept s (churnWork t p k job c last).after := by
  unfold churnWork
  dsimp only
  split
  · exact curveWork_kept h
  · split
    · exact churnEnd_kept h
    · split
      · next e => exact putJob_kept (third_kept e (drawAll_kept h))
      · next e => exact churnDry_kept (third_kept e (drawAll_kept h))
      · next e =>
          split
          exacts [putJob_kept (rsaSearch_kept (third_kept e (drawAll_kept h))), putJob_kept (third_kept e (drawAll_kept h))]

theorem churnLast_kept {p k job c mismatch} (h : Kept s t) : Kept s (churnLast t p k job c mismatch) := by
  unfold churnLast
  dsimp only
  refine ite_kept (churnGrant_kept (churnMismatch_kept (drawBits_kept h)))
    (ite_kept (churnGrant_kept (churnAbandon_kept (drawBits_kept h))) (ite_kept (curveSetEnd_kept (drawBits_kept h)) ?_))
  split
  exacts [putJob_kept (drawBits_kept h), churnWrite_kept (drawBits_kept h)]

theorem churnJobEnd_kept {p mismatch} (h : Kept s t) : Kept s (churnJobEnd t p mismatch) := by
  unfold churnJobEnd
  dsimp only
  split
  · exact h
  · split
    · exact churnWrite_kept h
    · split
      · next e => exact after_kept e (churnWork_kept h)
      · next e => exact churnGrant_kept (after_kept e (churnWork_kept h))
      · next e =>
          refine ite_kept (after_kept e (churnWork_kept h)) ?_
          split
          exacts [churnGrant_kept (churnEnd_kept (after_kept e (churnWork_kept h))), churnLast_kept (after_kept e (churnWork_kept h))]

theorem churnYield_kept {p} (h : Kept s t) : Kept s (churnYield t p) := by
  unfold churnYield
  dsimp only
  split
  · exact churnGrant_kept h
  · refine ite_kept h ?_
    split
    · next e => exact after_kept e (churnWork_kept h)
    · next e => exact churnGrant_kept (after_kept e (churnWork_kept h))
    · next e => exact through (fun hx => churnGrant_kept (ite_kept (churnAbandon_kept hx) hx)) (after_kept e (churnWork_kept h))

theorem writeChnKat_kept {p v} (h : Kept s t) : Kept s (writeChnKat t p v) := ite_kept (modChurn_kept h) h

theorem chnKatEnd_kept {p pass} (h : Kept s t) : Kept s (chnKatEnd t p pass) :=
  ite_kept (ite_kept (modChurn_kept h) (fault_kept (eventVat_kept (modChurn_kept h)))) h

theorem jobReturn_kept {k p v} (h : Kept s t) : Kept s (jobReturn t k p v) := modCell_kept h

theorem descriptor_kept {k base n rd} (h : Kept s t) : Kept s (descriptor t k base n rd).2 := by
  unfold descriptor
  refine ite_snd_kept h ?_
  split
  · exact noteEgress_kept h
  · split <;> exact h

theorem submitJob_kept {k c p n rd busy} {submit : State → Nat → Nat → Nat → List Word → Option State} (h : Kept s t)
    (hs : ∀ {t u p k descr d}, Kept s t → submit t p k descr d = some u → Kept s u) : Kept s (submitJob t k c p n rd busy submit) := by
  unfold submitJob
  dsimp only
  refine ite_kept (syncFault_kept h) (ite_kept (jobReturn_kept h) ?_)
  split
  · exact h
  · next e => exact syncFault_kept (snd_kept e (descriptor_kept h))
  · next e =>
    have hd := snd_kept e (descriptor_kept h)
    exact getD_kept (hs (jobReturn_kept hd)) hd

/-! ### The MAC unit (R255 to R279) -/

theorem loadRoots_kept {p} (h : Kept s t) : Kept s (loadRoots t p) := modMac_kept h
theorem lateRoots_kept {p} (h : Kept s t) : Kept s (lateRoots t p) := ite_kept h (loadRoots_kept h)

theorem macChecks_kept {p m r} (h : Kept s t) : Kept s (macChecks t p m r).2 := by
  refine ite_snd_kept h (ite_snd_kept h (ite_snd_kept h (ite_snd_kept h (ite_snd_kept h (ite_snd_kept h (ite_snd_kept h
    (ite_snd_kept h (ite_snd_kept h ?_))))))))
  split
  · next e => exact snd_kept e (opRead_kept h)
  · next e => exact snd_kept e (opRead_kept h)
  · next e =>
    have h1 := snd_kept e (opRead_kept h)
    split
    · next e => exact snd_kept e (opRead_kept h1)
    · next e => exact snd_kept e (opRead_kept h1)
    · next e =>
      have h2 := snd_kept e (opRead_kept h1)
      split
      · next e => exact snd_kept e (opRead_kept h2)
      · next e => exact snd_kept e (opRead_kept h2)
      · next e =>
        have h3 := snd_kept e (opRead_kept h2)
        exact ite_snd_kept h3 (ite_snd_kept h3 (ite_snd_kept h3 h3))

theorem setCounter_kept {p i v} (h : Kept s t) : Kept s (setCounter t p i v) := modMac_kept h

theorem incCounter_kept {p i amount} (h : Kept s t) : Kept s (incCounter t p i amount).2 :=
  ite_snd_kept (setCounter_kept h) (setCounter_kept h)

theorem macGrant_kept {p} (h : Kept s t) : Kept s (macGrant t p) := by
  unfold macGrant
  split
  · exact modMac_kept h
  · split
    · next e => exact modMac_kept (snd_kept e (arbGrant_kept h))
    · next e => exact modMac_kept (snd_kept e (arbGrant_kept h))

theorem macTag_kept {p k a} (h : Kept s t) : Kept s (macTag t p k a) := eventVat_kept (fault_kept h)

theorem macSubmit_kept {p k descr d} (h : Kept s t) (e : macSubmit t p k descr d = some u) : Kept s u := by
  unfold macSubmit at e
  dsimp only at e
  split at e
  · cases e
  · next e' =>
    have hc := snd_kept e' (macChecks_kept (modCell_kept (lateRoots_kept h)))
    exact some_kept e (macEnd_kept (ite_kept (macTag_kept hc) hc))
  · next e' =>
    have hc := snd_kept e' (macChecks_kept (modCell_kept (lateRoots_kept h)))
    have hi {c : Prop} [Decidable c] {n b} := ite_snd_kept (c := c) (p := incCounter _ p n b) (q := (true, _)) (incCounter_kept hc) hc
    exact through (fun hx => some_ite_kept e (macEnd_kept hi) (ite_kept hx (macGrant_kept hx))) (modMac_kept (opPut_kept hi))

theorem reseed_kept {p} (h : Kept s t) : Kept s (reseed t p).2 := by
  unfold reseed
  split
  · next e => exact pair_snd_kept (modMac_kept (countReg_kept (snd_kept e (internalDraw_kept h))))
  · next e => exact snd_kept e (internalDraw_kept h)
  · next e => exact pair_snd_kept (modMac_kept (snd_kept e (internalDraw_kept h)))

theorem reseeds_kept {p n} (h : Kept s t) : Kept s (reseeds p n t).2 := by
  induction n generalizing t with
  | zero => exact h
  | succ _ ih =>
    unfold reseeds
    split
    · next e => exact ih (snd_kept e (reseed_kept h))
    · exact reseed_kept h

theorem useBlocks_kept {p blocks} (h : Kept s t) : Kept s (useBlocks t p blocks).2 := by
  unfold useBlocks
  dsimp only
  refine ite_snd_kept h ?_
  split
  · next e => exact pair_snd_kept (modMac_kept (snd_kept e (reseeds_kept h)))
  · exact pair_snd_kept (modVat_kept h)
  · exact reseeds_kept h

theorem readInput_kept {m j n} (h : Kept s t) : Kept s (readInput t m j n).2 := by
  unfold readInput
  dsimp only
  split
  · next e => exact snd_kept e (opRead_kept h)
  · next e => exact snd_kept e (opRead_kept h)
  · next e => exact snd_kept e (opRead_kept h)

theorem setMacJob_kept {p k j} (h : Kept s t) : Kept s (setMacJob t p k j) := modMac_kept h

theorem macEvent_kept {p k descr status} (h : Kept s t) : Kept s (macEvent t p k descr status) :=
  ite_kept (eventVat_kept h) (ite_kept (eventVat_kept h) (ite_kept (eventVat_kept h) (ite_kept (macTag_kept h) h)))

theorem macFail_kept {p k descr status} (h : Kept s t) : Kept s (macFail t p k descr status) :=
  macGrant_kept (macEnd_kept (macEvent_kept h))

theorem execMacGrantPoint_kept {vat} (h : Kept s t) : NextKept s (execMacGrantPoint vat t) := by
  unfold execMacGrantPoint
  dsimp only
  split
  · exact ite_kept h (macGrant_kept h)
  · refine ite_next h ?_
    split
    · exact macFail_kept h
    · split
      · next e => exact snd_kept e (readInput_kept h)
      · next e => exact macFail_kept (snd_kept e (readInput_kept h))
      · split
        · next e1 => exact snd_kept e1 (useBlocks_kept h)
        · next e1 => exact macFail_kept (snd_kept e1 (useBlocks_kept h))
        · next e1 =>
            exact through (fun hx => ite_kept (macGrant_kept (macAbandon_kept hx)) (macGrant_kept (setMacJob_kept hx)))
              (snd_kept e1 (useBlocks_kept h))

theorem macWrite_kept {p k j out detail} (h : Kept s t) : Kept s (macWrite t p k j out detail) := by
  unfold macWrite
  dsimp only
  refine ite_kept (setMacJob_kept h) (macGrant_kept ?_)
  split
  · next e => exact macEnd_kept (snd_kept e (writeResults_kept h))
  · next e => exact macEnd_kept (snd_kept e (writeResults_kept h))
  · next e => exact eventVat_kept (macEnd_kept (snd_kept e (writeResults_kept h)))

theorem counterOp_kept {p k j} (h : Kept s t) : Kept s (counterOp t p k j) := by
  refine through (fun hx => ite_kept (macWrite_kept hx) (macGrant_kept (macEnd_kept hx))) ?_
  exact ite_snd_kept (incCounter_kept h) h

theorem macLast_kept {p k j done} (h : Kept s t) : Kept s (macLast t p k j done) := by
  unfold macLast
  dsimp only
  split
  · exact macFail_kept h
  · split
    · next e => exact snd_kept e (useBlocks_kept h)
    · next e => exact macFail_kept (snd_kept e (useBlocks_kept h))
    · next e =>
        exact through (fun hx => ite_kept (macGrant_kept (macAbandon_kept hx)) (macWrite_kept hx)) (snd_kept e (useBlocks_kept h))

theorem execMacJobEnd_kept {vat} (h : Kept s t) : NextKept s (execMacJobEnd vat t) := by
  unfold execMacJobEnd
  dsimp only
  split
  · exact h
  · refine ite_next h (ite_next (macWrite_kept h) (ite_next (ite_kept (macGrant_kept (macAbandon_kept h)) (counterOp_kept h)) ?_))
    split
    · next e => exact snd_kept e (readInput_kept h)
    · next e => exact macFail_kept (snd_kept e (readInput_kept h))
    · exact macLast_kept h

theorem writeMacCancel_kept {p v} (h : Kept s t) : Kept s (writeMacCancel t p v) := foldl_kept macCancel_kept h
theorem writeMacKat_kept {p v} (h : Kept s t) : Kept s (writeMacKat t p v) := ite_kept (modMac_kept h) h

theorem macKatEnd_kept {p pass} (h : Kept s t) : Kept s (macKatEnd t p pass) :=
  ite_kept (ite_kept (modMac_kept h) (fault_kept (eventVat_kept (modMac_kept h)))) h

theorem ctrDone_kept {p exhausted} (h : Kept s t) : Kept s (ctrDone t p exhausted) := setReg_kept (setRegs_kept h)
theorem ctrRead_kept {p} (h : Kept s t) : Kept s (ctrRead t p) := ctrDone_kept h
theorem ctrIncrement_kept {p} (h : Kept s t) : Kept s (ctrIncrement t p) := ctrDone_kept (incCounter_kept h)
theorem ctrRaise_kept {p} (h : Kept s t) : Kept s (ctrRaise t p) := ctrDone_kept (setCounter_kept h)

theorem writeCtrCmd_kept {p v} (h : Kept s t) : Kept s (writeCtrCmd t p v) := by
  unfold writeCtrCmd
  split
  exacts [ctrRead_kept h, ctrIncrement_kept h, ctrRaise_kept h, h]

end Sys2Proof.Machine
end

section
/-!
PROOFS. What every command keeps, lemma by lemma: the firmware's keys, signatures and devices.
Each lemma follows the branches of the function it names.
-/
namespace Sys2Proof.Machine

variable {s t u : State}

/-! ### Firmware: admission and quorums -/

theorem setPart_kept {i v} (h : Kept s t) : Kept s (setPart t i v) := h.frame
theorem setKey_kept {i v} (h : Kept s t) : Kept s (setKey t i v) := h.frame
theorem setCounterOwner_kept {c v} (h : Kept s t) : Kept s (setCounterOwner t c v) := h.frame
theorem setCfg_kept {item index v} (h : Kept s t) : Kept s (setCfg t item index v) := h.frame
theorem setVatState_kept {n v} (h : Kept s t) : Kept s (setVatState t n v) := h.frame

theorem consume_kept {part a} (h : Kept s t) : Kept s (consume t part a) := by
  unfold consume
  dsimp only
  split
  exacts [h, h.frame, h.frame, h.frame]

theorem countReject_kept {check} (h : Kept s t) : Kept s (countReject t check) := h.frame
theorem setVoided_kept {p q on} (h : Kept s t) : Kept s (setVoided t p q on) := h.frame

theorem pushTicket_kept {n k ws} (h : Kept s t) : Kept s (pushTicket t n k ws) := by
  unfold pushTicket
  dsimp only
  split
  exacts [h, dqPush_kept (writeMems_kept (setVoided_kept h))]

theorem countAdmission_kept {p left} (h : Kept s t) : Kept s (countAdmission t p left) := h.frame

theorem admitTicket_kept {w} (h : Kept s t) : Kept s (admitTicket t w) := by
  unfold admitTicket
  dsimp only
  split
  · exact h
  · split
    exacts [pushTicket_kept (modPail_kept (writeMems_kept h)), pushTicket_kept h.frame]

theorem admitNext_kept (h : Kept s t) (e : admitNext t = some u) : Kept s u := by
  unfold admitNext at e
  dsimp only at e
  split at e
  · cases e
  · obtain ⟨_, _, rfl⟩ := Option.map_eq_some_iff.1 e
    exact admitTicket_kept (countAdmission_kept h)

theorem admitUpTo_kept {n} (h : Kept s t) : Kept s (admitUpTo n t) := by
  induction n generalizing t with
  | zero => exact h
  | succ _ ih =>
    unfold admitUpTo
    split
    · exact h
    · next e => exact ih (admitNext_kept h e)

theorem admitWaiting_kept (h : Kept s t) : Kept s (admitWaiting t) := admitUpTo_kept h

theorem dropTicket_kept {p q} (h : Kept s t) : Kept s (dropTicket t p q) := by
  unfold dropTicket
  exact modVat_kept (foldl_kept (fun hu => ite_kept (removeTicket_kept hu) hu) h)

theorem takePail_kept {p} (h : Kept s t) : Kept s (takePail t p) := by
  unfold takePail
  dsimp only
  split
  · exact h
  · split
    · exact countReject_kept (modPail_kept (modPail_kept (clearPail_kept h)))
    · exact through (fun hx => ite_kept (admitWaiting_kept hx) hx)
        (.frame (modPail_kept (consume_kept (modPail_kept (clearPail_kept h)))))

theorem serve_kept {p c} {f : State → Doorbell → Request → State × Option Response} (h : Kept s t)
    (hf : ∀ {u d r}, Kept s u → Kept s (f u d r).1) : Kept s (serve t p c f) := by
  unfold serve
  split
  · exact h
  · split
    · next e => exact complete_kept (fst_kept e (hf h))
    · next e => exact fst_kept e (hf h)

theorem finishCell_kept {p v k q d r resp} (h : Kept s t) : Kept s (finishCell t p v k q d r resp) :=
  admitWaiting_kept (modCell_kept (cqAppend_kept (modPail_kept (writeMem_kept (writeMems_kept h)))))

theorem serveCell_kept {p c} {f : State → Nat → Nat → Doorbell → Request → State × Option Response} (h : Kept s t)
    (hf : ∀ {u v k d r}, Kept s u → Kept s (f u v k d r).1) : Kept s (serveCell t p c f) := by
  unfold serveCell
  split
  · exact complete_kept h
  · split
    · exact admitWaiting_kept h
    · refine ite_kept h ?_
      split
      · next e => exact finishCell_kept (fst_kept e (hf h))
      · next e => exact fst_kept e (hf h)

theorem failed_kept {status r detail} (h : Kept s t) : Kept s (failed t status r detail).1 := h
theorem okWith_kept {r body} (h : Kept s t) : Kept s (okWith t r body).1 := h

/-! ### Firmware: the key store -/

theorem storeKey_kept {slot type curve part usage counter material pub} (h : Kept s t) : Kept s
    (storeKey t slot type curve part usage counter material pub) := setKey_kept h

theorem keepReserve_kept {c} (h : Kept s t) : Kept s (keepReserve t c) := ite_kept h.frame h
theorem addCounter_kept {c n} (h : Kept s t) : Kept s (addCounter t c n).2 := keepReserve_kept (incCounter_kept h)
theorem chargeUse_kept {k} (h : Kept s t) : Kept s (chargeUse t k).2 := ite_snd_kept h (ite_snd_kept h (addCounter_kept h))

theorem withCharge_kept {r k} {f : State → State × Option Response} (h : Kept s t) (hf : ∀ {u}, Kept s u → Kept s (f u).1) :
    Kept s (withCharge t r k f).1 := by
  unfold withCharge
  split
  · next e => exact failed_kept (snd_kept e (chargeUse_kept h))
  · next e => exact hf (snd_kept e (chargeUse_kept h))

theorem withDraw_kept {v bits r} {f : State → State × Option Response} (h : Kept s t) (h' : Kept s u)
    (hf : ∀ {u}, Kept s u → Kept s (f u).1) : Kept s (withDraw t u v bits r f).1 := by
  unfold withDraw
  split
  · exact h
  · next e => exact failed_kept (snd_kept e (internalDraw_kept h'))
  · next e => exact hf (snd_kept e (internalDraw_kept h'))

theorem macMismatch_kept {v k} (h : Kept s t) : Kept s (macMismatch t v k) := fault_kept h

theorem withMac_kept {v k blocks twice mismatch r} {f : State → State × Option Response} (h : Kept s t) (h' : Kept s u)
    (hf : ∀ {u}, Kept s u → Kept s (f u).1) : Kept s (withMac t u v k blocks twice mismatch r f).1 := by
  unfold withMac
  dsimp only
  split
  · exact h
  · next e => exact failed_kept (macEvent_kept (snd_kept e (useBlocks_kept h')))
  · next e =>
    have h1 := snd_kept e (useBlocks_kept h')
    split
    · exact hf h1
    · split
      · exact h
      · next e => exact failed_kept (macEvent_kept (snd_kept e (reseed_kept h1)))
      · next e =>
        have h2 := snd_kept e (reseed_kept h1)
        split
        · exact h
        · next e => exact failed_kept (macEvent_kept (snd_kept e (useBlocks_kept h2)))
        · next e =>
          have h3 := snd_kept e (useBlocks_kept h2)
          split
          exacts [failed_kept (macMismatch_kept h3), hf h3]

theorem withRoot_kept {v n r} {f : State → State × Option Response} (h : Kept s t) (hf : ∀ {u}, Kept s u → Kept s (f u).1) :
    Kept s (withRoot t v n r f).1 := by
  unfold withRoot
  split
  exacts [hf h, failed_kept (macEvent_kept h)]

theorem withKey_kept {v k slot key r} {f : State → Bytes → State × Option Response} (h : Kept s t) (h' : Kept s u)
    (hf : ∀ {u m}, Kept s u → Kept s (f u m).1) : Kept s (withKey t u v k slot key r f).1 := by
  unfold withKey
  refine withRoot_kept h' fun hu => withMac_kept h hu fun hu => ?_
  split
  · exact failed_kept (macEvent_kept hu)
  · split
    exacts [hf hu, failed_kept (macEvent_kept hu)]

theorem withKcv_kept {v k type mismatch r} {f : State → State × Option Response} (h : Kept s t) (h' : Kept s u)
    (hf : ∀ {u}, Kept s u → Kept s (f u).1) : Kept s (withKcv t u v k type mismatch r f).1 := by
  unfold withKcv
  split
  exacts [withMac_kept h h' hf, hf h']

theorem withStore_kept {v k slot type curve part usage counter material pub mismatch r} {f : State → State × Option Response}
    (h : Kept s t)
    (h' : Kept s u) (hf : ∀ {u}, Kept s u → Kept s (f u).1) :
    Kept s (withStore t u v k slot type curve part usage counter material pub mismatch r f).1 :=
  withRoot_kept h' fun hu => withMac_kept h hu fun hu => withKcv_kept h hu fun hu => hf (storeKey_kept hu)

theorem churnTurn_kept {v k} (h : Kept s t) : Kept s (churnTurn t v k) := ite_kept h (modChurn_kept (countReg_kept h))

theorem withChurn_kept {v k op draws mismatch good r} {f : State → State × Option Response} (h : Kept s t) (h' : Kept s u)
    (hf : ∀ {u}, Kept s u → Kept s (f u).1) : Kept s (withChurn t u v k op draws mismatch good r f).1 := by
  unfold withChurn
  have hd := drawAll_kept (p := v) (q := 2) (l := draws) (churnTurn_kept (v := v) (k := k) h')
  split
  · exact h
  · next e => exact failed_kept (eventVat_kept (third_kept e hd))
  · next e =>
    split
    exacts [failed_kept (mismatchRecord_kept (drawBits_kept (third_kept e hd))),
      hf (ite_kept (countReg_kept (third_kept e hd)) (third_kept e hd))]

theorem ctrAllocate_kept {r} (h : Kept s t) : Kept s (ctrAllocate t r).1 := by
  unfold ctrAllocate
  split
  exacts [failed_kept h, okWith_kept (setCounterOwner_kept h)]

theorem execCtrIncrement_kept {p} (h : Kept s t) : NextKept s (execCtrIncrement p t) := by
  unfold execCtrIncrement
  dsimp only
  refine serveCell_kept h fun hu => ite_fst_kept hu (ite_fst_kept ?_ (failed_kept hu))
  split
  · next e => exact okWith_kept (snd_kept e (addCounter_kept hu))
  · next e => exact failed_kept (snd_kept e (addCounter_kept hu))

theorem execCtrRelease_kept {p} (h : Kept s t) : NextKept s (execCtrRelease p t) :=
  serve_kept h fun hu => ite_fst_kept hu (ite_fst_kept (failed_kept hu)
    (ite_fst_kept (failed_kept hu) (okWith_kept (setCounterOwner_kept hu))))

theorem endGeneration_kept {slot} (h : Kept s t) : Kept s (endGeneration t slot) := h.frame

theorem cancelGeneration_kept {slot} (h : Kept s t) : Kept s (cancelGeneration t slot) := by
  unfold cancelGeneration
  dsimp only
  refine endGeneration_kept (foldl_kept (fun hu => foldl_kept dropTicket_kept (foldl_kept (fun hu1 => ?_) hu)) h)
  split
  exacts [ite_kept (setVoided_kept (churnCancel_kept hu1)) hu1, hu1]

theorem keyGenerate_kept {v k r compare} (h : Kept s t) : Kept s (keyGenerate t v k r compare).1 := by
  unfold keyGenerate
  dsimp only
  refine ite_fst_kept (failed_kept h) ?_
  split
  · exact failed_kept h
  · refine ite_fst_kept (setKey_kept h) (ite_fst_kept ?_
      (withDraw_kept h h (fun hu => withStore_kept h (drawBytes_kept hu) okWith_kept)))
    split
    exacts [failed_kept h, withChurn_kept h h (fun hu => withStore_kept h (drawBits_kept hu) okWith_kept)]

theorem execKeyGenerationTimeout_kept {slot} (h : Kept s t) : NextKept s (execKeyGenerationTimeout slot t) := by
  unfold execKeyGenerationTimeout
  split
  exacts [ite_next (setKey_kept (cancelGeneration_kept h)) h, h]

theorem generationDone_kept {slot status} (h : Kept s t) : Kept s (generationDone t slot status) := by
  unfold generationDone
  dsimp only
  split
  exacts [through (fun hx => ite_kept h (ite_kept (setKey_kept hx) (setKey_kept hx))) (endGeneration_kept h), h]

theorem ticketDone_kept {p q status} (h : Kept s t) : Kept s (ticketDone t p q status) :=
  ite_kept (setVoided_kept h) (generationDone_kept h)

theorem keepReserves_kept {n} (h : Kept s t) : Kept s (keepReserves t n) := foldl_kept (fun hu => ite_kept (keepReserve_kept hu) hu) h

theorem execVatCqPop_kept {vat} (h : Kept s t) : NextKept s (execVatCqPop vat t) := by
  unfold execVatCqPop
  dsimp only
  refine through (fun hx => ite_next h (ite_next hx (ite_next (admitWaiting_kept (ticketDone_kept (keepReserves_kept hx))) ?_)))
    (.frame (cqPop_kept h))
  split
  · exact keepReserves_kept (.frame (cqPop_kept h))
  · split
    · exact admitWaiting_kept (complete_kept (keepReserves_kept (.frame (cqPop_kept h))))
    · exact admitWaiting_kept (complete_kept (draw16_kept (keepReserves_kept (.frame (cqPop_kept h)))))
    · exact keepReserves_kept (.frame (cqPop_kept h))

theorem importInto_kept {v k r type curve usage mat pub mismatch} (h : Kept s t) (h' : Kept s u) : Kept s
    (importInto t u v k r type curve usage mat pub mismatch).1 := by
  unfold importInto
  dsimp only
  refine ite_fst_kept (failed_kept h') (ite_fst_kept (failed_kept h') ?_)
  split
  exacts [failed_kept h', withStore_kept h h' okWith_kept]

theorem keyImport_kept {v k d r mismatch} (h : Kept s t) : Kept s (keyImport t v k d r mismatch).1 := by
  unfold keyImport
  dsimp only
  split
  · split
    · exact failed_kept h
    · refine ite_fst_kept (failed_kept h) (withCharge_kept h
        (fun hu => withKey_kept h hu (fun hu1 => withMac_kept h hu1 (fun hu2 => ?_))))
      split
      exacts [failed_kept hu2, importInto_kept h hu2]
  · exact ite_fst_kept (importInto_kept h h) (failed_kept h)
  · split
    · exact failed_kept h
    · split
      exacts [failed_kept h, importInto_kept h h]

theorem keyExport_kept {v k d r mismatch} (h : Kept s t) : Kept s (keyExport t v k d r mismatch).1 := by
  unfold keyExport
  dsimp only
  split
  · exact failed_kept h
  · exact failed_kept h
  · exact ite_fst_kept (failed_kept h) (withCharge_kept h
      (fun hu => withKey_kept h hu (fun hu1 => withKey_kept h hu1 (fun hu2 => withMac_kept h hu2 okWith_kept))))

theorem execKeyDelete_kept {p} (h : Kept s t) : NextKept s (execKeyDelete p t) := by
  unfold execKeyDelete
  dsimp only
  refine serve_kept h fun hu => ?_
  split
  exacts [ite_fst_kept (failed_kept hu) (okWith_kept (setKey_kept (ite_kept (cancelGeneration_kept hu) hu))), failed_kept hu]

theorem execKeyInfo_kept {p} (h : Kept s t) : NextKept s (execKeyInfo p t) := by
  unfold execKeyInfo
  dsimp only
  refine serve_kept h fun hu => ?_
  split
  exacts [ite_fst_kept (failed_kept hu) (okWith_kept hu), failed_kept hu]

theorem execKeyPublic_kept {p} (h : Kept s t) : NextKept s (execKeyPublic p t) := by
  unfold execKeyPublic
  refine serve_kept h fun hu => ?_
  split
  exacts [failed_kept hu, ite_fst_kept (failed_kept hu) (okWith_kept hu)]

/-! ### Firmware: signatures and certificates -/

theorem ecdsaTry_kept {c d e n} (h : Kept s t) : Kept s (ecdsaTry c d e n t).2 := by
  induction n generalizing t with
  | zero => exact h
  | succ _ ih =>
    unfold ecdsaTry
    dsimp only
    split
    exacts [drawBits_kept h, ih (drawBits_kept h)]

theorem sigSign_kept {v k d r mismatch} (h : Kept s t) : Kept s (sigSign t v k d r mismatch).1 := by
  unfold sigSign
  dsimp only
  split
  · exact failed_kept h
  · refine ite_fst_kept (failed_kept h) (withCharge_kept h
      (fun hu => withKey_kept h hu (fun hu1 => ite_fst_kept ?_
      (ite_fst_kept (failed_kept hu1) (withChurn_kept h (drawBits_kept (drawBytes_kept hu1)) okWith_kept)))))
    split
    · exact failed_kept hu1
    · refine ite_fst_kept (failed_kept hu1) (withChurn_kept h hu1 (fun hu2 => ?_))
      split
      · next e => exact okWith_kept (snd_kept e (ecdsaTry_kept hu2))
      · next e => exact failed_kept (snd_kept e (ecdsaTry_kept hu2))

theorem sigCheck_kept {v k r scheme curve pub digest sig} (h : Kept s t) (h' : Kept s u) : Kept s
    (sigCheck t u v k r scheme curve pub digest sig).1 := ite_fst_kept (failed_kept h') (withChurn_kept h h' okWith_kept)

theorem sigVerify_kept {v k d r} (h : Kept s t) : Kept s (sigVerify t v k d r).1 := by
  unfold sigVerify
  dsimp only
  refine ite_fst_kept ?_ (ite_fst_kept ?_ (sigCheck_kept h h))
  · split
    · exact failed_kept h
    · exact ite_fst_kept (failed_kept h) (withCharge_kept h (fun hu => withKey_kept h hu (fun hu1 => sigCheck_kept h hu1)))
  · split
    exacts [failed_kept h, ite_fst_kept (failed_kept h) (sigCheck_kept h h)]

theorem kaEcdh_kept {v k d r compare} (h : Kept s t) : Kept s (kaEcdh t v k d r compare).1 := by
  unfold kaEcdh
  dsimp only
  split
  · exact failed_kept h
  · refine ite_fst_kept (failed_kept h) (ite_fst_kept (failed_kept h) ?_)
    split
    · exact failed_kept h
    · split
      · exact failed_kept h
      · exact failed_kept h
      · refine withCharge_kept h fun hu => withKey_kept h hu
          (fun hu1 => ite_fst_kept (failed_kept hu1) (withChurn_kept h hu1 (fun hu2 => ?_)))
        split
        exacts [failed_kept hu2, withMac_kept h hu2 (fun hu3 => withStore_kept h hu3 okWith_kept)]

theorem drawPatient_kept {p bits} (h : Kept s t) : Kept s (drawPatient t p bits).2 := by
  unfold drawPatient
  dsimp only
  split
  · next e => exact snd_kept e (internalDraw_kept h)
  · next e => exact eventVat_kept (snd_kept e (internalDraw_kept h))
  · exact ite_snd_kept (pair_snd_kept (modNoise_kept h)) h.frame

theorem drawsPatient_kept {p l} (h : Kept s t) : Kept s (drawsPatient p l t).2 := by
  induction l generalizing t with
  | nil => exact h
  | cons _ _ ih =>
    unfold drawsPatient
    split
    · next e => exact ih (snd_kept e (drawPatient_kept h))
    · next e => exact snd_kept e (drawPatient_kept h)

theorem curveChecks_kept {p c} (h : Kept s t) : Kept s (curveChecks t p c).2 := by
  unfold curveChecks
  dsimp only
  refine ite_snd_kept h ?_
  split
  · next e => exact snd_kept e (drawsPatient_kept h)
  · next e =>
      split
      · exact drawBases_kept (snd_kept e (drawsPatient_kept h))
      · split
        · next e1 => exact snd_kept e1 (drawsPatient_kept (drawBases_kept (snd_kept e (drawsPatient_kept h))))
        · next e1 =>
            split <;> exact drawBases_kept (snd_kept e1 (drawsPatient_kept (drawBases_kept (snd_kept e (drawsPatient_kept h)))))

theorem tryCurve_kept {p i c} (h : Kept s t) : Kept s (tryCurve t p i c).2 := by
  unfold tryCurve
  refine ite_snd_kept h ?_
  split
  · next e => exact pair_snd_kept (modChurn_kept (countReg_kept (snd_kept e (curveChecks_kept h))))
  · next e => exact eventVat_kept (snd_kept e (curveChecks_kept h))
  · exact curveChecks_kept h

theorem curveFaulty_kept {n} (h : Kept s t) : Kept s (curveFaulty t n) := fault_kept (setBit_kept (setVatState_kept h))

theorem execCurveLoad_kept {p} (h : Kept s t) : NextKept s (execCurveLoad p t) :=
  serve_kept h fun hu => by
    refine ite_fst_kept (failed_kept hu) ?_
    extract_lets c
    split
    next e =>
    have hv := third_kept e (foldl_third_kept (fun {q x} hq => by
      split <;> next e => exact snd_kept e (tryCurve_kept hq)) hu)
    exact ite_fst_kept (failed_kept hv) (ite_fst_kept (failed_kept hv) (okWith_kept (foldl_kept curveFaulty_kept (.frame hv))))

theorem withKspec_kept {v k d r} {f : State → Nat → Bytes → State × Option Response} (h : Kept s t) (h' : Kept s u)
    (hf : ∀ {u n m}, Kept s u → Kept s (f u n m).1) : Kept s (withKspec t u v k d r f).1 := by
  unfold withKspec
  dsimp only
  split
  · split
    exacts [failed_kept h', withCharge_kept h' fun hu => withKey_kept h hu hf]
  · exact withRoot_kept h' fun hu => withMac_kept h hu hf

theorem modDoorbell_kept {p seq f} (h : Kept s t) : Kept s (modDoorbell t p seq f) := modPail_kept h

theorem startMacDma_kept {p c d r} (h : Kept s t) : Kept s (startMacDma t p c d r) :=
  dmaStart_kept (modDoorbell_kept (setReg_kept (setQuad_kept (applyTable_kept (setShadow_kept (scrub_kept (setReg_kept h)))))))

theorem endMacDma_kept {p c d} (h : Kept s t) : Kept s (endMacDma t p c d) :=
  modDoorbell_kept (applyTable_kept (setShadow_kept (setReg_kept h)))

theorem dropMacDma_kept {p d} (h : Kept s t) : Kept s (dropMacDma t p d) := by
  unfold dropMacDma
  split
  exacts [h, endMacDma_kept (dmaAbort_kept h)]

theorem withMacData_kept {p d r} {f : State → Bytes → State × Option Response} (h : Kept s t)
    (hf : ∀ {u b}, Kept s u → Kept s (f u b).1) : Kept s (withMacData t p d r f).1 := by
  unfold withMacData
  dsimp only
  split
  · exact hf h
  · split
    · split
      · exact h
      · split
        exacts [h, startMacDma_kept h]
    · split
      · exact h
      · split
        exacts [hf (endMacDma_kept (drawBytes_kept h)), failed_kept (endMacDma_kept h)]

theorem macCommand_kept {p v k d r verify mismatch} (h : Kept s t) : Kept s (macCommand t p v k d r verify mismatch).1 := by
  unfold macCommand
  dsimp only
  split
  · exact failed_kept (dropMacDma_kept h)
  · exact withMacData_kept h fun hu => withKspec_kept h hu
      (fun hu1 => withMac_kept h hu1 (fun hu2 => ite_fst_kept (okWith_kept hu2) (okWith_kept hu2)))

theorem pinTranslate_kept {v k d r mismatch} (h : Kept s t) : Kept s (pinTranslate t v k d r mismatch).1 := by
  unfold pinTranslate
  dsimp only
  split
  · exact failed_kept h
  · exact failed_kept h
  · refine ite_fst_kept (failed_kept h) (ite_fst_kept (failed_kept h)
      (withCharge_kept h (fun hu => withCharge_kept hu
      (fun hu1 => withKey_kept h hu1 (fun hu2 => withKey_kept h hu2 (fun hu3 => withMac_kept h hu3 (fun hu4 => ?_)))))))
    split
    exacts [failed_kept hu4, withDraw_kept h hu4 (fun hu5 => withMac_kept h (drawBytes_kept hu5) okWith_kept)]

theorem keyTranslate_kept {v k d r mismatch} (h : Kept s t) : Kept s (keyTranslate t v k d r mismatch).1 := by
  unfold keyTranslate
  extract_lets b fits
  split
  · exact failed_kept h
  · exact failed_kept h
  · refine ite_fst_kept (failed_kept h) (ite_fst_kept (failed_kept h) ?_)
    refine withCharge_kept h fun h1 => withCharge_kept h1 fun h2 => withKey_kept h h2 fun h3 => withKey_kept h h3 fun h4 =>
      withMac_kept h h4 fun h5 => ?_
    split
    exacts [failed_kept h5, withMac_kept h h5 fun h6 => withKcv_kept h h6 okWith_kept]

theorem readRandom_kept {n} (h : Kept s t) : Kept s (readRandom t n).2.2 := by
  unfold readRandom
  split
  · split
    · next e => exact snd_kept e (softBatch_kept h)
    · next e => exact snd_kept e (softBatch_kept h)
  · split
    exacts [softBatch_kept h, h]

theorem execRngGet_kept {p} (h : Kept s t) : NextKept s (execRngGet p t) := by
  unfold execRngGet
  refine serve_kept h fun hu => ?_
  split
  · next e => exact third_kept e (readRandom_kept hu)
  · next e => exact failed_kept (third_kept e (readRandom_kept hu))
  · next e => exact okWith_kept (third_kept e (readRandom_kept hu))

/-! ### The ear tag (R475 to R497) -/

theorem setRecord_kept {i r} (h : Kept s t) : Kept s (setRecord t i r) := h.frame
theorem tagEvent_kept {i} (h : Kept s t) : Kept s (tagEvent t i) := ite_kept (eventBit_kept h) h
theorem tagDamaged_kept (h : Kept s t) : Kept s (tagDamaged t) := ite_kept (fault_kept (tagEvent_kept h)) h
theorem tearStep_kept {i q} (h : Kept s t) : Kept s (tearStep t i q) := ite_kept (setRecord_kept h) (setRecord_kept (drawBits_kept h))

theorem tearTagJob_kept {j} (h : Kept s t) : Kept s (tearTagJob t j) := by
  unfold tearTagJob
  split
  · exact h
  · split
    exacts [h, tearStep_kept h]

theorem tagMainLost_kept (h : Kept s t) : Kept s (tagMainLost t) :=
  through (fun hx => ite_kept hx (.frame (tearTagJob_kept hx))) (.frame (tearTagJob_kept h))

theorem tagResult_kept {code i copy} (h : Kept s t) : Kept s (tagResult t code i copy) :=
  tagEvent_kept (ite_kept (setReg_kept (setReg_kept (setReg_kept h))) (setReg_kept h))

theorem startTagWrite_kept {i ws} (h : Kept s t) : Kept s (startTagWrite t i ws) := h.frame

theorem writeTagCmd_kept {v} (h : Kept s t) : Kept s (writeTagCmd t v) := by
  unfold writeTagCmd
  dsimp only
  refine ite_kept h (ite_kept (ite_kept (tagResult_kept h)
    (ite_kept (tagResult_kept (tagDamaged_kept h)) (tagResult_kept (setRegs_kept h)))) (ite_kept ?_ h))
  split
  exacts [tagResult_kept (tagEvent_kept h), tagResult_kept h, startTagWrite_kept h]

theorem replyCrc_kept {b} (h : Kept s t) : Kept s (replyCrc t b) := send_kept h
theorem replyOk_kept {ws} (h : Kept s t) : Kept s (replyOk t ws) := replyCrc_kept h
theorem replyError_kept {code} (h : Kept s t) : Kept s (replyError t code) := replyCrc_kept h
theorem replyCounted_kept {code} (h : Kept s t) : Kept s (replyCounted t code) := replyError_kept (countReg_kept h)
theorem replyRefused_kept {code} (h : Kept s t) : Kept s (replyRefused t code) := replyCounted_kept (tagEvent_kept h)

theorem stepJob_kept {j} (h : Kept s t) : Kept s (stepJob t j).2 := by
  unfold stepJob
  dsimp only
  split
  · exact h
  · refine ite_snd_kept ?_ (ite_kept (tagEvent_kept (setRecord_kept h)) (setRecord_kept h))
    split
    · exact tagResult_kept (ite_kept (tagEvent_kept (setRecord_kept h)) (setRecord_kept h))
    · exact tagEvent_kept (ite_kept (tagEvent_kept (setRecord_kept h)) (setRecord_kept h))
    · exact replyOk_kept (ite_kept (tagEvent_kept (setRecord_kept h)) (setRecord_kept h))

theorem tagProgramEnd_kept {field} (h : Kept s t) : Kept s (tagProgramEnd t field) := by
  unfold tagProgramEnd
  dsimp only
  split
  exacts [h, ite_kept (.frame (stepJob_kept h)) (.frame (stepJob_kept h))]

theorem tagRepair_kept {i} (h : Kept s t) : Kept s (tagRepair t i) := by
  have hd := tagDamaged_kept h
  refine ite_kept h (ite_kept (ite_kept (.frame hd) (.frame hd)) ?_)
  refine through (fun hx => ite_kept hx.frame hx) ?_
  exact ite_snd_kept h (draw16_kept h)

theorem repairWhole_kept {i} (h : Kept s t) : Kept s (repairWhole t i) :=
  ite_kept h (ite_kept (ite_kept (tagEvent_kept (setRecord_kept (tagDamaged_kept h))) (tagDamaged_kept h))
    (tagEvent_kept (setRecord_kept h)))

theorem finishRepairs_kept (h : Kept s t) : Kept s (finishRepairs t) := foldl_kept repairWhole_kept h.frame
theorem tagPowerUp_kept (h : Kept s t) : Kept s (tagPowerUp t) := h.frame

theorem execFieldLoss_kept (h : Kept s t) : NextKept s (execFieldLoss t) :=
  ite_next h (ite_kept h.frame.frame (.frame (tearTagJob_kept (ite_kept (setMode_kept h.frame.frame) h.frame.frame))))

theorem modAir_kept {f} (h : Kept s t) : Kept s (modAir t f) := h.frame
theorem setFlag_kept {i v} (h : Kept s t) : Kept s (setFlag t i v) := h.frame

theorem enterSlot_kept {slot} (h : Kept s t) : Kept s (enterSlot t slot) :=
  ite_kept (send_kept (modAir_kept (draw16_kept h))) (modAir_kept h)

theorem flipSession_kept (h : Kept s t) : Kept s (flipSession t) := setFlag_kept h

theorem execQuery_kept {q} (h : Kept s t) : NextKept s (execQuery q t) :=
  through (fun hx => ite_next h (ite_next (enterSlot_kept (draw16_kept hx)) (modAir_kept hx)))
    (modAir_kept (ite_kept (flipSession_kept h) h))

theorem replyEpc_kept (h : Kept s t) : Kept s (replyEpc t) := by
  unfold replyEpc
  split <;> exact replyCrc_kept h

theorem execAck_kept {rn} (h : Kept s t) : NextKept s (execAck rn t) :=
  ite_next h (ite_next (ite_next (replyEpc_kept (modAir_kept h)) (modAir_kept h)) (ite_next (replyEpc_kept h) (modAir_kept h)))

theorem execReqRn_kept {rn} (h : Kept s t) : NextKept s (execReqRn rn t) :=
  ite_next h (ite_next (tagEvent_kept (replyCrc_kept (modAir_kept (draw16_kept h))))
    (ite_next (replyCrc_kept (modAir_kept (draw16_kept h))) h))

theorem execAccess_kept {halfXor rn} (h : Kept s t) : NextKept s (execAccess halfXor rn t) :=
  ite_next h (ite_next (ite_next (replyCrc_kept (modAir_kept h)) (modAir_kept h))
    (ite_next (tagEvent_kept (replyCrc_kept (modAir_kept h))) (modAir_kept h)))

theorem execRead_kept {bank ptr count rn} (h : Kept s t) : NextKept s (execRead bank ptr count rn t) :=
  ite_next h (ite_next (replyCounted_kept h) (ite_next (replyRefused_kept h)
    (ite_next (replyCounted_kept (tagDamaged_kept h)) (replyOk_kept h))))

theorem fieldWrite_kept {i ws} (h : Kept s t) : Kept s (fieldWrite t i ws) := by
  refine ite_kept (replyRefused_kept h) (ite_kept (replyCounted_kept (tagDamaged_kept h))
    (ite_kept (replyRefused_kept (tagEvent_kept h)) ?_))
  refine through (fun hx => ite_kept hx.frame (replyRefused_kept hx)) ?_
  exact ite_snd_kept h (draw16_kept h)

theorem fieldWords_kept {bank ptr ws} (h : Kept s t) : Kept s (fieldWords t bank ptr ws) := by
  unfold fieldWords
  dsimp only
  refine ite_kept (replyCounted_kept h) (ite_kept (replyRefused_kept h) ?_)
  split
  exacts [ite_kept (fieldWrite_kept h) (replyRefused_kept h), replyRefused_kept h]

theorem putRecord_kept {i ws} (h : Kept s t) : Kept s (putRecord t i ws) := ite_kept (tagEvent_kept h) (setRecord_kept h)

theorem execTempLogEntry_kept {hottest coldest} (h : Kept s t) : NextKept s (execTempLogEntry hottest coldest t) :=
  through (fun hx => ite_next h (ite_kept (tagEvent_kept hx) (startTagWrite_kept hx))) (ite_kept h (putRecord_kept h))

/-! ### Firmware: the device -/

theorem tallySource_kept {i} (h : Kept s t) : Kept s (tallySource t i) := ite_kept (setReg_kept h) (.frame (setReg_kept h))
theorem tallyWrite_kept (h : Kept s t) : Kept s (tallyWrite t) := foldl_kept tallySource_kept (.frame (foldl_kept setReg_kept h))
theorem refreshStatus_kept (h : Kept s t) : Kept s (refreshStatus t) := ite_kept (putRecord_kept h) h
theorem firmReset_kept {recovery} (h : Kept s t) : Kept s (firmReset t recovery) := firmwareReset_kept (ite_kept (tallyWrite_kept h) h)
theorem pinReset_kept (h : Kept s t) : Kept s (pinReset t) := ite_kept (resetDevice_kept h) h
theorem startOtp_kept {bits next} (h : Kept s t) : Kept s (startOtp t bits next) := h.frame

theorem execOtpPulseEnd_kept {took} (h : Kept s t) : NextKept s (execOtpPulseEnd took t) := by
  unfold execOtpPulseEnd
  dsimp only
  split
  · exact h
  · split
    exacts [h, ite_next h (ite_next (.frame (otpPut_kept h)) (ite_next h.frame h.frame))]

theorem completeCmd_kept {p c resp} (h : Kept s t) : Kept s (completeCmd t p c resp) := by
  unfold completeCmd
  split
  exacts [h, complete_kept h]

theorem execDevInfo_kept {p} (h : Kept s t) : NextKept s (execDevInfo p t) := by
  unfold execDevInfo
  dsimp only
  refine serve_kept h fun hu => ite_fst_kept (okWith_kept hu) ?_
  split
  · next e => exact third_kept e (readRandom_kept hu)
  · next e => exact third_kept e (readRandom_kept hu)
  · next e => exact okWith_kept (.frame (third_kept e (readRandom_kept hu)))

theorem execDevResetDelay_kept (h : Kept s t) : NextKept s (execDevResetDelay t) := by
  unfold execDevResetDelay
  split
  exacts [h, firmReset_kept h]

theorem eraseAll_kept (h : Kept s t) : Kept s (eraseAll t) := .frame (foldl_kept eraseBank_kept h)
theorem finishLowering_kept (h : Kept s t) : Kept s (finishLowering t) := .frame (eraseAll_kept (clearShare_kept h))

theorem setProtection_kept {p r} (h : Kept s t) : Kept s (setProtection t p r).1 :=
  through (fun hx => ite_fst_kept h (ite_fst_kept (okWith_kept h)
    (ite_fst_kept (ite_fst_kept (failed_kept h) h.frame) (ite_fst_kept (okWith_kept hx) (startOtp_kept hx))))) (writeProt_kept h.frame)

theorem finishSpend_kept (h : Kept s t) : Kept s (finishSpend t) := by
  unfold finishSpend
  dsimp only
  refine .frame (ite_kept (eraseAll_kept h) (putRecord_kept ?_))
  split
  exacts [eraseAll_kept h, putRecord_kept (eraseAll_kept h)]

theorem endBoot_kept {m reason} (h : Kept s t) : Kept s (endBoot t m reason) :=
  enterMode_kept (setFld_kept (.frame (resumeHoldStall_kept h)))

theorem spendOn_kept (h : Kept s t) : Kept s (spendOn t) :=
  ite_kept (startOtp_kept h) (ite_kept (startOtp_kept h)
    (ite_kept (endBoot_kept (finishSpend_kept h)) (firmwareReset_kept (finishSpend_kept h))))

theorem afterOtp_kept {n} (h : Kept s t) : Kept s (afterOtp t n) := by
  unfold afterOtp
  dsimp only
  split
  · exact h
  · exact ite_kept (completeCmd_kept h) (completeCmd_kept h)
  · exact ite_kept (completeCmd_kept (writeProt_kept h)) (completeCmd_kept h)
  · exact ite_kept (completeCmd_kept h) (startOtp_kept h)
  · exact spendOn_kept h

theorem execOtpProgramEnd_kept (h : Kept s t) : NextKept s (execOtpProgramEnd t) := by
  unfold execOtpProgramEnd
  dsimp only
  split
  exacts [h, ite_next (afterOtp_kept (raise_kept h.frame)) h]

theorem herdTry_kept (h : Kept s t) : Kept s (herdTry t).2 := by
  unfold herdTry
  dsimp only
  split
  · next e => exact snd_kept e (drawsPatient_kept (churnTurn_kept h))
  · next e =>
      split
      · next e1 => exact snd_kept e1 (rsaSearch_kept (snd_kept e (drawsPatient_kept (churnTurn_kept h))))
      · next e1 =>
          split
          · next e2 =>
              exact snd_kept e2 (drawsPatient_kept (snd_kept e1 (rsaSearch_kept (snd_kept e (drawsPatient_kept (churnTurn_kept h))))))
          · next e2 =>
              exact countReg_kept (snd_kept e2 (drawsPatient_kept
                (snd_kept e1 (rsaSearch_kept (snd_kept e (drawsPatient_kept (churnTurn_kept h)))))))

theorem herdShare_kept {pq share hash x} (h : Kept s t) (e : herdShare t pq share hash = .ok (u, x)) : Kept s u := by
  unfold herdShare at e
  dsimp only at e
  split at e <;> cases e
  next e => exact newShare_kept (drawBytes_kept h) e

/-- Both states that the founding of a herd's book can leave: the one it returns and the one it reached. -/
def BookKept (s : State) (q : Except Nat (State × HbKey × Bytes) × State) : Prop :=
  Kept s q.2 ∧ ∀ {u x}, q.1 = .ok (u, x) → Kept s u

theorem error_bookKept {e} (h : Kept s t) : BookKept s (.error e, t) := ⟨h, fun e => nomatch e⟩

theorem newHerdBook_kept {genOk hash} (h : Kept s t) : BookKept s (newHerdBook t genOk hash) := by
  unfold newHerdBook
  split
  · exact error_bookKept (mismatchRecord_kept (drawBits_kept (churnTurn_kept h)))
  · split
    · next e => exact error_bookKept (snd_kept e (herdTry_kept h))
    · next e => exact error_bookKept (snd_kept e (herdTry_kept h))
    · next e =>
      have hw := snd_kept e (herdTry_kept h)
      split
      · split
        exacts [error_bookKept hw, error_bookKept h]
      · next e =>
        have hd := kdfDraw_kept hw e
        exact ⟨hd, herdShare_kept hd⟩

theorem herdBook_kept {p d genOk hash} (h : Kept s t) : BookKept s (herdBook t p d genOk hash) := by
  unfold herdBook
  dsimp only
  split
  exacts [error_bookKept h, newHerdBook_kept (modDoorbell_kept h)]

theorem error_kept {q : Except Nat (State × HbKey × Bytes) × State} {x} (e : q = (x, u)) (h : BookKept s q) : Kept s u := snd_kept e h.1

theorem ok_kept {q : Except Nat (State × HbKey × Bytes) × State} {x w} (e : q = (.ok (u, x), w)) (h : BookKept s q) : Kept s u :=
  h.2 (congrArg Prod.fst e)

theorem ownClaim_kept {p d r genOk} (h : Kept s t) : Kept s (ownClaim t p d r genOk).1 := by
  unfold ownClaim
  split
  · refine ite_fst_kept h (ite_fst_kept (failed_kept h) ?_)
    split
    · next e => exact through (fun hx => ite_fst_kept hx (failed_kept hx)) (error_kept e (herdBook_kept h))
    · next e _ => exact failed_kept (error_kept e (herdBook_kept h))
    · next e _ => exact startOtp_kept (setPart_kept (writeProt_kept (.frame (ok_kept e (herdBook_kept h)))))
  · exact failed_kept h

theorem transferTag_kept (h : Kept s t) : Kept s (transferTag t) := by
  unfold transferTag
  exact putRecord_kept (foldl_kept putRecord_kept h)

theorem ownTransfer_kept {p d r genOk} (h : Kept s t) : Kept s (ownTransfer t p d r genOk).1 := by
  unfold ownTransfer
  refine ite_fst_kept h ?_
  split
  · next e => exact through (fun hx => ite_fst_kept hx (failed_kept hx)) (error_kept e (herdBook_kept h))
  · next e _ => exact failed_kept (error_kept e (herdBook_kept h))
  · next e _ =>
    have ho := ok_kept e (herdBook_kept h)
    exact startOtp_kept (.frame (writeProt_kept (transferTag_kept (.frame (foldl_kept eraseBank_kept ho)))))

/-- `serve_kept` with the outcome named: its type mentions no projection of a match for the kernel to unfold. -/
theorem serve_kept_of_eq {p c} {f : State → Doorbell → Request → State × Option Response} (h : Kept s t)
    (hf : ∀ {u w d r o}, Kept s u → f u d r = (w, o) → Kept s w) : Kept s (serve t p c f) :=
  serve_kept h fun hu => hf hu rfl

theorem execOwnRekey_kept {p genOk} (h : Kept s t) : NextKept s (execOwnRekey p genOk t) :=
  serve_kept_of_eq h fun hu e => by
    split at e
    · next e' =>
      have hb := error_kept e' (herdBook_kept hu)
      exact fst_kept e (ite_fst_kept hb (failed_kept hb))
    · next e' => exact fst_kept e (pair_fst_kept (.frame (ok_kept e' (herdBook_kept hu))))

theorem newPartKey_kept {r i q} (h : Kept s t) : Kept s (newPartKey t r i q).1 := by
  unfold newPartKey
  split
  · next e => exact third_kept e (readRandom_kept h)
  · next e => exact failed_kept (third_kept e (readRandom_kept h))
  · next e => exact okWith_kept (setPart_kept (third_kept e (readRandom_kept h)))

theorem execPartNewCredential_kept {p} (h : Kept s t) : NextKept s (execPartNewCredential p t) := by
  unfold execPartNewCredential
  dsimp only
  refine serve_kept h fun hu => ?_
  split
  exacts [failed_kept hu, newPartKey_kept hu]

theorem execPartStatus_kept {p} (h : Kept s t) : NextKept s (execPartStatus p t) := by
  unfold execPartStatus
  dsimp only
  refine serve_kept h fun hu => ?_
  split
  exacts [failed_kept hu, okWith_kept hu]

theorem execPartSetQuota_kept {p} (h : Kept s t) : NextKept s (execPartSetQuota p t) := by
  unfold execPartSetQuota
  dsimp only
  refine serve_kept h fun hu => ?_
  split
  exacts [failed_kept hu, ite_fst_kept (failed_kept hu) (setPart_kept hu)]

theorem emptyPart_kept {i} (h : Kept s t) : Kept s (emptyPart t i) := .frame (clearPart_kept (foldl_kept cancelGeneration_kept h))

theorem execPartDelete_kept {p} (h : Kept s t) : NextKept s (execPartDelete p t) :=
  serve_kept h fun hu => ite_fst_kept (failed_kept hu) (ite_fst_kept (failed_kept hu) (okWith_kept (setPart_kept (emptyPart_kept hu))))

/-! ### Firmware: vats -/

theorem modTicketDoorbell_kept {p q f} (h : Kept s t) : Kept s (modTicketDoorbell t p q f) := ite_kept h (modPail_kept h)

theorem holdTicket_kept {p q} (h : Kept s t) : Kept s (holdTicket t p q) :=
  dropTicket_kept (modTicketDoorbell_kept (ite_kept (.frame (endGeneration_kept h)) h))

theorem rehome_kept {p q n k} (h : Kept s t) : Kept s (rehome t p q n k) := writeMem_kept (writeMems_kept h)

theorem replaceTicket_kept {p q} (h : Kept s t) : Kept s (replaceTicket p t q) := by
  unfold replaceTicket
  split
  exacts [ite_kept (dqPush_kept (rehome_kept h)) (holdTicket_kept h), holdTicket_kept h]

theorem moveOut_kept {p q} (h : Kept s t) : Kept s (moveOut p t q) := by
  unfold moveOut
  dsimp only
  split
  · exact holdTicket_kept h
  · split
    · exact ite_kept (dqPush_kept (rehome_kept (writeMems_kept (setVoided_kept (dropTicket_kept h))))) (holdTicket_kept h)
    · exact holdTicket_kept h

theorem drainUnpinned_kept {p} (h : Kept s t) : Kept s (drainUnpinned t p) :=
  setResult_kept (foldl_kept (fun hu => foldl_kept moveOut_kept hu) h)

theorem drainAll_kept {p} (h : Kept s t) : Kept s (drainAll t p) :=
  foldl_kept (fun hu => foldl_kept holdTicket_kept hu) (drainUnpinned_kept h)

theorem failRunning_kept {p k} (h : Kept s t) : Kept s (failRunning t p k) := by
  unfold failRunning
  dsimp only
  split
  · exact h
  · refine modCell_kept (ite_kept (ticketDone_kept h) (modPail_kept ?_))
    split
    exacts [dropMacDma_kept h, h]

theorem handleHalt_kept {n k} (h : Kept s t) : Kept s (handleHalt t n k) :=
  through (fun hx => admitWaiting_kept (ite_kept (drainAll_kept (setBit_kept (setVatState_kept hx))) hx))
    (foldl_kept replaceTicket_kept (setResult_kept (setDeque_kept (setBit_kept (failRunning_kept (writeCellRun_kept h))))))

theorem wrongState_kept {r} (h : Kept s t) : Kept s (wrongState t r).1 := failed_kept h
theorem quiesced_kept {n} (h : Kept s t) : Kept s (quiesced t n) := setVatState_kept (writeCellRun_kept h)

theorem execVatQuiesce_kept {p} (h : Kept s t) : NextKept s (execVatQuiesce p t) :=
  serve_kept h fun hu => ite_fst_kept (drainUnpinned_kept hu)
    (ite_fst_kept (okWith_kept (quiesced_kept hu)) (ite_fst_kept (wrongState_kept hu)
    (.frame (admitWaiting_kept (drainUnpinned_kept (setVatState_kept (setBit_kept hu)))))))

theorem endQuiesce_kept {n status} (h : Kept s t) : Kept s (endQuiesce t n status) := by
  unfold endQuiesce
  dsimp only
  split
  exacts [h, completeCmd_kept h.frame]

theorem execDrained_kept {vat} (h : Kept s t) : NextKept s (execDrained vat t) :=
  through (fun hx => ite_next (ite_kept (drainUnpinned_kept h) h) (ite_next (endQuiesce_kept (quiesced_kept hx)) hx))
    (ite_kept h (raiseVat_kept (modVat_kept h)))

theorem startLoad_kept {p i} (h : Kept s t) : Kept s (startLoad t p i) := writeLoadCtrl_kept (setReg_kept (setReg_kept h))

theorem execVatReload_kept {p} (h : Kept s t) : NextKept s (execVatReload p t) :=
  serve_kept h fun hu => ite_fst_kept hu (ite_fst_kept (wrongState_kept hu)
    (ite_fst_kept (failed_kept hu) (ite_fst_kept (failed_kept (startLoad_kept hu)) (.frame (startLoad_kept hu)))))

theorem restoreCurves_kept {n} (h : Kept s t) : Kept s (restoreCurves t n) := by
  unfold restoreCurves
  refine foldl_kept (fun hu => ?_) h
  split
  · exact hu
  · split
    · next e => exact curveFaulty_kept (snd_kept e (tryCurve_kept hu))
    · next e => exact snd_kept e (tryCurve_kept hu)

theorem reloadDone_kept {n} (h : Kept s t) : Kept s (reloadDone t n) := by
  unfold reloadDone
  dsimp only
  split
  · exact h
  · split
    · exact restoreCurves_kept h.frame
    · exact ite_kept (complete_kept (.frame (restoreCurves_kept h.frame))) (complete_kept (.frame (restoreCurves_kept h.frame)))

theorem setTrim_kept {p code} (h : Kept s t) : Kept s (setTrim t p code) := modVat_kept h

theorem execVatTrim_kept {p} (h : Kept s t) : NextKept s (execVatTrim p t) :=
  serve_kept h fun hu => ite_fst_kept hu (ite_fst_kept (wrongState_kept hu) (.frame (setTrim_kept (setFld_kept (draw16_kept hu)))))

theorem execTrimMeasurementEnd_kept {vat khz} (h : Kept s t) : NextKept s (execTrimMeasurementEnd vat khz t) := by
  unfold execTrimMeasurementEnd
  dsimp only
  split
  exacts [h, completeCmd_kept (ite_kept (modVat_kept (setFld_kept h.frame)) (modVat_kept (setFld_kept h.frame)))]

theorem powerDown_kept {p} (h : Kept s t) : Kept s (powerDown t p) := writeVatCtrl_kept (writeVatCtrl_kept (writeVatCtrl_kept h))

theorem retireTo_kept {n v} (h : Kept s t) : Kept s (retireTo t n v) :=
  through (fun hx => .frame (ite_kept (setBit_kept hx) hx))
    (setVatState_kept (setVatState_kept (setFld_kept
    (foldl_kept modMac_kept (swapRemap_kept (powerDown_kept
    (modVat_kept (loadRoots_kept (restoreCurves_kept (runLoader_kept (abandonAll_kept h)))))))))))

theorem spareTests_kept {p ok} (h : Kept s t) : Kept s (spareTests t p ok) :=
  through (fun hx => ite_kept (macKatEnd_kept (chnKatEnd_kept hx)) (macKatEnd_kept (chnKatEnd_kept (draw16_kept hx))))
    (writeMacKat_kept (writeChnKat_kept (lateRoots_kept (writeVatCtrl_kept h))))

theorem execVatRetire_kept {p katOk} (h : Kept s t) : NextKept s (execVatRetire p katOk t) :=
  serve_kept h fun hu => by
    refine ite_fst_kept (wrongState_kept hu) (ite_fst_kept (failed_kept hu) (ite_fst_kept hu ?_))
    split
    · exact through (fun hx => ite_fst_kept (failed_kept (powerDown_kept hx)) (okWith_kept (setCfg_kept (retireTo_kept hx))))
        (spareTests_kept hu)
    · exact okWith_kept (setCfg_kept (setVatState_kept (powerDown_kept hu)))

theorem activate_kept {n} (h : Kept s t) : Kept s (activate t n) := .frame (writeCellRun_kept (setBit_kept (setVatState_kept h)))

theorem execVatResume_kept {p} (h : Kept s t) : NextKept s (execVatResume p t) :=
  serve_kept h fun hu => ite_fst_kept (wrongState_kept hu)
    (okWith_kept (admitWaiting_kept (activate_kept (.frame (ite_kept (setTrim_kept hu) hu)))))

/-! ### Firmware: configuration -/

theorem writeSrcCfg_kept {i v} (h : Kept s t) : Kept s (writeSrcCfg t i v) := .frame (setReg_kept h)
theorem writeSrcQuiet_kept {i v} (h : Kept s t) : Kept s (writeSrcQuiet t i v) := .frame (setReg_kept h)

theorem applyTamperRecord_kept {i d} (h : Kept s t) : Kept s (applyTamperRecord t i d) :=
  writeSrcQuiet_kept (writeSrcCfg_kept (ite_kept (writeTmpFuse_kept h) h))

theorem applyArbRecord_kept {i d} (h : Kept s t) : Kept s (applyArbRecord t i d) := h.frame
theorem applyPostRecord_kept {d} (h : Kept s t) : Kept s (applyPostRecord t d) := setRegs_kept h

theorem applyRecord_kept {item index d} (h : Kept s t) : Kept s (applyRecord t item index d) := by
  unfold applyRecord
  split
  exacts [applyTamperRecord_kept h, applyArbRecord_kept h, applyPostRecord_kept h, h]

theorem fuseSet_kept {p r} (h : Kept s t) : Kept s (fuseSet t p r).1 := ite_fst_kept (okWith_kept (applyTamperRecord_kept h.frame)) h

theorem cfgSet_kept {p r} (h : Kept s t) : Kept s (cfgSet t p r).1 := by
  refine ite_fst_kept (fuseSet_kept h) (ite_fst_kept (failed_kept h) (ite_fst_kept (failed_kept h) ?_))
  split
  · exact failed_kept h
  · exact ite_fst_kept (failed_kept h) (through (fun hx => ite_fst_kept (pair_fst_kept (.frame (writeTmpFuse_kept hx)))
      (okWith_kept (applyRecord_kept hx)))
      (setCfg_kept h))

theorem writeTune_kept (h : Kept s t) : Kept s (writeTune t) := ite_kept h (putRecord_kept h)

theorem execCalSet_kept {p} (h : Kept s t) : NextKept s (execCalSet p t) :=
  serve_kept h fun hu => through (fun hy => through
    (fun hx => ite_fst_kept (failed_kept hu) (ite_fst_kept (failed_kept hu) (okWith_kept (ite_kept (writeTune_kept hx) hx))))
    (ite_kept (.frame hy) hy)) (setOffset_kept hu.frame)

theorem execFltAck_kept {p} (h : Kept s t) : NextKept s (execFltAck p t) := by
  unfold execFltAck
  refine serve_kept h fun hu => ?_
  split
  exacts [ite_fst_kept (okWith_kept (writeFltAck_kept hu)) (failed_kept hu), failed_kept hu]

end Sys2Proof.Machine
end

section
/-!
PROOFS. What every command keeps, lemma by lemma: flash, updates, boot and cards.
Each lemma follows the branches of the function it names.
-/
namespace Sys2Proof.Machine

variable {s t u : State}

/-! ### Flash operations (R403 to R429) -/

theorem linkFailed_kept (h : Kept s t) : Kept s (linkFailed t) := fireSource_kept (eventBit_kept (countReg_kept h))
theorem linkComesUp_kept (h : Kept s t) : Kept s (linkComesUp t) := ite_kept (.frame (drawBits_kept h)) h

theorem answerXfer_kept {n ws} (h : Kept s t) : Kept s (answerXfer t n ws) := by
  unfold answerXfer
  split
  exacts [h, setXfer_kept h]

theorem serveRead_kept {w} (h : Kept s t) : Kept s (serveRead t w) := by
  unfold serveRead
  split
  · split
    exacts [answerXfer_kept h, h]
  · exact h.frame

theorem denyRead_kept {w} (h : Kept s t) : Kept s (denyRead t w) := by
  unfold denyRead
  split
  exacts [answerXfer_kept h, busFault_kept h]

theorem windowRead_kept {w} (h : Kept s t) : Kept s (windowRead t w) :=
  ite_kept (denyRead_kept h) (ite_kept (denyRead_kept (busyRead_kept h))
    (ite_kept (touchBuffer_kept (serveRead_kept (linkGrants_kept h))) (setBank_kept h)))

theorem execFlashWindowRead_kept {master waddr} (h : Kept s t) : NextKept s (execFlashWindowRead master waddr t) := by
  unfold execFlashWindowRead
  dsimp only
  split
  · refine ite_next h ?_
    split
    exacts [tableRefusal_kept h, windowRead_kept h]
  · exact h

theorem loadEnd_kept {b l retries corrections outcome} (h : Kept s t) : Kept s (loadEnd t b l retries corrections outcome) := by
  unfold loadEnd
  dsimp only
  split
  · exact foldl_kept (fun hu => touchBuffer_kept (serveRead_kept hu)) (bufferPage_kept (linkGrants_kept h))
  · exact foldl_kept (fun hu => denyRead_kept (fault_kept hu)) (pageLost_kept (linkGrants_kept h))
  · exact linkFailed_kept (foldl_kept denyRead_kept (linkGrants_kept h))

theorem execPageLoadEnd_kept {bank retries corrections outcome} (h : Kept s t) : NextKept s
    (execPageLoadEnd bank retries corrections outcome t) := by
  unfold execPageLoadEnd
  split
  exacts [h, loadEnd_kept (modBank_kept h)]

theorem flashResult_kept {b code pulses} (h : Kept s t) : Kept s (flashResult t b code pulses) := by
  unfold flashResult
  dsimp only
  refine eventBit_kept ?_
  split
  exacts [setFld_kept (setFld_kept h), setFld_kept h]

theorem brownoutHit_kept (h : Kept s t) : Kept s (brownoutHit t) := eventBit_kept h

theorem claimBank_kept {b} (h : Kept s t) : Kept s (claimBank t b) :=
  setBank_kept (foldl_kept (fun hu => foldl_kept denyRead_kept hu) h)

theorem putFlash_kept {b j} (h : Kept s t) : Kept s (putFlash t b j) := modBank_kept h
theorem stopFlash_kept {b j code} (h : Kept s t) : Kept s (stopFlash t b j code) := putFlash_kept h

theorem readSource_kept {b j} (h : Kept s t) : Kept s (readSource t b j) := by
  unfold readSource
  split
  · next e => exact putFlash_kept (snd_kept e (opRead_kept h))
  · next e => exact stopFlash_kept (snd_kept e (opRead_kept h))
  · next e =>
      exact through (fun hx => ite_kept (stopFlash_kept hx)
        (ite_kept (stopFlash_kept (brownoutHit_kept hx)) (putFlash_kept (linkGrants_kept hx)))) (snd_kept e (opRead_kept h))

theorem startFlash_kept {b op} (h : Kept s t) : Kept s (startFlash t b op) := by
  have hp {j} : Kept s (putFlash (claimBank t b) b j) := putFlash_kept (claimBank_kept h)
  refine ite_kept (stopFlash_kept hp) ?_
  split
  · exact ite_kept (stopFlash_kept hp) (ite_kept (stopFlash_kept hp) (readSource_kept hp))
  · exact ite_kept (stopFlash_kept hp) (ite_kept (stopFlash_kept (brownoutHit_kept hp)) (putFlash_kept hp))
  · exact stopFlash_kept hp
  · exact ite_kept (stopFlash_kept hp) (stopFlash_kept hp)
  · refine ite_kept (stopFlash_kept hp) ?_
    split
    exacts [stopFlash_kept hp, ite_kept (stopFlash_kept (brownoutHit_kept hp)) (putFlash_kept hp)]

theorem flcGo_kept {b v} (h : Kept s t) : Kept s (flcGo t b v) :=
  ite_kept h (ite_kept (setBit_kept h) (ite_kept (flashResult_kept h) (startFlash_kept h)))

theorem flashGo_kept {bank op} (h : Kept s t) : Kept s (flashGo bank op t) := ite_kept (flcGo_kept h) h

theorem pulseEnd_kept {b j verified} (h : Kept s t) : Kept s (pulseEnd t b j verified) := by
  have hl : Kept s (linkGrants t b 1) := linkGrants_kept h
  refine ite_kept (putFlash_kept (ite_kept (erasePhys_kept hl) hl))
    (ite_kept (putFlash_kept hl) (ite_kept (putFlash_kept (tearJob_kept hl)) ?_))
  extract_lets t1
  have h1 : Kept s t1 := by
    unfold t1
    split
    exacts [spoilSpare_kept hl, hl]
  split <;> exact putFlash_kept h1

theorem execErasePulseEnd_kept {bank verified} (h : Kept s t) : NextKept s (execErasePulseEnd bank verified t) := by
  unfold execErasePulseEnd
  split
  exacts [h, ite_next (pulseEnd_kept h) h]

theorem pulseWarn_kept {b j code} (h : Kept s t) : Kept s (pulseWarn t b j code) := ite_kept (eventBit_kept h) h

theorem flashEffect_kept {b j code} (h : Kept s t) : Kept s (flashEffect t b j code) :=
  ite_kept (setPage_kept h) (ite_kept (eventBit_kept (tableChange_kept h))
    (ite_kept (eventBit_kept (tableChange_kept (tearJob_kept h))) (tableChange_kept h)))

theorem finishFlash_kept {b j code} (h : Kept s t) : Kept s (finishFlash t b j code) :=
  flashResult_kept (modBank_kept (pulseWarn_kept (flashEffect_kept h)))

theorem flashCommandEnd_kept {b outcome} (h : Kept s t) : Kept s (flashCommandEnd t b outcome) := by
  unfold flashCommandEnd
  split
  · exact h
  · refine ite_kept (linkFailed_kept (finishFlash_kept (tearJob_kept h)))
      (ite_kept (linkFailed_kept (finishFlash_kept (tearTable_kept h))) ?_)
    split
    exacts [finishFlash_kept h, ite_kept (readSource_kept h) (ite_kept (finishFlash_kept (linkGrants_kept h)) h)]

theorem dipFlash_kept (h : Kept s t) : Kept s (dipFlash t) := by
  unfold dipFlash
  refine foldl_kept (fun hu => ?_) h
  split
  exacts [hu, ite_kept (modBank_kept (brownoutHit_kept (tearJob_kept hu))) hu]

/-! ### Firmware: the herd book -/

theorem ackPlace_kept {i lo} (h : Kept s t) : Kept s (ackPlace t i lo).2 := by
  unfold ackPlace
  split
  exacts [h, ite_snd_kept (eraseBlock_kept h) h]

theorem replaceMoved_kept {n page} (h : Kept s t) : Kept s (replaceMoved t n page) := by
  unfold replaceMoved
  dsimp only
  split
  exacts [retireBlock_kept h, foldl_kept setPage_kept (mapSpare_kept (retireBlock_kept h))]

theorem ackProgram_kept {q bs code} (h : Kept s t) : Kept s (ackProgram t q bs code).2 :=
  ite_snd_kept h (ite_snd_kept (replaceMoved_kept h) (ite_snd_kept (tornPage_kept h) (setPage_kept h)))

theorem recordAck_kept {n first second} (h : Kept s t) : Kept s (recordAck t n first second).2 := by
  unfold recordAck
  split
  · next e => exact snd_kept e (ackPlace_kept h)
  · next e =>
      split
      · next e1 => exact snd_kept e1 (ackProgram_kept (snd_kept e (ackPlace_kept h)))
      · next e1 =>
          split
          · next e2 => exact snd_kept e2 (ackPlace_kept (snd_kept e1 (ackProgram_kept (snd_kept e (ackPlace_kept h)))))
          · next e2 =>
              exact ackProgram_kept (snd_kept e2 (ackPlace_kept (snd_kept e1 (ackProgram_kept (snd_kept e (ackPlace_kept h))))))

theorem ringOff_kept (h : Kept s t) : Kept s (ringOff t) := h.frame

theorem ringStart_kept {w e} (h : Kept s t) : Kept s (ringStart t w e) :=
  ite_kept h.frame (putFlash_kept (.frame (linkGrants_kept (claimBank_kept h))))

theorem ringNext_kept {fails} (h : Kept s t) : Kept s (ringNext t fails) := by
  unfold ringNext
  dsimp only
  split
  exacts [ringOff_kept h, ite_kept (ringOff_kept h) (ringStart_kept (ite_kept (eraseBlock_kept h) h))]

theorem ringMiss_kept {w} (h : Kept s t) : Kept s (ringMiss t w) := ite_kept (ringOff_kept h) (ringNext_kept h)

theorem ringResume_kept (h : Kept s t) : Kept s (ringResume t) := by
  unfold ringResume
  split
  exacts [ite_kept h (ite_kept (ringStart_kept h) (ringMiss_kept h)), h]

theorem ringEnded_kept {w code} (h : Kept s t) : Kept s (ringEnded t w code) :=
  ite_kept h.frame (ite_kept (ringResume_kept h.frame) (ringMiss_kept h))

theorem ringStep_kept (h : Kept s t) : Kept s (ringStep t) := by
  unfold ringStep
  split
  exacts [h, ite_kept h (ite_kept (ringEnded_kept h) (ringResume_kept h))]

theorem persist_kept {e} (h : Kept s t) : Kept s (persist t e) := ringNext_kept h.frame

theorem execHbRead_kept {p} (h : Kept s t) : NextKept s (execHbRead p t) := by
  unfold execHbRead
  refine serve_kept h fun hu => ?_
  split
  · exact okWith_kept hu
  · split
    exacts [ite_fst_kept hu (failed_kept hu), failed_kept hu]

theorem execHbAck_kept {p first second} (h : Kept s t) : NextKept s (execHbAck p first second t) := by
  unfold execHbAck
  dsimp only
  refine serve_kept h fun hu => ite_fst_kept hu (ite_fst_kept (failed_kept hu) (ite_fst_kept (okWith_kept hu) ?_))
  split
  · next e => exact failed_kept (snd_kept e (recordAck_kept hu))
  · next e => exact through (fun hx => ite_fst_kept hx (okWith_kept hx)) (ringNext_kept (snd_kept e (recordAck_kept hu)))

/-! ### Firmware: updates -/

theorem setStaging_kept {i v} (h : Kept s t) : Kept s (setStaging t i v) := h.frame
theorem writeStaging_kept {i v} (h : Kept s t) : Kept s (writeStaging t i v) := setStaging_kept h
theorem putState_kept {i st digest seq} (h : Kept s t) : Kept s (putState t i st digest seq) := writeStaging_kept h
theorem putFailed_kept {i outcome} (h : Kept s t) : Kept s (putFailed t i outcome) := writeStaging_kept h
theorem eraseSlot_kept {i} (h : Kept s t) : Kept s (eraseSlot t i) := setStaging_kept (eraseBank_kept h)

theorem execUpdBegin_kept {p} (h : Kept s t) : NextKept s (execUpdBegin p t) :=
  serve_kept h fun hu => ite_fst_kept (failed_kept hu)
    (ite_fst_kept (failed_kept hu) (okWith_kept (.frame (writeStaging_kept (eraseSlot_kept hu)))))

theorem blockFailed_kept {r code} (h : Kept s t) : Kept s (blockFailed t r code).1 := failed_kept h

theorem updBlock_kept {r code} (h : Kept s t) : Kept s (updBlock t r code).1 := by
  unfold updBlock
  dsimp only
  split
  · exact failed_kept h
  · exact ite_fst_kept (failed_kept h) (ite_fst_kept (failed_kept h)
      (ite_fst_kept (blockFailed_kept h) (ite_fst_kept (failed_kept h)
      (ite_fst_kept (blockFailed_kept h) (ite_fst_kept (blockFailed_kept h)
      (ite_fst_kept (blockFailed_kept (replaceMoved_kept h))
      (ite_fst_kept (blockFailed_kept (tornPage_kept h)) (okWith_kept (setPage_kept h)))))))))

theorem execUpdCommit_kept {p readable} (h : Kept s t) : NextKept s (execUpdCommit p readable t) := by
  unfold execUpdCommit
  dsimp only
  refine serve_kept h fun hu => ?_
  split
  · exact failed_kept hu
  · exact ite_fst_kept (failed_kept hu) (ite_fst_kept (failed_kept hu.frame) (okWith_kept (putState_kept hu.frame)))

theorem programRun_kept {bank n page bs} (h : Kept s t) : Kept s (programRun bank n page bs t) := by
  induction n generalizing t page bs with
  | zero => exact h
  | succ _ ih =>
    unfold programRun
    split
    exacts [h, ih (programBytes_kept h)]

theorem copyPackage_kept {i} (h : Kept s t) : Kept s (copyPackage t i) := by
  unfold copyPackage
  dsimp only
  refine foldl_kept programRun_kept ?_
  split
  · exact programRun_kept (programBytes_kept (eraseBank_kept (eraseBank_kept h)))
  · exact programBytes_kept (eraseBank_kept (eraseBank_kept h))

theorem copyFrom_kept {i copyOk supersede} (h : Kept s t) : Kept s (copyFrom t i copyOk supersede).2 :=
  through (fun hx => ite_snd_kept (putFailed_kept (copyPackage_kept h)) (ite_kept (putState_kept hx) hx))
    (putState_kept (copyPackage_kept h))

theorem installFrom_kept {i copyOk supersede} (h : Kept s t) : Kept s (installFrom t i copyOk supersede).2 :=
  copyFrom_kept (putState_kept h)

theorem noteUpdate_kept {i outcome digest} (h : Kept s t) : Kept s (noteUpdate t i outcome digest) := h.frame
theorem settleInstalled_kept (h : Kept s t) : Kept s (settleInstalled t) := ite_kept (putState_kept h) h

theorem installStep_kept {readable copyOk} (h : Kept s t) : Kept s (installStep t readable copyOk).2 := by
  unfold installStep
  dsimp only
  split
  · exact through (fun hx => ite_snd_kept (noteUpdate_kept (putFailed_kept hx)) (noteUpdate_kept (copyFrom_kept hx)))
      (settleInstalled_kept h)
  · split
    · exact settleInstalled_kept h
    · exact through (fun hx => ite_snd_kept (noteUpdate_kept (putFailed_kept hx)) (noteUpdate_kept (installFrom_kept hx)))
        (settleInstalled_kept h)

theorem restoreStep_kept {readable copyOk} (h : Kept s t) : Kept s (restoreStep t readable copyOk) := by
  unfold restoreStep
  dsimp only
  split
  exacts [h, ite_kept (noteUpdate_kept (putFailed_kept h)) (noteUpdate_kept (installFrom_kept h))]

/-! ### Measurement, guard ports, time -/

theorem applyMode_kept {p} (h : Kept s t) : Kept s (applyMode t p) := setBit_kept (setFld_kept h)

theorem writeMode_kept {p v} (h : Kept s t) : Kept s (writeMode t p v) :=
  ite_kept h (ite_kept (setBit_kept (setFld_kept h)) (applyMode_kept (setFld_kept h)))

theorem startMeasure_kept {p} (h : Kept s t) : Kept s (startMeasure t p) := ite_kept (setFld_kept h) h

theorem writeGuardCtrl_kept {p v} (h : Kept s t) : Kept s (writeGuardCtrl t p v) :=
  ite_kept (startMeasure_kept (writeMode_kept h)) (writeMode_kept h)

theorem measureResult_kept {p result} (h : Kept s t) : Kept s (measureResult t p result) :=
  through (fun hx => ite_kept (applyMode_kept hx) hx) (eventBit_kept (setFld_kept (setFld_kept h)))

theorem execMeasurementEnd_kept {port data} (h : Kept s t) : NextKept s (execMeasurementEnd port data t) := by
  unfold execMeasurementEnd
  dsimp only
  refine ite_next h ?_
  split
  exacts [measureResult_kept h, ite_next (measureResult_kept (setRegs_kept h)) h]

theorem csRise_kept {p} (h : Kept s t) : Kept s (csRise t p) := ite_kept (applyMode_kept (setBit_kept h)) (setBit_kept h)

theorem guardLog_kept {p allowed op a} (h : Kept s t) : Kept s (guardLog t p allowed op a) :=
  through (fun hx => ite_kept (setBit_kept hx) hx) (setFld_kept (setRegs_kept h))

theorem guardRefused_kept {p op a} (h : Kept s t) : Kept s (guardRefused t p op a) := guardLog_kept (eventBit_kept (countReg_kept h))

theorem execGuardCommand_kept {port opcode addr} (h : Kept s t) : NextKept s (execGuardCommand port opcode addr t) :=
  through (fun hx => ite_next h (ite_next (setBit_kept h)
    (ite_next hx (ite_next (send_kept (guardRefused_kept (setBit_kept h)))
    (ite_next (send_kept (guardLog_kept (setBit_kept h))) hx))))) (send_kept (setBit_kept h))

theorem dvpEvent_kept {p i} (h : Kept s t) : Kept s (dvpEvent t p i) := eventBit_kept h
theorem setLast_kept {p n} (h : Kept s t) : Kept s (setLast t p n) := setFld_kept h
theorem dvpFailed_kept {p last} (h : Kept s t) : Kept s (dvpFailed t p last) := dvpEvent_kept (setBit_kept (setLast_kept h))

theorem dvpSend_kept {p} (h : Kept s t) : Kept s (dvpSend t p) := by
  unfold dvpSend
  dsimp only
  refine ite_kept h (ite_kept (dvpFailed_kept h) ?_)
  split
  · next e => exact snd_kept e (opRead_kept h)
  · next e => exact dvpFailed_kept (snd_kept e (opRead_kept h))
  · next e => exact dvpEvent_kept (setBit_kept (send_kept (snd_kept e (opRead_kept h))))

theorem dvpAddress_kept {p acked} (h : Kept s t) : Kept s (dvpAddress t p acked) :=
  ite_kept h (ite_kept (setLast_kept (setBit_kept h)) (dvpEvent_kept (setLast_kept (setBit_kept h))))

theorem dvpReceive_kept {p bytes err} (h : Kept s t) : Kept s (dvpReceive t p bytes err) := by
  unfold dvpReceive
  dsimp only
  refine ite_kept h (ite_kept (dvpFailed_kept (dvpEvent_kept h)) (ite_kept (dvpFailed_kept h) ?_))
  split
  · next e => exact snd_kept e (opWrite_kept h)
  · next e => exact dvpFailed_kept (setFld_kept (snd_kept e (opWrite_kept h)))
  · next e => exact dvpFailed_kept (snd_kept e (opWrite_kept h))

theorem dvpTimeout_kept {p} (h : Kept s t) : Kept s (dvpTimeout t p) := ite_kept (dvpFailed_kept h) h
theorem writeGate_kept {v} (h : Kept s t) : Kept s (writeGate t v) := ite_kept (setBit_kept h) h
theorem ppsLost_kept (h : Kept s t) : Kept s (ppsLost t) := ite_kept (raise_kept (countFld_kept (setBit_kept h))) h

theorem execPpsEdge_kept {atUs} (h : Kept s t) : NextKept s (execPpsEdge atUs t) :=
  through (fun hx => ite_next h (ite_kept (.frame hx) (.frame hx)))
    (ite_kept (ppsLost_kept h.frame) (ite_kept (raise_kept (setBit_kept h.frame)) h.frame))

/-! ### Boot (R101 to R107) -/

theorem setStep_kept {n} (h : Kept s t) : Kept s (setStep t n) := h.frame
theorem bootFails_kept {reason monitor} (h : Kept s t) : Kept s (bootFails t reason monitor) := endBoot_kept h.frame

theorem releaseAction_kept {port action} (h : Kept s t) : Kept s (releaseAction t port action) := by
  unfold releaseAction
  split
  exacts [setBit_kept h, setBit_kept h, setBit_kept (setBit_kept h), setBit_kept (setBit_kept h), h]

theorem runRelease_kept {l} (h : Kept s t) : Kept s (runRelease t l) := by
  induction l generalizing t with
  | nil => exact endBoot_kept h.frame
  | cons _ _ ih =>
    unfold runRelease
    exact through (fun hx => ite_kept (ih hx) (setStep_kept (.frame hx))) (releaseAction_kept h)

theorem releaseGo_kept (h : Kept s t) : Kept s (releaseGo t) :=
  ite_kept h (ite_kept (endBoot_kept (foldl_kept setReg_kept h)) (runRelease_kept (setBit_kept h)))

theorem startRelease_kept (h : Kept s t) : Kept s (startRelease t) :=
  releaseGo_kept (setStep_kept (foldl_kept writeMode_kept (writeGate_kept h)))

theorem releaseOrHold_kept (h : Kept s t) : Kept s (releaseOrHold t) := ite_kept (startRelease_kept h) (endBoot_kept h)

theorem execReleaseWaitEnd_kept {met} (h : Kept s t) : NextKept s (execReleaseWaitEnd met t) := by
  unfold execReleaseWaitEnd
  dsimp only
  refine ite_next h ?_
  split
  exacts [h, ite_next (runRelease_kept h) (ite_next h (runRelease_kept (fault_kept h)))]

theorem commitHead_kept (h : Kept s t) : Kept s (commitHead t) := by
  unfold commitHead
  dsimp only
  split
  · exact h
  · refine ite_kept h ?_
    split
    exacts [bootFails_kept h.frame, startTagWrite_kept h]

theorem signEntry.retry_kept {n} (h : Kept s t) : Kept s (signEntry.retry t n) := ite_kept (bootFails_kept h.frame) h.frame

theorem signEntry_kept {n mismatch} (h : Kept s t) : Kept s (signEntry t n mismatch) := by
  unfold signEntry
  dsimp only
  split
  · split
    · exact h
    · next e => exact signEntry.retry_kept (eventVat_kept (third_kept e (drawAll_kept (churnTurn_kept h))))
    · next e =>
        exact through (fun hx => ite_kept (signEntry.retry_kept (mismatchRecord_kept (drawBits_kept hx)))
          (commitHead_kept (setStep_kept (.frame (drawBytes_kept (countReg_kept hx))))))
          (third_kept e (drawAll_kept (churnTurn_kept h)))
  · exact h

theorem entryMade_kept {e} (h : Kept s t) : Kept s (entryMade t e) := releaseOrHold_kept (persist_kept (setReg_kept h.frame))

theorem execTagProgramEnd_kept {field} (h : Kept s t) : NextKept s (execTagProgramEnd field t) := by
  unfold execTagProgramEnd
  dsimp only
  refine through (fun hx => ite_kept (putRecord_kept (ite_kept hx ?_)) (ite_kept hx ?_)) (tagProgramEnd_kept h)
  · split
    · exact tagProgramEnd_kept h
    · exact through (fun hx => ite_kept (entryMade_kept hx) (ite_kept (commitHead_kept hx) hx)) (tagProgramEnd_kept h)
  · split
    · exact tagProgramEnd_kept h
    · exact through (fun hx => ite_kept (entryMade_kept hx) (ite_kept (commitHead_kept hx) hx)) (tagProgramEnd_kept h)

theorem afterTests_kept (h : Kept s t) : Kept s (afterTests t) :=
  through (fun hx => ite_kept (ite_kept (startRelease_kept h.frame) hx) (ite_kept hx (setStep_kept h.frame))) (bootFails_kept h.frame)

theorem checkTests_kept (h : Kept s t) : Kept s (checkTests t) := ite_kept (afterTests_kept h) h

theorem execLoadComplete_kept {vat} (h : Kept s t) : NextKept s (execLoadComplete vat t) :=
  through (fun hx => ite_next h (ite_next (checkTests_kept (writeMacKat_kept (writeChnKat_kept (restoreCurves_kept (.frame hx))))) hx))
    (reloadDone_kept (loadComplete_kept h))

theorem testsEnd_kept {n} (h : Kept s t) : Kept s (testsEnd t n) :=
  ite_kept h (checkTests_kept (ite_kept (ite_kept h.frame (activate_kept h.frame)) (setVatState_kept h.frame.frame)))

theorem loadGuard_kept {p} (h : Kept s t) : Kept s (loadGuard t p) := by
  unfold loadGuard
  dsimp only
  split
  exacts [h, setRegs_kept (setRegs_kept (setRegs_kept (setReg_kept (setReg_kept (setReg_kept (setReg_kept h))))))]

theorem loadDevice_kept {p} (h : Kept s t) : Kept s (loadDevice t p) := by
  unfold loadDevice
  dsimp only
  split
  exacts [h, setReg_kept (setReg_kept (setReg_kept h))]

theorem startMeasurement_kept (h : Kept s t) : Kept s (startMeasurement t) :=
  foldl_kept loadDevice_kept (foldl_kept (fun hu => ite_kept (startMeasure_kept (loadGuard_kept hu)) (loadGuard_kept hu)) h)

theorem dvpDone_kept {p status digest} (h : Kept s t) : Kept s (dvpDone t p status digest) := h.frame

theorem spdmSend_kept {p k} (h : Kept s t) : Kept s (spdmSend t p k) :=
  dvpEvent_kept (setBit_kept (send_kept (.frame (drawBytes_kept h))))

theorem spdmAsk_kept {p k} (h : Kept s t) : Kept s (spdmAsk t p k) :=
  ite_kept (spdmSend_kept h) (ite_kept h.frame (spdmSend_kept (softBatch_kept h)))

theorem renewRoot_kept (h : Kept s t) : Kept s (renewRoot t) := by
  unfold renewRoot
  split
  · exact h
  · next e =>
    split at e
    · exact foldl_kept (fun hu => ite_kept (modMac_kept hu) hu) (setBit_kept (.frame (kdfDraw_kept h e)))
    · cases e

theorem queueServed_kept (h : Kept s t) : Kept s (queueServed t) := by
  unfold queueServed
  dsimp only
  split
  exacts [spdmAsk_kept (renewRoot_kept h), renewRoot_kept h]

theorem execAddress_kept {port acked} (h : Kept s t) : NextKept s (execAddress port acked t) :=
  ite_next h (ite_next (ite_kept (spdmAsk_kept (dvpAddress_kept h)) (dvpDone_kept (dvpAddress_kept h))) (dvpAddress_kept h))

theorem judgeSpdm_kept {p bytes} (h : Kept s t) : Kept s (judgeSpdm t p bytes) := dvpDone_kept (draw16_kept h)

theorem spdmReply_kept {p bytes} (h : Kept s t) : Kept s (spdmReply t p bytes) :=
  ite_kept (spdmSend_kept (draw16_kept h)) (ite_kept (judgeSpdm_kept (draw16_kept h))
    (ite_kept (dvpDone_kept (draw16_kept h)) (spdmAsk_kept (draw16_kept h))))

theorem execDvpReply_kept {port bytes err} (h : Kept s t) : NextKept s (execDvpReply port bytes err t) :=
  ite_next (ite_next (dvpDone_kept (dvpFailed_kept (dvpEvent_kept h)))
    (ite_next (dvpDone_kept (dvpFailed_kept h)) (spdmReply_kept (dvpFailed_kept (setFld_kept h))))) (dvpReceive_kept h)

theorem putEntries_kept {i es} (h : Kept s t) : Kept s (putEntries t i es) := by
  induction es generalizing t i with
  | nil => exact h
  | cons _ _ ih => exact ih (setShadow_kept h)

theorem firmwareTable_kept (h : Kept s t) : Kept s (firmwareTable t) := applyTable_kept (putEntries_kept h)
theorem rebindVats_kept (h : Kept s t) : Kept s (rebindVats t) := foldl_kept (fun hu => ite_kept hu (modNoise_kept (setReg_kept hu))) h

theorem applyRemap_kept (h : Kept s t) : Kept s (applyRemap t) := by
  unfold applyRemap
  dsimp only
  split
  exacts [h, rebindVats_kept h.frame]

theorem bootStates_kept (h : Kept s t) : Kept s (bootStates t) :=
  foldl_kept (fun hu => ite_kept (modNoise_kept (setReg_kept (setVatState_kept hu))) (ite_kept (setVatState_kept hu) hu)) h

theorem clocksSettled_kept (h : Kept s t) : Kept s (clocksSettled t) := foldl_kept (fun hu => ite_kept (modVat_kept hu) hu) h

theorem bootStep2_kept (h : Kept s t) : Kept s (bootStep2 t) :=
  through (fun hx => ite_kept hx (.frame hx)) (.frame
    (finishRepairs_kept (clocksSettled_kept (bootStates_kept (applyRemap_kept (writeProt_kept h))))))

theorem bootImage_kept {c} (h : Kept s t) : Kept s (bootImage t c).2 :=
  through (fun hx => ite_snd_kept hx (restoreStep_kept hx)) (ite_snd_kept h (installStep_kept h))

theorem startSupervisor_kept (h : Kept s t) : Kept s (startSupervisor t) :=
  .frame (setCell_kept (draw16_kept (applyTable_kept (setShadow_kept (writeMems_kept (writeMems_kept h))))))

theorem newSessionRoot_kept (h : Kept s t) : Kept s (newSessionRoot t) := .frame (drawBits_kept h)

theorem applyRecords_kept (h : Kept s t) : Kept s (applyRecords t) := by
  unfold applyRecords
  dsimp only
  refine foldl_kept (fun hu => ?_) (foldl_kept (fun hu => ?_) h)
  · split
    exacts [setOffset_kept hu, hu]
  · split
    exacts [applyRecord_kept hu, hu]

theorem loadAllRoots_kept {owner} (h : Kept s t) : Kept s (loadAllRoots t owner) :=
  foldl_kept (fun hu => ite_kept (loadRoots_kept hu) hu) (setReg_kept (newSessionRoot_kept h.frame))

theorem placeCell_kept {q} (h : Kept s t) : Kept s (placeCell t q) := ite_kept h.frame (ite_kept (.frame (writeMems_kept h)) h.frame)

theorem bootLoad_kept {n} (h : Kept s t) : Kept s (bootLoad t n) := by
  unfold bootLoad
  dsimp only
  refine ite_kept h ?_
  split
  · exact setVatState_kept h
  · exact through (fun hx => ite_kept (setVatState_kept h.frame) (ite_kept (setVatState_kept hx) (.frame hx))) (startLoad_kept h.frame)

theorem raiseReserves_kept (h : Kept s t) : Kept s (raiseReserves t) := foldl_kept setCounter_kept h
theorem trimVats_kept (h : Kept s t) : Kept s (trimVats t) := foldl_kept (fun hu => ite_kept (modVat_kept hu) hu) h

theorem bootVats_kept (h : Kept s t) : Kept s (bootVats t) :=
  through (fun hx => checkTests_kept (setStep_kept (ite_kept hx (startMeasurement_kept hx))))
    (foldl_kept bootLoad_kept (writeTune_kept (raiseReserves_kept
    (firmwareTable_kept (foldl_kept placeCell_kept (setBit_kept (trimVats_kept h)))))))

theorem bootStep6_kept (h : Kept s t) : Kept s (bootStep6 t) :=
  ite_kept h (ite_kept (bootVats_kept (applyRecords_kept (loadAllRoots_kept h)))
    (ite_kept (bootFails_kept (setBit_kept (loadAllRoots_kept (applyRecords_kept h))))
    (bootVats_kept (applyRecords_kept (loadAllRoots_kept h)))))

theorem bootStep3_kept (h : Kept s t) : Kept s (bootStep3 t) :=
  ite_kept h (ite_kept (bootFails_kept h) (ite_kept (bootStep6_kept (setStep_kept (startSupervisor_kept (bootImage_kept h))))
    (bootFails_kept (bootImage_kept h))))

theorem bootResume_kept (h : Kept s t) : Kept s (bootResume t) := ite_kept (bootStep3_kept h) (ite_kept (bootStep6_kept h) h)
theorem tearSupervisorWrite_kept (h : Kept s t) : Kept s (tearSupervisorWrite t) := ite_kept (.frame (tearTagJob_kept h)) h

theorem bootStep1_kept (h : Kept s t) : Kept s (bootStep1 t).2 :=
  through (fun hx => ite_kept (finishLowering_kept hx) hx) (applyLatch_kept (tearSupervisorWrite_kept h))

theorem execScrubComplete_kept {selfTest install restore} (h : Kept s t) : NextKept s (execScrubComplete selfTest install restore t) :=
  through (fun hy => through (fun hx => ite_next h (ite_next (setStep_kept hy)
    (ite_next (spendOn_kept (writeProt_kept hx)) (bootStep3_kept (setStep_kept (bootStep2_kept hx))))))
    (bootStep1_kept (setStep_kept (.frame hy)))) (clocksSettled_kept h)

/-! ### Card slots (R456 to R474) -/

theorem setSlot_kept {i c} (h : Kept s t) : Kept s (setSlot t i c) := h.frame
theorem cslEvent_kept {i b} (h : Kept s t) : Kept s (cslEvent t i b) := eventBit_kept h
theorem setCslState_kept {i st} (h : Kept s t) : Kept s (setCslState t i st) := setBit_kept (setFld_kept h)
theorem cslResult_kept {i code} (h : Kept s t) : Kept s (cslResult t i code) := cslEvent_kept (setFld_kept h)
theorem cslDeactivate_kept {i} (h : Kept s t) : Kept s (cslDeactivate t i) := cslEvent_kept (setBit_kept (setCslState_kept h))

theorem releaseHeld_kept {i} (h : Kept s t) : Kept s (releaseHeld t i) :=
  ite_kept (cslResult_kept (cslDeactivate_kept (setBit_kept h))) h

theorem cslEnd_kept {i st code off} (h : Kept s t) : Kept s (cslEnd t i st code off) :=
  releaseHeld_kept (cslResult_kept (ite_kept (cslDeactivate_kept h) (setCslState_kept h)))

theorem clearRx_kept {i} (h : Kept s t) : Kept s (clearRx t i) := setFld_kept (setRegs_kept h)

theorem beginClass_kept {i classB} (h : Kept s t) : Kept s (beginClass t i classB) :=
  setReg_kept (setBit_kept (setCslState_kept (setSlot_kept h)))

theorem cslActivate_kept {i} (h : Kept s t) : Kept s (cslActivate t i) :=
  ite_kept (cslResult_kept h) (ite_kept (cslResult_kept h)
    (ite_kept (beginClass_kept (clearRx_kept h)) (ite_kept (beginClass_kept (clearRx_kept h))
    (cslResult_kept (draw16_kept (clearRx_kept h))))))

theorem classFailed_kept {i code} (h : Kept s t) : Kept s (classFailed t i code) :=
  through (fun hx => ite_kept (beginClass_kept hx) (releaseHeld_kept (cslResult_kept hx))) (cslDeactivate_kept h)

theorem showParams_kept {i x pair q} (h : Kept s t) : Kept s (showParams t i x pair q) :=
  setReg_kept (setReg_kept (setReg_kept (setBit_kept h)))

theorem atrComplete_kept {i atr intact ppsEcho ifsOk} (h : Kept s t) : Kept s (atrComplete t i atr intact ppsEcho ifsOk) := by
  unfold atrComplete
  dsimp only
  split
  · exact cslEnd_kept (setReg_kept (setRegs_kept h))
  · refine through (fun hx => ite_kept (ite_kept (classFailed_kept hx) (classFailed_kept (draw16_kept hx))) ?_)
      (setReg_kept (setRegs_kept h))
    split
    · exact cslEnd_kept (setReg_kept (setRegs_kept h))
    · exact through (fun hx => ite_kept (cslEnd_kept hx) (releaseHeld_kept (cslResult_kept (cslEvent_kept (setCslState_kept hx)))))
        (setSlot_kept (showParams_kept (setReg_kept (setRegs_kept h))))

theorem cslExchange_kept {i} (h : Kept s t) : Kept s (cslExchange t i) :=
  ite_kept (cslResult_kept h) (send_kept (setSlot_kept (setBit_kept (setCslState_kept (clearRx_kept h)))))

theorem putResponse_kept {i bs} (h : Kept s t) : Kept s (putResponse t i bs) :=
  ite_kept (cslEnd_kept h) (cslEnd_kept (setFld_kept (setRegs_kept h)))

theorem t0Turn_kept {i cmd data} (h : Kept s t) : Kept s (t0Turn t i cmd data) := ite_kept (cslEnd_kept h) (send_kept (setSlot_kept h))

theorem t0Answer_kept {i bs} (h : Kept s t) : Kept s (t0Answer t i bs) :=
  ite_kept (t0Turn_kept h) (ite_kept (t0Turn_kept h) (putResponse_kept h))

theorem t0Procedure_kept {i x} (h : Kept s t) : Kept s (t0Procedure t i x) := ite_kept h (send_kept (setSlot_kept h))
theorem addErrs_kept {i parity blocks} (h : Kept s t) : Kept s (addErrs t i parity blocks) := setFld_kept (setFld_kept h)

theorem execCardResponse_kept {slot bytes parity fatal blocks} (h : Kept s t) : NextKept s
    (execCardResponse slot bytes parity fatal blocks t) := ite_next h
    (ite_next (cslEnd_kept (addErrs_kept h)) (ite_next (ite_kept (addErrs_kept h) (foldl_kept t0Procedure_kept (addErrs_kept h)))
    (ite_kept (putResponse_kept (addErrs_kept h)) (t0Answer_kept (addErrs_kept h)))))

theorem cslDeact_kept {i} (h : Kept s t) : Kept s (cslDeact t i) := ite_kept (setBit_kept h) (cslResult_kept (cslDeactivate_kept h))

theorem writeCslCtrl_kept {i v} (h : Kept s t) : Kept s (writeCslCtrl t i v) :=
  through (fun hy => through (fun hx => ite_kept (cslDeact_kept hx) hx) (ite_kept (cslExchange_kept hy) hy))
    (ite_kept (cslActivate_kept h) h)

theorem execCardRemoval_kept {slot before} (h : Kept s t) : NextKept s (execCardRemoval slot before t) := by
  unfold execCardRemoval
  dsimp only
  refine ite_next h ?_
  split
  · exact cslEnd_kept (cslEvent_kept h.frame)
  · exact cslDeactivate_kept (cslEvent_kept h.frame)
  · exact cslEnd_kept (cslEvent_kept h.frame)
  · exact cslEvent_kept h.frame

end Sys2Proof.Machine
end

section
/-!
PROOFS. What every command keeps, lemma by lemma: the bus, DMA moves, the mesh and power.
Each lemma follows the branches of the function it names.
-/
namespace Sys2Proof.Machine

variable {s t u : State}

/-! ### Accesses of the bus to registers -/

theorem clearRc_kept {w} (h : Kept s t) : Kept s (clearRc t w) := by
  unfold clearRc
  split
  exacts [ite_kept h (setReg_kept h), h]

theorem readReg_kept {w} (h : Kept s t) : Kept s (readReg t w).2 := by
  rcases e : readReg t w with ⟨x, u⟩
  unfold readReg at e
  split at e
  · exact snd_kept e (pair_snd_kept (ite_kept (.frame h) h))
  · split at e
    · exact snd_kept e (softRead_kept h)
    · split at e
      · exact snd_kept e (cqPop_kept h)
      · split at e
        · exact snd_kept e (pair_snd_kept (setRegs_kept h))
        · exact snd_kept e (pair_snd_kept (clearRc_kept h))

theorem writeTyped_kept {w v locked} (h : Kept s t) : Kept s (writeTyped t w v locked) := by
  unfold writeTyped
  dsimp only
  split
  exacts [h, setReg_kept h]

theorem writeVatReg_kept {w v} (h : Kept s t) : Kept s (writeVatReg t w v) := by
  unfold writeVatReg
  dsimp only
  refine ite_kept (writeVatSwap_kept h) (ite_kept (writeTyped_kept h) ?_)
  split
  exacts [writeVatCtrl_kept h, writeCellRun_kept h, dqPush_kept h, dqDrain_kept h, writeLoadCtrl_kept h, writeTyped_kept h]

theorem writeChnReg_kept {w v} (h : Kept s t) : Kept s (writeChnReg t w v) := by
  unfold writeChnReg
  split
  exacts [writeChnCancel_kept h, writeChnKat_kept h, writeTyped_kept h]

theorem writeMacReg_kept {w v} (h : Kept s t) : Kept s (writeMacReg t w v) := by
  unfold writeMacReg
  dsimp only
  refine ite_kept h ?_
  split
  exacts [writeMacCancel_kept h, writeTyped_kept h, writeMacKat_kept h, writeCtrCmd_kept h, writeTyped_kept h]

theorem writeRngReg_kept {w v} (h : Kept s t) : Kept s (writeRngReg t w v) :=
  ite_kept (setReg_kept h) (ite_kept (setReg_kept h) (writeTyped_kept h))

theorem swdogKick_kept {_v} (h : Kept s t) : Kept s (swdogKick t _v) := h

theorem abortXfer_kept {r o m} (h : Kept s t) : Kept s (abortXfer t r o m) := by
  unfold abortXfer
  refine ite_kept (dmaBusFails_kept h) ?_
  split
  exacts [setXfer_kept h, ite_kept (busFault_kept h) h]

theorem routerAbort_kept {r v} (h : Kept s t) : Kept s (routerAbort t r v) :=
  foldl_kept (fun hu => ite_kept (abortXfer_kept hu.frame) hu) h

theorem writeMshReg_kept {w v} (h : Kept s t) : Kept s (writeMshReg t w v) :=
  ite_kept (setReg_kept h) (ite_kept (setReg_kept h)
    (ite_kept (setReg_kept h) (ite_kept h.frame (ite_kept h.frame
    (ite_kept (swdogKick_kept h) (ite_kept (routerAbort_kept h) (writeTyped_kept h)))))))

theorem writeActCtrl_kept {v} (h : Kept s t) : Kept s (writeActCtrl t v) :=
  through (fun hz => through (fun hy => through (fun hx => ite_kept (requestApply_kept hx) hx) (ite_kept (clearPart_kept hy) hy))
    (ite_kept (actLoad_kept hz) hz)) (ite_kept (actWrite_kept h) h)

theorem writeActReg_kept {w v} (h : Kept s t) : Kept s (writeActReg t w v) :=
  ite_kept (writeActCtrl_kept h) (ite_kept (setReg_kept h) (writeTyped_kept h))

theorem writeDmaReg_kept {w x} (h : Kept s t) : Kept s (writeDmaReg t w x) := by
  unfold writeDmaReg
  refine ite_kept h ?_
  generalize regOff w % 0x1000 = o
  split
  · exact writeDmaCtrl_kept h
  · exact setReg_kept h
  · exact ite_kept h (writeTyped_kept h)

theorem writeFlcReg_kept {w v} (h : Kept s t) : Kept s (writeFlcReg t w v) := by
  unfold writeFlcReg
  dsimp only
  refine ite_kept (writeProt_kept h) (ite_kept (setReg_kept h) (ite_kept (writeTyped_kept h) ?_))
  split
  · exact flcGo_kept h
  · exact ite_kept (setFld_kept h) (writeTyped_kept h)
  · exact ite_kept h (writeTyped_kept h)
  · exact ite_kept h (writeTyped_kept h)
  · exact writeTyped_kept h

theorem writeDvpCtrl_kept {p v} (h : Kept s t) : Kept s (writeDvpCtrl t p v) :=
  through (fun hx => ite_kept (dvpAddress_kept (draw16_kept hx)) hx) (ite_kept (dvpSend_kept h) h)

theorem writePortReg_kept {w x} (h : Kept s t) : Kept s (writePortReg t w x) := by
  unfold writePortReg
  generalize regBlock w = b
  generalize hi : regInst w = i 
  split
  · exact ite_kept (ite_kept (writeGuardCtrl_kept h) (writeTyped_kept h)) (ite_kept (ite_kept (setBit_kept h) h) h)
  · exact ite_kept (writeDvpCtrl_kept h) (writeTyped_kept h)
  · exact ite_kept (writeTyped_kept h) (ite_kept (writeGate_kept h) h)
  · exact ite_kept h (ite_kept (writeCslCtrl_kept h) (ite_kept (setReg_kept h) (ite_kept h (writeTyped_kept h))))
  · exact h

theorem writeTagReg_kept {w v} (h : Kept s t) : Kept s (writeTagReg t w v) :=
  ite_kept (writeTagCmd_kept h) (ite_kept h (writeTyped_kept h))

theorem writeTmpReg_kept {w v} (h : Kept s t) : Kept s (writeTmpReg t w v) :=
  ite_kept (writeTmpFuse_kept h) (ite_kept (writeSrcCfg_kept h) (ite_kept (writeSrcQuiet_kept h) (writeTyped_kept h)))

theorem writeFltReg_kept {w v} (h : Kept s t) : Kept s (writeFltReg t w v) :=
  ite_kept (writeFltAck_kept h) (ite_kept (setReg_kept h) (writeTyped_kept h))

theorem writeEvcReg_kept {w v} (h : Kept s t) : Kept s (writeEvcReg t w v) := by
  unfold writeEvcReg
  exact ite_kept h.frame (ite_kept h.frame (writeTyped_kept h))

theorem writeCalReg_kept {w v} (h : Kept s t) : Kept s (writeCalReg t w v) := by
  unfold writeCalReg
  split
  exacts [writeCalItem_kept h, writeCalOffset_kept h, writeTyped_kept h]

theorem writeReg_kept {m w v} (h : Kept s t) : Kept s (writeReg t m w v) := by
  unfold writeReg
  dsimp only
  split
  · exact ite_kept (ite_kept (firmReset_kept h) (ite_kept (firmReset_kept h) h)) (writeTyped_kept h)
  · exact prlWrite_kept h
  · exact writeChnReg_kept h
  · exact writeMacReg_kept h
  · exact writeRngReg_kept h
  · exact writeMshReg_kept h
  · exact writeActReg_kept h
  · exact writeDmaReg_kept h
  · exact writeFlcReg_kept h
  · exact writeTagReg_kept h
  · exact writeTmpReg_kept h
  · exact writeFltReg_kept h
  · exact writeEvcReg_kept h
  · exact writeTyped_kept h
  · exact writeVatReg_kept h
  · exact writeCalReg_kept h
  · exact writePortReg_kept h

theorem destRead_kept {a} (h : Kept s t) : Kept s (destRead t a).2 := by
  rcases hq : readReg t a with ⟨v, u⟩
  have hr := snd_kept hq (readReg_kept h)
  unfold destRead
  rw [hq]
  refine ite_snd_kept h ?_
  split
  exacts [hr, h, ite_snd_kept h (ite_snd_kept (busyRead_kept h) h), h]

theorem destWrite_kept {m a w loader} (h : Kept s t) : Kept s (destWrite t m a w loader).2 := by
  unfold destWrite
  refine ite_snd_kept h ?_
  split
  exacts [ite_snd_kept (writeReg_kept h) h, ite_snd_kept (writeMem_kept h) h, h, h, ite_snd_kept h (writeMem_kept h)]

theorem regRead_kept {m w} (h : Kept s t) : Kept s (regRead m w t) := by
  unfold regRead
  dsimp only
  refine ite_kept h ?_
  split
  · exact tableRefusal_kept h
  · split
    · next e => exact .frame (snd_kept e (destRead_kept h))
    · next e => exact .frame (busFault_kept (snd_kept e (destRead_kept h)))

theorem portWrite_kept {m w v} (h : Kept s t) : Kept s (portWrite m w v t) := ite_kept (prlWrite_kept h) h

theorem regWrite_kept {m w v} (h : Kept s t) : Kept s (regWrite m w v t) := by
  unfold regWrite
  refine ite_kept h (ite_kept (portWrite_kept h) ?_)
  split
  · exact tableRefusal_kept h
  · split
    · next e => exact snd_kept e (destWrite_kept h)
    · next e => exact fault_kept (snd_kept e (destWrite_kept h))
    · next e => exact busFault_kept (snd_kept e (destWrite_kept h))

/-! ### Moves of DMA -/

theorem dmaReadWord_kept {m a} (h : Kept s t) : Kept s (dmaReadWord t m a).2 := by
  unfold dmaReadWord
  refine ite_snd_kept h ?_
  split
  · exact h
  · split
    · next e => exact ite_snd_kept (snd_kept e (destRead_kept h)) h
    · next e => exact snd_kept e (destRead_kept h)

theorem dmaReadWords_kept {m a n} (h : Kept s t) : Kept s (dmaReadWords t m a n).2 := by
  induction n generalizing t a with
  | zero => exact h
  | succ _ ih =>
    unfold dmaReadWords
    split
    · next e => exact snd_kept e (dmaReadWord_kept h)
    · next e =>
      have hr := ih (a := a + 1) (snd_kept e (dmaReadWord_kept h))
      split <;> next e => exact snd_kept e hr

theorem dmaReadPart_kept {m st part} (h : Kept s st.2) : Kept s (dmaReadPart m st part).2 := by
  unfold dmaReadPart
  dsimp only
  split
  · exact h
  · split
    · next e => exact snd_kept e (pagesNow_kept h)
    · next e =>
      have hr {a n} := dmaReadWords_kept (m := m) (a := a) (n := n) (snd_kept e (pagesNow_kept h))
      split <;> next e => exact snd_kept e hr

theorem dmaRead_kept {m a n} (h : Kept s t) : Kept s (dmaRead t m a n).2 := foldl_snd_kept dmaReadPart_kept h

theorem dmaReadBroken_kept {m a n} (h : Kept s t) : Kept s (dmaReadBroken t m a n).2 := by
  have hf {l : List (Nat × Nat)} : Kept s (l.foldl (dmaReadPart m) (.ok [], (draw16 t).2)).2 := foldl_snd_kept dmaReadPart_kept
    (draw16_kept h)
  unfold dmaReadBroken
  dsimp only
  split
  · next e => exact snd_kept e hf
  · next e => exact noteMismatch_kept (snd_kept e hf)

theorem dmaWritePart_kept {m a ws} (h : Kept s t) : Kept s (dmaWritePart t m a ws).2 := by
  unfold dmaWritePart
  split
  · exact h
  · split
    exacts [h, foldl_kept destWrite_kept h]

theorem fetchInternal_kept {c a} (h : Kept s t) : Kept s (fetchInternal t c a).2 := by
  unfold fetchInternal
  dsimp only
  split
  · next e => exact snd_kept e (dmaRead_kept h)
  · next e =>
    have hr := snd_kept e (dmaRead_kept h)
    split <;> next e => exact snd_kept e (dmaRead_kept hr)

theorem takeDesc_kept {c b} (h : Kept s t) : Kept s (takeDesc t c b) := by
  unfold takeDesc
  dsimp only
  refine ite_kept (dmaEvent_kept (modDma_kept h)) ?_
  split
  exacts [beginWriteBack_kept (modDma_kept h), modDma_kept (modDma_kept h)]

theorem execDescriptorFetch_kept {ch hostBytes mismatch} (h : Kept s t) : NextKept s (execDescriptorFetch ch hostBytes mismatch t) := by
  unfold execDescriptorFetch
  dsimp only
  refine ite_next h (ite_next ?_ (ite_next h (ite_next (fetchFails_kept (noteMismatch_kept h)) ?_)))
  · split
    exacts [fetchFails_kept h, takeDesc_kept h]
  · split
    · next e => exact fetchFails_kept (snd_kept e (fetchInternal_kept h))
    · next e => exact takeDesc_kept (snd_kept e (fetchInternal_kept h))

theorem writeParts_kept {c first ws l n} (h : Kept s t) : Kept s (writeParts t c first ws l n).2.2 := by
  induction l generalizing t n with
  | nil => exact h
  | cons _ _ ih =>
    unfold writeParts
    split
    · next e => exact snd_kept e (dmaWritePart_kept h)
    · next e => exact ih (snd_kept e (dmaWritePart_kept h))

theorem readSide_kept {c d n hostBytes mismatch} (h : Kept s t) : Kept s (readSide t c d n hostBytes mismatch).2 := by
  unfold readSide
  refine ite_snd_kept ?_ (ite_snd_kept (dmaReadBroken_kept h) ?_)
  · split <;> exact h
  · split
    · next e => exact snd_kept e (dmaRead_kept h)
    · next e => exact snd_kept e (dmaRead_kept h)

theorem writeSide_kept {c d b mismatch} (h : Kept s t) : Kept s (writeSide t c d b mismatch).2.2 := by
  unfold writeSide
  dsimp only
  split
  · split
    exacts [send_kept h, h]
  · split
    · split
      · next e => exact noteMismatch_kept (third_kept e (writeParts_kept (draw16_kept h)))
      · exact writeParts_kept (draw16_kept h)
    · exact writeParts_kept h

theorem runBurst_kept {c d hostBytes mismatch} (h : Kept s t) : Kept s (runBurst t c d hostBytes mismatch) := by
  unfold runBurst
  dsimp only
  split
  · next e => exact burstFails_kept (snd_kept e (readSide_kept h))
  · next e =>
    have hr := snd_kept e (readSide_kept h)
    split
    · exact burstFails_kept (modDma_kept (writeSide_kept hr))
    · exact through (fun hx => ite_kept (beginWriteBack_kept hx) hx) (modDma_kept (writeSide_kept hr))

theorem execBurst_kept {ch hostBytes mismatch} (h : Kept s t) : NextKept s (execBurst ch hostBytes mismatch t) := by
  unfold execBurst
  dsimp only
  split
  exacts [ite_next h (runBurst_kept h), h]

theorem writtenBack_kept {c d status residue} (h : Kept s t) : Kept s (writtenBack t c d status residue) :=
  through (fun hw => through (fun hz => through (fun hx => through
    (fun hy => ite_kept (ite_kept (beginFetch_kept hx) (dmaEvent_kept (modDma_kept hx)))
    (ite_kept (dmaEvent_kept (modDma_kept hy)) (dmaHalt_kept hy))) hz) (countReg_kept hz)) (ite_kept (dmaEvent_kept hw) hw))
    (modDma_kept (setRegs_kept h))

theorem writeBackInternal_kept {c a d status residue} (h : Kept s t) : Kept s (writeBackInternal t c a d status residue).2 := by
  unfold writeBackInternal
  dsimp only
  split
  · next e => exact third_kept e (writeParts_kept h)
  · next e => exact dmaWritePart_kept (third_kept e (writeParts_kept h))

theorem writeBackHost_kept {space a d status residue} (h : Kept s t) : Kept s (writeBackHost t space a d status residue) :=
  send_kept (send_kept h)

theorem execDescriptorWriteBack_kept {ch hostOk mismatch} (h : Kept s t) : NextKept s
  (execDescriptorWriteBack ch hostOk mismatch t) := by
  unfold execDescriptorWriteBack
  dsimp only
  split
  · refine ite_next (ite_next (writtenBack_kept (writeBackHost_kept h)) (writeBackFails_kept h))
      (ite_next h (ite_next (writeBackFails_kept (noteMismatch_kept h)) ?_))
    split
    · next e => exact writeBackFails_kept (snd_kept e (writeBackInternal_kept h))
    · next e => exact writtenBack_kept (snd_kept e (writeBackInternal_kept h))
  · exact h

theorem execHostCompletionTimeout_kept {ch} (h : Kept s t) : NextKept s (execHostCompletionTimeout ch t) := by
  unfold execHostCompletionTimeout
  dsimp only
  split
  exacts [ite_kept (fetchFails_kept h) h, ite_next (burstFails_kept h) h, h]

theorem dmaHoldEnds_kept {c p} (h : Kept s t) : Kept s (dmaHoldEnds t c p) := by
  unfold dmaHoldEnds
  dsimp only
  split
  · exact ite_kept (fetchFails_kept h) h
  · exact ite_kept (burstFails_kept h) (ite_kept (burstFails_kept h) h)
  · exact ite_kept (writeBackFails_kept h) h
  · exact h
  · exact h

/-! ### The mesh (R359) -/

theorem postedRefused_kept {q entry} (h : Kept s t) : Kept s (postedRefused t q entry) := postedEnd_kept (fault_kept h)

theorem partEnd_kept {q r} (h : Kept s t) : Kept s (partEnd t q r) := by
  unfold partEnd
  dsimp only
  split
  exacts [ite_kept (finishMem_kept h) (modCell_kept h), h]

theorem xferFails_kept {q f} (h : Kept s t) : Kept s (xferFails t q f) := ite_kept (postedRefused_kept h) (partEnd_kept h)
theorem xferLost_kept {q} (h : Kept s t) : Kept s (xferLost t q) := xferFails_kept h
theorem releaseOutputs_kept {m} (h : Kept s t) : Kept s (releaseOutputs t m) := h.frame
theorem errorReply_kept {n q a cause} (h : Kept s t) : Kept s (errorReply t n q a cause) := setXfer_kept h

theorem serveWrite_kept {n q a err} (h : Kept s t) : Kept s (serveWrite t n q a err) := by
  unfold serveWrite
  dsimp only
  split
  · exact fireSource_kept (errorReply_kept (noteMismatch_kept h))
  · split
    exacts [errorReply_kept h, setXfer_kept (foldl_kept destWrite_kept h)]

theorem serveRequestRead_kept {n q a err} (h : Kept s t) : Kept s (serveRequestRead t n q a err) := by
  unfold serveRequestRead
  split
  · exact windowRead_kept (setXfer_kept h)
  · refine ite_kept (fireSource_kept (errorReply_kept (noteMismatch_kept h))) ?_
    split
    exacts [setXfer_kept h, errorReply_kept h]

theorem arrive_kept {n q err} (h : Kept s t) : Kept s (arrive t n q err) := by
  unfold arrive
  dsimp only
  split
  · exact travel_kept (releaseOutputs_kept h)
  · exact through (fun hx => ite_kept hx (ite_kept (serveRequestRead_kept hx) (serveWrite_kept hx)))
      (travel_kept (releaseOutputs_kept h))

theorem execMeshRequest_kept {xfer atEgress hdrErr wordErr} (h : Kept s t) : NextKept s
    (execMeshRequest xfer atEgress hdrErr wordErr t) := by
  unfold execMeshRequest
  dsimp only
  split
  · exact h
  · refine ite_next h ?_
    split
    · exact ite_next (fireSource_kept (xferLost_kept (setXfer_kept (noteMismatch_kept (setXfer_kept h)))))
        (fireSource_kept (setXfer_kept (noteMismatch_kept (setXfer_kept h))))
    · split
      · exact through (fun hx => ite_next (fireSource_kept (xferLost_kept (noteMismatch_kept hx)))
          (ite_next (postedRefused_kept hx) (partEnd_kept hx))) (noteEgress_kept (setXfer_kept (setXfer_kept h)))
      · exact arrive_kept (setXfer_kept h)

theorem replyWords_kept {q} (h : Kept s t) : Kept s (replyWords t q).2 := by
  unfold replyWords
  dsimp only
  refine ite_snd_kept ?_ h
  split
  · next e => exact snd_kept e (destRead_kept h)
  · exact h

theorem replyArrives_kept {q ty ws} (h : Kept s t) : Kept s (replyArrives t q ty ws) :=
  ite_kept (xferFails_kept h) (ite_kept (postedEnd_kept h) (ite_kept (partEnd_kept h) (partEnd_kept h)))

theorem execMeshReply_kept {xfer hdrErr wordErr} (h : Kept s t) : NextKept s (execMeshReply xfer hdrErr wordErr t) := by
  unfold execMeshReply
  dsimp only
  split
  · exact h
  · split
    · refine through (fun hx => ite_next hx (ite_next (countReg_kept (setXfer_kept hx)) ?_)) (travelBack_kept (releaseOutputs_kept h))
      split
      · exact replyArrives_kept (replyWords_kept (setXfer_kept (travelBack_kept (releaseOutputs_kept h))))
      · exact fireSource_kept (xferLost_kept (noteMismatch_kept (setXfer_kept (travelBack_kept (releaseOutputs_kept h)))))
    · exact h

theorem execPostedWriteRefusal_kept {xfer} (h : Kept s t) : NextKept s (execPostedWriteRefusal xfer t) := by
  unfold execPostedWriteRefusal
  split
  · exact h
  · refine ite_next h ?_
    split
    exacts [h, postedRefused_kept (noteEgress_kept (setXfer_kept h))]

theorem execReplyTimeout_kept {xfer} (h : Kept s t) : NextKept s (execReplyTimeout xfer t) := by
  unfold execReplyTimeout
  dsimp only
  split
  exacts [h, ite_next h (xferLost_kept (raise_kept (fault_kept (setXfer_kept h))))]

theorem engineHoldEnds_kept {p q} (h : Kept s t) : Kept s (engineHoldEnds p q t) := by
  unfold engineHoldEnds
  extract_lets c t1
  have h1 : Kept s t1 := by
    unfold t1
    split
    exacts [ite_kept (churnGrant_kept (churnEnd_kept h)) h, h]
  split
  · dsimp only
    split
    exacts [ite_kept (macGrant_kept (macEnd_kept h1)) h1, ite_kept (macFail_kept h1) h1]
  · exact h1

theorem execBoundaryHoldTimeout_kept {vat} (h : Kept s t) : NextKept s (execBoundaryHoldTimeout vat t) := by
  unfold execBoundaryHoldTimeout
  dsimp only
  refine ite_next h (foldl_kept dmaHoldEnds_kept (foldl_kept engineHoldEnds_kept (foldl_kept (fun hu => ?_) h)))
  split
  exacts [ite_kept (errorReply_kept hu) hu, hu]

/-! ### Block instructions in flight -/

theorem blockStep_kept {k c p} (h : Kept s t) (h' : Kept s u) : Kept s (blockStep t k c p u) :=
  ite_kept (syncFault_kept h) (ite_kept (setCell_kept h) h')

theorem blockBegin_kept {k c p} (h : Kept s t) : Kept s (blockBegin t k c p) := by
  unfold blockBegin
  split
  · next e => exact snd_kept e (blockRead_kept h)
  · next e => exact blockFault_kept (snd_kept e (blockRead_kept h))
  · next e => exact blockSource_kept (snd_kept e (blockRead_kept h))

/-! ### Firmware: custody -/

theorem dropQuorum_kept {id} (h : Kept s t) : Kept s (dropQuorum t id) := h.frame

theorem execCusBegin_kept {p} (h : Kept s t) : NextKept s (execCusBegin p t) := by
  unfold execCusBegin
  dsimp only
  refine serve_kept h fun hu => ?_
  split
  · exact failed_kept hu
  · refine ite_fst_kept (failed_kept hu) ?_
    split
    · next e => exact third_kept e (readRandom_kept hu)
    · next e => exact failed_kept (third_kept e (readRandom_kept hu))
    · next e => exact okWith_kept (.frame (drawBits_kept (third_kept e (readRandom_kept hu))))

theorem quorumDone_kept {v k r q id m mismatch} (h : Kept s t) (h' : Kept s u) : Kept s (quorumDone t u v k r q id m mismatch).1 := by
  unfold quorumDone
  dsimp only
  refine ite_fst_kept (okWith_kept (.frame (dropQuorum_kept h'))) ?_
  split
  exacts [failed_kept (dropQuorum_kept h'), withStore_kept h (dropQuorum_kept h') okWith_kept]

theorem contribute_kept {v k r pol q answer mismatch} (h : Kept s t) : Kept s (contribute t v k r pol q answer mismatch).1 := by
  unfold contribute
  dsimp only
  split
  · exact failed_kept h
  · refine withChurn_kept h h fun hu => ite_fst_kept (failed_kept hu)
      (ite_fst_kept (failed_kept hu) (withChurn_kept h hu (fun hu1 => ?_)))
    split
    exacts [failed_kept hu1, ite_fst_kept (quorumDone_kept h hu1.frame) (okWith_kept hu1.frame)]

theorem cardStage_kept {p d x} (h : Kept s t) : Kept s (cardStage t p d x).1 := pair_fst_kept (modDoorbell_kept h)
theorem clearDone_kept {i} (h : Kept s t) : Kept s (clearDone t i) := setBit_kept h

theorem sendApdu_kept {i apdu} (h : Kept s t) : Kept s (sendApdu t i apdu) :=
  cslExchange_kept (setFld_kept (setRegs_kept (clearDone_kept h)))

theorem slotFailedWith_kept {r code} (h : Kept s t) : Kept s (slotFailedWith t r code).1 := failed_kept h

theorem cusCard_kept {p v k d r mismatch} (h : Kept s t) : Kept s (cusCard t p v k d r mismatch).1 := by
  unfold cusCard
  dsimp only
  split
  · split
    · exact ite_fst_kept h (ite_fst_kept (cardStage_kept (sendApdu_kept h))
        (ite_fst_kept (cardStage_kept (cslActivate_kept (clearDone_kept h))) h))
    · exact ite_fst_kept h (ite_fst_kept (slotFailedWith_kept h) (cardStage_kept (sendApdu_kept h)))
    · refine ite_fst_kept h (ite_fst_kept (slotFailedWith_kept h) ?_)
      split
      exacts [cardStage_kept (sendApdu_kept h), failed_kept h]
    · refine ite_fst_kept h (ite_fst_kept (slotFailedWith_kept h) ?_)
      split
      exacts [ite_fst_kept (failed_kept h) (contribute_kept h), failed_kept h]
  · exact failed_kept h

theorem execCusStatus_kept {p} (h : Kept s t) : NextKept s (execCusStatus p t) := by
  unfold execCusStatus
  dsimp only
  refine serve_kept h fun hu => ?_
  split
  exacts [okWith_kept hu, failed_kept hu]

theorem execCusEnd_kept {p} (h : Kept s t) : NextKept s (execCusEnd p t) := by
  unfold execCusEnd
  refine serve_kept h fun hu => ?_
  split
  exacts [okWith_kept (dropQuorum_kept hu), failed_kept hu]

theorem execSessionTimeout_kept {session} (h : Kept s t) : NextKept s (execSessionTimeout session t) := by
  unfold execSessionTimeout
  split
  exacts [ite_next (dropQuorum_kept h) h, h]

/-! ### Power -/

theorem loseBattery_kept (h : Kept s t) : Kept s (loseBattery t) := h.frame

theorem tearOtp_kept (h : Kept s t) : Kept s (tearOtp t) := by
  unfold tearOtp
  extract_lets t1
  have h1 : Kept s t1 := by
    have hd := draw16_kept h
    unfold t1
    split
    · split
      · exact h
      · dsimp only
        split
        exacts [otpSet_kept hd, hd]
    · dsimp only
      split
      exacts [otpSet_kept (.frame hd), hd]
  split
  exacts [ite_kept (otpPut_kept (draw16_kept h1)) (draw16_kept h1), h1]

theorem unlink_kept (h : Kept s t) : Kept s (unlink t) := h.frame

theorem execPowerOnRelease_kept (h : Kept s t) : NextKept s (execPowerOnRelease t) :=
  through (fun hx => ite_next h (ite_kept hx (fireSource_kept hx)))
    (.frame (setReg_kept (setReg_kept (tagPowerUp_kept (unlink_kept (volatileReset_kept h))))))

theorem execMainPowerLoss_kept (h : Kept s t) : NextKept s (execMainPowerLoss t) :=
  through (fun hx => ite_next h (setMode_kept (ite_kept hx (loseBattery_kept hx))))
    (.frame (unlink_kept (volatileReset_kept (tagMainLost_kept (latchAll_kept (tearOtp_kept h))))))

theorem debugWrite_kept {a w} (h : Kept s t) : Kept s (debugWrite t a w) := by
  unfold debugWrite
  refine ite_kept (fault_kept h) ?_
  split
  · next e => exact snd_kept e (destWrite_kept h)
  · next e => exact fault_kept (snd_kept e (destWrite_kept h))
  · next e => exact busFault_kept (snd_kept e (destWrite_kept h))

theorem execJtagInstruction_kept {op} (h : Kept s t) : NextKept s (execJtagInstruction op t) := by
  unfold execJtagInstruction
  dsimp only
  refine ite_next h ?_
  split
  · exact send_kept h
  · exact h
  · exact h
  · exact ite_kept h (send_kept h)
  · refine ite_next ?_ h
    split
    · next e => exact .frame (snd_kept e (destRead_kept h))
    · next e => exact .frame (busFault_kept (snd_kept e (destRead_kept h)))
  · exact ite_kept (debugWrite_kept h) h

end Sys2Proof.Machine
end

section
/-!
PROOFS. What every command keeps, put together: `exec` command by command, then the step.
-/
namespace Sys2Proof.Machine

variable {s t : State}

/-- What every command keeps. -/
theorem exec_kept (c : Instr) (h : Kept s t) : NextKept s (exec c t) :=
  match c with
  | .powerOnRelease => execPowerOnRelease_kept h
  | .pinReset _ => ite_next h (ite_next (pinReset_kept h) (ite_kept (pinReset_kept (draw16_kept h)) (draw16_kept h)))
  | .firmwareReset | .recoveryRequestReset => firmReset_kept h
  | .pcieFundamentalReset _ | .functionLevelReset _ => portResets_kept h
  | .pcieResetEnd _ => ite_next (raise_kept (setPort_kept h)) h
  | .scrubComplete _ _ _ => execScrubComplete_kept h
  | .entryBuild => ite_next h (setStep_kept (.frame (tallyWrite_kept h)))
  | .releaseWaitEnd _ => execReleaseWaitEnd_kept h
  | .dipBegin _ => ite_next h (dipFlash_kept h.frame)
  | .dipEnd => ite_next h (ringResume_kept (startEpisodes_kept (foldl_kept disagreeNow_kept h.frame)))
  | .mainPowerLoss => execMainPowerLoss_kept h
  | .vbatLoss => ite_next (fireSource_kept h.frame) (setMode_kept (loseBattery_kept h.frame))
  | .otpPulseEnd _ => execOtpPulseEnd_kept h
  | .otpProgramEnd => execOtpProgramEnd_kept h
  | .hostPailWrite _ _ _ => ite_next h (foldl_kept busFault_kept (pailBytes_kept h))
  | .bar0BadAccess _ _ _ => ite_next h (ite_next (readsZero_kept h) (readsZero_kept (busFault_kept h)))
  | .doorbell _ _ _ => ite_kept (ring_kept h) h
  | .pailEventTake _ => ite_next (takePail_kept h) h
  | .responseDelivery _ => deliver_kept h
  | .ringEntryWrite => execRingEntryWrite_kept h
  | .ringWriteError => ite_next h (fault_kept (raise_kept (.frame (prlEvent_kept h.frame))))
  | .respDone _ => ite_kept h (respDone_kept h)
  | .clrOverflow _ => ite_kept h (clrOverflow_kept h)
  | .ringEn _ => ite_kept h (setRingEn_kept h)
  | .statusIntEn _ => ite_kept h (setStatusInt_kept h)
  | .prlRingTail _ => ite_kept h (setRingTail_kept h)
  | .msixUnmask _ _ => execMsixUnmask_kept h
  | .bmcSidebandWrite | .uartReceive _ => ite_kept (raise_kept h) h
  | .devInfo _ => execDevInfo_kept h
  | .devAttest _ _ => serveCell_kept h fun hu => withChurn_kept hu hu (fun hu1 => okWith_kept (drawBytes_kept hu1))
  | .devReset _ => serve_kept h fun hu => hu
  | .devResetDelay => execDevResetDelay_kept h
  | .devSetProtection _ => serve_kept h setProtection_kept
  | .lowering => ite_next (firmwareReset_kept (finishLowering_kept h)) h
  | .devSpend _ => serve_kept h fun hu => ite_fst_kept hu (startOtp_kept (.frame (clearShare_kept hu)))
  | .decommissioning => ite_next (spendOn_kept h) h
  | .ownClaim _ _ => serve_kept h ownClaim_kept
  | .ownTransfer _ _ => serve_kept h ownTransfer_kept
  | .ownRekey _ _ => execOwnRekey_kept h
  | .partCreate _ => serve_kept h fun hu => ite_fst_kept (failed_kept hu) (ite_fst_kept (failed_kept hu) (newPartKey_kept hu))
  | .partDelete _ => execPartDelete_kept h
  | .partSetQuota _ => execPartSetQuota_kept h
  | .partStatus _ => execPartStatus_kept h
  | .partNewCredential _ => execPartNewCredential_kept h
  | .keyGenerate _ _ => serveCell_kept h keyGenerate_kept
  | .keyGenerationTimeout _ => execKeyGenerationTimeout_kept h
  | .keyImport _ => serveCell_kept h keyImport_kept
  | .keyExport _ => serveCell_kept h keyExport_kept
  | .keyDelete _ => execKeyDelete_kept h
  | .keyInfo _ => execKeyInfo_kept h
  | .keyPublic _ => execKeyPublic_kept h
  | .ctrAllocate _ => serve_kept h ctrAllocate_kept
  | .ctrRead _ => serveCell_kept h fun hu => ite_fst_kept (okWith_kept hu) (failed_kept hu)
  | .ctrIncrement _ => execCtrIncrement_kept h
  | .ctrRelease _ => execCtrRelease_kept h
  | .sigSign _ _ => serveCell_kept h sigSign_kept
  | .sigVerify _ => serveCell_kept h sigVerify_kept
  | .kaEcdh _ _ => serveCell_kept h kaEcdh_kept
  | .curveLoad _ => execCurveLoad_kept h
  | .macGenerate _ _ | .macVerify _ _ => serveCell_kept h macCommand_kept
  | .pinTranslate _ => serveCell_kept h pinTranslate_kept
  | .keyTranslate _ => serveCell_kept h keyTranslate_kept
  | .rngGet _ => execRngGet_kept h
  | .cusPolicy _ | .hbAnnotate _ => serve_kept h fun hu => okWith_kept hu.frame
  | .cusBegin _ => execCusBegin_kept h
  | .cusCard _ _ => serveCell_kept h cusCard_kept
  | .cusStatus _ => execCusStatus_kept h
  | .cusEnd _ => execCusEnd_kept h
  | .sessionTimeout _ => execSessionTimeout_kept h
  | .cfgGet _ | .calGet _ => serve_kept h fun hu => ite_fst_kept (failed_kept hu) (okWith_kept hu)
  | .cfgSet _ => serve_kept h cfgSet_kept
  | .calSet _ => execCalSet_kept h
  | .vatStatus _ _ | .fltRead _ | .tmpStatus _ | .hbHead _ | .hbPubkey _ | .updStatus _ => serve_kept h okWith_kept
  | .vatQuiesce _ => execVatQuiesce_kept h
  | .drained _ => execDrained_kept h
  | .quiesceTimeout _ => ite_next (endQuiesce_kept h) h
  | .vatReload _ => execVatReload_kept h
  | .vatTrim _ => execVatTrim_kept h
  | .trimMeasurementEnd _ _ => execTrimMeasurementEnd_kept h
  | .boundaryHoldTimeout _ => execBoundaryHoldTimeout_kept h
  | .vatRetire _ _ => execVatRetire_kept h
  | .vatResume _ => execVatResume_kept h
  | .fltAck _ => execFltAck_kept h
  | .hbRead _ => execHbRead_kept h
  | .hbAck _ _ _ => execHbAck_kept h
  | .updBegin _ => execUpdBegin_kept h
  | .updBlock _ _ => serve_kept h updBlock_kept
  | .updCommit _ _ => execUpdCommit_kept h
  | .updAbort _ => serve_kept h fun hu => ite_fst_kept (failed_kept hu) (okWith_kept (eraseSlot_kept (ite_kept hu.frame hu)))
  | .tallyWrite => ite_next (refreshStatus_kept (tallyWrite_kept h)) (ite_next (refreshStatus_kept h) h)
  | .tempLogEntry _ _ => execTempLogEntry_kept h
  | .push _ _ => vatAccess_kept h (dqPush_kept h)
  | .drain _ _ => vatAccess_kept h (dqDrain_kept h)
  | .vatCqPop _ => execVatCqPop_kept h
  | .skimRequest vat => show NextKept s (execSkimRequest vat t) from execSkimRequest_kept h
  | .skimServe _ => execSkimServe_kept h
  | .skimReply _ => execSkimReply_kept h
  | .skimBackoffEnd _ => modVat_kept h
  | .holdLimitBite _ _ _ => ite_next h (fault_kept (raiseVat_kept (setFld_kept (setBit_kept h))))
  | .ticketLimitBite _ _ => ite_next h (fault_kept (raiseVat_kept (setBit_kept h)))
  | .cellHaltHandling _ _ => ite_next (handleHalt_kept h) h
  | .vatSwap _ => writeVatSwap_kept h
  | .swapComplete => execSwapComplete_kept h
  | .vatLoad _ _ => vatAccess_kept h (writeLoadCtrl_kept h)
  | .loadComplete _ => execLoadComplete_kept h
  | .vatCtrlWrite _ _ => vatAccess_kept h (writeVatCtrl_kept h)
  | .vatCellRun _ _ => vatAccess_kept h (writeCellRun_kept h)
  | .yieldPoint _ => churnYield_kept h
  | .churnJobEnd _ _ => ite_next (signEntry_kept h) (churnJobEnd_kept h)
  | .chnCancel _ _ => supAccess_kept h (writeChnCancel_kept h)
  | .chnKat _ _ => supAccess_kept h (writeChnKat_kept h)
  | .churnKatEnd _ _ => testsEnd_kept (chnKatEnd_kept h)
  | .macGrantPoint _ => execMacGrantPoint_kept h
  | .macJobEnd _ => execMacJobEnd_kept h
  | .macCancel _ _ => supAccess_kept h (writeMacCancel_kept h)
  | .macKat _ _ => supAccess_kept h (writeMacKat_kept h)
  | .macKatEnd _ _ => testsEnd_kept (macKatEnd_kept h)
  | .macCtrRead _ => supAccess_kept h (ctrRead_kept h)
  | .macCtrIncrement _ => supAccess_kept h (ctrIncrement_kept h)
  | .raise _ => supAccess_kept h (ctrRaise_kept h)
  | .aptWindowComplete _ _ _ => ite_next h (modNoise_kept (seePeaks_kept (sampledOn_kept h)))
  | .healthTestFailure _ _ => bootResume_kept (sourceFails_kept h)
  | .startupTestEnd _ => bootResume_kept (sourceStarts_kept h)
  | .centralQueueRefill => bootResume_kept (queueServed_kept (refillCentral_kept h))
  | .internalDraw _ => execInternalDraw_kept h
  | .rngCqData => .frame (softRead_kept h)
  | .add _ | .adc _ | .sub _ | .sbc _ | .and _ | .or _ | .xor _ | .andn _ | .shl _ | .shr _ | .sar _ | .rol _ | .mul _ | .mulh _ =>
    aluRRR_kept h
  | .csel _ | .mov _ | .movi _ | .callL _ | .nop _ => cellInstr_kept h setCell_kept
  | .addi _ | .andi _ | .ori _ | .xori _ | .shli _ | .shri _ | .sari _ | .roli _ => aluRRI_kept h
  | .cmp _ | .tst _ | .cmpi _ | .tsti _ => compare_kept h
  | .ld _ => execLd_kept h
  | .st _ => execSt_kept h
  | .ldx _ => execLdx_kept h
  | .stx _ => execStx_kept h
  | .cld _ => execCld_kept h
  | .cst _ => execCst_kept h
  | .cmov _ | .cbound _ | .cperm _ | .cinc _ | .cget _ | .cclr _ | .cmake _ => capInstr_kept h
  | .b _ => cellInstr_kept h fun hu => ite_kept (syncFault_kept hu) (ite_kept (setCell_kept hu) (setCell_kept hu))
  | .br _ => cellInstr_kept h fun hu => ite_kept (syncFault_kept hu) (ite_kept (syncFault_kept hu) (setCell_kept hu))
  | .retL _ | .far _ => cellInstr_kept h fun hu => ite_kept (syncFault_kept hu) (setCell_kept hu)
  | .callm _ => execCallm_kept h
  | .retm _ => execRetm_kept h
  | .bmov _ | .mfeed _ => cellInstr_kept h fun hu => blockStep_kept hu (blockBegin_kept hu)
  | .bfill _ => cellInstr_kept h fun hu => blockStep_kept hu (blockWrite_kept hu)
  | .csub _ => cellInstr_kept h fun hu => submitJob_kept hu churnSubmit_kept
  | .csubC _ => cellInstr_kept h fun hu => jobReturn_kept (churnCancel_kept hu)
  | .cwait _ | .mwait _ => cellInstr_kept h jobReturn_kept
  | .cwaitW _ | .mwaitW _ => cellInstr_kept h fun hu => ite_kept (setCell_kept hu) (jobReturn_kept hu)
  | .msub _ => cellInstr_kept h fun hu => submitJob_kept hu macSubmit_kept
  | .msubC _ => cellInstr_kept h fun hu => jobReturn_kept (macCancel_kept hu)
  | .take _ | .takeW _ => takeInstr_kept h
  | .done _ => execDone_kept h
  | .rdraw _ => execRdraw_kept h
  | .halt _ => cellInstr_kept h haltCore_kept
  | .retx _ => cellInstr_kept h fun hu => ite_kept (returnX_kept hu) (syncFault_kept hu)
  | .fence _ => cellInstr_kept h fun hu => ite_kept (setCell_kept hu) (setCell_kept hu)
  | .mfsr _ => cellInstr_kept h fun hu => ite_kept (setCell_kept (mfsrValue_kept hu)) (syncFault_kept hu)
  | .mtsr _ => execMtsr_kept h
  | .exceptionEntry _ => execExceptionEntry_kept h
  | .meshRequest _ _ _ _ => execMeshRequest_kept h
  | .meshReply _ _ _ => execMeshReply_kept h
  | .postedWriteRefusal _ => execPostedWriteRefusal_kept h
  | .replyTimeout _ => execReplyTimeout_kept h
  | .linkWatchdogBite _ _ _ => ite_next h (fault_kept (raise_kept (setBit_kept h.frame)))
  | .mshRtrAbort _ _ => ite_kept (routerAbort_kept h) h
  | .supervisorWatchdogBite => ite_next h (fault_kept (raise_kept (setBit_kept h)))
  | .mshSwdogKick _ => ite_kept (swdogKick_kept h) h
  | .apply => ite_kept (requestApply_kept h) h
  | .actWrite => ite_kept (actWrite_kept h) h
  | .actLoad => ite_kept (actLoad_kept h) h
  | .clearPart _ => ite_kept (clearPart_kept h) h
  | .dmaStart _ => ite_kept (dmaStart_kept h) h
  | .dmaAbort _ => ite_kept (dmaAbort_kept h) h
  | .descriptorFetch _ _ _ => execDescriptorFetch_kept h
  | .burst _ _ _ => execBurst_kept h
  | .descriptorWriteBack _ _ _ => execDescriptorWriteBack_kept h
  | .hostCompletionTimeout _ => execHostCompletionTimeout_kept h
  | .linkUp => ringResume_kept (linkComesUp_kept h)
  | .flashWindowRead _ _ => execFlashWindowRead_kept h
  | .pageLoadEnd _ _ _ _ => execPageLoadEnd_kept h
  | .program _ | .erase _ | .blankCheck _ | .retire _ | .replace _ => flashGo_kept h
  | .erasePulseEnd _ _ => execErasePulseEnd_kept h
  | .flashCommandEnd _ _ => ringStep_kept (flashCommandEnd_kept h)
  | .flcProt _ => ite_kept (writeProt_kept h) h
  | .measure _ => ite_kept (startMeasure_kept h) h
  | .measurementEnd _ _ => execMeasurementEnd_kept h
  | .measureTimeLimit _ => ite_kept (measureResult_kept h) h
  | .fgpModeWrite _ _ => ite_kept (writeMode_kept h) h
  | .upstreamCsRise _ => ite_kept (releaseGo_kept (csRise_kept h)) (csRise_kept h)
  | .guardCommand _ _ _ => execGuardCommand_kept h
  | .send _ => ite_kept (dvpSend_kept h) h
  | .address _ _ => execAddress_kept h
  | .dvpReply _ _ _ => execDvpReply_kept h
  | .dvpReplyTimeout _ => ite_next (dvpDone_kept (dvpTimeout_kept h)) (dvpTimeout_kept h)
  | .ibi _ => ite_next h (ite_next (dvpEvent_kept h) (ite_next h (dvpEvent_kept (countReg_kept h))))
  | .ctpGate _ => ite_kept (writeGate_kept h) h
  | .ctpOut _ _ => ite_kept (setReg_kept h) h
  | .statEdge _ _ => ite_next h (ite_next (eventBit_kept h.frame) h.frame)
  | .ppsEdge _ => execPpsEdge_kept h
  | .ppsTimeout => ite_next (ppsLost_kept h.frame) h
  | .xtalStatusChange _ => ite_next (raise_kept (setBit_kept h.frame)) h.frame
  | .activate _ => ite_kept (cslActivate_kept h) h
  | .atrComplete _ _ _ _ _ => ite_kept (atrComplete_kept h) h
  | .noAtr _ => ite_kept (classFailed_kept h) h
  | .exchange _ => ite_kept (cslExchange_kept h) h
  | .cardResponse _ _ _ _ _ => execCardResponse_kept h
  | .cardWaitingTimeout _ => ite_next h (ite_next (cslEnd_kept h) (ite_next (cslEnd_kept h) (setSlot_kept (ite_kept (addErrs_kept h) h))))
  | .deactivate _ => ite_kept (cslDeact_kept h) h
  | .cardInsertion _ => ite_next h (cslEvent_kept h.frame)
  | .cardRemoval _ _ => execCardRemoval_kept h
  | .overcurrent _ => ite_next h (ite_kept (cslEnd_kept (cslEvent_kept h)) (cslDeactivate_kept (cslEvent_kept h)))
  | .clockStop _ => ite_kept (setBit_kept h) h
  | .fieldOn => ite_next h (tagEvent_kept (ite_kept (setMode_kept h.frame.frame) h.frame.frame))
  | .fieldLoss => execFieldLoss_kept h
  | .select _ => ite_next h (ite_next h (modAir_kept (setFlag_kept h)))
  | .query _ => execQuery_kept h
  | .queryAdjust _ _ => ite_next h (ite_next (modAir_kept (flipSession_kept h)) (enterSlot_kept (draw16_kept (modAir_kept h))))
  | .queryRep _ => ite_next h (ite_next (modAir_kept (flipSession_kept h)) (ite_next (modAir_kept h) (enterSlot_kept h)))
  | .ack _ => execAck_kept h
  | .nak => ite_next h (modAir_kept h)
  | .reqRn _ => execReqRn_kept h
  | .access _ _ => execAccess_kept h
  | .read _ _ _ _ => execRead_kept h
  | .write _ _ _ _ | .blockWrite _ _ _ _ => ite_next h (fieldWords_kept h)
  | .lock _ _ _ => ite_next h (ite_next (replyRefused_kept h) (fieldWrite_kept h))
  | .kill _ _ => ite_next (replyRefused_kept h) h
  | .tagRead _ | .tagWrite _ => ite_kept (writeTagCmd_kept h) h
  | .tagProgramEnd _ => execTagProgramEnd_kept h
  | .tagRepair _ => tagRepair_kept h
  | .tamperEpisodeStart _ _ _ => startEpisodes_kept h.frame
  | .tamperEpisodeEnd _ => .frame (setSrc_kept h)
  | .disagreement _ => ite_next h (ite_next (ite_next (setLatch_kept h) h) (ite_next h.frame (disagreeNow_kept h)))
  | .quietPeriodEnd _ => ite_next h (dropHoldStall_kept (setSrc_kept h))
  | .evidenceProgramEnd _ => execEvidenceProgramEnd_kept h
  | .tmpFuse _ => writeTmpFuse_kept h
  | .fltAckRegister _ => writeFltAck_kept h
  | .stormEnd => ite_next (raise_kept (countReg_kept h.frame)) h
  | .calOffset _ => writeCalOffset_kept h
  | .settlingEnd _ => foldl_kept setSrc_kept h
  | .prlRingDropped _ => ite_kept h.frame (readsZero_kept h)
  | .vatSkimCount _ _ | .chnMismatch _ _ | .chnOps _ _ | .chnSwitches _ _ | .macReseeds _ _ | .rngRctPeak _ _ | .rngAptPeak _ _
  | .rngFallback _ _ | .mshBicCount _ | .mshLate _ | .mshRtrAgeMax _ _ | .mshRtrGrants _ _ _ | .actViolCount _ | .dmaChCount _ _
  | .flcLinkErrs _ | .flcRetryCount _ _ | .flcCorrMax _ _ | .flcBusyReads _ _ | .fgpBlocked _ _ | .dvpIbiCount _ _ | .clkTrefStatus _
  | .clkTb _ | .cslErrs _ _ | .tagRefusals _ | .tmpSrcCount _ _ | .fltRecoveries _ | .fltClassCount _ _ => regRead_kept h
  | .registerWrite _ _ _ => ite_kept h (regWrite_kept h)
  | .jtagInstruction _ => execJtagInstruction_kept h
  | .configurationSpaceWrite _ _ => execConfigurationSpaceWrite_kept h
  | .atrCharacterTimeout _ => ite_kept (cslEnd_kept h) h
  | .flagPersistenceExpiry _ => ite_next h.frame h

theorem tick_kept (s : State) : Kept s (tick s) :=
  have h := Kept.refl s
  ite_kept (ite_kept (ite_kept h.frame h.frame) h.frame) (ite_kept h.frame h)

/-- What a step keeps: all that a command keeps but the queue, of which the step takes the front. -/
theorem step_keeps (h : step s = .next t) :
    (MemOk s → MemOk t) ∧ (RegsOk s → RegsOk t) ∧ ∀ o i, OtpBit s o i → OtpBit t o i := by
  unfold step at h
  split at h
  · cases h
    obtain ⟨-, hmem, hregs, hotp⟩ := tick_kept s
    exact ⟨hmem, hregs, hotp⟩
  · next c rest _ =>
    have hk := exec_kept c (Kept.refl { s with pending := rest })
    rw [h] at hk
    obtain ⟨-, hmem, hregs, hotp⟩ := hk
    exact ⟨hmem, hregs, hotp⟩

/-- Settles O59: every function of the model changes memory and registers through writes that keep the form (`exec_kept`). -/
theorem stepKeepsCanonicalForm : Obligations.StepKeepsCanonicalForm := by
  intro s t h
  obtain ⟨hmem, hregs, -⟩ := step_keeps h
  exact ⟨hmem, hregs⟩

end Sys2Proof.Machine
end

section
/-!
PROOFS. Writes of the host into request areas and bad accesses to BAR0 (R32, R79, R81, R82, R96): what one byte of a write changes, then
a whole write byte by byte.
-/
namespace Sys2Proof.Machine

variable {s : State} {port : PciePort} {off : Nat}

/-! ### One byte merged into a word (R32) -/

/-- The byte at an offset from the start of the pail areas. -/
def pailByte (s : State) (o : Nat) : Byte := (wordBytes (readMem s (0x30180000 + o / 2)).val).getD (o % 2) 0

theorem readMem_mergeByte_other {a x : Nat} {odd : Bool} {b : Byte} (h : x ≠ a) : readMem (mergeByte s a odd b) x = readMem s x :=
  readMem_writeMem_other s _ h

theorem mergeByte_tag (a : Nat) (odd : Bool) (b : Byte) : (readMem (mergeByte s a odd b) a).tag = .data :=
  congrArg Word.tag (readMem_writeMem_same ..)

theorem mergeByte_val (a : Nat) (odd : Bool) (b : Byte) : (readMem (mergeByte s a odd b) a).val =
    if odd then ((readMem s a).val &&& 0x00FF) ||| (b.setWidth 16 <<< 8) else ((readMem s a).val &&& 0xFF00) ||| b.setWidth 16 :=
  congrArg Word.val (readMem_writeMem_same ..)

theorem mergedHigh_bytes (w : BitVec 16) (b : Byte) : wordBytes ((w &&& 0x00FF) ||| (b.setWidth 16 <<< 8)) = [w.setWidth 8, b] := by
  refine congrArg₂ (fun x y => [x, y]) ?_ ?_ <;> ext i hi <;> interval_cases i <;> simp

theorem mergedLow_bytes (w : BitVec 16) (b : Byte) : wordBytes ((w &&& 0xFF00) ||| b.setWidth 16) = [b, (w >>> 8).setWidth 8] := by
  refine congrArg₂ (fun x y => [x, y]) ?_ ?_ <;> ext i hi <;> interval_cases i <;> simp
/-! ### One byte of a write into a request area (R81, R82) -/

/-- What `pailBytes` does with one byte that falls into a request area. -/
def hostByte (port : PciePort) (s : State) (off : Nat) (b : Byte) : State :=
  modPail (mergeByte s (0x30180000 + off / 2) (decide (off % 2 = 1)) b) (off / 0x4000)
    (fun v => if isAux port then { v with writerAux := true } else { v with writerHost := true })

theorem pailBytes_cons {b : Byte} {bs : Bytes} (ha : off % 0x4000 < 0x2000) (hp : off < 0x100000) :
    pailBytes port s off (b :: bs) = pailBytes port (hostByte port s off b) (off + 1) bs := by
  rw [pailBytes]
  dsimp only
  rw [if_pos ⟨ha, by omega⟩, hostByte]

theorem readMem_hostByte (b : Byte) (a : Nat) : readMem (hostByte port s off b) a =
    readMem (mergeByte s (0x30180000 + off / 2) (decide (off % 2 = 1)) b) a := by
  rw [hostByte, modPail]
  rfl

theorem readMem_hostByte_other {b : Byte} {a : Nat} (h : a ≠ 0x30180000 + off / 2) : readMem (hostByte port s off b) a = readMem s a := by
  rw [readMem_hostByte, readMem_mergeByte_other h]

theorem hostByte_tag (b : Byte) : (readMem (hostByte port s off b) (0x30180000 + off / 2)).tag = .data := by
  rw [readMem_hostByte, mergeByte_tag]

theorem hostByte_tag_data {b : Byte} {a : Nat} (h : (readMem s a).tag = .data) : (readMem (hostByte port s off b) a).tag = .data := by
  by_cases ha : a = 0x30180000 + off / 2
  · rw [ha, hostByte_tag]
  · rw [readMem_hostByte_other ha, h]

/-- Of the word that holds it, the byte is the half that the merge replaces; the other half is as it was. -/
theorem hostByte_bytes (b : Byte) : wordBytes (readMem (hostByte port s off b) (0x30180000 + off / 2)).val =
    if off % 2 = 1 then [(readMem s (0x30180000 + off / 2)).val.setWidth 8, b]
    else [b, ((readMem s (0x30180000 + off / 2)).val >>> 8).setWidth 8] := by
  rw [readMem_hostByte, mergeByte_val]
  by_cases h : off % 2 = 1
  · simp only [h, decide_true, if_true, mergedHigh_bytes]
  · simp only [h, decide_false, Bool.false_eq_true, if_false, mergedLow_bytes]

theorem pailByte_hostByte_same (b : Byte) : pailByte (hostByte port s off b) off = b := by
  rw [pailByte, hostByte_bytes]
  rcases Nat.mod_two_eq_zero_or_one off with h | h <;> simp [h]

theorem pailByte_hostByte_other {b : Byte} {o : Nat} (h : o ≠ off) : pailByte (hostByte port s off b) o = pailByte s o := by
  unfold pailByte
  by_cases hw : o / 2 = off / 2
  · rw [hw, hostByte_bytes]
    rcases Nat.mod_two_eq_zero_or_one off with h0 | h1
    · have ho : o % 2 = 1 := by omega
      simp [h0, ho, wordBytes]
    · have ho : o % 2 = 0 := by omega
      simp [h1, ho, wordBytes]
  · rw [readMem_hostByte_other (by omega)]

/-- The port's writer bit of a pail is set (R82). -/
def Wrote (port : PciePort) (v : PailState) : Prop := (port = .aux → v.writerAux = true) ∧ (port = .host → v.writerHost = true)

theorem hostByte_wrote (b : Byte) : Wrote port (getPail (hostByte port s off b) (off / 0x4000)) := by
  rw [hostByte, modPail, getPail_setPail_same]
  cases port <;> simp [Wrote, isAux]

/-! ### A whole write -/

/-- What a write of bytes into one request area has made of a state. -/
structure Written (port : PciePort) (s t : State) (off : Nat) (bytes : Bytes) : Prop where
  inside : ∀ i, i < bytes.length → pailByte t (off + i) = bytes.getD i 0 ∧ (readMem t (0x30180000 + (off + i) / 2)).tag = .data
  outside : ∀ o, o < off ∨ off + bytes.length ≤ o → pailByte t o = pailByte s o
  words : ∀ a, (∀ i, i < bytes.length → a ≠ 0x30180000 + (off + i) / 2) → readMem t a = readMem s a
  tags : ∀ a, (readMem s a).tag = .data → (readMem t a).tag = .data
  wrote : bytes ≠ [] → Wrote port (getPail t (off / 0x4000))
  flt : t.flt = s.flt
  cells : t.cells = s.cells

theorem Written.nil : Written port s s off [] :=
  ⟨fun _ h => absurd h (Nat.not_lt_zero _), fun _ _ => rfl, fun _ _ => rfl, fun _ => id, fun h => absurd rfl h, rfl, rfl⟩

theorem Written.cons {t : State} {b : Byte} {bs : Bytes} (hp : (off + 1) / 0x4000 = off / 0x4000)
    (h : Written port (hostByte port s off b) t (off + 1) bs) (he : bs = [] → t = hostByte port s off b) :
    Written port s t off (b :: bs) where
  inside
    | 0, _ => by
      rw [Nat.add_zero, h.outside off (by omega), pailByte_hostByte_same]
      exact ⟨rfl, h.tags _ (hostByte_tag b)⟩
    | i + 1, hi => by
      have := h.inside i (Nat.lt_of_succ_lt_succ hi)
      rwa [show off + (i + 1) = off + 1 + i by omega]
  outside o ho := by
    rw [List.length_cons] at ho
    rw [h.outside o (by omega), pailByte_hostByte_other (by omega)]
  words a ha := by
    rw [h.words a fun i hi => by
      have := ha (i + 1) (Nat.succ_lt_succ hi)
      rwa [show off + 1 + i = off + (i + 1) by omega]]
    exact readMem_hostByte_other (ha 0 (Nat.succ_pos _))
  tags a ha := h.tags a (hostByte_tag_data ha)
  wrote _ := by
    by_cases hb : bs = []
    · rw [he hb]
      exact hostByte_wrote b
    · rw [← hp]
      exact h.wrote hb
  flt := h.flt
  cells := h.cells

theorem pailBytes_written {bytes : Bytes} (ha : off % 0x4000 + bytes.length ≤ 0x2000) (hp : off + bytes.length ≤ 0x100000) :
    Written port s (pailBytes port s off bytes) off bytes := by
  induction bytes generalizing s off with
  | nil => exact .nil
  | cons b bs ih =>
    rw [List.length_cons] at ha hp
    rw [pailBytes_cons (by omega) (by omega)]
    exact .cons (by omega) (ih (by omega) (by omega)) fun hb => by rw [hb, pailBytes]

/-- A write inside a request area touches no response area. -/
theorem responseHits_request {n : Nat} (ha : off % 0x4000 + n ≤ 0x2000) : responseHits off n = [] := by
  refine List.filterMap_eq_nil_iff.2 fun i hi => ?_
  have := List.mem_range.1 hi
  exact if_neg (by omega)

theorem hostPailWrite_request {bytes : Bytes} (hl : portLive s port = true) (ha : off % 0x4000 + bytes.length ≤ 0x2000) :
    exec (.hostPailWrite port off bytes) s = .next (pailBytes port s off bytes) := by
  show execHostPailWrite port off bytes s = _
  rw [execHostPailWrite, responseHits_request ha]
  simp [hl]

/-! ### Bad accesses to BAR0 (R79, R96) -/

theorem portLive_main (hl : portLive s port = true) : hasMain s = true ∧ s.boot.step ≠ 0 ∧ (getPort s port).inReset = false := by
  simpa [portLive, and_assoc] using hl

theorem bar0BadAccess_reset {isWrite : Bool} (hm : hasMain s = true) (hr : (getPort s port).inReset = false) (hb : s.boot.step = 0)
    (ho : off < 0x1000) : exec (.bar0BadAccess port off isWrite) s = .next (readsZero s isWrite) := by
  show execBar0BadAccess port off isWrite s = _
  simp [execBar0BadAccess, portLive, hm, hr, hb, Nat.not_le.2 ho]

theorem bar0BadAccess_live {isWrite : Bool} (hl : portLive s port = true) (ho : off < 0x1000) :
    exec (.bar0BadAccess port off isWrite) s =
      .next (readsZero (busFault s (if isWrite then .write else .read) (portMaster port) (0x30100000 + off / 2)) isWrite) := by
  obtain ⟨hm, -, hr⟩ := portLive_main hl
  show execBar0BadAccess port off isWrite s = _
  simp [execBar0BadAccess, hl, hm, hr, Nat.not_le.2 ho]

/-- A bus fault is a record and its events: memory, the Parlour, the cells and what was last read are as they were. -/
theorem busFault_keeps (acc : AccessType) (m : BitVec 10) (a : Nat) : SameMem s (busFault s acc m a) ∧
    (busFault s acc m a).parlour = s.parlour ∧ (busFault s acc m a).cells = s.cells ∧ (busFault s acc m a).lastRead = s.lastRead := by
  refine ⟨fun x => fault_sameMem s 1 578 acc m (BitVec.ofNat 32 a) false x, ?_⟩
  obtain ⟨g, e, f, w, h⟩ := fault_frame s 1 578 acc m (BitVec.ofNat 32 a) false
  rw [busFault, h]
  exact ⟨rfl, rfl, rfl⟩

theorem busFault_first (acc : AccessType) (m : BitVec 10) (a : Nat) (h : s.flt.first = none) :
    ∃ r, (busFault s acc m a).flt.first = some r ∧ r.cls = 1 ∧ r.source = 578 ∧ r.master = m ∧ r.access = acc := by
  obtain ⟨r, hr, hcls, hsource, hacc, hm, -⟩ := fault_latched s 1 578 acc m (BitVec.ofNat 32 a) false h
  exact ⟨r, hr, hcls, hsource, hm, hacc⟩

theorem sameCellsBut_of_cells {t : State} {k : Nat} (h : t.cells = s.cells) : SameCellsBut s t k := fun j _ => by
  rw [getCell, h, getCell]

theorem readsZero_eq (isWrite : Bool) : readsZero s isWrite = { s with lastRead := if isWrite then s.lastRead else zeroWord } := by
  cases isWrite <;> rfl

/-- The word of a write's first byte, of its last byte or between them is the word of a byte of the write. -/
theorem word_of_byte {a n i : Nat} (ha : a < 0x30180000 + off / 2 ∨ 0x30180000 + (off + n - 1) / 2 < a) (hi : i < n) :
    a ≠ 0x30180000 + (off + i) / 2 := by omega

/-- Settles O20: in a request area `pailBytes` goes byte by byte (`pailBytes_written`); a bad access is one fault record, and none while
the port is not live. -/
theorem hostWriteComplete : Obligations.HostWriteComplete := by
  intro s port off bytes isWrite
  refine ⟨fun hm hr hb ho => ⟨_, bar0BadAccess_reset hm hr hb ho, rfl⟩, fun hl => ⟨fun ha hp hne => ?_, fun ho => ?_⟩⟩
  · obtain ⟨inside, outside, words, -, wrote, hflt, hcells⟩ := pailBytes_written (port := port) (s := s) ha hp
    obtain ⟨haux, hhost⟩ := wrote hne
    exact ⟨_, hostPailWrite_request hl ha, inside, outside, fun a h => words a fun i hi => word_of_byte h hi, haux, hhost, hflt,
      sameCellsBut_of_cells hcells⟩
  · refine ⟨_, bar0BadAccess_live hl ho, ?_⟩
    generalize hacc : (if isWrite then AccessType.write else .read) = acc
    obtain ⟨hmem, hparlour, hcells, hread⟩ := busFault_keeps (s := s) acc (portMaster port) (0x30100000 + off / 2)
    have hfirst := busFault_first (s := s) acc (portMaster port) (0x30100000 + off / 2)
    rw [readsZero_eq, hread]
    exact ⟨hmem, hparlour, sameCellsBut_of_cells hcells, hfirst, rfl⟩

end Sys2Proof.Machine
end

section
/-!
PROOFS. Writes of the ring's set-up registers (R80, R93): a write of a PRL_ register that reaches it is `prlWrite`, whether the supervisor
or a port makes it, and RING_EN holds the ring's base and configuration.
-/
namespace Sys2Proof.Machine

variable {s : State} {m : Master} {i : Nat} {v : BitVec 16}

/-! ### Where the PRL_ registers are -/

theorem region_prl (hi : i < 0x800) : region (0x30100000 + i) = .register := by
  rw [region, if_neg (by omega), if_neg (by omega), if_neg (by omega), if_neg (by omega), if_neg (by omega), if_neg (by omega),
    if_pos (by omega)]

theorem regBlock_prl (hi : i < 0x800) : regBlock (0x30100000 + i) = 1 := by unfold regBlock; omega
theorem regOff_prl (hi : i < 0x800) : regOff (0x30100000 + i) = i := by unfold regOff; omega

/-- The block follows no vat (R26, R34), so that no boundary and no swap makes an access to it wait. -/
theorem accessWaits_prl (hi : i < 0x800) : accessWaits s (0x30100000 + i) = false := by
  have hv : vatOf (0x30100000 + i) = none := by simp [vatOf, region_prl hi, vatInst, regBlock_prl hi]
  simp only [accessWaits, heldAt, swapHolds, hv]
  cases s.swap <;> rfl

/-! ### A write that reaches them -/

theorem regWrite_prl_allowed (hi : i < 0x800) (h : WriteAllowed s m (0x30100000 + i) false) :
    regWrite m (0x30100000 + i) (dataWord v) s = prlWrite s m (0x30100000 + i) v := by
  obtain ⟨hmain, hport, hwait, hcheck, hhole⟩ := h
  have hdest : destWrite s m (0x30100000 + i) (dataWord v) false = (.word (dataWord v), prlWrite s m (0x30100000 + i) v) := by
    simp [destWrite, hhole, region_prl hi, dataWord, writeReg, regBlock_prl hi]
  have hsecret : isSecret (dataWord v) = false := rfl
  simp [regWrite, hmain, hwait, hport, hsecret, hcheck, hdest]

theorem regWrite_prl_port (hi : i < 0x800) (hp : isPort m = true) (hl : portLive s (portOf (decide (m = 578))) = true) :
    regWrite m (0x30100000 + i) (dataWord v) s = prlWrite s m (0x30100000 + i) v := by
  obtain ⟨hmain, -, -⟩ := portLive_main hl
  have hreach : portLive s (portOf (decide (m = 578))) = true ∧ regBlock (0x30100000 + i) = 1 ∧ regOff (0x30100000 + i) < 0x800 ∧
      region (0x30100000 + i) = .register := ⟨hl, regBlock_prl hi, (regOff_prl hi).symm ▸ hi, region_prl hi⟩
  rw [regWrite, if_neg (by simp [hmain, accessWaits_prl hi]), if_pos hp, portWrite, if_pos hreach, dataWord]

theorem exec_registerWrite_prl (hi : i < 0x800) (h : WriteAllowed s m (0x30100000 + i) false ∨
      (isPort m = true ∧ portLive s (portOf (decide (m = 578))) = true)) :
    exec (.registerWrite m (BitVec.ofNat 32 (0x30100000 + i)) (dataWord v)) s = .next (prlWrite s m (0x30100000 + i) v) := by
  have haddr : (BitVec.ofNat 32 (0x30100000 + i)).toNat = 0x30100000 + i := by
    rw [BitVec.toNat_ofNat]
    omega
  show execRegisterWrite m _ _ s = _
  rw [execRegisterWrite, haddr, isRam_register (region_prl hi), if_neg Bool.false_ne_true]
  rcases h with h | ⟨hp, hl⟩
  · rw [regWrite_prl_allowed hi h]
  · rw [regWrite_prl_port hi hp hl]

/-! ### What RING_EN holds (R93) -/

theorem prlWrite_enabled (h8 : 8 ≤ i) (h14 : i < 14) (he : s.parlour.ringEn = true) : prlWrite s m (0x30100000 + i) v = s := by
  have hi : 0x30100000 + i - 0x30100000 = i := by omega
  simp [prlWrite, hi, h8, h14, he]

/-- While the ring is disabled the four words of the base, then the configuration, take what is written. -/
theorem prlWrite_disabled (hb : s.boot.step ≠ 0) (he : s.parlour.ringEn = false) :
    (i = 8 → prlWrite s m (0x30100000 + i) v = { s with parlour := { s.parlour with base := putWord64 s.parlour.base 0 (v &&& 0xFFC0) } }) ∧
    (9 ≤ i → i < 12 → prlWrite s m (0x30100000 + i) v = { s with parlour := { s.parlour with base := putWord64 s.parlour.base (i - 8) v } }) ∧
    (i = 12 → prlWrite s m (0x30100000 + i) v =
      { s with parlour := { s.parlour with ringAux := bit v 8, sizeLog2 := max 4 (min 12 (fld v 3 0)) } }) := by
  refine ⟨?_, fun h9 h12 => ?_, ?_⟩
  · rintro rfl
    simp [prlWrite, hb, he]
  · obtain rfl | rfl | rfl : i = 9 ∨ i = 10 ∨ i = 11 := by omega
    all_goals simp [prlWrite, hb, he]
  · rintro rfl
    simp [prlWrite, hb, he]

/-- Settles O53: the write reaches `prlWrite`, which RING_EN stops (`prlWrite_enabled`) or lets through (`prlWrite_disabled`). -/
theorem ringSetupWhileDisabled : Obligations.RingSetupWhileDisabled := by
  intro s m i v h8 h14 hb hallowed
  have hexec := exec_registerWrite_prl (v := v) (by omega) (hallowed.imp_right fun ⟨hp, _, hl⟩ => ⟨hp, hl⟩)
  refine ⟨fun he => ?_, fun he => ?_⟩
  · rw [Idles, hexec, prlWrite_enabled h8 h14 he]
  · obtain ⟨hlow, hbase, hcfg⟩ := prlWrite_disabled (i := i) (m := m) (v := v) hb he
    exact ⟨fun h => hexec.trans (congrArg _ (hlow h)), fun h h' => hexec.trans (congrArg _ (hbase h h')),
      fun h => hexec.trans (congrArg _ (hcfg h))⟩

end Sys2Proof.Machine
end

section
/-!
PROOFS. Responses, the completion ring and the events of the Parlour (R84, R87 to R92, R95): what a signal of MSI-X, an event, a queued
entry and a delivered response leave as they were, then the commands that are made of them.
-/
namespace Sys2Proof.Machine

variable {s : State} {port : PciePort} {p : Nat}

/-! ### Bits -/

theorem getLsbD_oneHot {w v j : Nat} (hj : j < w) : (BitVec.ofNat w (1 <<< v)).getLsbD j = decide (j = v) := by
  rw [BitVec.getLsbD_ofNat, Nat.one_shiftLeft, Nat.testBit_two_pow, decide_eq_true hj, Bool.true_and]
  exact decide_eq_decide.2 eq_comm

theorem getLsbD_or_oneHot {w j : Nat} (b : BitVec w) (hj : j < w) : (b ||| BitVec.ofNat w (1 <<< j)).getLsbD j = true := by
  rw [BitVec.getLsbD_or, getLsbD_oneHot hj, decide_eq_true rfl, Bool.or_true]

/-! ### Words in memory -/

/-- Consecutive words stand in memory where they were written, and every other word is as it was. -/
theorem readMem_writeMems (s : State) (a : Nat) (ws : List Word) (x : Nat) :
    readMem (writeMems s a ws) x = if a ≤ x ∧ x < a + ws.length then ws.getD (x - a) zeroWord else readMem s x := by
  induction ws generalizing s a with
  | nil => rw [writeMems, List.length_nil, if_neg (by omega)]
  | cons w ws ih =>
    rw [writeMems, ih, List.length_cons]
    by_cases hx : x = a
    · rw [if_neg (by omega), if_pos (by omega), hx, readMem_writeMem_same, Nat.sub_self, List.getD_cons_zero]
    · rw [readMem_writeMem_other s w hx]
      by_cases hin : a + 1 ≤ x ∧ x < a + 1 + ws.length
      · rw [if_pos hin, if_pos (by omega), show x - a = x - (a + 1) + 1 by omega, List.getD_cons_succ]
      · rw [if_neg hin, if_neg (by omega)]

/-- They change memory and nothing else. -/
theorem writeMems_frame (s : State) (a : Nat) (ws : List Word) : ∃ mem, writeMems s a ws = { s with mem := mem } := by
  induction ws generalizing s a with
  | nil => exact ⟨s.mem, rfl⟩
  | cons w ws ih =>
    obtain ⟨mem, h⟩ := ih (writeMem s a w) (a + 1)
    exact ⟨mem, h⟩

theorem sameMem_of_mem {t : State} (h : t.mem = s.mem) : SameMem s t := fun _ => by rw [readMem, readMem, h]
theorem sameRegs_of_regs {t : State} (h : t.regs = s.regs) (ws : List Nat) : SameRegsBut s t ws := fun _ _ => by rw [getReg, getReg, h]

/-! ### Signals and events (R94, R95, R560) -/

/-- Between the states lie signals of vectors alone: pending bits of ports, and messages sent. -/
def Signalled (s t : State) : Prop :=
  ∃ ports msgs, t = { s with parlour := { s.parlour with ports := ports }, sent := s.sent ++ msgs }

theorem Signalled.refl (s : State) : Signalled s s := ⟨s.parlour.ports, [], by rw [List.append_nil]⟩

theorem Signalled.trans {t u : State} (h : Signalled s t) (g : Signalled t u) : Signalled s u := by
  obtain ⟨q, l, rfl⟩ := h
  obtain ⟨q', l', rfl⟩ := g
  exact ⟨q', l ++ l', by rw [List.append_assoc]⟩

theorem signalVector_signalled (s : State) (port : PciePort) (v : Nat) : Signalled s (signalVector s port v) := by
  unfold signalVector
  dsimp only
  split
  · exact .refl s
  · split
    · exact ⟨_, [], by rw [List.append_nil]; rfl⟩
    · exact ⟨s.parlour.ports, _, rfl⟩

theorem signalBoth_signalled (s : State) : Signalled s (signalBoth s) :=
  (signalVector_signalled s .host 64).trans (signalVector_signalled _ .aux 64)

/-- An event of the Parlour is its bit and the signals of its rise (R95). -/
theorem prlEvent_frame (s : State) (i : Nat) :
    ∃ ev, Signalled { s with parlour := { s.parlour with events := ev } } (prlEvent s i) ∧ (i < 5 → ev.getLsbD i = true) := by
  unfold prlEvent
  split
  · next h => exact ⟨s.parlour.events, .refl s, fun _ => h⟩
  · refine ⟨_, ?_, getLsbD_or_oneHot s.parlour.events⟩
    dsimp only
    split
    · exact signalBoth_signalled _
    · exact .refl _

/-! ### The ring (R88 to R92) -/

theorem queueRing_room {e : RingEntry} (he : s.parlour.ringEn = true) (hl : s.parlour.held.length < 128) :
    queueRing s e = { s with parlour := { s.parlour with held := s.parlour.held ++ [e] } } := by
  simp [queueRing, he, Nat.not_le.2 hl]

/-- Between the states lies work of the Parlour alone: its registers and pails, what is sent, and what is left to firmware. -/
def Carried (s t : State) : Prop := ∃ q msgs w, t = { s with parlour := q, sent := msgs, fw := w }

theorem Carried.refl (s : State) : Carried s s := ⟨s.parlour, s.sent, s.fw, rfl⟩

theorem Carried.trans {t u : State} (h : Carried s t) (g : Carried t u) : Carried s u := by
  obtain ⟨_, _, _, rfl⟩ := h
  obtain ⟨q, msgs, w, rfl⟩ := g
  exact ⟨q, msgs, w, rfl⟩

/-- A queued or dropped entry changes no pail: it is held, or counted with its event and its signals. -/
theorem queueRing_frame (s : State) (e : RingEntry) :
    Carried s (queueRing s e) ∧ (queueRing s e).parlour.pails = s.parlour.pails := by
  unfold queueRing
  split
  · exact ⟨.refl s, rfl⟩
  · split
    · obtain ⟨ev, ⟨ports, msgs, h⟩, -⟩ := prlEvent_frame
        { s with parlour := { s.parlour with dropped := BitVec.ofNat 16 (min 0xFFFF (s.parlour.dropped.toNat + 1)) } } 3
      rw [h]
      exact ⟨⟨_, _, s.fw, rfl⟩, rfl⟩
    · exact ⟨⟨_, _, s.fw, rfl⟩, rfl⟩

theorem afterDelivery_frame (s : State) (a : After) : Carried s (afterDelivery s a) ∧ (afterDelivery s a).parlour = s.parlour := by
  cases a with
  | none => exact ⟨.refl s, rfl⟩
  | _ => exact ⟨⟨_, _, _, rfl⟩, rfl⟩

/-! ### A response is delivered (R84, R88) -/

/-- The entry of a response that is delivered. -/
def ringEntryOf (p : Nat) (d : Doorbell) (r : Response) : RingEntry :=
  { pail := p, seq := d.seq, status := r.status, respLength := 16 + r.body.length, tag := d.tag, aux := d.aux }

/-- The words of a response in its area. -/
def responseWords (s : State) (p : Nat) (d : Doorbell) (r : Response) : State :=
  writeMems s (responseBase p) ((packWords (responseBytes d.seq r)).map dataWord)

theorem readMem_responseWords (s : State) (p : Nat) (d : Doorbell) (r : Response) :
    (∀ i, i < (packWords (responseBytes d.seq r)).length → readMem (responseWords s p d r) (responseBase p + i) =
      ⟨.data, (packWords (responseBytes d.seq r)).getD i 0⟩) ∧
    (∀ a, (a < responseBase p ∨ responseBase p + (packWords (responseBytes d.seq r)).length ≤ a) →
      readMem (responseWords s p d r) a = readMem s a) := by
  unfold responseWords
  refine ⟨fun i hi => ?_, fun a ha => ?_⟩
  · rw [readMem_writeMems, List.length_map, if_pos (by omega), Nat.add_sub_cancel_left]
    exact List.getD_map _ 0 dataWord
  · rw [readMem_writeMems, List.length_map, if_neg (by omega)]

theorem responseWords_frame (s : State) (p : Nat) (d : Doorbell) (r : Response) : ∃ mem, responseWords s p d r = { s with mem := mem } :=
  writeMems_frame ..

theorem Carried.sameMem {t : State} (h : Carried s t) : SameMem s t := by
  obtain ⟨_, _, _, rfl⟩ := h
  exact fun _ => rfl

section
variable {d : Doorbell} {rest : List Doorbell} {r : Response} (hq : (getPail s p).queue = d :: rest) (hd : d.phase = .ready r)
  (hv : (getPail s p).respValid = false)
include hq hd hv

theorem deliver_ready : deliver s p = afterDelivery (queueRing (setPail (responseWords s p d r) p
    { getPail s p with queue := rest, respValid := true }) (ringEntryOf p d r)) r.after := by
  unfold deliver
  dsimp only
  split
  · next h => cases hq.symm.trans h
  · next h =>
    cases hq.symm.trans h
    split
    · next h =>
      cases hd.symm.trans h
      rw [if_neg (by rw [hv]; exact Bool.false_ne_true)]
      rfl
    · next h => exact absurd hd (h r)

theorem deliver_pail : getPail (deliver s p) p = { getPail s p with queue := rest, respValid := true } := by
  rw [deliver_ready hq hd hv, getPail, (afterDelivery_frame ..).2, (queueRing_frame ..).2]
  exact getPail_setPail_same ..

/-- Beyond the response's words, only the Parlour's part of the state changes. -/
theorem deliver_carried : Carried (responseWords s p d r) (deliver s p) := by
  rw [deliver_ready hq hd hv]
  exact .trans (.trans ⟨_, _, _, rfl⟩ (queueRing_frame ..).1) (afterDelivery_frame ..).1

theorem deliver_sameRegs : SameRegsBut s (deliver s p) [] ∧ SameCellsBut s (deliver s p) 2000 := by
  obtain ⟨_, _, _, h⟩ := deliver_carried hq hd hv
  obtain ⟨_, hwords⟩ := responseWords_frame s p d r
  rw [h, hwords]
  exact ⟨fun _ _ => rfl, fun _ _ => rfl⟩

theorem deliver_held (he : s.parlour.ringEn = true) (hl : s.parlour.held.length < 128) :
    (deliver s p).parlour.held = s.parlour.held ++ [ringEntryOf p d r] := by
  have hparlour : (responseWords s p d r).parlour = s.parlour := by
    obtain ⟨_, hwords⟩ := responseWords_frame s p d r
    rw [hwords]
  rw [deliver_ready hq hd hv, (afterDelivery_frame ..).2, queueRing_room]
  · show (responseWords s p d r).parlour.held ++ _ = _
    rw [hparlour]
  · show (responseWords s p d r).parlour.ringEn = true
    rw [hparlour, he]
  · show (responseWords s p d r).parlour.held.length < 128
    rwa [hparlour]

end

theorem exec_responseDelivery (q : Pail) : exec (.responseDelivery q) s = .next (deliver s q.val) := rfl

/-! ### An entry is written, or its write fails (R89, R90, R92) -/

/-- The state once an entry has been sent, before the vector of its pail. -/
def entrySent (s : State) (e : RingEntry) (rest : List RingEntry) : State :=
  let q := s.parlour
  let at_ := q.base + BitVec.ofNat 64 (16 * q.head)
  { send (send s (.hostWrite (ringPort s) at_ (ringBytes e q.index).1)) (.hostWrite (ringPort s) (at_ + 12) (ringBytes e q.index).2) with
    parlour := { q with held := rest, head := (q.head + 1) % 2 ^ q.sizeLog2, index := q.index + 1 } }

theorem entrySent_frame (s : State) (e : RingEntry) (rest : List RingEntry) :
    (entrySent s e rest).mem = s.mem ∧ (entrySent s e rest).regs = s.regs := by
  unfold entrySent
  exact ⟨rfl, rfl⟩

theorem exec_ringEntryWrite {e : RingEntry} {rest : List RingEntry} (hq : s.parlour.held = e :: rest) (he : s.parlour.ringEn = true)
    (hf : ringFull s = false) (hb : (getPort s (ringPort s)).busMaster = true) (hl : portLive s (ringPort s) = true) :
    ∃ t, exec .ringEntryWrite s = .next t ∧ Signalled (entrySent s e rest) t := by
  have h : execRingEntryWrite s = .next (if (getPail (entrySent s e rest) e.pail).cfg.getLsbD 7
      then signalVector (entrySent s e rest) (ringPort s) ((getPail (entrySent s e rest) e.pail).cfg.toNat % 128) else entrySent s e rest) := by
    unfold execRingEntryWrite
    dsimp only
    split
    · next h => cases hq.symm.trans h
    · next h =>
      cases hq.symm.trans h
      rw [if_neg (by simp [he, hf, hb, hl])]
      rfl
  refine ⟨_, h, ?_⟩
  split
  · exact signalVector_signalled ..
  · exact .refl _

/-! ### A fault record takes back no event that waits -/

theorem latchFault_pend (r : FaultRec) {n : Nat} (h : s.evc.pend.getLsbD n = true) : (latchFault s r).evc.pend.getLsbD n = true := by
  have hc : (countReg s (R.FLT_CLASS_COUNT (r.cls - 1)) 0xFFFF).evc.pend.getLsbD n = true := h
  unfold latchFault
  dsimp only
  generalize countReg s (R.FLT_CLASS_COUNT (r.cls - 1)) 0xFFFF = u at hc
  split
  · exact raise_keeps _ _ _ hc
  · split
    · exact raise_keeps _ _ _ hc
    · exact hc

theorem stormCount_pend {n : Nat} (h : s.evc.pend.getLsbD n = true) : (stormCount s).evc.pend.getLsbD n = true := by
  unfold stormCount
  dsimp only
  generalize (if s.flt.tick = msTick s then s.flt.inTick + 1 else 1) = k
  split
  · exact raise_keeps _ _ _ h
  · exact h

theorem countVatFault_evc (source : Nat) (m : BitVec 10) : (countVatFault s source m).evc = s.evc := by
  obtain ⟨w, h⟩ := countVatFault_frame s source m
  rw [h]

theorem fault_pend (cls source : Nat) (acc : AccessType) (m : BitVec 10) (a : BitVec 32) (posted : Bool) {n : Nat}
    (h : s.evc.pend.getLsbD n = true) : (fault s cls source acc m a posted).evc.pend.getLsbD n = true := by
  have hcount (r : FaultRec) : (countVatFault (stormCount (latchFault s r)) source m).evc.pend.getLsbD n = true := by
    rw [countVatFault_evc]
    exact stormCount_pend (latchFault_pend r h)
  unfold fault
  dsimp only
  split
  · exact raise_keeps _ _ _ (hcount _)
  · exact hcount _

/-- The state once the failed write has been noted, before its fault record. -/
def ringStopped (s : State) : State :=
  let t := prlEvent { s with parlour := { s.parlour with ringErr := true } } 1
  raise { t with parlour := { t.parlour with ringEn := false, held := [] } } 610

theorem ringStopped_parlour (s : State) : (ringStopped s).parlour.ringEn = false ∧ (ringStopped s).parlour.ringErr = true ∧
    (ringStopped s).parlour.held = [] ∧ (ringStopped s).parlour.events.getLsbD 1 = true ∧ SameMem s (ringStopped s) := by
  obtain ⟨ev, ⟨ports, msgs, h⟩, hev⟩ := prlEvent_frame { s with parlour := { s.parlour with ringErr := true } } 1
  rw [ringStopped, h]
  exact ⟨rfl, rfl, rfl, hev (by decide), fun _ => rfl⟩

theorem ringStopped_pend (s : State) : (ringStopped s).evc.pend.getLsbD 610 = true := by
  unfold ringStopped
  exact raise_pend _ 610 (by decide)

/-- The record that follows leaves the Parlour and the event as they are. -/
theorem ringStopped_fault (s : State) (m : BitVec 10) :
    (fault (ringStopped s) 2 610 .dma m 0).parlour = (ringStopped s).parlour ∧
      (fault (ringStopped s) 2 610 .dma m 0).evc.pend.getLsbD 610 = true ∧ SameMem (ringStopped s) (fault (ringStopped s) 2 610 .dma m 0) := by
  refine ⟨?_, fault_pend _ _ _ _ _ _ (ringStopped_pend s), fault_sameMem _ _ _ _ _ _ _⟩
  obtain ⟨_, _, _, _, h⟩ := fault_frame (ringStopped s) 2 610 .dma m 0 false
  rw [h]

theorem exec_ringWriteError (hm : hasMain s = true) :
    exec .ringWriteError s = .next (fault (ringStopped s) 2 610 .dma (portMaster (ringPort s)) 0) := by
  show execRingWriteError s = _
  rw [execRingWriteError, hm]
  rfl

/-! ### Registers of the ring and the pails (R85, R87, R90, R92, R95) -/

theorem exec_respDone (q : Pail) (hb : s.boot.step ≠ 0) : exec (.respDone q) s = .next (respDone s q.val) := by
  show execRespDone q s = _
  rw [execRespDone, if_neg hb]

theorem exec_clrOverflow (q : Pail) (hb : s.boot.step ≠ 0) : exec (.clrOverflow q) s = .next (clrOverflow s q.val) := by
  show execClrOverflow q s = _
  rw [execClrOverflow, if_neg hb]

theorem exec_ringEn (b : Bool) (hb : s.boot.step ≠ 0) : exec (.ringEn b) s = .next (setRingEn s b) := by
  show execRingEn b s = _
  rw [execRingEn, if_neg hb]

theorem exec_statusIntEn (b : Bool) (hb : s.boot.step ≠ 0) : exec (.statusIntEn b) s = .next (setStatusInt s b) := by
  show execStatusIntEn b s = _
  rw [execStatusIntEn, if_neg hb]

theorem exec_prlRingTail (v : BitVec 32) (hb : s.boot.step ≠ 0) : exec (.prlRingTail v) s = .next (setRingTail s (v.toNat % 4096)) := by
  show execPrlRingTail v s = _
  rw [execPrlRingTail, if_neg hb]

theorem respDone_valid (h : (getPail s p).respValid = true) :
    respDone s p = raise (setPail s p { getPail s p with respValid := false }) 609 := by
  rw [respDone, if_pos h, modPail]

theorem setRingEn_rise (h : s.parlour.ringEn = false) : setRingEn s true =
    { s with parlour := { s.parlour with ringEn := true, head := 0, tail := 0, index := 0, ringErr := false } } := by
  simp [setRingEn, h]

theorem setRingEn_fall : setRingEn s false = { s with parlour := { s.parlour with ringEn := false, held := [] } } := by
  simp [setRingEn]

theorem setStatusInt_signalled (s : State) (b : Bool) :
    Signalled { s with parlour := { s.parlour with statusIntEn := b } } (setStatusInt s b) := by
  unfold setStatusInt
  dsimp only
  split
  · exact signalBoth_signalled _
  · exact .refl _

theorem setRingTail_tail (s : State) (v : Nat) :
    (setRingTail s v).parlour = { s.parlour with tail := v % 2 ^ s.parlour.sizeLog2 } := by
  unfold setRingTail
  dsimp only
  split <;> rfl

theorem setRingTail_event (v : Nat) (h : s.parlour.held ≠ []) : (setRingTail s v).evc.pend.getLsbD 610 = true := by
  unfold setRingTail
  dsimp only
  rw [if_neg h]
  exact raise_pend _ 610 (by decide)

/-- Settles O21: a delivery is the response's words and then the Parlour's work (`deliver_carried`), an entry's write two messages and then
at most a signal, and each register write one equation. -/
theorem responseRingComplete : Obligations.ResponseRingComplete := by
  intro s p value
  refine ⟨fun d rest r hq hd hv => ⟨_, exec_responseDelivery p, ?_⟩, fun e rest hq he hf hbm hl => ?_, fun hm => ⟨_, exec_ringWriteError hm, ?_⟩, fun hb =>
    ⟨fun hv => ⟨_, exec_respDone p hb, ?_⟩, ⟨_, exec_clrOverflow p hb, getPail_setPail_same .., sameMem_of_mem rfl, rfl⟩,
      fun he => ⟨_, exec_ringEn true hb, ?_⟩, ⟨_, exec_ringEn false hb, ?_⟩, fun b => ⟨_, exec_statusIntEn b hb, ?_⟩,
      ⟨_, exec_prlRingTail value hb, ?_⟩⟩⟩
  · obtain ⟨hinside, houtside⟩ := readMem_responseWords s p.val d r
    have hmem := (deliver_carried hq hd hv).sameMem
    obtain ⟨hregs, hcells⟩ := deliver_sameRegs hq hd hv
    exact ⟨deliver_pail hq hd hv, fun i hi => (hmem _).trans (hinside i hi), fun a ha => (hmem a).trans (houtside a ha),
      deliver_held hq hd hv, hregs, hcells⟩
  · obtain ⟨t, ht, ports, msgs, rfl⟩ := exec_ringEntryWrite hq he hf hbm hl
    obtain ⟨hmem, hregs⟩ := entrySent_frame s e rest
    refine ⟨_, ht, rfl, rfl, rfl, ?_, ?_, sameMem_of_mem hmem, sameRegs_of_regs hregs _⟩
    · simp [entrySent, send, ringBytes]
    · simp [entrySent, send, ringBytes]
  · obtain ⟨hen, herr, hheld, hevent, hmem⟩ := ringStopped_parlour s
    obtain ⟨hparlour, hpend, hsame⟩ := ringStopped_fault s (portMaster (ringPort s))
    rw [hparlour]
    exact ⟨hen, herr, hheld, hevent, hpend, fun a => (hsame a).trans (hmem a)⟩
  · rw [respDone_valid hv]
    exact ⟨getPail_setPail_same .., raise_pend _ 609 (by decide), fun _ => rfl⟩
  · rw [setRingEn_rise he]
    exact ⟨rfl, rfl, rfl, rfl, rfl⟩
  · rw [setRingEn_fall]
    exact ⟨rfl, rfl⟩
  · obtain ⟨_, _, h⟩ := setStatusInt_signalled s b
    rw [h]
    exact ⟨rfl, rfl, fun _ => rfl⟩
  · dsimp only
    rw [setRingTail_tail]
    exact ⟨rfl, rfl, setRingTail_event _⟩

end Sys2Proof.Machine
end

section
/-!
PROOFS. The ports' own commands (R77, R78, R94, R96, R401, R550, R560): what sending the vectors that wait leaves as it was and which it
sends, and a port's reset with what it fails on the channels of DMA.
-/
namespace Sys2Proof.Machine

variable {s t u : State} {port : PciePort}

/-! ### Bits of a vector set -/

theorem getLsbD_clearVec (b : BitVec 65) (v : Nat) {j : Nat} (hj : j < 65) : (clearVec b v).getLsbD j = (b.getLsbD j && decide (j ≠ v)) := by
  have h : (clearVec b v).getLsbD j = (b.getLsbD j && (decide (j < 65) && !(BitVec.ofNat 65 (1 <<< v)).getLsbD j)) := by
    rw [← BitVec.getLsbD_not, ← BitVec.getLsbD_and]
    rfl
  rw [h, getLsbD_oneHot hj, decide_eq_true hj, Bool.true_and, decide_not]

theorem clearVec_same (b : BitVec 65) {v : Nat} (hv : v < 65) : (clearVec b v).getLsbD v = false := by
  simp [getLsbD_clearVec b v hv]

/-! ### A port's configuration -/

@[simp] theorem getPort_setPort_same (s : State) (port : PciePort) (c : PortCfg) : getPort (setPort s port c) port = c :=
  tget_tset_same ..

/-! ### Vectors that wait are sent (R94, R560) -/

/-- Send a vector if it waits and nothing masks it. -/
def sendDue (port : PciePort) (s : State) (v : Nat) : State :=
  let c := getPort s port
  if c.pend.getLsbD v ∧ c.masked.getLsbD v = false ∧ c.functionMask = false ∧ c.msixEnable = true ∧ c.busMaster = true then
    sendVector (setPort s port { c with pend := clearVec c.pend v }) port v
  else s

theorem sendPending_eq (s : State) (port : PciePort) : sendPending s port = (List.range 65).foldl (sendDue port) s := rfl

/-- Between the states, a port has sent vectors that waited: of its configuration only pending bits have been cleared. -/
structure VectorsSent (port : PciePort) (s t : State) : Prop where
  config : getPort t port = { getPort s port with pend := (getPort t port).pend }
  cleared : ∀ v, v < 65 → (getPort s port).pend.getLsbD v = false → (getPort t port).pend.getLsbD v = false
  mem : t.mem = s.mem
  sent : ∀ m ∈ s.sent, m ∈ t.sent

theorem VectorsSent.refl (port : PciePort) (s : State) : VectorsSent port s s := ⟨rfl, fun _ _ => id, rfl, fun _ => id⟩

theorem VectorsSent.trans (h : VectorsSent port s t) (g : VectorsSent port t u) : VectorsSent port s u where
  config := by rw [g.config, h.config]
  cleared v hv := g.cleared v hv ∘ h.cleared v hv
  mem := g.mem.trans h.mem
  sent m := g.sent m ∘ h.sent m

/-- The state in which a vector has just been sent. -/
def vectorGone (s : State) (port : PciePort) (v : Nat) : State :=
  let c := getPort s port
  send (setPort s port { c with pend := clearVec c.pend v }) (.msix port v (vectorMessage c v).1 (vectorMessage c v).2)

theorem getPort_vectorGone (s : State) (port : PciePort) (v : Nat) :
    getPort (vectorGone s port v) port = { getPort s port with pend := clearVec (getPort s port).pend v } :=
  getPort_setPort_same ..

theorem vectorGone_sent (s : State) (port : PciePort) (v : Nat) : (vectorGone s port v).sent =
    s.sent ++ [.msix port v (vectorMessage (getPort s port) v).1 (vectorMessage (getPort s port) v).2] := rfl

theorem sendVector_cleared (s : State) (port : PciePort) (v : Nat) :
    sendVector (setPort s port { getPort s port with pend := clearVec (getPort s port).pend v }) port v = vectorGone s port v := by
  unfold sendVector
  rw [getPort_setPort_same]
  rfl

theorem vectorGone_vectorsSent (s : State) (port : PciePort) (v : Nat) : VectorsSent port s (vectorGone s port v) where
  config := by rw [getPort_vectorGone]
  cleared j hj h := by rw [getPort_vectorGone, getLsbD_clearVec _ _ hj, h, Bool.false_and]
  mem := rfl
  sent m hm := by
    rw [vectorGone_sent]
    exact List.mem_append_left _ hm

/-- Nothing masks a vector, and the port may send. -/
def Unmasked (c : PortCfg) (v : Nat) : Prop :=
  c.masked.getLsbD v = false ∧ c.functionMask = false ∧ c.msixEnable = true ∧ c.busMaster = true

theorem sendDue_cases (s : State) (port : PciePort) (v : Nat) :
    sendDue port s v = s ∨ sendDue port s v = vectorGone s port v := by
  unfold sendDue
  dsimp only
  split
  · exact .inr (sendVector_cleared s port v)
  · exact .inl rfl

theorem sendDue_due {v : Nat} (hp : (getPort s port).pend.getLsbD v = true) (hu : Unmasked (getPort s port) v) :
    sendDue port s v = vectorGone s port v := by
  unfold sendDue
  dsimp only
  rw [if_pos ⟨hp, hu⟩, sendVector_cleared]

theorem sendDue_vectorsSent (s : State) (port : PciePort) (v : Nat) : VectorsSent port s (sendDue port s v) := by
  obtain h | h := sendDue_cases s port v <;> rw [h]
  · exact .refl port s
  · exact vectorGone_vectorsSent s port v

theorem sendDues_vectorsSent (l : List Nat) : VectorsSent port s (l.foldl (sendDue port) s) := by
  induction l generalizing s with
  | nil => exact .refl port s
  | cons v l ih => exact (sendDue_vectorsSent s port v).trans ih

theorem sendPending_vectorsSent (s : State) (port : PciePort) : VectorsSent port s (sendPending s port) :=
  sendPending_eq s port ▸ sendDues_vectorsSent _

/-- The vector has been sent, with the address and data of its entry, and waits no longer. -/
def HasSent (port : PciePort) (c : PortCfg) (v : Nat) (t : State) : Prop :=
  (getPort t port).pend.getLsbD v = false ∧ .msix port v (vectorMessage c v).1 (vectorMessage c v).2 ∈ t.sent

theorem VectorsSent.hasSent {c : PortCfg} {v : Nat} (hv : v < 65) (h : VectorsSent port s t) (g : HasSent port c v s) : HasSent port c v t :=
  ⟨h.cleared v hv g.1, h.sent _ g.2⟩

theorem VectorsSent.unmasked {v : Nat} (h : VectorsSent port s t) (hu : Unmasked (getPort s port) v) : Unmasked (getPort t port) v := by
  rw [h.config]
  exact hu

theorem VectorsSent.message (h : VectorsSent port s t) (v : Nat) : vectorMessage (getPort t port) v = vectorMessage (getPort s port) v := by
  rw [h.config]
  rfl

theorem vectorGone_hasSent (s : State) (port : PciePort) {v : Nat} (hv : v < 65) : HasSent port (getPort s port) v (vectorGone s port v) := by
  refine ⟨?_, ?_⟩
  · rw [getPort_vectorGone]
    exact clearVec_same _ hv
  · rw [vectorGone_sent]
    exact List.mem_append_right _ (List.mem_singleton_self _)

/-- A vector of the list that waits unmasked is sent when its turn comes; the turns before it leave it as it is or are its own. -/
theorem sendDues_hasSent {v : Nat} (hv : v < 65) (l : List Nat) (hl : v ∈ l) (hp : (getPort s port).pend.getLsbD v = true)
    (hu : Unmasked (getPort s port) v) : HasSent port (getPort s port) v (l.foldl (sendDue port) s) := by
  induction l generalizing s with
  | nil => cases hl
  | cons w l ih =>
    rw [List.foldl_cons]
    by_cases hw : w = v
    · rw [hw, sendDue_due hp hu]
      exact (sendDues_vectorsSent l).hasSent hv (vectorGone_hasSent s port hv)
    · have hsent := sendDue_vectorsSent s port w
      have hstill : (getPort (sendDue port s w) port).pend.getLsbD v = true := by
        obtain h | h := sendDue_cases s port w <;> rw [h]
        · exact hp
        · rw [getPort_vectorGone]
          simp [getLsbD_clearVec _ _ hv, hp, Ne.symm hw]
      have := ih ((List.mem_cons.1 hl).resolve_left (Ne.symm hw)) hstill (hsent.unmasked hu)
      rwa [HasSent, hsent.message] at this

theorem sendPending_hasSent {v : Nat} (hv : v < 65) (hp : (getPort s port).pend.getLsbD v = true) (hu : Unmasked (getPort s port) v) :
    HasSent port (getPort s port) v (sendPending s port) :=
  sendPending_eq s port ▸ sendDues_hasSent hv _ (List.mem_range.2 hv) hp hu

/-! ### Writes of a port's configuration (R77 to R79, R560) -/

theorem exec_configurationSpaceWrite (hm : hasMain s = true) (hr : (getPort s port).inReset = false) :
    (∀ b, exec (.configurationSpaceWrite port (.busMaster b)) s =
      .next (sendPending (setPort s port { getPort s port with busMaster := b }) port)) ∧
    (∀ b, exec (.configurationSpaceWrite port (.msixEnable b)) s =
      .next (sendPending (setPort s port { getPort s port with msixEnable := b }) port)) ∧
    (∀ b, exec (.configurationSpaceWrite port (.functionMask b)) s =
      .next (sendPending (setPort s port { getPort s port with functionMask := b }) port)) ∧
    (∀ (i : Fin 65) (b : Bool), exec (.configurationSpaceWrite port (.vectorMask i b)) s = .next (sendPending (setPort s port { getPort s port with
      masked := if b then (getPort s port).masked ||| BitVec.ofNat 65 (1 <<< i.val) else clearVec (getPort s port).masked i.val }) port)) ∧
    (∀ a, exec (.configurationSpaceWrite port (.bar false a)) s =
      .next (setPort s port { getPort s port with bar0 := a &&& 0xFFFFFFFFFFFFE000 })) ∧
    (∀ a, exec (.configurationSpaceWrite port (.bar true a)) s =
      .next (setPort s port { getPort s port with bar2 := a &&& 0xFFFFFFFFFFF00000 })) ∧
    (∀ b, exec (.configurationSpaceWrite port (.aspmL1 b)) s = .next (setPort s port { getPort s port with aspmL1 := b })) ∧
    (∀ (i : Fin 65) (a : BitVec 64) (d : BitVec 32), exec (.configurationSpaceWrite port (.vectorMessage i a d)) s =
      .next (setPort s port { getPort s port with message := tset (fun _ => (0, 0)) (getPort s port).message i.val (a, d) })) := by
  have hgo : ¬((getPort s port).inReset = true ∨ hasMain s = false) := by simp [hm, hr]
  refine ⟨fun _ => if_neg hgo, fun _ => if_neg hgo, fun _ => if_neg hgo, fun _ _ => if_neg hgo, fun _ => if_neg hgo, fun _ => if_neg hgo,
    fun _ => if_neg hgo, fun _ _ _ => if_neg hgo⟩

theorem exec_msixUnmask (hm : hasMain s = true) (hr : (getPort s port).inReset = false) :
    (∀ i : Fin 65, exec (.msixUnmask port (some i)) s =
      .next (sendPending (setPort s port { getPort s port with masked := clearVec (getPort s port).masked i.val }) port)) ∧
    exec (.msixUnmask port none) s = .next (sendPending (setPort s port { getPort s port with functionMask := false }) port) := by
  have hgo : ¬((getPort s port).inReset = true ∨ hasMain s = false) := by simp [hm, hr]
  exact ⟨fun _ => if_neg hgo, if_neg hgo⟩

/-- After a write that lets vectors be sent, whatever pending bits are no part of is as it was written, and RAM is as it was. -/
theorem sendPending_config {α : Type} {c : PortCfg} (f : PortCfg → α) (hf : ∀ pd, f { c with pend := pd } = f c) :
    f (getPort (sendPending (setPort s port c) port) port) = f c ∧ SameMem s (sendPending (setPort s port c) port) := by
  obtain ⟨hconfig, -, hmem, -⟩ := sendPending_vectorsSent (setPort s port c) port
  rw [getPort_setPort_same] at hconfig
  exact ⟨(congrArg f hconfig).trans (hf _), sameMem_of_mem hmem⟩

theorem sendPending_unmasks {c : PortCfg} {v : Nat} (hv : v < 65) (hp : c.pend.getLsbD v = true) (hu : Unmasked c v) :
    HasSent port c v (sendPending (setPort s port c) port) := by
  have h := sendPending_hasSent (s := setPort s port c) (port := port) hv
  rw [getPort_setPort_same] at h
  exact h hp hu

/-! ### The reset of a port (R96, R401) -/

/-- Between the states, channels of DMA have failed: RAM, the cores, the Parlour, the power and the mode are as they were. -/
structure ChannelsFailed (s t : State) : Prop where
  mem : t.mem = s.mem
  cells : t.cells = s.cells
  parlour : t.parlour = s.parlour
  ext : t.ext = s.ext
  mode : getReg t R.PWR_MODE = getReg s R.PWR_MODE

theorem ChannelsFailed.refl (s : State) : ChannelsFailed s s := ⟨rfl, rfl, rfl, rfl, rfl⟩

theorem ChannelsFailed.trans (h : ChannelsFailed s t) (g : ChannelsFailed t u) : ChannelsFailed s u :=
  ⟨g.mem.trans h.mem, g.cells.trans h.cells, g.parlour.trans h.parlour, g.ext.trans h.ext, g.mode.trans h.mode⟩

theorem latchFault_regs (r : FaultRec) : (latchFault s r).regs = (countReg s (R.FLT_CLASS_COUNT (r.cls - 1)) 0xFFFF).regs := by
  unfold latchFault
  dsimp only
  split
  · rfl
  · split <;> rfl

/-- Of the registers a record changes the count of its class alone. -/
theorem fault_getReg_other (cls source : Nat) (acc : AccessType) (m : BitVec 10) (a : BitVec 32) (posted : Bool) {x : Nat}
    (hx : x ≠ R.FLT_CLASS_COUNT (cls - 1)) : getReg (fault s cls source acc m a posted) x = getReg s x := by
  have hcount (r : FaultRec) : (countVatFault (stormCount (latchFault s r)) source m).regs = (latchFault s r).regs := by
    obtain ⟨_, _, hstorm⟩ := stormCount_frame (latchFault s r)
    obtain ⟨_, hvat⟩ := countVatFault_frame (stormCount (latchFault s r)) source m
    rw [hvat, hstorm]
  have hregs : (fault s cls source acc m a posted).regs = (countReg s (R.FLT_CLASS_COUNT (cls - 1)) 0xFFFF).regs := by
    unfold fault
    dsimp only
    split
    · exact (hcount _).trans (latchFault_regs _)
    · exact (hcount _).trans (latchFault_regs _)
  rw [getReg, hregs]
  exact getReg_countReg_other s 0xFFFF hx

theorem fault_channelsFailed (s : State) (source : Nat) (acc : AccessType) (m : BitVec 10) (a : BitVec 32) :
    ChannelsFailed s (fault s 2 source acc m a) := by
  have hmode := fault_getReg_other (s := s) 2 source acc m a false (x := R.PWR_MODE) (by decide)
  obtain ⟨_, _, _, _, h⟩ := fault_frame s 2 source acc m a false
  rw [h] at hmode ⊢
  exact ⟨rfl, rfl, rfl, rfl, hmode⟩

theorem modDma_channelsFailed (s : State) (c : Nat) (f : Dma → Dma) : ChannelsFailed s (modDma s c f) := ⟨rfl, rfl, rfl, rfl, rfl⟩

theorem dmaEvent_channelsFailed (s : State) (c i : Nat) : ChannelsFailed s (dmaEvent s c i) := by
  have hmode := eventBit_getReg_other s (w := R.DMA_CH_EVENT c) (x := R.PWR_MODE) i (256 + c) (by unfold R.PWR_MODE R.DMA_CH_EVENT; omega)
  obtain ⟨_, _, h⟩ := eventBit_frame s (R.DMA_CH_EVENT c) i (256 + c)
  unfold dmaEvent
  rw [h] at hmode ⊢
  exact ⟨rfl, rfl, rfl, rfl, hmode⟩

theorem dmaHalt_channelsFailed (s : State) (c : Nat) : ChannelsFailed s (dmaHalt s c) :=
  (modDma_channelsFailed ..).trans (dmaEvent_channelsFailed ..)

/-- A failure with HOST is no mismatch of the integrity code, so that no tamper source fires, and no refusal of the access table. -/
theorem mismatchFires_host (s : State) (a : Nat) : mismatchFires s ⟨dHOST, a, none⟩ = s :=
  if_neg (show dHOST ≠ dINTEGRITY by decide)

theorem dmaRecord_channelsFailed (s : State) (c a : Nat) : ChannelsFailed s (dmaRecord s c ⟨dHOST, a, none⟩) := fault_channelsFailed ..

theorem fetchFails_channelsFailed (s : State) (c a : Nat) : ChannelsFailed s (fetchFails s c ⟨dHOST, a, none⟩) := by
  rw [fetchFails, mismatchFires_host]
  exact ((dmaRecord_channelsFailed ..).trans (modDma_channelsFailed ..)).trans (dmaHalt_channelsFailed ..)

theorem beginWriteBack_channelsFailed (s : State) (c code element : Nat) (dstSide : Bool) (residue : Nat) :
    ChannelsFailed s (beginWriteBack s c code element dstSide residue) := ⟨rfl, rfl, rfl, rfl, rfl⟩

theorem burstFails_channelsFailed (s : State) (c a element : Nat) (dstSide : Bool) (residue : Nat) :
    ChannelsFailed s (burstFails s c ⟨dHOST, a, none⟩ element dstSide residue) := by
  rw [burstFails, mismatchFires_host]
  exact (dmaRecord_channelsFailed ..).trans (beginWriteBack_channelsFailed ..)

theorem writeBackFails_channelsFailed (s : State) (c a : Nat) : ChannelsFailed s (writeBackFails s c ⟨dHOST, a, none⟩) := by
  rw [writeBackFails, mismatchFires_host]
  exact (((dmaRecord_channelsFailed ..).trans (modDma_channelsFailed ..)).trans (dmaHalt_channelsFailed ..)).trans (dmaEvent_channelsFailed ..)

theorem ChannelsFailed.ite {c : Prop} [Decidable c] (h : ChannelsFailed s t) (g : ChannelsFailed s u) :
    ChannelsFailed s (if c then t else u) := by
  split
  exacts [h, g]

theorem dmaPortFails_channelsFailed (s : State) (port c : Nat) : ChannelsFailed s (dmaPortFails s port c) := by
  unfold dmaPortFails
  extract_lets x
  have hx : ChannelsFailed s x := by
    unfold x
    split
    · exact (fetchFails_channelsFailed ..).ite (.refl s)
    · exact (burstFails_channelsFailed ..).ite (.refl s)
    · exact .refl s
  clear_value x
  split
  · exact hx.trans ((writeBackFails_channelsFailed ..).ite (.refl x))
  · exact hx

theorem dmaPortsFail_channelsFailed (port : Nat) (l : List Nat) : ChannelsFailed s (l.foldl (fun s c => dmaPortFails s port c) s) := by
  induction l generalizing s with
  | nil => exact .refl s
  | cons c l ih => exact (dmaPortFails_channelsFailed s port c).trans ih

theorem resetPort_resets (hm : hasMain s = true) : getPort (resetPort s port) port = { portReset 0 with inReset := true } ∧
    (ringPort s = port → (resetPort s port).parlour.ringEn = false ∧ (resetPort s port).parlour.held = []) ∧
    (resetPort s port).mem = s.mem ∧ (resetPort s port).cells = s.cells ∧ (resetPort s port).regs = s.regs := by
  have hring : ringPort (setPort s port { portReset 0 with inReset := true }) = ringPort s := rfl
  have hset := getPort_setPort_same s port { portReset 0 with inReset := true }
  unfold resetPort
  simp only [hm, Bool.not_true, Bool.false_eq_true, if_false, hring]
  split
  · exact ⟨hset, fun _ => ⟨rfl, rfl⟩, rfl, rfl, rfl⟩
  · next h => exact ⟨hset, fun hp => absurd hp h, rfl, rfl, rfl⟩

/-- A reset of a port fails what the channels have pending there, then clears the port. -/
theorem portResets_resets (hm : hasMain s = true) : getPort (portResets s port) port = { portReset 0 with inReset := true } ∧
    (ringPort s = port → (portResets s port).parlour.ringEn = false ∧ (portResets s port).parlour.held = []) ∧
    SameMem s (portResets s port) ∧ SameCellsBut s (portResets s port) 2000 ∧ mode (portResets s port) = mode s := by
  have hf := dmaPortsFail_channelsFailed (s := s) (portKey port) (List.range 64)
  unfold portResets
  rw [if_pos hm]
  generalize (List.range 64).foldl (fun s c => dmaPortFails s (portKey port) c) s = t at hf
  obtain ⟨hport, hstops, hmem, hcells, hregs⟩ := resetPort_resets (s := t) (port := port) (by rw [hasMain, hf.ext]; exact hm)
  refine ⟨hport, fun h => hstops (by rw [ringPort, hf.parlour]; exact h), sameMem_of_mem (hmem.trans hf.mem),
    sameCellsBut_of_cells (hcells.trans hf.cells), ?_⟩
  rw [Machine.mode, getFld, getReg, hregs]
  exact congrArg (fld · 3 0) hf.mode

/-! ### The ports' commands -/

theorem exec_pcieResetEnd (hr : (getPort s port).inReset = true) :
    exec (.pcieResetEnd port) s = .next (raise (setPort s port { getPort s port with inReset := false }) 611) := if_pos hr

theorem exec_bmcSidebandWrite (hm : hasMain s = true) : exec .bmcSidebandWrite s = .next (raise s 614) := congrArg _ (if_pos hm)
theorem exec_uartReceive (b : Byte) (hm : hasMain s = true) : exec (.uartReceive b) s = .next (raise s 615) := congrArg _ (if_pos hm)

/-- Settles O22: a reset is `portResets_resets`; a write of the configuration is what it writes, then `sendPending`, which changes pending
bits alone (`sendPending_config`) and sends a vector that has become unmasked (`sendPending_unmasks`). -/
theorem portComplete : Obligations.PortComplete := by
  intro s port c hm
  refine ⟨⟨_, rfl, portResets_resets hm⟩, ⟨_, rfl, portResets_resets hm⟩,
    fun hr => ⟨_, exec_pcieResetEnd hr, getPort_setPort_same .., raise_pend _ 611 (by decide)⟩, fun hr => ?_,
    ⟨_, exec_bmcSidebandWrite hm, rfl, raise_pend _ 614 (by decide)⟩, fun b => ⟨_, exec_uartReceive b hm, rfl, raise_pend _ 615 (by decide)⟩⟩
  obtain ⟨hmaster, henable, hmask, hvector, hbar0, hbar2, haspm, hmessage⟩ := exec_configurationSpaceWrite hm hr
  obtain ⟨hunmask, hunmaskAll⟩ := exec_msixUnmask hm hr
  refine ⟨fun b => ⟨_, hmaster b, sendPending_config (·.busMaster) fun _ => rfl⟩,
    fun b => ⟨_, henable b, sendPending_config (·.msixEnable) fun _ => rfl⟩, fun b => ⟨_, hmask b, sendPending_config (·.functionMask) fun _ => rfl⟩, fun i b => ⟨_, hvector i b, ?_⟩,
    fun i hb he hf hp => ⟨_, hunmask i, ?_⟩, fun i hb he hk hp => ⟨_, hunmaskAll, ?_⟩, fun a => ⟨_, hbar0 a, getPort_setPort_same ..⟩,
    fun a => ⟨_, hbar2 a, getPort_setPort_same ..⟩, fun b => ⟨_, haspm b, getPort_setPort_same ..⟩, fun i a d => ⟨_, hmessage i a d, ?_⟩⟩
  · refine (sendPending_config (·.masked) fun _ => rfl).imp_left fun hmasked => (congrArg (BitVec.getLsbD · i.val) hmasked).trans ?_
    cases b
    · exact clearVec_same _ i.isLt
    · exact getLsbD_or_oneHot _ i.isLt
  · have hclear := clearVec_same c.masked i.isLt
    obtain ⟨hmasked, -⟩ := sendPending_config (s := s) (port := port) (c := { c with masked := clearVec c.masked i.val }) (·.masked) fun _ => rfl
    obtain ⟨hpend, hsent⟩ := sendPending_unmasks (s := s) (port := port) (c := { c with masked := clearVec c.masked i.val }) i.isLt hp
      ⟨hclear, hf, he, hb⟩
    exact ⟨hpend, (congrArg (BitVec.getLsbD · i.val) hmasked).trans hclear, hsent⟩
  · obtain ⟨hmask, -⟩ := sendPending_config (s := s) (port := port) (c := { c with functionMask := false }) (·.functionMask) fun _ => rfl
    obtain ⟨hpend, hsent⟩ := sendPending_unmasks (s := s) (port := port) (c := { c with functionMask := false }) i.isLt hp ⟨hk, rfl, he, hb⟩
    exact ⟨hpend, hmask, hsent⟩
  · dsimp only
    rw [getPort_setPort_same]
    exact ⟨tget_tset_same .., sameMem_of_mem rfl⟩

end Sys2Proof.Machine
end

section
/-!
PROOFS. The Parlour's supervisor side (R83, R86): what taking the oldest doorbell's request does when the checks of R86 refuse it and
when they take it on, and a port's read of the count of dropped entries (R6).
-/
namespace Sys2Proof.Machine

variable {s : State} {p : Nat} {d : Doorbell}

/-! ### The copy of a request, and its pail (R83, R86) -/

/-- The pail's request area is free for another request. -/
def freedPail (v : PailState) : PailState := { v with reqHeld := false, writerAux := false, writerHost := false }

/-- The state with the event of the pail cleared and its request area freed, in which the copy is checked. -/
def requestFreed (s : State) (p : Nat) : State := setPail (clearPail s p) p (freedPail (getPail s p))

/-- The copy of a doorbell's request. -/
def requestCopy (s : State) (p : Nat) (d : Doorbell) : Bytes :=
  (unpackWords (readMems s (requestBase p) ((d.length + 1) / 2))).take d.length

/-- A change of the doorbell with a sequence number. -/
def modBell (s : State) (p : Nat) (seq : BitVec 16) (f : Doorbell → Doorbell) : State :=
  modPail s p fun v => { v with queue := changeFirst (fun x => decide (x.seq = seq)) f v.queue }

/-- What completing a request makes of its doorbell. -/
def answeredWith (resp : Response) (x : Doorbell) : Doorbell := { x with phase := .ready resp }

/-- What accepting a request makes of its doorbell. -/
def takenOn (r : Request) (n : Nat) (x : Doorbell) : Doorbell := { x with phase := .taken r, part := some r.part, order := n }

/-- The state with a request taken on, next in the order of taking, its authority consumed. -/
def requestTaken (s : State) (p : Nat) (d : Doorbell) (r : Request) : State :=
  let t := modBell (consume (requestFreed s p) r.part r.auth) p d.seq (takenOn r s.fw.taken)
  { t with fw := { t.fw with taken := t.fw.taken + 1 } }

theorem consume_frame (s : State) (part : Nat) (a : Authority) :
    ∃ w, consume s part a = { s with fw := w } ∧ w.taken = s.fw.taken ∧ (∀ m ch, a = .owner m ch → w.challenges = s.fw.challenges.erase ch) ∧
      (∀ i, a = .ticket i → w.qtickets = s.fw.qtickets.filter fun q => q.id != i) := by
  cases a with
  | none => exact ⟨s.fw, rfl, rfl, nofun, nofun⟩
  | owner m ch => exact ⟨_, rfl, rfl, fun _ _ h => (Authority.owner.inj h).2 ▸ rfl, nofun⟩
  | credential c => exact ⟨_, rfl, rfl, nofun, nofun⟩
  | ticket i => exact ⟨_, rfl, rfl, nofun, fun _ h => Authority.ticket.inj h ▸ rfl⟩

/-! ### What the checks of R86 decide -/

section
variable (hd : (getPail s p).queue.find? (fun x => decide (x.phase = .rung)) = some d)
include hd

theorem takePail_rejects {k st detail : Nat}
    (hc : checkRequest (requestFreed s p) d.length (requestCopy s p d) = .error (k, st, detail)) :
    takePail s p = countReject (modBell (requestFreed s p) p d.seq
      (answeredWith (respond st (u16 (requestCopy s p d) 0) [] detail))) k := by
  unfold takePail
  dsimp only
  split
  · next h => cases h.symm.trans hd
  · next h =>
    cases h.symm.trans hd
    split
    · next h =>
      cases h.symm.trans hc
      rfl
    · next h => cases h.symm.trans hc

theorem takePail_accepts {r : Request} (hc : checkRequest (requestFreed s p) d.length (requestCopy s p d) = .ok r) :
    takePail s p = if r.command ∈ cellCommands then admitWaiting (requestTaken s p d r) else requestTaken s p d r := by
  have htaken : (consume (requestFreed s p) r.part r.auth).fw.taken = s.fw.taken := by
    obtain ⟨_, h, ht, -⟩ := consume_frame (requestFreed s p) r.part r.auth
    rw [h]
    exact ht
  unfold takePail
  dsimp only
  split
  · next h => cases h.symm.trans hd
  · next h =>
    cases h.symm.trans hd
    split
    · next h => cases h.symm.trans hc
    · next h =>
      cases h.symm.trans hc
      rw [requestTaken, ← htaken]
      rfl

end

/-! ### What is left as it was -/

/-- A pail once its oldest request has been copied: the request area is free, and the request's doorbell has changed. -/
def bellBecame (s : State) (p : Nat) (d : Doorbell) (f : Doorbell → Doorbell) : PailState :=
  { freedPail (getPail s p) with queue := changeFirst (fun x => decide (x.seq = d.seq)) f (getPail s p).queue }

theorem clearPail_clears (s : State) {p : Nat} (hp : p < 64) : (clearPail s p).evc.pails.getLsbD p = false := by
  show (s.evc.pails &&& ~~~(BitVec.ofNat 64 (1 <<< p))).getLsbD p = false
  rw [BitVec.getLsbD_and, BitVec.getLsbD_not, getLsbD_oneHot hp]
  simp

/-- Beyond the pail's event, the copying of a request and what becomes of its doorbell change the Parlour alone. -/
theorem modBell_freed (s : State) (p : Nat) (d : Doorbell) (f : Doorbell → Doorbell) :
    ∃ q, modBell (requestFreed s p) p d.seq f = { clearPail s p with parlour := q } ∧
      tget pailReset q.pails p = bellBecame s p d f := by
  refine ⟨_, rfl, (tget_tset_same ..).trans ?_⟩
  have hfreed : getPail (requestFreed s p) p = freedPail (getPail s p) := getPail_setPail_same ..
  rw [hfreed]
  rfl

theorem requestTaken_frame (s : State) (p : Nat) (d : Doorbell) (r : Request) : ∃ q w,
    requestTaken s p d r = { clearPail s p with parlour := q, fw := w } ∧ tget pailReset q.pails p = bellBecame s p d (takenOn r s.fw.taken) ∧
      w.taken = s.fw.taken + 1 ∧ (∀ m ch, r.auth = .owner m ch → w.challenges = s.fw.challenges.erase ch) ∧
      (∀ i, r.auth = .ticket i → w.qtickets = s.fw.qtickets.filter fun q => q.id != i) := by
  obtain ⟨w, hw, htaken, howner, hticket⟩ := consume_frame (requestFreed s p) r.part r.auth
  obtain ⟨q, hq, hbell⟩ := modBell_freed s p d (takenOn r s.fw.taken)
  refine ⟨q, { w with taken := w.taken + 1 }, ?_, hbell, congrArg (· + 1) htaken, howner, hticket⟩
  rw [requestTaken, hw]
  show { modBell (requestFreed s p) p d.seq (takenOn r s.fw.taken) with fw := { w with taken := w.taken + 1 } } = _
  rw [hq]

theorem quiet_parlour (s : State) (p : Nat) (q : Parlour) (w : Firmware) : Quiet s { clearPail s p with parlour := q, fw := w } [] :=
  ⟨fun _ => rfl, fun _ _ => rfl, fun _ => rfl⟩

/-! ### The commands -/

theorem exec_pailEventTake {q : Pail} (he : s.evc.pails.getLsbD q.val = true) (hb : mode s ≠ mBOOT) (hm : hasMain s = true)
    (hh : supHalted s = false) (hr : s.fw.resetDue = none) : exec (.pailEventTake q) s = .next (takePail s q.val) :=
  if_pos ⟨he, hb, hm, hh, hr⟩

theorem exec_prlRingDropped {port : PciePort} (hl : portLive s port = true) : exec (.prlRingDropped port) s =
    .next { s with lastRead := dataWord s.parlour.dropped, parlour := { s.parlour with dropped := 0 } } := congrArg _ (if_pos hl)

/-- Settles O23: the event is taken by `takePail`, which the checks of R86 send one of two ways (`takePail_rejects`, `takePail_accepts`);
what was taken on is `requestTaken_frame`. -/
theorem requestTakeComplete : Obligations.RequestTakeComplete := by
  intro s p port d v free u copy became
  refine ⟨fun he hb hm hh hr hd => ?_, fun hl => ⟨_, exec_prlRingDropped hl, rfl, rfl, fun _ => rfl, fun _ _ => rfl, fun _ => rfl⟩⟩
  have hexec := exec_pailEventTake he hb hm hh hr
  have hclear := clearPail_clears s p.isLt
  refine ⟨fun k st detail hc => ⟨_, hexec, ?_⟩, fun r hc hn => ⟨_, hexec, ?_⟩, fun r hc hn => ⟨_, hexec, requestTaken s p.val d r, ?_, ?_⟩⟩
  · obtain ⟨q, hq, hbell⟩ := modBell_freed s p.val d (answeredWith (respond st (u16 (requestCopy s p.val d) 0) [] detail))
    rw [takePail_rejects hd hc]
    unfold countReject
    rw [hq]
    exact ⟨hbell, tget_tset_same .., hclear, rfl, rfl, quiet_parlour s p.val q s.fw⟩
  · obtain ⟨q, w, hq, hbell, htaken, howner, hticket⟩ := requestTaken_frame s p.val d r
    rw [takePail_accepts hd hc, if_neg hn, hq]
    exact ⟨hbell, htaken, rfl, rfl, hclear, quiet_parlour s p.val q w, howner, hticket⟩
  · rw [takePail_accepts hd hc, if_pos hn]
  · obtain ⟨q, w, hq, hbell, htaken, -⟩ := requestTaken_frame s p.val d r
    rw [hq]
    exact ⟨hbell, htaken, hclear, quiet_parlour s p.val q w⟩

end Sys2Proof.Machine
end

section
/-!
PROOFS. How a request that firmware or a cell's program has answered ends: the shapes the statements about the commands share.
-/
namespace Sys2Proof.Machine

variable {s w u : State} {p : Pail} {d : Doorbell} {r : Request} {v k tk code : Nat} {c : Instr} {resp : Response} {P : State → Prop}

/-! ### Commands of the supervisor -/

theorem answers_serve {f : State → Doorbell → Request → State × Option Response} (he : exec c s = .next (serve s p.val code f))
    (h : Taken s p code d r) (hf : f s d r = (w, some resp)) (hP : P (complete w p.val d.seq resp)) : Answers c s P :=
  ⟨_, he.trans (congrArg _ (serve_done h hf)), hP⟩
/-- A request the supervisor has begun and not ended. -/
theorem answers_serve_on {f : State → Doorbell → Request → State × Option Response} (he : exec c s = .next (serve s p.val code f))
    (h : Taken s p code d r) (hf : f s d r = (w, none)) (hP : P w) : Answers c s P := by
  have hs : serve s p.val code f = w := by
    have ht : findTaken s p.val code = some (d, r) := h
    simp only [serve, ht, hf]
  exact ⟨_, he, hs ▸ hP⟩
theorem idles_serve {f : State → Doorbell → Request → State × Option Response} (he : exec c s = .next (serve s p.val code f))
    (h : Taken s p code d r) (hf : f s d r = (s, none)) : Idles c s := by
  obtain ⟨t, ht, rfl⟩ := answers_serve_on (P := (· = s)) he h hf rfl
  exact ht

/-- Work that leaves the Parlour alone is followed by the completion of its doorbell. -/
theorem completed_of_parlour (h : w.parlour = s.parlour) (resp : Response) : Completed s (complete w p.val d.seq resp) p d resp := by
  refine (complete_pail ..).trans ?_
  simp only [getPail, h]

/-! ### Commands of the cells -/

theorem answers_serveCell {f : State → Nat → Nat → Doorbell → Request → State × Option Response}
    (he : exec c s = .next (serveCell s p.val code f)) (h : TakenCell s p code d r v k tk) (hf : f s v k d r = (w, some resp))
    (hP : P (finishCell w p.val v k tk d r resp)) : Answers c s P :=
  ⟨_, he.trans (congrArg _ (serveCell_done h hf)), hP⟩
/-- A request a cell has begun and not ended. -/
theorem answers_serveCell_on {f : State → Nat → Nat → Doorbell → Request → State × Option Response}
    (he : exec c s = .next (serveCell s p.val code f)) (h : TakenCell s p code d r v k tk) (hf : f s v k d r = (w, none)) (hP : P w) :
    Answers c s P := by
  obtain ⟨hlost, hrun, hstall, hroom⟩ := h
  have hs : serveCell s p.val code f = w := by simp [serveCell, hlost, hrun, hstall, Nat.not_le.2 hroom, hf]
  exact ⟨_, he, hs ▸ hP⟩
theorem idles_serveCell {f : State → Nat → Nat → Doorbell → Request → State × Option Response}
    (he : exec c s = .next (serveCell s p.val code f)) (h : TakenCell s p code d r v k tk) (hf : f s v k d r = (s, none)) : Idles c s := by
  obtain ⟨t, ht, rfl⟩ := answers_serveCell_on (P := (· = s)) he h hf rfl
  exact ht

theorem macDiffered_intro (h : EnginesRan u w v) :
    MacDiffered (finishCell (macMismatch w v k) p.val v k tk d r (respond sINTERNAL r.command [])) u p v k tk d r := ⟨w, h, rfl⟩
theorem differed_intro {op : Nat} {x : BitVec 32} (h : EnginesRan u w v) :
    Differed (finishCell (mismatchRecord w v k op x) p.val v k tk d r (respond sFAULT_DETECTED r.command [])) u op p v k tk d r :=
  ⟨w, x, h, rfl⟩

end Sys2Proof.Machine
end

section
/-!
PROOFS. What the firmware's records say before and after the engines have worked and a key's use has been charged: the same.
-/
namespace Sys2Proof.Machine

variable {s t u w x : State} {v k n : Nat} {r : Request}

/-- Key slots, curves, the owners of counters and what firmware holds in memory are the same. -/
def SameRecords (s t : State) : Prop :=
  t.store.keys = s.store.keys ∧ t.store.curves = s.store.curves ∧ t.store.counters = s.store.counters ∧ t.fw = s.fw

theorem SameRecords.refl (s : State) : SameRecords s s := ⟨rfl, rfl, rfl, rfl⟩
theorem SameRecords.trans (h : SameRecords s t) (g : SameRecords t u) : SameRecords s u := by
  obtain ⟨h1, h2, h3, h4⟩ := h
  obtain ⟨g1, g2, g3, g4⟩ := g
  exact ⟨g1.trans h1, g2.trans h2, g3.trans h3, g4.trans h4⟩
theorem EnginesRan.records (h : EnginesRan s w v) : SameRecords s w := by
  obtain ⟨⟨_, _, _, rfl⟩, _⟩ := h
  exact .refl s

/-! ### A charge -/

/-- A charge changes counters of the MAC units and the reserves the store keeps, alone (R123, R275). -/
theorem keepReserve_reserves (s : State) (c : Nat) : ∃ x, keepReserve s c = { s with store := { s.store with reserves := x } } := by
  simp only [keepReserve]
  split
  · exact ⟨_, rfl⟩
  · exact ⟨s.store.reserves, rfl⟩
theorem addCounter_frame (s : State) (c n : Nat) :
    ∃ vs x, (addCounter s c n).2 = { s with vats := vs, store := { s.store with reserves := x } } := by
  obtain ⟨b, hb⟩ := incCounter_frame s (phys s (c / 64)) (c % 64) n
  obtain ⟨x, hx⟩ := keepReserve_reserves (setCounter s (phys s (c / 64)) (c % 64) b) c
  exact ⟨_, x, by
    show keepReserve (incCounter s (phys s (c / 64)) (c % 64) n).2 c = _
    rw [hb, hx]
    rfl⟩
theorem chargeUse_records {key : KeySlot} (h : chargeUse s key = (true, u)) : SameRecords s u := by
  obtain rfl : (chargeUse s key).2 = u := by rw [h]
  unfold chargeUse
  split
  · exact .refl s
  split
  · exact .refl s
  · obtain ⟨vs, x, hx⟩ := addCounter_frame s key.counter.toNat 1
    rw [hx]
    exact .refl s
theorem charged_fed {key : KeySlot} (h : chargeUse s key = (true, u)) (hf : Fed s v n) : Fed u v n := by
  have := chargeUse_fed key hf
  rwa [h] at this
theorem charged_root {key : KeySlot} (h : chargeUse s key = (true, u)) (hr : HasOwnerRoot s v) : HasOwnerRoot u v := by
  have := (chargeUse_root (s := s) key).2 hr
  rwa [h] at this
theorem charged_opens {key other : KeySlot} {slot : Nat} {m : Bytes} (h : chargeUse s key = (true, u)) (ho : OpensTo s v slot other m) :
    OpensTo u v slot other m := by
  have := (chargeUse_opens key other slot m).2 ho
  rwa [h] at this
theorem OpensTo.root {slot : Nat} {key : KeySlot} {m : Bytes} (h : OpensTo s v slot key m) : HasOwnerRoot s v := h.1
theorem withCharge_charged {key : KeySlot} (h : chargeUse s key = (true, u)) (f : State → State × Option Response) :
    withCharge s r key f = f u := by
  rw [withCharge, h]

/-! ### Random bits are free values -/

theorem drawBits_ran (s : State) (v n : Nat) : EnginesRan s (drawBits s n).2 v :=
  ⟨⟨_, _, _, rfl⟩, fun _ _ => rfl, fun _ _ => rfl, _, _, _, rfl⟩
theorem drawBits_fed {b : Nat} (h : Fed s v n) : Fed (drawBits s b).2 v n := h
theorem drawBytes_ran (s : State) (v n : Nat) : EnginesRan s (drawBytes s n).2 v := drawBits_ran s v (8 * n)
theorem drawBytes_fed {b : Nat} (h : Fed s v n) : Fed (drawBytes s b).2 v n := h
theorem drawBytes_length (s : State) (n : Nat) : (drawBytes s n).1.length = n := leBytes_length n _

/-! ### What the records are read for -/

theorem SameRecords.getKey (h : SameRecords s t) : getKey t = getKey s := by
  funext i
  simp only [Machine.getKey, h.1]
theorem SameRecords.storeCurve (h : SameRecords s t) : storeCurve t = storeCurve s := by
  funext i
  simp only [Machine.storeCurve, h.2.1]
theorem SameRecords.ownCounter (h : SameRecords s t) : ownCounter t = ownCounter s := by
  funext r c
  unfold Machine.ownCounter counterOwner
  rw [h.2.2.1]
theorem lowestSlot_congr (h : getKey t = getKey s) (fuel : Nat) : ∀ i, lowestSlot t fuel i = lowestSlot s fuel i := by
  induction fuel with
  | zero => exact fun _ => rfl
  | succ fuel ih => exact fun i => by simp only [lowestSlot, h, ih]
theorem SameRecords.unitsLeft (h : SameRecords s t) : unitsLeft t = unitsLeft s := by
  obtain ⟨hk, -, -, hf⟩ := h
  funext n
  unfold Machine.unitsLeft unitsUsed
  rw [hk, hf]
theorem SameRecords.pickSlot (h : SameRecords s t) : pickSlot t = pickSlot s := by
  funext want n
  simp only [Machine.pickSlot, lowestSlot_congr h.getKey, h.getKey, h.unitsLeft]
theorem SameRecords.openBlob (h : SameRecords s t) : openBlob t = openBlob s := by
  funext kek blob
  unfold Machine.openBlob materialLen
  rw [h.storeCurve]
theorem SameRecords.publicOf (h : SameRecords s t) : publicOf t = publicOf s := by
  funext type curve m
  simp only [Machine.publicOf, h.storeCurve]

theorem getKey_setKey_same (s : State) (i : Nat) (x : Option KeySlot) : getKey (setKey s i x) i = x := tget_tset_same ..
theorem getKey_setKey_other (s : State) {i j : Nat} (x : Option KeySlot) (h : j ≠ i) : getKey (setKey s i x) j = getKey s j :=
  tget_tset_other _ _ _ h
/-- The head of a response that names a slot just stored. -/
theorem slotReply_storeKey (s : State) (slot type curve part : Nat) (usage counter : BitVec 16) (m pub : Bytes) :
    slotReply (storeKey s slot type curve part usage counter m pub) slot = leBytes 2 slot ++ kcvOf type m ++ zeros 3 := by
  simp only [slotReply, storeKey, getKey_setKey_same, Option.map_some, Option.getD_some]

end Sys2Proof.Machine
end

section
/-!
PROOFS. Settles O31: KEY. and CTR. commands complete (R122 to R128). Of each command's program there is one equation for the case where
its vat's engines are fed; what the host may choose in it, whether two runs agree, is a branch of the equation.
-/
namespace Sys2Proof.Machine

variable {s t u w x : State} {v k n : Nat} {r : Request} {d : Doorbell}

/-! ### KEY.GENERATE (R124) -/

theorem keyGenerate_unowned (hb : bit (BitVec.ofNat 16 (u16 r.body 2)) 10 = true) (ho : ownCounter s r (u16 r.body 6) = false) (c : Compare) :
    keyGenerate s v k r c = failed s sNOT_FOUND r := by
  simp [keyGenerate, hb, ho]
/-- No counter stands in the way: none is bound, or the partition's own. -/
theorem counter_free (h : bit (BitVec.ofNat 16 (u16 r.body 2)) 10 = true → ownCounter s r (u16 r.body 6) = true) :
    (bit (BitVec.ofNat 16 (u16 r.body 2)) 10 && !ownCounter s r (u16 r.body 6)) = false := by
  cases hb : bit (BitVec.ofNat 16 (u16 r.body 2)) 10
  · rfl
  · rw [h hb]
    rfl
theorem rsa_not_curve : decide (0x10 ≤ 0x20 ∧ 0x20 ≤ 0x12) = false := rfl
section
variable (hown : bit (BitVec.ofNat 16 (u16 r.body 2)) 10 = true → ownCounter s r (u16 r.body 6) = true)
include hown

theorem keyGenerate_noSlot {e : Nat} (h1 : 1 ≤ byteAt r.body 0) (h6 : byteAt r.body 0 ≤ 6)
    (hs : pickSlot s (u16 r.body 4) (keyBytesOf (byteAt r.body 0)) = .error e) (c : Compare) :
    keyGenerate s v k r c = failed s e r := by
  have hrsa : decide (0x10 ≤ byteAt r.body 0 ∧ byteAt r.body 0 ≤ 0x12) = false := decide_eq_false (by omega)
  have hec : byteAt r.body 0 ≠ 0x20 := by omega
  simp only [keyGenerate, counter_free hown, hrsa, hec, hs, if_false, Bool.false_eq_true]
/-- An RSA key is GENERATING until its ticket is done (R125). -/
theorem keyGenerate_rsa {slot : Nat} (h1 : 0x10 ≤ byteAt r.body 0) (h2 : byteAt r.body 0 ≤ 0x12)
    (hs : pickSlot s (u16 r.body 4) (5 * rsaHalf (byteAt r.body 0)) = .ok slot) (c : Compare) :
    keyGenerate s v k r c = (setKey s slot (some ⟨1, byteAt r.body 0, 0, r.part, BitVec.ofNat 16 (u16 r.body 2),
      BitVec.ofNat 16 (u16 r.body 6), zeros 3, [], []⟩), some (respond sPENDING r.command (leBytes 2 slot ++ zeros 6))) := by
  have hrsa : decide (0x10 ≤ byteAt r.body 0 ∧ byteAt r.body 0 ≤ 0x12) = true := decide_eq_true ⟨h1, h2⟩
  simp only [keyGenerate, counter_free hown, hrsa, hs, if_true, if_false, Bool.false_eq_true, List.append_assoc]
  rfl
theorem keyGenerate_symmetric {slot : Nat} (h1 : 1 ≤ byteAt r.body 0) (h6 : byteAt r.body 0 ≤ 6)
    (hs : pickSlot s (u16 r.body 4) (keyBytesOf (byteAt r.body 0)) = .ok slot) (hr : HasOwnerRoot s v)
    (hf : Fed s v (8 * keyBytesOf (byteAt r.body 0) + storeBits (keyBytesOf (byteAt r.body 0)))) :
    ∃ w x key, EnginesRan s w v ∧ EnginesRan s x v ∧ key.length = keyBytesOf (byteAt r.body 0) ∧ ∀ c, keyGenerate s v k r c =
      if c = .mac then failed (macMismatch w v k) sINTERNAL r
      else okWith (storeKey x slot (byteAt r.body 0) 0 r.part (BitVec.ofNat 16 (u16 r.body 2)) (BitVec.ofNat 16 (u16 r.body 6)) key []) r
        (leBytes 2 slot ++ kcvOf (byteAt r.body 0) key ++ zeros 3) := by
  obtain ⟨a, ea, fa, ha⟩ := withDraw_fed (b := 8 * keyBytesOf (byteAt r.body 0)) (n := storeBits (keyBytesOf (byteAt r.body 0)))
    (hf.mono (by omega))
  have eb := ea.trans (drawBytes_ran a v (keyBytesOf (byteAt r.body 0)))
  have hlen := drawBytes_length a (keyBytesOf (byteAt r.body 0))
  obtain ⟨w, x, ew, ex, -, hx⟩ := withStore_fed (type := byteAt r.body 0) (m := (drawBytes a (keyBytesOf (byteAt r.body 0))).1) (n := 0)
    (eb.root.2 hr) (drawBytes_fed (by rw [hlen]; exact fa.mono (by omega)))
  have hrsa : decide (0x10 ≤ byteAt r.body 0 ∧ byteAt r.body 0 ≤ 0x12) = false := decide_eq_false (by omega)
  have hec : byteAt r.body 0 ≠ 0x20 := by omega
  refine ⟨w, x, _, eb.trans ew, eb.trans ex, hlen, fun c => ?_⟩
  simp only [keyGenerate, counter_free hown, hrsa, hec, hs, if_false, Bool.false_eq_true, ha, hx, decide_eq_true_eq]
/-- A key pair on a curve, its churn job's two runs agreeing. -/
theorem keyGenerate_curve {slot : Nat} {cv : Curve} (ht : byteAt r.body 0 = 0x20) (hc : storeCurve s (byteAt r.body 1) = some cv)
    (hs : pickSlot s (u16 r.body 4) (scalarBytes cv) = .ok slot) (hr : HasOwnerRoot s v)
    (hf : Fed s v ((allDraws 0x24 0 cv).sum + storeBits (scalarBytes cv))) :
    ∃ w y x, EnginesRan s w v ∧ EnginesRan s y v ∧ 1 ≤ x ∧ (2 ≤ cv.n → x < cv.n) ∧ ∀ c, c ≠ .churn → keyGenerate s v k r c =
      if c = .mac then failed (macMismatch w v k) sINTERNAL r
      else okWith (storeKey y slot 0x20 (byteAt r.body 1) r.part (BitVec.ofNat 16 (u16 r.body 2)) (BitVec.ofNat 16 (u16 r.body 6))
        (beBytes (scalarBytes cv) x) (pointBytes cv (ecMul cv x (basePoint cv)))) r
        (leBytes 2 slot ++ zeros 6 ++ pointBytes cv (ecMul cv x (basePoint cv))) := by
  obtain ⟨a, ea, fa, ha⟩ := withChurn_fed (l := allDraws 0x24 0 cv) (n := storeBits (scalarBytes cv)) k true (hf.mono (by omega))
  have eb := ea.trans (drawBits_ran a v (bitLen cv.n + 64))
  let x := (drawBits a (bitLen cv.n + 64)).1 % (cv.n - 1) + 1
  have hlen : (beBytes (scalarBytes cv) x).length = scalarBytes cv := beBytes_length ..
  obtain ⟨w, y, ew, ey, -, hy⟩ := withStore_fed (type := 0x20) (m := beBytes (scalarBytes cv) x) (n := 0) (eb.root.2 hr)
    (drawBits_fed (by rw [hlen]; exact fa.mono (by omega)))
  refine ⟨w, y, x, eb.trans ew, eb.trans ey, by omega, fun hn => ?_, fun c hch => ?_⟩
  · have : (drawBits a (bitLen cv.n + 64)).1 % (cv.n - 1) < cv.n - 1 := Nat.mod_lt _ (by omega)
    show _ % (cv.n - 1) + 1 < cv.n
    omega
  · have hfalse : decide (c = .churn) = false := decide_eq_false hch
    simp only [keyGenerate, counter_free hown, ht, hc, Option.map_some, Option.getD_some, rsa_not_curve, hs, hfalse, ha, if_false, if_true, Bool.false_eq_true]
    refine (hy ..).trans ?_
    simp only [decide_eq_true_eq, List.append_assoc]
    rfl
theorem keyGenerate_curve_differs {slot : Nat} {cv : Curve} (ht : byteAt r.body 0 = 0x20) (hc : storeCurve s (byteAt r.body 1) = some cv)
    (hs : pickSlot s (u16 r.body 4) (scalarBytes cv) = .ok slot) (hf : Fed s v (allDraws 0x24 0 cv).sum) :
    ∃ w x, EnginesRan s w v ∧ keyGenerate s v k r .churn = failed (mismatchRecord w v k 0x24 x) sFAULT_DETECTED r := by
  obtain ⟨w, x, ew, hw⟩ := withChurn_differs (l := allDraws 0x24 0 cv) (n := 0) k (hf.mono (by omega))
  refine ⟨w, x, ew, ?_⟩
  simp only [keyGenerate, counter_free hown, ht, hc, Option.map_some, Option.getD_some, rsa_not_curve, hs, if_false, if_true,
    Bool.false_eq_true]
  exact hw ..
end

/-! ### KEY.IMPORT -/

theorem importInto_stores {type curve slot : Nat} {usage : BitVec 16} {mat pub : Bytes}
    (hc : bit usage 10 = decide (u16 r.body 8 ≠ 0xFFFF)) (ho : bit usage 10 = true → ownCounter s r (u16 r.body 8) = true)
    (hs : pickSlot s (u16 r.body 4) mat.length = .ok slot) (hr : HasOwnerRoot s v) (hf : Fed s v (storeBits mat.length)) :
    ∃ w x, EnginesRan s w v ∧ EnginesRan s x v ∧ ∀ s0 m, importInto s0 s v k r type curve usage mat pub m =
      if m then failed (macMismatch w v k) sINTERNAL r
      else okWith (storeKey x slot type curve r.part usage (BitVec.ofNat 16 (u16 r.body 8)) mat pub) r
        (leBytes 2 slot ++ kcvOf type mat ++ zeros 3) := by
  obtain ⟨w, x, ew, ex, -, hx⟩ := withStore_fed (type := type) (m := mat) (n := 0) hr (hf.mono (by omega))
  have hown : (bit usage 10 && !ownCounter s r (u16 r.body 8)) = false := by
    cases hb : bit usage 10
    · rfl
    · rw [ho hb]
      rfl
  refine ⟨w, x, ew, ex, fun s0 m => ?_⟩
  simp only [importInto, hc.symm, ne_eq, not_true_eq_false, hown, hs, hx, if_false, Bool.false_eq_true, slotReply_storeKey]
/-- A usage of public keys binds no counter. -/
theorem bit_verify_only (mask : BitVec 16) : bit (mask &&& 2) 10 = false := by
  simp [bit]
/-- A public key is stored whole as the material it is imported from. -/
theorem importInto_public {type curve slot : Nat} {mask : BitVec 16} {blob : Bytes} (ht : type = 0x30 ∨ type = 0x31) (hc : u16 r.body 8 = 0xFFFF)
    (hs : pickSlot s (u16 r.body 4) blob.length = .ok slot) (hr : HasOwnerRoot s v) (hf : Fed s v (storeBits blob.length)) :
    ∃ w x, EnginesRan s w v ∧ EnginesRan s x v ∧ ∀ s0 m, importInto s0 s v k r type curve (mask &&& 2) blob blob m =
      if m then failed (macMismatch w v k) sINTERNAL r
      else okWith (storeKey x slot type curve r.part (mask &&& 2) 0xFFFF blob blob) r (leBytes 2 slot ++ zeros 6) := by
  have hbit := bit_verify_only mask
  obtain ⟨w, x, ew, ex, hx⟩ := importInto_stores (k := k) (type := type) (curve := curve) (usage := mask &&& 2) (pub := blob)
    (by rw [hbit, hc]; rfl) (fun h => absurd h (by rw [hbit]; decide)) hs hr hf
  have hkcv : kcvOf type blob = zeros 3 := if_neg (by omega)
  rw [hkcv, hc, List.append_assoc] at hx
  exact ⟨w, x, ew, ex, hx⟩

theorem keyImport_modulus (hb : byteAt r.body 0 = 2) (hl : (r.body.drop 16).length ∈ [256, 384, 512]) (m : Bool) :
    keyImport s v k d r m = importInto s s v k r 0x30 0 (BitVec.ofNat 16 (u16 r.body 2) &&& 2) (r.body.drop 16) (r.body.drop 16) m := by
  simp only [keyImport, hb, hl, if_true]
theorem keyImport_point {cv : Curve} {q : Nat × Nat} (hb : byteAt r.body 0 = 3) (hc : storeCurve s (byteAt r.body 1) = some cv)
    (hq : pointOf cv (r.body.drop 16) = some q) (m : Bool) :
    keyImport s v k d r m = importInto s s v k r 0x31 (byteAt r.body 1) (BitVec.ofNat 16 (u16 r.body 2) &&& 2) (r.body.drop 16) (r.body.drop 16) m := by
  simp only [keyImport, hb, hc, hq]
/-- A wrapped key, once its wrapping key is found, charged and unwrapped. -/
theorem keyImport_blob {kw : KeySlot} {kek : Bytes} (hb : byteAt r.body 0 = 1) (hk : needKey s d r (u16 r.body 6) 6 = .ok kw)
    (ht : kw.type ≤ 3) (hu : chargeUse s kw = (true, u)) (ho : OpensTo s v (u16 r.body 6) kw kek)
    (hf : Fed s v (n + openBits kw + maskBits (kwBlocks (r.body.drop 16).length))) :
    ∃ w, EnginesRan u w v ∧ Fed w v n ∧
      (∀ e o, openBlob s kek (r.body.drop 16) = .error (e, o) → ∀ m, keyImport s v k d r m = failed w e r o) ∧
      ∀ type curve usage mat, openBlob s kek (r.body.drop 16) = .ok (type, curve, usage, mat) → ∀ m, keyImport s v k d r m =
        importInto s w v k r type curve (usage &&& BitVec.ofNat 16 (u16 r.body 2)) mat (publicOf s type curve mat) m := by
  obtain ⟨a, ea, fa, ha⟩ := withKey_fed (n := n + maskBits (kwBlocks (r.body.drop 16).length)) (charged_fed hu (hf.mono (by omega)))
    (charged_opens hu ho)
  obtain ⟨w, ew, fw, hw⟩ := withMac_fed (b := kwBlocks (r.body.drop 16).length) (n := n) fa
  have hrec := (chargeUse_records hu).trans (ea.trans ew).records
  refine ⟨w, ea.trans ew, fw, fun e o he m => ?_, fun type curve usage mat he m => ?_⟩
  all_goals
    simp only [keyImport, hb, hk, Nat.not_lt.2 ht, if_false, withCharge_charged hu, ha, hw, hrec.openBlob, hrec.publicOf, he]

/-! ### KEY.EXPORT -/

theorem keyExport_noKey {e : Nat} (h : needKey s d r (u16 r.body 0) 9 = .error e) (m : Bool) : keyExport s v k d r m = failed s e r := by
  simp only [keyExport, h]
theorem keyExport_noWrap {e : Nat} {key : KeySlot} (h : needKey s d r (u16 r.body 0) 9 = .ok key)
    (hw : needKey s d r (u16 r.body 2) 5 = .error e) (m : Bool) : keyExport s v k d r m = failed s e r := by
  simp only [keyExport, h, hw]
theorem keyExport_wraps {key kw : KeySlot} {m kek : Bytes} (h : needKey s d r (u16 r.body 0) 9 = .ok key)
    (hw : needKey s d r (u16 r.body 2) 5 = .ok kw) (ht : kw.type ≤ 3) (hu : chargeUse s kw = (true, u))
    (hm : OpensTo s v (u16 r.body 0) key m) (hkek : OpensTo s v (u16 r.body 2) kw kek)
    (hf : Fed s v (openBits key + openBits kw + twiceBits (kwBlocks (kwWrap kek (keyBlock key.type key.curve key.usage m)).length))) :
    let blob := kwWrap kek (keyBlock key.type key.curve key.usage m)
    ∃ w, EnginesRan u w v ∧ ∀ mm, keyExport s v k d r mm =
      if mm then failed (macMismatch w v k) sINTERNAL r else okWith w r (leBytes 2 blob.length ++ zeros 6 ++ blob) := by
  intro blob
  replace hf : Fed s v (openBits key + openBits kw + twiceBits (kwBlocks blob.length)) := hf
  obtain ⟨a, ea, fa, ha⟩ := withKey_fed (n := openBits kw + twiceBits (kwBlocks blob.length)) (charged_fed hu (hf.mono (by omega)))
    (charged_opens hu hm)
  obtain ⟨b, eb, fb, hb⟩ := withKey_fed (n := twiceBits (kwBlocks blob.length)) (fa.mono (by omega)) ((ea.opens ..).2 (charged_opens hu hkek))
  obtain ⟨w, ew, -, hx⟩ := withMac_twice (b := kwBlocks blob.length) (n := 0) (fb.mono (by omega))
  refine ⟨w, (ea.trans eb).trans ew, fun mm => ?_⟩
  simp only [keyExport, h, hw, Nat.not_lt.2 ht, if_false, withCharge_charged hu, ha, hb]
  exact hx ..

end Sys2Proof.Machine
end

section
/-!
PROOFS. What cells, engines and queues change when work is taken from them or given to them never reaches what firmware has stored, its
requests or the states of the vats: `settled` is a state without the part they change, and each operation of theirs keeps it.
-/
namespace Sys2Proof.Machine

variable {s t : State}

/-- A state without RAM, registers, cores, vats, the mesh, events, fault records and free values, and without what firmware counts and
keeps about tickets. -/
def settled (s : State) : State :=
  { s with mem := [], regs := [], cells := [], vats := [], central := State.reset.central, mesh := State.reset.mesh, evc := State.reset.evc,
           flt := State.reset.flt, fresh := 0,
           fw := { s.fw with vatFaults := [], voided := [], gens := [], gensHeld := [], round := [], turn := 0 } }

theorem store_of_settled (h : settled t = settled s) : t.store = s.store := by
  show (settled t).store = (settled s).store
  rw [h]
theorem parlour_of_settled (h : settled t = settled s) : t.parlour = s.parlour := by
  show (settled t).parlour = (settled s).parlour
  rw [h]
theorem remap_of_settled (h : settled t = settled s) : t.remap = s.remap := by
  show (settled t).remap = (settled s).remap
  rw [h]
theorem phys_of_settled (h : settled t = settled s) : phys t = phys s := by
  funext n
  rw [phys, remap_of_settled h, phys]

/-- A fold of steps that each keep a view of the state keeps it. -/
theorem foldl_keeps {α β σ : Type} (view : σ → β) (f : σ → α → σ) (h : ∀ s a, view (f s a) = view s) (l : List α) :
    ∀ s, view (l.foldl f s) = view s := by
  induction l with
  | nil => exact fun _ => rfl
  | cons a l ih => exact fun s => (ih (f s a)).trans (h s a)

/-! ### Operations of the state -/

@[simp] theorem settled_setReg (w : Nat) (v : BitVec 16) : settled (setReg s w v) = settled s := rfl
@[simp] theorem settled_setFld (w hi lo n : Nat) : settled (setFld s w hi lo n) = settled s := rfl
@[simp] theorem settled_setBit (w i : Nat) (b : Bool) : settled (setBit s w i b) = settled s := rfl
@[simp] theorem settled_countReg (w top : Nat) : settled (countReg s w top) = settled s := rfl
@[simp] theorem settled_writeMem (a : Nat) (w : Word) : settled (writeMem s a w) = settled s := rfl
@[simp] theorem settled_writeMems (a : Nat) (ws : List Word) : settled (writeMems s a ws) = settled s := by
  induction ws generalizing s a with
  | nil => rfl
  | cons w ws ih => exact ih (a + 1)
@[simp] theorem settled_setCell (k : Nat) (c : Cell) : settled (setCell s k c) = settled s := rfl
@[simp] theorem settled_modCell (k : Nat) (f : Cell → Cell) : settled (modCell s k f) = settled s := rfl
@[simp] theorem settled_modVat (p : Nat) (f : Vat → Vat) : settled (modVat s p f) = settled s := rfl
@[simp] theorem settled_modChurn (p : Nat) (f : Churn → Churn) : settled (modChurn s p f) = settled s := rfl
@[simp] theorem settled_modMac (p : Nat) (f : MacUnit → MacUnit) : settled (modMac s p f) = settled s := rfl
@[simp] theorem settled_raise (n : Nat) : settled (raise s n) = settled s := rfl
@[simp] theorem settled_raiseVat (p k : Nat) : settled (raiseVat s p k) = settled s := by
  simp only [raiseVat]
  split
  · rfl
  · rfl
@[simp] theorem settled_eventBit (w i src : Nat) : settled (eventBit s w i src) = settled s := by
  unfold eventBit
  split
  · rfl
  · rfl
@[simp] theorem settled_eventVat (w i p k : Nat) : settled (eventVat s w i p k) = settled s := by
  unfold eventVat
  split
  · rfl
  · simp
theorem settled_countVatFault (source : Nat) (m : BitVec 10) : settled (countVatFault s source m) = settled s := by
  simp only [countVatFault]
  generalize (if source < 256 then _ else _) = n
  split
  · rfl
  · rfl
@[simp] theorem settled_fault (cls source : Nat) (acc : AccessType) (m : BitVec 10) (a : BitVec 32) (p : Bool) :
    settled (fault s cls source acc m a p) = settled s := by
  obtain ⟨g, e, f, hl⟩ := latchFault_frame s ⟨cls, source, p, acc, m, a, s.bat.timeBase⟩
  obtain ⟨e', f', hst⟩ := stormCount_frame (latchFault s ⟨cls, source, p, acc, m, a, s.bat.timeBase⟩)
  have hs : settled (stormCount (latchFault s ⟨cls, source, p, acc, m, a, s.bat.timeBase⟩)) = settled s := by rw [hst, hl]; rfl
  simp only [fault]
  split
  · exact (settled_countVatFault ..).trans hs
  · exact (settled_countVatFault ..).trans hs
@[simp] theorem settled_refusal (r : Refuse) (e : Option Nat) (acc : AccessType) (m : BitVec 10) (a : Nat) :
    settled (refusal s r e acc m a) = settled s := by
  simp only [refusal, settled_fault]
  rfl
@[simp] theorem settled_setVoided (p t : Nat) (on : Bool) : settled (setVoided s p t on) = settled s := rfl
@[simp] theorem settled_endGeneration (slot : Nat) : settled (endGeneration s slot) = settled s := rfl

/-! ### Jobs and tickets that are dropped -/

@[simp] theorem settled_engineRefused (acc : AccessType) (m : BitVec 10) (a : Nat) : settled (engineRefused s acc m a) = settled s := by
  unfold engineRefused
  split
  · split
    · exact settled_fault ..
    · exact settled_refusal ..
  · exact settled_fault ..
theorem settled_opWritePart (m : BitVec 10) (a : Nat) (ws : List Word) : settled (opWritePart s m a ws).2 = settled s := by
  unfold opWritePart
  split
  · exact settled_refusal ..
  split
  · exact settled_engineRefused ..
  split
  · exact settled_fault ..
  split
  · exact settled_fault ..
  · exact settled_writeMems ..
theorem settled_opWriteParts (m : BitVec 10) (a : Nat) (ws : List Word) (parts : List (Nat × Nat)) :
    settled (opWriteParts s m a ws parts).2 = settled s := by
  induction parts generalizing s with
  | nil => rfl
  | cons q rest ih =>
    have hpart := settled_opWritePart (s := s) m q.1 ((ws.drop (q.1 - a)).take q.2)
    unfold opWriteParts
    split
    · next u hu =>
      rw [hu] at hpart
      exact ih.trans hpart
    · exact hpart
@[simp] theorem settled_opPut (m : BitVec 10) (a : Nat) (w : Word) : settled (opPut s m a w) = settled s := by
  unfold opPut opWrite
  split
  · rfl
  · exact settled_opWriteParts ..
theorem settled_churnEnd (p k descr status detail : Nat) (b : Bool) : settled (churnEnd s p k descr status detail b) = settled s := by
  have hput : settled (if b then opPut (opPut s (masterOfKey s (p * 16 + k)) (descr + 17) (dataNat detail)) (masterOfKey s (p * 16 + k))
      (descr + 16) (dataNat status) else s) = settled s := by
    split
    · simp
    · rfl
  simp only [churnEnd, settled_modChurn, settled_modVat]
  generalize (if b = true then opPut _ _ _ _ else s) = u at hput ⊢
  generalize hx : modCell u (p * 16 + k) _ = x
  have hkeep : settled x = settled s := by rw [← hx, settled_modCell, hput]
  split
  · split
    · exact hkeep
    · exact hkeep
  · exact hkeep
theorem settled_churnCancel (p k : Nat) : settled (churnCancel s p k).2 = settled s := by
  unfold churnCancel
  simp only
  split
  · rfl
  split
  · rfl
  split
  · rfl
  · unfold churnAbandon
    split
    · rfl
    · exact (settled_eventVat ..).trans (settled_churnEnd ..)
theorem settled_dropTicket (p t : Nat) : settled (dropTicket s p t) = settled s := by
  simp only [dropTicket, settled_modVat]
  refine foldl_keeps settled _ (fun s k => ?_) _ _
  split
  · rfl
  · rfl
theorem settled_cancelGeneration (slot : Nat) : settled (cancelGeneration s slot) = settled s := by
  simp only [cancelGeneration, settled_endGeneration]
  refine foldl_keeps settled _ (fun s p => ?_) _ _
  refine (foldl_keeps settled _ (fun s t => settled_dropTicket p t) _ _).trans (foldl_keeps settled _ (fun s k => ?_) _ _)
  split
  · split
    · exact settled_churnCancel ..
    · rfl
  · rfl

end Sys2Proof.Machine
end

section
/-!
PROOFS. Settles O31: counters (R127, R128, R274) and the statement.
-/
namespace Sys2Proof.Machine

variable {s t u w x : State} {v k n : Nat} {r : Request} {d : Doorbell}

/-! ### Counters -/

theorem counterAt_setCounter_same (s : State) (p i : Nat) (x : BitVec 48) : counterAt (setCounter s p i x) p i = x := by
  simp only [counterAt, setCounter, modMac, modVat, getVat_setVat_same, tget_tset_same]
theorem counterAt_setCounter_other (s : State) {p i q j : Nat} (x : BitVec 48) (h : q ≠ p ∨ j ≠ i) :
    counterAt (setCounter s p i x) q j = counterAt s q j := by
  by_cases hq : q = p
  · subst hq
    simp only [counterAt, setCounter, modMac, modVat, getVat_setVat_same,
      tget_tset_other _ _ _ (h.resolve_left fun g => g rfl)]
  · simp only [counterAt, setCounter, modMac, modVat, getVat_setVat_other _ _ hq]
/-- One counter has the value n, every other the one it had, and but for the reserves nothing else has changed. -/
def CounterNow (s w : State) (q j n : Nat) : Prop :=
  (counterAt w q j).toNat = n ∧ (∀ q' j', (q' ≠ q ∨ j' ≠ j) → counterAt w q' j' = counterAt s q' j') ∧
    w = { s with vats := w.vats, store := w.store }
theorem counterNow_kept (s : State) (q j c : Nat) {x : BitVec 48} (hx : x.toNat = n) : CounterNow s (keepReserve (setCounter s q j x) c) q j n := by
  obtain ⟨y, hy⟩ := keepReserve_reserves (setCounter s q j x) c
  rw [hy]
  exact ⟨(congrArg BitVec.toNat (counterAt_setCounter_same s q j x)).trans hx, fun _ _ h => counterAt_setCounter_other s x h, rfl⟩
/-- A counter goes up by n where it can, and otherwise to its largest value (R274). -/
theorem addCounter_adds {c : Nat} (h : (counterAt s (phys s (c / 64)) (c % 64)).toNat + n < 2 ^ 48) : ∃ w, addCounter s c n = (true, w) ∧
    CounterNow s w (phys s (c / 64)) (c % 64) ((counterAt s (phys s (c / 64)) (c % 64)).toNat + n) := by
  refine ⟨_, ?_, counterNow_kept s _ _ c ((BitVec.toNat_ofNat ..).trans (Nat.mod_eq_of_lt h))⟩
  have hle : (counterAt s (phys s (c / 64)) (c % 64)).toNat + n ≤ ctrMax := by unfold ctrMax; omega
  simp only [addCounter, incCounter, hle, if_true]
theorem addCounter_exhausts {c : Nat} (h : 2 ^ 48 ≤ (counterAt s (phys s (c / 64)) (c % 64)).toNat + n) : ∃ w, addCounter s c n = (false, w) ∧
    CounterNow s w (phys s (c / 64)) (c % 64) (2 ^ 48 - 1) := by
  refine ⟨_, ?_, counterNow_kept s _ _ c (show (BitVec.ofNat 48 ctrMax).toNat = 2 ^ 48 - 1 from rfl)⟩
  have hgt : ¬ (counterAt s (phys s (c / 64)) (c % 64)).toNat + n ≤ ctrMax := by unfold ctrMax; omega
  simp only [addCounter, incCounter, hgt, if_false]
theorem find?_range_lowest {f : Nat → Bool} {c : Nat} (hc : c < n) (hf : f c = true) (hl : ∀ j, j < c → f j = false) :
    (List.range n).find? f = some c := by
  rw [List.find?_range_eq_some]
  exact ⟨hf, List.mem_range.2 hc, fun j hj => by simp [hl j hj]⟩
/-- The lowest free counter of a vat in service (R127). -/
theorem ctrAllocate_lowest {c : Nat} (hc : c < 2048) (hn : counterOwner s c = none) (hv : vatStateOf s (c / 64) ≠ 3)
    (hl : ∀ c', c' < c → counterOwner s c' ≠ none ∨ vatStateOf s (c' / 64) = 3) :
    ctrAllocate s r = okWith (setCounterOwner s c (some r.part)) r
      (leBytes 2 c ++ leBytes 6 (counterAt s (phys s (c / 64)) (c % 64)).toNat) := by
  have hfree := find?_range_lowest (f := fun c => decide (counterOwner s c = none) && decide (vatStateOf s (c / 64) ≠ 3)) hc
    (by simp [hn, hv]) fun j hj => by
      rcases hl j hj with h | h
      · simp [h]
      · simp [h]
  unfold ctrAllocate
  rw [hfree]

/-! ### A generation that times out (R125) -/

theorem keyGenerationTimeout_fails (s : State) (slot : Nat) (key : KeySlot) :
    let t := setKey (cancelGeneration s slot) slot (some { key with state := 3 })
    getKey t slot = some { key with state := 3 } ∧ (∀ j, j ≠ slot → getKey t j = getKey s j) ∧ ∀ g ∈ t.fw.gens, g.1 ≠ slot := by
  refine ⟨getKey_setKey_same .., fun j hj => ?_, fun g hg => ?_⟩
  · rw [getKey_setKey_other _ _ hj, getKey, store_of_settled (settled_cancelGeneration slot), getKey]
  · replace hg : g ∈ (cancelGeneration s slot).fw.gens := hg
    simp only [cancelGeneration, endGeneration, List.mem_filter, bne_iff_ne] at hg
    exact hg.2

/-! ### KEY.DELETE (R126) -/

/-- Before its slot is emptied a GENERATING key's generation is abandoned. -/
theorem settled_abandoned (key : KeySlot) (slot : Nat) : settled (if key.state = 1 then cancelGeneration s slot else s) = settled s := by
  split
  · exact settled_cancelGeneration slot
  · rfl
theorem getKey_emptied (h : settled t = settled s) {i j : Nat} (hj : j ≠ i) : getKey (setKey t i none) j = getKey s j := by
  rw [getKey_setKey_other _ _ hj, getKey, store_of_settled h, getKey]

/-! ### The statement -/

/-- Settles O31: each clause carries out the command with the equation of its program (`keyGenerate_symmetric`, `importInto_stores`,
`keyExport_wraps`, `addCounter_adds` and their like), and `answers_serve` and `answers_serveCell` complete it. -/
theorem keyCounterComplete : Obligations.KeyCounterComplete := by
  intro s p d r v k tk
  dsimp only
  refine ⟨fun h => ?_, fun sl key hk h1 => ?_, fun h => ?_, fun h => ?_, fun key hk hp => ?_, fun key hk hp => ?_, fun h => ?_,
    fun c h hc hn hv hl => ?_, ?_⟩
  · refine ⟨fun hb ho c => answers_serveCell rfl h (keyGenerate_unowned hb ho c) rfl, fun hown => ⟨?_, ?_, ?_, ?_⟩⟩
    · intro slot h1 h6 hs hr hf
      obtain ⟨w, x, key, ew, ex, hlen, hx⟩ := keyGenerate_symmetric (k := k) hown h1 h6 hs hr hf
      exact ⟨fun c hc => answers_serveCell rfl h ((hx c).trans (if_neg hc)) ⟨x, key, ex, hlen, rfl⟩,
        answers_serveCell rfl h ((hx .mac).trans (if_pos rfl)) (macDiffered_intro ew)⟩
    · exact fun e h1 h6 hs c => answers_serveCell rfl h (keyGenerate_noSlot hown h1 h6 hs c) rfl
    · exact fun slot h1 h2 hs c => answers_serveCell rfl h (keyGenerate_rsa hown h1 h2 hs c) rfl
    · intro slot c ht hc hs hr hf
      obtain ⟨w, y, x, ew, ey, hx1, hxn, hx⟩ := keyGenerate_curve (k := k) hown ht hc hs hr hf
      obtain ⟨z, a, ez, hz⟩ := keyGenerate_curve_differs (k := k) hown ht hc hs (hf.mono (by omega))
      exact ⟨answers_serveCell rfl h ((hx .agree (by decide)).trans (if_neg (by decide))) ⟨y, x, ey, hx1, hxn, rfl⟩,
        answers_serveCell rfl h hz (differed_intro ez), answers_serveCell rfl h ((hx .mac (by decide)).trans (if_pos rfl)) (macDiffered_intro ew)⟩
  · refine ⟨_, ?_, keyGenerationTimeout_fails s sl.toNat key⟩
    show execKeyGenerationTimeout sl s = _
    simp only [execKeyGenerationTimeout, hk, h1, if_true]
  · refine ⟨?_, ?_, ?_⟩
    · intro slot hb hl hc hs hr hf
      obtain ⟨w, x, ew, ex, hx⟩ := importInto_public (k := k) (curve := 0) (.inl rfl) hc hs hr hf
      exact ⟨answers_serveCell rfl h ((keyImport_modulus hb hl false).trans (hx s false)) ⟨x, ex, rfl⟩,
        answers_serveCell rfl h ((keyImport_modulus hb hl true).trans (hx s true)) (macDiffered_intro ew)⟩
    · intro slot c q hb hcv hq hc hs hr hf
      obtain ⟨w, x, ew, ex, hx⟩ := importInto_public (k := k) (curve := byteAt r.body 1) (.inr rfl) hc hs hr hf
      exact ⟨answers_serveCell rfl h ((keyImport_point hb hcv hq false).trans (hx s false)) ⟨x, ex, rfl⟩,
        answers_serveCell rfl h ((keyImport_point hb hcv hq true).trans (hx s true)) (macDiffered_intro ew)⟩
    · intro kw u kek hb hk ht hu ho
      refine ⟨fun e o he hf m => ?_, fun type curve us mat slot he hbit hown hs hf => ?_⟩
      · obtain ⟨w, ew, -, hw, -⟩ := keyImport_blob (k := k) (n := 0) hb hk ht hu ho (hf.mono (by omega))
        exact answers_serveCell rfl h (hw e o he m) ⟨w, ew, rfl⟩
      · obtain ⟨a, ea, fa, -, ha⟩ := keyImport_blob (k := k) (n := storeBits mat.length) hb hk ht hu ho (hf.mono (by omega))
        have hrec := (chargeUse_records hu).trans ea.records
        obtain ⟨w, x, ew, ex, hx⟩ := importInto_stores (k := k) (type := type) (curve := curve) (pub := publicOf s type curve mat) hbit
          (by rw [hrec.ownCounter]; exact hown) (by rw [hrec.pickSlot]; exact hs) (ea.root.2 (charged_root hu ho.root)) fa
        have hprog := fun m => (ha type curve us mat he m).trans (hx s m)
        exact ⟨answers_serveCell rfl h (hprog false) ⟨x, ea.trans ex, rfl⟩,
          answers_serveCell rfl h (hprog true) (macDiffered_intro (ea.trans ew))⟩
  · refine ⟨fun e he m => answers_serveCell rfl h (keyExport_noKey he m) rfl,
      fun key e hk he m => answers_serveCell rfl h (keyExport_noWrap hk he m) rfl, ?_⟩
    intro key kw u m kek hk hw ht hu hm hkek hf
    obtain ⟨w, ew, hx⟩ := keyExport_wraps hk hw ht hu hm hkek hf
    exact ⟨answers_serveCell rfl h (hx false) ⟨w, ew, rfl⟩, answers_serveCell rfl h (hx true) (macDiffered_intro ew)⟩
  · have hkept := settled_abandoned (s := s) key (u16 r.body 0)
    refine ⟨fun h => answers_serve rfl h (w := setKey (if key.state = 1 then _ else s) _ none) (by simp only [hk, if_neg (not_not_intro hp)]; rfl)
      ⟨getKey_setKey_same .., fun j hj => ?_, completed_of_parlour (parlour_of_settled hkept) _⟩, fun h => answers_serve rfl h (by simp only [hk, if_neg (not_not_intro hp)]; rfl) rfl⟩
    exact getKey_emptied hkept hj
  · exact ⟨fun h => answers_serve rfl h (by simp only [hk, if_pos hp]; rfl) rfl, fun h => answers_serve rfl h (by simp only [hk, if_pos hp]; rfl) rfl⟩
  · exact ⟨fun key hk hp => answers_serve rfl h (by simp only [hk, if_neg hp]; rfl) rfl,
      fun key hk hp => answers_serve rfl h (by simp only [hk, if_pos hp]; rfl) rfl,
      fun hk => answers_serve rfl h (by simp only [hk]; rfl) rfl⟩
  · exact answers_serve rfl h (ctrAllocate_lowest hc hn hv hl) rfl
  · refine ⟨fun h => ⟨fun ho => ?_, fun ho => ?_⟩, fun h he => ⟨fun ho hlt => ?_, fun ho hge => ?_, fun ho => ?_⟩,
      fun h he => ⟨fun ho hb => ?_, fun ho hb => ?_, fun ho => ?_⟩⟩
    · exact answers_serveCell rfl h (if_pos ho) rfl
    · exact answers_serveCell rfl h (if_neg (Bool.eq_false_iff.1 ho)) rfl
    · obtain ⟨w, hw, hadd, hkeep⟩ := addCounter_adds hlt
      have hp : phys w = phys s := by rw [hkeep.2]; rfl
      refine answers_serveCell rfl h (w := w) (by simp only [he, ho, hw, hp, hadd]; rfl) ⟨w, ⟨hadd, hkeep⟩, rfl⟩
    · obtain ⟨w, hw, hadd⟩ := addCounter_exhausts hge
      exact answers_serveCell rfl h (w := w) (by simp only [he, ho, hw]; rfl) ⟨w, hadd, rfl⟩
    · exact answers_serveCell rfl h (by simp only [he, ho]; rfl) rfl
    · exact answers_serve rfl h (by simp only [he, ho, hb]; rfl) rfl
    · exact answers_serve rfl h (by simp only [he, ho, hb]; rfl) rfl
    · exact answers_serve rfl h (by simp only [he, ho]; rfl) rfl

end Sys2Proof.Machine
end

section
/-!
PROOFS. Towards O32: signatures and key agreement (R129 to R132, R240).
-/
namespace Sys2Proof.Machine

variable {s t u w x : State} {v k n : Nat} {r : Request} {d : Doorbell}

/-! ### SIG.SIGN (R129) -/

/-- A key with which a signature is begun: its use charged, its record unwrapped. -/
theorem signKey_opened {key : KeySlot} {slot : Nat} {mat : Bytes} (hu : chargeUse s key = (true, u)) (ho : OpensTo s v slot key mat)
    (hf : Fed s v (openBits key + n)) : ∃ a, EnginesRan u a v ∧ Fed a v n ∧
      ∀ s0 k r f, withCharge s r key (fun t => withKey s0 t v k slot key r f) = f a mat := by
  obtain ⟨a, ea, fa, ha⟩ := withKey_fed (n := n) (charged_fed hu (hf.mono (by omega))) (charged_opens hu ho)
  exact ⟨a, ea, fa, fun s0 k r f => by rw [withCharge_charged hu, ha]⟩

/-- A churn job of one state, both where its two runs agree and where they differ (R241, R242). -/
theorem withChurn_either {l : List Nat} (k : Nat) (good : Bool) (h : Fed s v (n + l.sum)) : ∃ w y z, EnginesRan s w v ∧ Fed w v n ∧
    EnginesRan s y v ∧ ∀ s0 op m r f, withChurn s0 s v k op l m good r f =
      if m then failed (mismatchRecord y v k op z) sFAULT_DETECTED r else f w := by
  obtain ⟨w, ew, fw, hw⟩ := withChurn_fed k good h
  obtain ⟨y, z, ey, hy⟩ := withChurn_differs k h
  refine ⟨w, y, z, ew, fw, ey, fun s0 op m r f => ?_⟩
  cases m with
  | false => exact hw ..
  | true => exact hy ..

/-- A digest, or the digest of the message (R129). -/
def signedDigest (r : Request) : Bytes := if bit r.flags 0 then r.body.drop 8 else sha256 (r.body.drop 8)
/-- The encoded digest an RSA signature raises to the secret exponent. -/
def rsaEncoded (r : Request) (h : Nat) (salt : Bytes) : Nat :=
  beNat (if byteAt r.body 2 = 1 then pssEncode (signedDigest r) salt (16 * h) else pkcs1Encode (signedDigest r) (2 * h))
/-- The body of a response that bears a signature. -/
def signatureBody (sig : Bytes) : Bytes := leBytes 2 sig.length ++ zeros 6 ++ sig

theorem sigSign_rsa {key : KeySlot} {mat : Bytes} (hk : needKey s d r (u16 r.body 0) 0 = .ok key)
    (hs : schemeFits (byteAt r.body 2) key.type = true) (h3 : byteAt r.body 2 ≠ 3) (hu : chargeUse s key = (true, u))
    (ho : OpensTo s v (u16 r.body 0) key mat) (hp : primesOk mat (rsaHalf key.type) = true)
    (hf : Fed s v (openBits key + ((if byteAt r.body 2 = 1 then [256] else []) ++ allDraws 0x11 (rsaHalf key.type) p256).sum)) :
    ∃ salt x w y z, salt.length = 32 ∧ EnginesRan u w v ∧ EnginesRan u y v ∧ ∀ m, sigSign s v k d r m =
      if m || rsaDiffers mat (rsaHalf key.type) (rsaEncoded r (rsaHalf key.type) salt) x then failed (mismatchRecord y v k 0x11 z) sFAULT_DETECTED r
      else okWith w r (signatureBody (rsaPrivate mat (rsaHalf key.type) (rsaEncoded r (rsaHalf key.type) salt))) := by
  obtain ⟨a, ea, fa, ha⟩ := signKey_opened hu ho hf
  let h := rsaHalf key.type
  have eb := (ea.trans (drawBytes_ran a v 32)).trans (drawBits_ran _ v (2 * (16 * h + 128)))
  have fb := drawBits_fed (b := 2 * (16 * h + 128)) (drawBytes_fed (b := 32) fa)
  obtain ⟨w, y, z, ew, -, ey, hw⟩ := withChurn_either (n := 0) k true (by rwa [Nat.zero_add])
  refine ⟨_, (drawBits (drawBytes a 32).2 (2 * (16 * h + 128))).1, w, y, z, drawBytes_length a 32, eb.trans ew, eb.trans ey, fun m => ?_⟩
  simp only [sigSign, hk, hs, Bool.not_true, Bool.false_eq_true, if_false, ha, h3, hp]
  exact hw ..

theorem ecdsaTry_ran (c : Curve) (dd e fuel : Nat) : ∀ s, EnginesRan s (ecdsaTry c dd e fuel s).2 v := by
  induction fuel with
  | zero => exact fun s => .refl s v
  | succ fuel ih =>
    intro s
    simp only [ecdsaTry]
    split
    · exact drawBits_ran s v _
    · exact (drawBits_ran s v _).trans (ih _)
/-- A signature found was made with some nonce (R232). -/
theorem ecdsaTry_found (c : Curve) (dd e fuel : Nat) (q : Nat × Nat) : ∀ s, (ecdsaTry c dd e fuel s).1 = some q →
    ∃ nonce, 1 ≤ nonce ∧ ecdsaSign c dd e nonce = some q := by
  induction fuel with
  | zero => exact fun s h => absurd h (by simp [ecdsaTry])
  | succ fuel ih =>
    intro s h
    simp only [ecdsaTry] at h
    split at h
    · next q' hq => exact ⟨_, by omega, hq.trans h⟩
    · exact ih _ h
section
variable {key : KeySlot} {mat : Bytes} {c : Curve} (hk : needKey s d r (u16 r.body 0) 0 = .ok key)
  (hs : schemeFits (byteAt r.body 2) key.type = true) (h3 : byteAt r.body 2 = 3) (hc : storeCurve s key.curve = some c)
  (hu : chargeUse s key = (true, u)) (ho : OpensTo s v (u16 r.body 0) key mat)
include hk hs h3 hc hu ho

theorem sigSign_range (hb : scalarOk c mat = false) (hf : Fed s v (openBits key)) :
    ∃ w, EnginesRan u w v ∧ ∀ m, sigSign s v k d r m = failed w sBAD_PARAMETER r 0x40000 := by
  obtain ⟨a, ea, -, ha⟩ := signKey_opened (n := 0) hu ho hf
  refine ⟨a, ea, fun m => ?_⟩
  rw [h3] at hs
  simp only [sigSign, hk, h3, hs, Bool.not_true, Bool.false_eq_true, if_false, ha, if_true, ((chargeUse_records hu).trans ea.records).storeCurve, hc,
    hb, Bool.not_false]
theorem sigSign_ecdsa (hb : scalarOk c mat = true) (hf : Fed s v (openBits key + (allDraws 0x21 0 c).sum)) :
    (∃ w, EnginesRan u w v ∧ ((∃ nonce x y, 1 ≤ nonce ∧ ecdsaSign c (beNat mat) (ecdsaNumber c (signedDigest r)) nonce = some (x, y) ∧
        sigSign s v k d r false = okWith w r (signatureBody (beBytes (scalarBytes c) x ++ beBytes (scalarBytes c) y))) ∨
      sigSign s v k d r false = failed w sINTERNAL r)) ∧
    ∃ y z, EnginesRan u y v ∧ sigSign s v k d r true = failed (mismatchRecord y v k 0x21 z) sFAULT_DETECTED r := by
  obtain ⟨a, ea, fa, ha⟩ := signKey_opened hu ho hf
  obtain ⟨b, y, z, eb, -, ey, hb'⟩ := withChurn_either (l := allDraws 0x21 0 c) (n := 0) k true (fa.mono (by omega))
  rw [h3] at hs
  have hprog : ∀ m, sigSign s v k d r m = _ := fun m => by
    simp only [sigSign, hk, h3, hs, Bool.not_true, Bool.false_eq_true, if_false, ha, if_true,
      ((chargeUse_records hu).trans ea.records).storeCurve, hc, hb]
    rfl
  refine ⟨?_, y, z, ea.trans ey, (hprog true).trans (hb' ..)⟩
  have hfound := fun q => ecdsaTry_found c (beNat mat) (ecdsaNumber c (signedDigest r)) 4 q b
  have hran := ecdsaTry_ran (v := v) c (beNat mat) (ecdsaNumber c (signedDigest r)) 4 b
  have hfalse := (hprog false).trans (hb' ..)
  rw [← signedDigest] at hfalse
  rcases hE : ecdsaTry c (beNat mat) (ecdsaNumber c (signedDigest r)) 4 b with ⟨_ | ⟨x, y⟩, t⟩
  all_goals rw [hE] at hfound hran hfalse
  · exact ⟨t, (ea.trans eb).trans hran, .inr hfalse⟩
  · obtain ⟨nonce, hn, hq⟩ := hfound _ rfl
    exact ⟨t, (ea.trans eb).trans hran, .inl ⟨nonce, x, y, hn, hq, hfalse⟩⟩
end

/-! ### SIG.VERIFY (R130) -/

theorem getReg_modMac (s : State) (p : Nat) (f : MacUnit → MacUnit) (a : Nat) : getReg (modMac s p f) a = getReg s a := rfl
theorem getReg_modChurn (s : State) (p : Nat) (f : Churn → Churn) (a : Nat) : getReg (modChurn s p f) a = getReg s a := rfl
/-- MAC work leaves the churn's count of jobs (R248, R271). -/
theorem chnOps_internalDraw (s : State) (q b : Nat) :
    getReg (internalDraw s v q b).2 (R.CHN_OPS v) = getReg s (R.CHN_OPS v) := by
  simp only [internalDraw]
  split
  · rfl
  split
  · rfl
  split
  · exact getReg_countReg_other _ _ (by unfold R.CHN_OPS R.RNG_FALLBACK; omega)
  · split
    · rfl
    · rfl
theorem chnOps_reseed (s : State) : getReg (reseed s v).2 (R.CHN_OPS v) = getReg s (R.CHN_OPS v) := by
  have hdraw := chnOps_internalDraw (v := v) s 1 256
  unfold reseed
  split
  · next hr =>
    rw [hr] at hdraw
    exact (getReg_modMac ..).trans ((getReg_countReg_other _ _ (by unfold R.CHN_OPS R.MAC_RESEEDS; omega)).trans hdraw)
  · next hr =>
    rw [hr] at hdraw
    exact hdraw
  · next hr =>
    rw [hr] at hdraw
    exact hdraw
theorem chnOps_reseeds (k : Nat) : ∀ s, getReg (reseeds v k s).2 (R.CHN_OPS v) = getReg s (R.CHN_OPS v) := by
  induction k with
  | zero => exact fun _ => rfl
  | succ k ih =>
    intro s
    have hone := chnOps_reseed (v := v) s
    unfold reseeds
    split
    · next hr =>
      rw [hr] at hone
      exact (ih _).trans hone
    · exact hone
theorem chnOps_useBlocks (s : State) (b : Nat) : getReg (useBlocks s v b).2 (R.CHN_OPS v) = getReg s (R.CHN_OPS v) := by
  simp only [useBlocks]
  split
  · rfl
  have hall := chnOps_reseeds (v := v) (b2n (getVat s v).mac.dry + ((if (getVat s v).mac.dry then 0 else (getVat s v).mac.sinceReseed) + b) / 256) s
  split
  · next hr =>
    rw [hr] at hall
    exact hall
  · rfl
  · exact hall
/-- A key's record unwrapped, which leaves the churn's count. -/
theorem withKey_chnOps {slot : Nat} {key : KeySlot} {m : Bytes} (h : Fed s v (openBits key)) (hm : OpensTo s v slot key m) :
    ∃ w, EnginesRan s w v ∧ getReg w (R.CHN_OPS v) = getReg s (R.CHN_OPS v) ∧ ∀ s0 k r f, withKey s0 s v k slot key r f = f w m := by
  obtain ⟨w, hw, ew, -⟩ := useBlocks_fed (n := 0) (b := kdfBlocks 11 3 256 + kwBlocks key.record.length) (h.mono (by unfold openBits; omega))
  have hops := chnOps_useBlocks (v := v) s (kdfBlocks 11 3 256 + kwBlocks key.record.length)
  rw [hw] at hops
  obtain ⟨hr, b, hb, hh, rfl⟩ := (ew.opens slot key m).2 hm
  exact ⟨w, ew, hops, fun _ _ _ _ => by
    simp [withKey, withRoot, rootLoaded, show (getVat s v).mac.ownerRoot = true from hm.1, withMac, hw, hb, hh]⟩

theorem churnTurn_ran (s : State) (k : Nat) : EnginesRan s (churnTurn s v k) v := by
  simp only [churnTurn]
  split
  · exact .refl s v
  · refine ⟨⟨_, _, _, rfl⟩, fun q hq => ?_, fun q hq => getVat_setVat_other _ _ hq, (getVat s v).noise.bits,
      (getVat s v).mac.sinceReseed, k, getVat_setVat_same ..⟩
    exact (getReg_modChurn ..).trans (getReg_countReg_other _ _ fun e => hq (by simp [e]))
theorem chnOps_churnTurn (s : State) (k : Nat) : getReg (churnTurn s v k) (R.CHN_OPS v) = getReg s (R.CHN_OPS v) := by
  simp only [churnTurn]
  split
  · rfl
  · exact (getReg_modChurn ..).trans (getReg_countReg_other _ _ (by unfold R.CHN_OPS R.CHN_SWITCHES; omega))
/-- CHN_OPS counts a job that ends OK, up to its largest value. -/
theorem chnOps_counted (s : State) (k : Nat) (good : Bool) :
    let w := if good then countReg (churnTurn s v k) (R.CHN_OPS v) 0xFFFF else churnTurn s v k
    EnginesRan s w v ∧ (getReg w (R.CHN_OPS v)).toNat = min 0xFFFF ((getReg s (R.CHN_OPS v)).toNat + b2n good) := by
  have hran : EnginesRan s (churnTurn s v k) v := churnTurn_ran s k
  have hops := chnOps_churnTurn (v := v) s k
  have hlt := (getReg s (R.CHN_OPS v)).isLt
  cases good with
  | false => exact ⟨hran, by rw [if_neg Bool.false_ne_true, hops, b2n, if_neg Bool.false_ne_true]; omega⟩
  | true =>
    refine ⟨hran.trans ⟨⟨_, _, _, rfl⟩, fun q hq => getReg_countReg_other _ _ fun e => hq (by simp [e]), fun q _ => rfl, _, _, _, rfl⟩, ?_⟩
    rw [if_pos rfl, getReg_countReg_same, hops, BitVec.toNat_ofNat, b2n, if_pos rfl]
    omega
theorem sigCheck_counts {scheme curve : Nat} {pub digest sig : Bytes}
    (hs : scheme ≠ 3 → beNat pub % 2 = 1 ∧ bitLen (beNat pub) = 8 * pub.length) : ∃ w, EnginesRan s w v ∧
      (getReg w (R.CHN_OPS v)).toNat = min 0xFFFF ((getReg s (R.CHN_OPS v)).toNat + b2n (decide (scheme = 3) || decide (beNat sig < beNat pub))) ∧
      ∀ s0, sigCheck s0 s v k r scheme curve pub digest sig =
        okWith w r [BitVec.ofNat 8 (b2n (verifies1 scheme (storeCurve s curve) pub digest sig))] := by
  obtain ⟨ew, hops⟩ := chnOps_counted (v := v) s k (decide (scheme = 3) || decide (beNat sig < beNat pub))
  refine ⟨_, ew, hops, fun s0 => ?_⟩
  have hsized : ¬ (scheme ≠ 3 ∧ (beNat pub % 2 = 0 ∨ bitLen (beNat pub) ≠ 8 * pub.length)) := fun h => by
    obtain ⟨hodd, hlen⟩ := hs h.1
    omega
  rw [sigCheck, if_neg hsized, ← ew.records.storeCurve]
  rfl

/-! ### KA.ECDH (R132) -/

/-- The end of a key agreement: the key derived from the shared point is stored. -/
def agreedKey (s0 t : State) (v k : Nat) (r : Request) (c : Curve) (mat : Bytes) (q : Nat × Nat) (out : Nat) (differs : Bool) :
    State × Option Response :=
  match ecMul c (c.h * beNat mat) (some q) with
  | none => failed t sBAD_PARAMETER r (0x30000 + 48)
  | some (x, _) =>
    let n := keyBytesOf (byteAt r.body 2)
    let out' := kdf (sha256 (beBytes c.bytes x)) (slice r.body 16 (byteAt r.body 8)) [BitVec.ofNat 8 r.part] (8 * n)
    withMac s0 t v k (kdfBlocks (byteAt r.body 8) 1 (8 * n)) true differs r fun t =>
      withStore s0 t v k out (byteAt r.body 2) 0 r.part (BitVec.ofNat 16 (u16 r.body 4)) 0xFFFF out' [] differs r fun t => okWith t r (slotReply t out)

section
variable {key : KeySlot} {mat : Bytes} {c : Curve} {q : Nat × Nat} {out : Nat} (hk : needKey s d r (u16 r.body 0) 2 = .ok key) (ht : key.type = 0x20)
  (hb : bit (BitVec.ofNat 16 (u16 r.body 4)) 10 = false) (hc : storeCurve s key.curve = some c) (hq : pointOf c (r.body.drop 48) = some q)
  (hs : pickSlot s (u16 r.body 6) (keyBytesOf (byteAt r.body 2)) = .ok out) (hu : chargeUse s key = (true, u))
  (ho : OpensTo s v (u16 r.body 0) key mat) (hm : scalarOk c mat = true)
include hk ht hb hc hq hs hu ho hm

theorem kaEcdh_opened (hf : Fed s v (openBits key + ((allDraws 0x23 0 c).sum + n))) : ∃ w y z, EnginesRan u w v ∧ Fed w v n ∧ EnginesRan u y v ∧
    ∀ m, kaEcdh s v k d r m = if m = .churn then failed (mismatchRecord y v k 0x23 z) sFAULT_DETECTED r
      else agreedKey s w v k r c mat q out (decide (m = .mac)) := by
  obtain ⟨a, ea, fa, ha⟩ := signKey_opened hu ho hf
  obtain ⟨w, y, z, ew, fw, ey, hw⟩ := withChurn_either (l := allDraws 0x23 0 c) (n := n) k (ecMul c (c.h * beNat mat) (some q)).isSome
    (fa.mono (by omega))
  refine ⟨w, y, z, ea.trans ew, fw, ea.trans ey, fun m => ?_⟩
  simp only [kaEcdh, hk, ht, ne_eq, not_true_eq_false, hb, Bool.false_eq_true, hc, hq, hs, ha, hm, Bool.not_true, if_false]
  refine (hw ..).trans ?_
  simp only [decide_eq_true_eq]
  rfl
end
theorem agreedKey_infinity {c : Curve} {mat : Bytes} {q : Nat × Nat} {out : Nat} (h : ecMul c (c.h * beNat mat) (some q) = none) (s0 : State)
    (m : Bool) : agreedKey s0 t v k r c mat q out m = failed t sBAD_PARAMETER r 0x30030 := by
  simp only [agreedKey, h]
theorem agreedKey_stored {c : Curve} {mat : Bytes} {q : Nat × Nat} {x y : Nat} (out : Nat) (h : ecMul c (c.h * beNat mat) (some q) = some (x, y))
    (hr : HasOwnerRoot t v) (hf : Fed t v (twiceBits (kdfBlocks (byteAt r.body 8) 1 (8 * keyBytesOf (byteAt r.body 2))) + storeBits (keyBytesOf (byteAt r.body 2)))) :
    let o := kdf (sha256 (beBytes c.bytes x)) (slice r.body 16 (byteAt r.body 8)) [BitVec.ofNat 8 r.part] (8 * keyBytesOf (byteAt r.body 2))
    ∃ a b, EnginesRan t a v ∧ EnginesRan t b v ∧ ∀ s0 m, agreedKey s0 t v k r c mat q out m =
      if m then failed (macMismatch a v k) sINTERNAL r
      else okWith (storeKey b out (byteAt r.body 2) 0 r.part (BitVec.ofNat 16 (u16 r.body 4)) 0xFFFF o []) r
        (leBytes 2 out ++ kcvOf (byteAt r.body 2) o ++ zeros 3) := by
  intro o
  have hlen : o.length = keyBytesOf (byteAt r.body 2) := kdf_length _ _ _ _ (sha256_length _)
  obtain ⟨a, ea, fa, ha⟩ := withMac_twice (b := kdfBlocks (byteAt r.body 8) 1 (8 * keyBytesOf (byteAt r.body 2)))
    (n := storeBits (keyBytesOf (byteAt r.body 2))) (hf.mono (by omega))
  obtain ⟨b, x', -, ex, -, hx⟩ := withStore_fed (type := byteAt r.body 2) (m := o) (n := 0) (ea.root.2 hr) (by rw [hlen]; exact fa.mono (by omega))
  refine ⟨a, x', ea, ea.trans ex, fun s0 m => ?_⟩
  simp only [agreedKey, h, ha]
  cases m with
  | true => rfl
  | false =>
    rw [if_neg Bool.false_ne_true]
    exact (hx ..).trans (congrArg (okWith _ r) (slotReply_storeKey ..))

end Sys2Proof.Machine
end

section
/-!
PROOFS. Towards O32: check values, PIN and key translation (R134 to R137, R273).
-/
namespace Sys2Proof.Machine

variable {s t u w x : State} {v k n : Nat} {r : Request} {d : Doorbell}

/-! ### MAC.GENERATE and MAC.VERIFY (R134, R135) -/

theorem Fed.from_zero (h : Fed s v n) : Fed s v (0 + n) := by rwa [Nat.zero_add]
theorem EnginesRan.rootKey (h : EnginesRan s w v) : rootKey w = rootKey s := by
  obtain ⟨⟨_, _, _, rfl⟩, _⟩ := h
  rfl
/-- MAC work, run once or, where the request asks it, twice and compared. -/
theorem withMac_either {b : Nat} (twice : Bool) (h : Fed s v (n + if twice then twiceBits b else maskBits b)) :
    ∃ w, EnginesRan s w v ∧ Fed w v n ∧ ∀ s0 k m r f, withMac s0 s v k b twice m r f =
      if twice && m then failed (macMismatch w v k) sINTERNAL r else f w := by
  cases twice with
  | false =>
    obtain ⟨w, ew, fw, hw⟩ := withMac_fed h
    exact ⟨w, ew, fw, hw⟩
  | true =>
    obtain ⟨w, ew, fw, hw⟩ := withMac_twice h
    exact ⟨w, ew, fw, hw⟩
/-- The key of a KSPEC is found, charged and unwrapped, or derived from a root (R134). -/
theorem withKspec_opened {type b : Nat} {key : Bytes} (h : KspecKey s v d r type key u b) (hf : Fed s v (n + b)) :
    ∃ w, EnginesRan u w v ∧ Fed w v n ∧ ∀ s0 k f, withKspec s0 s v k d r f = f w type key := by
  simp only [KspecKey] at h
  rcases h with ⟨h0, slot, hk, rfl, hu, ho, rfl⟩ | ⟨h0, hroot, rfl, rfl, rfl, rfl⟩
  · obtain ⟨w, ew, fw, hw⟩ := withKey_fed (charged_fed hu hf) (charged_opens hu ho)
    refine ⟨w, ew, fw, fun s0 k f => ?_⟩
    simp only [withKspec, h0, if_true, hk, withCharge_charged hu]
    exact hw ..
  · obtain ⟨w, ew, fw, hw⟩ := withMac_fed hf
    refine ⟨w, ew, fw, fun s0 k f => ?_⟩
    simp only [withKspec, h0, if_false, withRoot, hroot, if_true]
    refine (hw ..).trans ?_
    rw [ew.rootKey]

/-- The body of the response of MAC.GENERATE, or of MAC.VERIFY: the check value, or whether it is that of the request. -/
def macFound (r : Request) (verify : Bool) (type : Nat) (key data : Bytes) : Bytes :=
  let x := (macValue (byteAt r.body 0) (byteAt r.body 1) type key data).take (byteAt r.body 2)
  if verify then [BitVec.ofNat 8 (b2n (decide (x = r.body.drop (r.body.length - byteAt r.body 2))))] else x
/-- What a check value over data does once the data is there. -/
def macOver (s t : State) (v k : Nat) (d : Doorbell) (r : Request) (verify mismatch : Bool) (data : Bytes) : State × Option Response :=
  withKspec s t v k d r fun t type key =>
    withMac s t v k (macBlocks (byteAt r.body 0) (byteAt r.body 1) type data.length) (bit r.flags 2) mismatch r fun t =>
      okWith t r (macFound r verify type key data)
theorem macCommand_refused {verify : Bool} {e o : Nat} (p : Nat) (h : kspecRefusal s d r (if verify then 4 else 3) = some (e, o)) (m : Bool) :
    macCommand s p v k d r verify m = failed (dropMacDma s p d) e r o := by
  simp only [macCommand, h]
theorem macCommand_of_fits {verify : Bool} (p : Nat) (h : kspecRefusal s d r (if verify then 4 else 3) = none) (m : Bool) :
    macCommand s p v k d r verify m = withMacData s p d r fun t data => macOver s t v k d r verify m data := by
  simp only [macCommand, h]
  cases verify with
  | false => rfl
  | true => rfl
theorem macOver_found {type b : Nat} {key data : Bytes} (verify : Bool) (h : KspecKey t v d r type key u b)
    (hf : Fed t v (b + if bit r.flags 2 then twiceBits (macBlocks (byteAt r.body 0) (byteAt r.body 1) type data.length)
      else maskBits (macBlocks (byteAt r.body 0) (byteAt r.body 1) type data.length))) :
    ∃ w, EnginesRan u w v ∧ ∀ s m, macOver s t v k d r verify m data =
      if bit r.flags 2 && m then failed (macMismatch w v k) sINTERNAL r else okWith w r (macFound r verify type key data) := by
  obtain ⟨a, ea, fa, ha⟩ := withKspec_opened h ((Nat.add_comm b _) ▸ hf)
  obtain ⟨w, ew, -, hw⟩ := withMac_either (n := 0) (bit r.flags 2) fa.from_zero
  exact ⟨w, ea.trans ew, fun s m => (ha ..).trans (hw ..)⟩

/-! Where the data is (R134, R400). -/

theorem withMacData_inline {p : Nat} (h : bit r.flags 1 = false) (f : State → Bytes → State × Option Response) :
    withMacData s p d r f = f s (slice r.body 48 (u32 r.body 44)) := by
  simp only [withMacData, h, Bool.not_false, if_true]
theorem withMacData_starts {p ch : Nat} (h : bit r.flags 1 = true) (hd : d.dma = none) (hu : dmaInUse s = false)
    (hc : ((List.range 64).find? (fun c => decide (dmaState (getDma s c) = 0)) <|>
      (List.range 64).find? (fun c => decide (dmaState (getDma s c) = 3))) = some ch) (f : State → Bytes → State × Option Response) :
    withMacData s p d r f = (startMacDma s p ch d r, none) := by
  simp only [withMacData, h, hd, hu, hc, Bool.not_true, Bool.false_eq_true, if_false]
theorem withMacData_fails {p ch : Nat} (h : bit r.flags 1 = true) (hd : d.dma = some ch) (hi : (getDma s ch).phase = .idle)
    (he : getBit s (R.DMA_CH_EVENT ch) 3 = false) (f : State → Bytes → State × Option Response) :
    withMacData s p d r f = failed (endMacDma s p ch d) sINTEGRITY r (getDma s ch).status.toNat := by
  simp only [withMacData, h, hd, hi, he, Bool.not_true, Bool.false_eq_true, if_false, ne_eq, not_true_eq_false]
theorem drawBytes_zero (s : State) : drawBytes s 0 = ([], s) := rfl
theorem withMacData_buffer {p ch : Nat} (h : bit r.flags 1 = true) (hd : d.dma = some ch) (hi : (getDma s ch).phase = .idle)
    (he : getBit s (R.DMA_CH_EVENT ch) 3 = true) (hn : u32 r.body 44 ≤ 2 * dmaBufferWords) (f : State → Bytes → State × Option Response) :
    withMacData s p d r f = f (endMacDma s p ch d) (memBytes s dmaBuffer (u32 r.body 44)) := by
  simp only [withMacData, h, hd, hi, he, Nat.sub_eq_zero_of_le hn, drawBytes_zero, Nat.min_eq_left hn, List.append_nil, Bool.not_true,
    Bool.false_eq_true, if_false, if_true, ne_eq, not_true_eq_false]
/-- A channel given back leaves the vats as they were. -/
theorem fed_endMacDma {p ch : Nat} (h : Fed s v n) : Fed (endMacDma s p ch d) v n := h

/-! ### PIN.TRANSLATE (R136) -/

theorem nibbles_length (b : Bytes) : (nibbles b).length = 2 * b.length := by
  induction b with
  | nil => rfl
  | cons x b ih =>
    simp only [nibbles, List.flatMap_cons, List.length_append, List.length_cons, List.length_nil] at ih ⊢
    omega
theorem nibbles_lt (b : Bytes) : ∀ f ∈ nibbles b, f < 16 := by
  intro f hf
  obtain ⟨x, -, hx⟩ := List.mem_flatMap.1 hf
  have := x.isLt
  simp only [List.mem_cons, List.not_mem_nil, or_false] at hx
  omega

section
variable {ki ko : KeySlot} {mi mo : Bytes} {si so : Nat}
/-- Two keys charged one after the other and their records unwrapped. -/
theorem twoKeys_opened (hi : chargeUse s ki = (true, u)) (ho : chargeUse u ko = (true, w)) (oi : OpensTo s v si ki mi)
    (oo : OpensTo s v so ko mo) (hf : Fed s v (openBits ki + openBits ko + n)) : ∃ x, EnginesRan w x v ∧ Fed x v n ∧ SameRecords s x ∧
      ∀ s0 k r (f : State → Bytes → Bytes → State × Option Response), (withCharge s r ki fun t => withCharge t r ko fun t => withKey s0 t v k si ki r fun t mi =>
        withKey s0 t v k so ko r fun t mo => f t mi mo) = f x mi mo := by
  obtain ⟨a, ea, fa, ha⟩ := withKey_fed (n := n + openBits ko) (charged_fed ho (charged_fed hi (hf.mono (by omega))))
    (charged_opens ho (charged_opens hi oi))
  obtain ⟨x, ex, fx, hx⟩ := withKey_fed fa ((ea.opens so ko mo).2 (charged_opens ho (charged_opens hi oo)))
  refine ⟨x, ea.trans ex, fx, ((chargeUse_records hi).trans (chargeUse_records ho)).trans (ea.trans ex).records, fun s0 k r f => ?_⟩
  rw [withCharge_charged hi, withCharge_charged ho, ha, hx]

section
variable (hki : needKey s d r (u16 r.body 2) 7 = .ok ki) (hko : needKey s d r (u16 r.body 4) 8 = .ok ko)
  (fi : pinKeyFits (byteAt r.body 0) ki.type = true) (fo : pinKeyFits (byteAt r.body 1) ko.type = true) (hi : chargeUse s ki = (true, u))
  (ho : chargeUse u ko = (true, w)) (oi : OpensTo s v (u16 r.body 2) ki mi) (oo : OpensTo s v (u16 r.body 4) ko mo)
include hki hko fi fo hi ho oi oo

theorem pinTranslate_sealed {pin : List Nat} (hp : openPin (byteAt r.body 0) (panDigits r.body) ki.type mi (slice r.body 28 16) = some pin)
    (hf : Fed s v (openBits ki + openBits ko + maskBits (if byteAt r.body 0 = 4 then 2 else 1) +
      (if byteAt r.body 1 = 3 ∨ byteAt r.body 1 = 4 then 128 else 0) + twiceBits (if byteAt r.body 1 = 4 then 2 else 1))) :
    ∃ x fill, EnginesRan w x v ∧ fill.length = 32 ∧ (∀ f ∈ fill, f < 16) ∧ ∀ m, pinTranslate s v k d r m =
      if m then failed (macMismatch x v k) sINTERNAL r
      else okWith x r (sealPin (byteAt r.body 1) (panDigits r.body) pin fill ko.type mo) := by
  obtain ⟨a, ea, fa, -, ha⟩ := twoKeys_opened (n := twiceBits (if byteAt r.body 1 = 4 then 2 else 1) +
    (if byteAt r.body 1 = 3 ∨ byteAt r.body 1 = 4 then 128 else 0) + maskBits (if byteAt r.body 0 = 4 then 2 else 1)) hi ho oi oo (hf.mono (by omega))
  obtain ⟨b, eb, fb, hb⟩ := withMac_fed fa
  obtain ⟨c, ec, fc, hc⟩ := withDraw_fed fb
  obtain ⟨x, ex, -, hx⟩ := withMac_twice (n := 0) (drawBytes_fed (b := 16) fc).from_zero
  refine ⟨x, nibbles (drawBytes c 16).1, ea.trans (eb.trans (ec.trans ((drawBytes_ran c v 16).trans ex))),
    (nibbles_length _).trans (by rw [drawBytes_length]), nibbles_lt _, fun m => ?_⟩
  simp only [pinTranslate, hki, hko, fi, fo, Bool.not_true, Bool.false_eq_true, if_false]
  refine (ha ..).trans ((hb ..).trans ?_)
  simp only [hp, hc]
  exact hx ..
theorem pinTranslate_noPin (hp : openPin (byteAt r.body 0) (panDigits r.body) ki.type mi (slice r.body 28 16) = none)
    (hf : Fed s v (openBits ki + openBits ko + maskBits (if byteAt r.body 0 = 4 then 2 else 1))) :
    ∃ x, EnginesRan w x v ∧ ∀ m, pinTranslate s v k d r m = failed x sBAD_PARAMETER r 0x21001C := by
  obtain ⟨a, ea, fa, -, ha⟩ := twoKeys_opened (n := 0 + maskBits (if byteAt r.body 0 = 4 then 2 else 1)) hi ho oi oo (hf.mono (by omega))
  obtain ⟨b, eb, -, hb⟩ := withMac_fed fa
  refine ⟨b, ea.trans eb, fun m => ?_⟩
  simp only [pinTranslate, hki, hko, fi, fo, Bool.not_true, Bool.false_eq_true, if_false]
  refine (ha ..).trans ((hb ..).trans ?_)
  rw [hp]
end

/-! ### KEY.TRANSLATE (R137) -/

/-- A KCV's two runs, where the key has a KCV. -/
theorem withKcv_fed {type : Nat} (h : Fed s v (n + twiceBits 1)) : ∃ w, EnginesRan s w v ∧
    ∀ s0 k r f, withKcv s0 s v k type false r f = f w := by
  by_cases ht : 1 ≤ type ∧ type ≤ 5
  · obtain ⟨w, ew, -, hw⟩ := withMac_twice h
    exact ⟨w, ew, fun s0 k r f => (if_pos ht).trans (hw ..)⟩
  · exact ⟨s, .refl s v, fun s0 k r f => if_neg ht⟩
theorem SameRecords.openTranslated (h : SameRecords s t) : openTranslated t = openTranslated s := by
  funext b kek
  simp only [Machine.openTranslated, h.openBlob]
/-- Whether a key's type wraps in a format of R137. -/
def TranslateFits (format type : Nat) : Prop := if format = 1 then 1 ≤ type ∧ type ≤ 3 else type = 4 ∨ type = 5
theorem translate_fits {format type : Nat} (h : TranslateFits format type) :
    (if format = 1 then decide (1 ≤ type) && decide (type ≤ 3) else decide (type = 4) || decide (type = 5)) = true := by
  unfold TranslateFits at h
  split
  · next hf => simpa [hf] using h
  · next hf => simpa [hf] using h

section
variable (hki : needKey s d r (u16 r.body 2) 6 = .ok ki) (hko : needKey s d r (u16 r.body 4) 5 = .ok ko)
  (fi : TranslateFits (byteAt r.body 0) ki.type) (fo : TranslateFits (byteAt r.body 1) ko.type) (hi : chargeUse s ki = (true, u))
  (ho : chargeUse u ko = (true, w)) (oi : OpensTo s v (u16 r.body 2) ki mi) (oo : OpensTo s v (u16 r.body 4) ko mo)
include hki hko fi fo hi ho oi oo

theorem keyTranslate_translated {type curve : Nat} {usage : BitVec 16} {mat : Bytes}
    (he : openTranslated s r.body mi = .ok (type, curve, usage, mat)) :
    let out := if byteAt r.body 1 = 1 then kwWrap mo (keyBlock type curve usage mat) else ecb (tdesEnc mo) mat
    Fed s v (openBits ki + openBits ko + maskBits (blobBlocks (byteAt r.body 0) (r.body.length - 16)) +
      twiceBits (blobBlocks (byteAt r.body 1) out.length) + twiceBits 1) →
    ∃ x y, EnginesRan w x v ∧ EnginesRan w y v ∧ ∀ m, keyTranslate s v k d r m =
      if m then failed (macMismatch y v k) sINTERNAL r else okWith x r (leBytes 2 out.length ++ zeros 6 ++ out ++ kcvOf type mat) := by
  intro out hf
  obtain ⟨a, ea, fa, hrec, ha⟩ := twoKeys_opened (n := 0 + twiceBits 1 + twiceBits (blobBlocks (byteAt r.body 1) out.length) +
    maskBits (blobBlocks (byteAt r.body 0) (r.body.length - 16))) hi ho oi oo (hf.mono (by omega))
  obtain ⟨b, eb, fb, hb⟩ := withMac_fed fa
  obtain ⟨y, ey, fy, hy⟩ := withMac_twice fb
  obtain ⟨x, ex, hx⟩ := withKcv_fed (type := type) fy
  have hopen : openTranslated b r.body mi = .ok (type, curve, usage, mat) := by rw [(hrec.trans eb.records).openTranslated, he]
  refine ⟨x, y, ea.trans (eb.trans (ey.trans ex)), ea.trans (eb.trans ey), fun m => ?_⟩
  simp only [keyTranslate, hki, hko, translate_fits fi, translate_fits fo, Bool.not_true, Bool.false_eq_true, if_false]
  refine (ha ..).trans ((hb ..).trans ?_)
  simp only [hopen]
  refine (hy ..).trans ?_
  cases m with
  | true => rfl
  | false => exact (if_neg Bool.false_ne_true).trans ((hx ..).trans (if_neg Bool.false_ne_true).symm)
theorem keyTranslate_refused {e o : Nat} (he : openTranslated s r.body mi = .error (e, o))
    (hf : Fed s v (openBits ki + openBits ko + maskBits (blobBlocks (byteAt r.body 0) (r.body.length - 16)))) :
    ∃ x, EnginesRan w x v ∧ ∀ m, keyTranslate s v k d r m = failed x e r o := by
  obtain ⟨a, ea, fa, hrec, ha⟩ := twoKeys_opened (n := 0 + maskBits (blobBlocks (byteAt r.body 0) (r.body.length - 16))) hi ho oi oo
    (hf.mono (by omega))
  obtain ⟨b, eb, -, hb⟩ := withMac_fed fa
  have hopen : openTranslated b r.body mi = .error (e, o) := by rw [(hrec.trans eb.records).openTranslated, he]
  refine ⟨b, ea.trans eb, fun m => ?_⟩
  simp only [keyTranslate, hki, hko, translate_fits fi, translate_fits fo, Bool.not_true, Bool.false_eq_true, if_false]
  refine (ha ..).trans ((hb ..).trans ?_)
  simp only [hopen]
end
end

end Sys2Proof.Machine
end

section
/-!
PROOFS. Towards O32: software reads of random bits (R138, R291) and CURVE.LOAD (R133, R240).
-/
namespace Sys2Proof.Machine

variable {s t u w : State} {v k n : Nat} {r : Request} {d : Doorbell}

/-! ### Software reads (R291) -/

/-- One read of a batch: the words so far, the state, and whether UNDERRUN was met. -/
def softStep (q : List (BitVec 16) × State × Bool) (_ : Nat) : List (BitVec 16) × State × Bool :=
  (q.1 ++ [(softRead q.2.1).1], (softRead q.2.1).2, q.2.2 || softDry q.2.1)
theorem softBatch_eq (s : State) (n : Nat) : softBatch s n =
    let q := (List.range ((n + 1) / 2)).foldl softStep ([], s, false)
    if q.2.2 then (none, q.2.1) else (some ((q.1.flatMap wordBytes).take n), q.2.1) := rfl
theorem settled_softRead (s : State) : settled (softRead s).2 = settled s := by
  unfold softRead
  split
  · rfl
  · rfl
theorem settled_softBatch (s : State) (n : Nat) : settled (softBatch s n).2 = settled s := by
  have hall := foldl_keeps (fun q : List (BitVec 16) × State × Bool => settled q.2.1) softStep (fun q _ => settled_softRead q.2.1)
    (List.range ((n + 1) / 2)) ([], s, false)
  simp only [softBatch_eq]
  split
  · exact hall
  · exact hall
/-- Reads above SOFT_FLOOR all answer a word. -/
theorem softStep_enough (l : List Nat) : ∀ acc s, getFld s R.RNG_CQ_CFG 11 0 * 256 + 16 * l.length ≤ s.central.bits →
    ∃ vs t, l.foldl softStep (acc, s, false) = (acc ++ vs, t, false) ∧ vs.length = l.length ∧ t.central.bits + 16 * l.length = s.central.bits := by
  induction l with
  | nil => exact fun acc s _ => ⟨[], s, by simp, rfl, rfl⟩
  | cons a l ih =>
    intro acc s h
    rw [List.length_cons] at h
    have hdry : softDry s = false := decide_eq_false (by omega)
    let next := (draw16 { s with central := { s.central with bits := s.central.bits - 16 } }).2
    obtain ⟨vs, t, ht, hl, hb⟩ := ih (acc ++ [Config.random s.fresh]) next
      (show getFld s R.RNG_CQ_CFG 11 0 * 256 + 16 * l.length ≤ s.central.bits - 16 by omega)
    have hstep : softStep (acc, s, false) a = (acc ++ [Config.random s.fresh], next, false) := by
      simp only [softStep, softRead, hdry]
      rfl
    refine ⟨Config.random s.fresh :: vs, t, ?_, by simp [hl], ?_⟩
    · rw [List.foldl_cons, hstep, ht, List.append_assoc]
      rfl
    · replace hb : t.central.bits + 16 * l.length = s.central.bits - 16 := hb
      rw [List.length_cons]
      omega
theorem wordBytes_flatMap_length (l : List (BitVec 16)) : (l.flatMap wordBytes).length = 2 * l.length := by
  induction l with
  | nil => rfl
  | cons x l ih =>
    simp only [List.flatMap_cons, List.length_append, List.length_cons, ih, wordBytes, List.length_nil]
    omega
theorem readRandom_served (h : softEnough s n = true) : ∃ b t, readRandom s n = (.served, b, t) ∧ b.length = n ∧
    t.central.bits + 16 * ((n + 1) / 2) = s.central.bits ∧ settled t = settled s := by
  have hle : getFld s R.RNG_CQ_CFG 11 0 * 256 + 16 * (List.range ((n + 1) / 2)).length ≤ s.central.bits := by
    rw [List.length_range]
    exact of_decide_eq_true h
  obtain ⟨vs, t, ht, hl, hb⟩ := softStep_enough (List.range ((n + 1) / 2)) [] s hle
  rw [List.length_range] at hl hb
  have hbatch : softBatch s n = (some ((vs.flatMap wordBytes).take n), t) := by
    rw [softBatch_eq, ht]
    rfl
  refine ⟨(vs.flatMap wordBytes).take n, t, by simp only [readRandom, h, if_true, hbatch], ?_, hb, ?_⟩
  · rw [List.length_take, wordBytes_flatMap_length, hl]
    omega
  · have := settled_softBatch s n
    rwa [hbatch] at this
theorem readRandom_stopped (h : softEnough s n = false) (ha : allStopped s = true) : readRandom s n = (.stopped, [], (softBatch s n).2) := by
  simp only [readRandom, h, ha, if_true, Bool.false_eq_true, if_false]
theorem readRandom_waits (h : softEnough s n = false) (ha : allStopped s = false) : readRandom s n = (.waits, [], s) := by
  simp only [readRandom, h, ha, Bool.false_eq_true, if_false]

/-! ### A churn's own checks of a curve (R239, R240) -/

/-- What a check of a curve is decided by in a state: which sources have stopped, and what the entries of the churns hold. -/
def churnView (s : State) : State × (Nat → BitVec 2 × Tbl (Option Curve) × BitVec 16) :=
  (settled s, fun q => ((getVat s q).noise.state, (getVat s q).churn.curves, (getVat s q).churn.reserved))
theorem churnView_getVat (h : churnView t = churnView s) (q : Nat) : (getVat t q).noise.state = (getVat s q).noise.state ∧
    (getVat t q).churn.curves = (getVat s q).churn.curves ∧ (getVat t q).churn.reserved = (getVat s q).churn.reserved := by
  have hq := congrFun (congrArg Prod.snd h) q
  simp only [churnView, Prod.mk.injEq] at hq
  exact hq
theorem allStopped_congr (hp : phys t = phys s) (h : ∀ q, (getVat t q).noise.state = (getVat s q).noise.state) : allStopped t = allStopped s := by
  simp only [allStopped, hp, h]
theorem settled_of_view (h : churnView t = churnView s) : settled t = settled s := congrArg Prod.fst h
theorem allStopped_of_view (h : churnView t = churnView s) : allStopped t = allStopped s :=
  allStopped_congr (phys_of_settled (settled_of_view h)) fun q => (churnView_getVat h q).1
theorem entryHeld_of_view (h : churnView t = churnView s) (q i : Nat) : entryHeld t q i = entryHeld s q i := by
  obtain ⟨-, hc, hr⟩ := churnView_getVat h q
  simp only [entryHeld, hc, hr]
/-- Registers, events and free values are no part of it, and of a vat only its source's state and its churn's entries are. -/
theorem churnView_eventVat (a i p e : Nat) : churnView (eventVat s a i p e) = churnView s := by
  unfold eventVat raiseVat
  split
  · rfl
  simp only
  split
  · rfl
  · rfl
theorem churnView_modVat (p : Nat) (f : Vat → Vat) (h : ∀ v, (f v).noise.state = v.noise.state ∧ (f v).churn = v.churn) :
    churnView (modVat s p f) = churnView s := by
  refine Prod.ext (settled_modVat p f) (funext fun q => ?_)
  by_cases hq : q = p
  · subst hq
    simp only [churnView, modVat, getVat_setVat_same, h]
  · simp only [churnView, modVat, getVat_setVat_other _ _ hq]
theorem churnView_modNoise (p : Nat) (f : Noise → Noise) (h : ∀ n, (f n).state = n.state) : churnView (modNoise s p f) = churnView s :=
  churnView_modVat p _ fun _ => ⟨h _, rfl⟩
theorem churnView_internalDraw (p q b : Nat) : churnView (internalDraw s p q b).2 = churnView s := by
  have hdone : churnView (modVat s p fun v => { v with wants := v.wants.erase q }) = churnView s := churnView_modVat p _ fun _ => ⟨rfl, rfl⟩
  simp only [internalDraw]
  split
  · exact hdone
  split
  · exact (churnView_modNoise p (fun n => { n with bits := n.bits - b }) fun _ => rfl).trans hdone
  split
  · exact hdone
  split
  · exact churnView_modVat p _ fun _ => ⟨rfl, rfl⟩
  · rfl
theorem internalDraw_running (h : allStopped s = false) (p q b : Nat) : (internalDraw s p q b).1 ≠ .stopped := by
  simp only [internalDraw, h, Bool.false_eq_true, and_false, if_false]
  split
  · exact DrawRes.noConfusion
  split
  · exact DrawRes.noConfusion
  · exact DrawRes.noConfusion
theorem churnView_drawPatient (p b : Nat) : churnView (drawPatient s p b).2 = churnView s := by
  have hdraw := churnView_internalDraw (s := s) p 2 b
  unfold drawPatient
  split
  · next hr =>
    rw [hr] at hdraw
    exact hdraw
  · next hr =>
    rw [hr] at hdraw
    exact (churnView_eventVat ..).trans hdraw
  · split
    · exact churnView_modNoise p _ fun _ => rfl
    · rfl
theorem drawPatient_met (h : allStopped s = false) (p b : Nat) : (drawPatient s p b).1 = true := by
  have hrun := internalDraw_running h p 2 b
  unfold drawPatient
  split
  · rfl
  · next hr => exact absurd (congrArg Prod.fst hr) hrun
  · split
    · rfl
    · rfl
theorem drawsPatient_met (p : Nat) (l : List Nat) : ∀ {s}, allStopped s = false → ∃ t, drawsPatient p l s = (true, t) ∧ churnView t = churnView s := by
  induction l with
  | nil => exact fun {s} _ => ⟨s, rfl, rfl⟩
  | cons b l ih =>
    intro s h
    have hview := churnView_drawPatient (s := s) p b
    have hmet := drawPatient_met h p b
    rcases hd : drawPatient s p b with ⟨ok, t⟩
    rw [hd] at hview hmet
    replace hmet : ok = true := hmet
    obtain ⟨t', ht, hv⟩ := ih ((allStopped_of_view hview).trans h)
    subst hmet
    exact ⟨t', by simp only [drawsPatient, hd, ht], hv.trans hview⟩
theorem churnView_drawsPatient (p : Nat) (l : List Nat) : ∀ {s}, churnView (drawsPatient p l s).2 = churnView s := by
  induction l with
  | nil => exact rfl
  | cons b l ih =>
    intro s
    have hview := churnView_drawPatient (s := s) p b
    unfold drawsPatient
    split
    · next hd =>
      rw [hd] at hview
      exact ih.trans hview
    · next hd =>
      rw [hd] at hview
      exact hview
theorem churnView_drawBases (c : Curve) : churnView (drawBases s c).2 = churnView s := rfl

/-- A curve that the checks of R239 refuse with a number, whatever bases are drawn. -/
def CurveRefused (c : Curve) (e : Nat) : Prop :=
  (∀ bases, curveStart c bases = some e) ∨ ((∀ bases, curveStart c bases = none) ∧ ∀ bases, curveRest c bases = some e)
theorem fieldOk_of_started {c : Curve} {bases : List Nat} (h : curveStart c bases = none) : fieldOk c = true := by
  by_contra hf
  simp [curveStart, hf] at h
theorem curveStart_noField {c : Curve} (h : fieldOk c = false) (bases : List Nat) : curveStart c bases = some 1 := by
  simp [curveStart, h]
theorem curveChecks_refused {c : Curve} {e : Nat} (p : Nat) (h : allStopped s = false) (hc : CurveRefused c e) :
    ∃ t, curveChecks s p c = (.refused e, t) ∧ churnView t = churnView s := by
  by_cases hf : fieldOk c = true
  · obtain ⟨a, ha, va⟩ := drawsPatient_met p (List.replicate 32 (16 * c.words)) h
    have vb : churnView (drawBases a c).2 = churnView s := (churnView_drawBases c).trans va
    rcases hc with hc | ⟨hstart, hrest⟩
    · exact ⟨_, by simp only [curveChecks, hf, ha, hc, Bool.true_eq_false, if_false], vb⟩
    · obtain ⟨b, hb, wb⟩ := drawsPatient_met p (List.replicate 32 (16 * c.words)) ((allStopped_of_view vb).trans h)
      exact ⟨_, by simp only [curveChecks, hf, ha, hstart, hb, hrest, Bool.true_eq_false, if_false], ((churnView_drawBases c).trans wb).trans vb⟩
  · replace hf : fieldOk c = false := Bool.eq_false_iff.2 hf
    have he : e = 1 := by
      rcases hc with hc | ⟨hc, -⟩
      · exact (Option.some.inj ((curveStart_noField hf []).symm.trans (hc []))).symm
      · exact absurd ((curveStart_noField hf []).symm.trans (hc [])) (by simp)
    exact ⟨s, by simp only [curveChecks, hf, if_true, he], rfl⟩
theorem curveChecks_loaded {c : Curve} (p : Nat) (h : allStopped s = false) (hc : ∀ bases, curveStart c bases = none ∧ curveRest c bases = none) :
    ∃ t, curveChecks s p c = (.loaded, t) ∧ churnView t = churnView s := by
  have hf := fieldOk_of_started (hc []).1
  obtain ⟨a, ha, va⟩ := drawsPatient_met p (List.replicate 32 (16 * c.words)) h
  have vb : churnView (drawBases a c).2 = churnView s := (churnView_drawBases c).trans va
  obtain ⟨b, hb, wb⟩ := drawsPatient_met p (List.replicate 32 (16 * c.words)) ((allStopped_of_view vb).trans h)
  exact ⟨_, by simp only [curveChecks, hf, ha, (hc _).1, hb, (hc _).2, Bool.true_eq_false, if_false],
    ((churnView_drawBases c).trans wb).trans vb⟩
/-- The first draw finds nothing and every source has stopped. -/
theorem curveChecks_stopped {c : Curve} {p : Nat} (ha : allStopped s = true) (hf : fieldOk c = true) (hb : s.central.bits < 16 * c.words)
    (hp : (getVat s p).noise.state = 3) : (curveChecks s p c).1 = .stopped := by
  have hown : (decide (16 * c.words ≤ (getVat s p).noise.bits) && decide ((getVat s p).noise.state ≠ 3)) = false := by simp [hp]
  simp only [curveChecks, hf, Bool.true_eq_false, if_false, List.replicate, drawsPatient, drawPatient, internalDraw, hown, hb, ha, and_self, if_true]
theorem settled_curveChecks (p : Nat) (c : Curve) : settled (curveChecks s p c).2 = settled s := by
  have hdraws : ∀ s, settled (drawsPatient p (List.replicate 32 (16 * c.words)) s).2 = settled s := fun s => settled_of_view (churnView_drawsPatient ..)
  have hfirst := hdraws s
  simp only [curveChecks]
  split
  · rfl
  split
  · next hd =>
    rw [hd] at hfirst
    exact hfirst
  next a hd =>
  rw [hd] at hfirst
  split
  · exact hfirst
  have hsecond := (hdraws (drawBases a c).2).trans hfirst
  split
  · next hd' =>
    rw [hd'] at hsecond
    exact hsecond
  · next hd' =>
    rw [hd'] at hsecond
    split
    · exact hsecond
    · exact hsecond

theorem settled_tryCurve (p i : Nat) (c : Curve) : settled (tryCurve s p i c).2 = settled s := by
  have hchecks := settled_curveChecks (s := s) p c
  unfold tryCurve
  split
  · rfl
  split
  · next hr =>
    rw [hr] at hchecks
    exact hchecks
  · next hr =>
    rw [hr] at hchecks
    exact (settled_eventVat ..).trans hchecks
  · exact hchecks
theorem tryCurve_refused {c : Curve} {p i e : Nat} (ha : allStopped s = false) (hh : entryHeld s p i = false) (hc : CurveRefused c e) :
    ∃ t, tryCurve s p i c = (.refused e, t) ∧ churnView t = churnView s := by
  obtain ⟨t, ht, hv⟩ := curveChecks_refused p ha hc
  exact ⟨_, by simp only [tryCurve, hh, Bool.false_eq_true, if_false, ht]; rfl, (churnView_eventVat ..).trans hv⟩
/-- The entry a churn loads holds the curve, and every other entry what it held. -/
theorem tryCurve_loaded {c : Curve} {p i : Nat} (ha : allStopped s = false) (hh : entryHeld s p i = false)
    (hc : ∀ bases, curveStart c bases = none ∧ curveRest c bases = none) : ∃ t, tryCurve s p i c = (.loaded, t) ∧
      allStopped t = false ∧ tget (fun _ => none) (getVat t p).churn.curves i = some c ∧
      ∀ q, q ≠ p → (getVat t q).churn.curves = (getVat s q).churn.curves ∧ (getVat t q).churn.reserved = (getVat s q).churn.reserved := by
  obtain ⟨t, ht, hv⟩ := curveChecks_loaded p ha hc
  refine ⟨_, by simp only [tryCurve, hh, Bool.false_eq_true, if_false, ht]; rfl, ?_, ?_, fun q hq => ?_⟩
  · rw [← ha, ← allStopped_of_view hv]
    refine allStopped_congr rfl fun q => ?_
    simp only [modChurn, modVat, getVat, setVat, tget_tset]
    split
    · next h => subst h; rfl
    · rfl
  · simp only [modChurn, modVat, getVat_setVat_same, tget_tset_same]
  · simp only [modChurn, modVat, getVat_setVat_other _ _ hq]
    exact (churnView_getVat hv q).2

/-! ### CURVE.LOAD (R133, R240) -/

/-- A powered vat's churn tries the curve: the vats that refused it with the check, whether a source had stopped, and the state. -/
def curveStep (s : State) (i : Nat) (c : Curve) (q : List (Nat × Nat) × Bool × State) (n : Nat) : List (Nat × Nat) × Bool × State :=
  match tryCurve q.2.2 (phys s n) i c with
  | (.refused e, t) => (q.1 ++ [(n, e)], q.2.1, t)
  | (.stopped, t) => (q.1, true, t)
  | (_, t) => (q.1, q.2.1, t)
/-- The powered vats, by logical number. -/
def poweredVats (s : State) : List Nat := those 34 (fun n => powered s (phys s n))
/-- CURVE.LOAD of a curve whose entry is free everywhere, once the churns have tried it. -/
def curveLoaded (r : Request) (vats : List Nat) (q : List (Nat × Nat) × Bool × State) : State × Option Response :=
  let i := byteAt r.body 0
  let c := curveOfBody r.body
  if q.2.1 then failed q.2.2 sINTERNAL r
  else if q.1.length = vats.length then
    let e := ((q.1.head?).map (·.2)).getD 1
    failed q.2.2 sBAD_PARAMETER r ((0x0F + e) * 65536 + curveField c.bytes e)
  else
    let s := { q.2.2 with store := { q.2.2.store with curves := tset (fun _ => none) q.2.2.store.curves i (some c) } }
    okWith (q.1.foldl (fun s q => curveFaulty s q.1) s) r []
theorem exec_curveLoad (p : Pail) (s : State) : exec (.curveLoad p) s = .next (serve s p.val 0x0504 fun s _ r =>
    if (storeCurve s (byteAt r.body 0)).isSome || (poweredVats s).any (fun n => entryHeld s (phys s n) (byteAt r.body 0)) then failed s sEXISTS r
    else curveLoaded r (poweredVats s) ((poweredVats s).foldl (curveStep s (byteAt r.body 0) (curveOfBody r.body)) ([], false, s))) := rfl

theorem settled_curveStep (s : State) (i : Nat) (c : Curve) (q : List (Nat × Nat) × Bool × State) (n : Nat) :
    settled (curveStep s i c q n).2.2 = settled q.2.2 := by
  have htry := settled_tryCurve (s := q.2.2) (phys s n) i c
  unfold curveStep
  split
  · next hr =>
    rw [hr] at htry
    exact htry
  · next hr =>
    rw [hr] at htry
    exact htry
  · next hr =>
    rw [hr] at htry
    exact htry
theorem settled_curveSteps (s : State) (i : Nat) (c : Curve) (l : List Nat) (q : List (Nat × Nat) × Bool × State) :
    settled (l.foldl (curveStep s i c) q).2.2 = settled q.2.2 :=
  foldl_keeps (fun q : List (Nat × Nat) × Bool × State => settled q.2.2) _ (settled_curveStep s i c) l q
/-- A source found stopped is not forgotten. -/
theorem curveSteps_stopped (s : State) (i : Nat) (c : Curve) (l : List Nat) : ∀ q : List (Nat × Nat) × Bool × State, q.2.1 = true →
    (l.foldl (curveStep s i c) q).2.1 = true := by
  induction l with
  | nil => exact fun q h => h
  | cons n l ih =>
    refine fun q h => ih _ ?_
    unfold curveStep
    split
    · exact h
    · rfl
    · exact h
/-- Refused by every churn, with the same check. -/
theorem curveSteps_refused {i e : Nat} {c : Curve} (ha : allStopped s = false) (hc : CurveRefused c e) (l : List Nat) :
    ∀ bad t, churnView t = churnView s → (∀ n ∈ l, entryHeld s (phys s n) i = false) →
      ∃ t', l.foldl (curveStep s i c) (bad, false, t) = (bad ++ l.map fun n => (n, e), false, t') := by
  induction l with
  | nil => exact fun bad t _ _ => ⟨t, by simp⟩
  | cons n l ih =>
    intro bad t hv hh
    obtain ⟨a, hr, va⟩ := tryCurve_refused (s := t) (p := phys s n) (i := i) ((allStopped_of_view hv).trans ha)
      ((entryHeld_of_view hv ..).trans (hh n (List.mem_cons_self ..))) hc
    obtain ⟨t', ht⟩ := ih (bad ++ [(n, e)]) a (va.trans hv) fun m hm => hh m (List.mem_cons_of_mem _ hm)
    refine ⟨t', ?_⟩
    rw [List.foldl_cons, show curveStep s i c (bad, false, t) n = (bad ++ [(n, e)], false, a) by simp only [curveStep, hr], ht]
    simp
/-- Loaded by every churn that does not hold it yet. -/
theorem curveSteps_loaded {i : Nat} {c : Curve} (hc : ∀ bases, curveStart c bases = none ∧ curveRest c bases = none) (l : List Nat) :
    ∀ t, allStopped t = false →
      (∀ n ∈ l, tget (fun _ => none) (getVat t (phys s n)).churn.curves i = some c ∨ entryHeld t (phys s n) i = false) →
      ∃ t', l.foldl (curveStep s i c) ([], false, t) = ([], false, t') ∧
        (∀ n ∈ l, tget (fun _ => none) (getVat t' (phys s n)).churn.curves i = some c) ∧
        ∀ q, tget (fun _ => none) (getVat t q).churn.curves i = some c → tget (fun _ => none) (getVat t' q).churn.curves i = some c := by
  induction l with
  | nil => exact fun t _ _ => ⟨t, rfl, by simp, fun _ h => h⟩
  | cons n l ih =>
    intro t ha hh
    have hone : ∃ a, curveStep s i c ([], false, t) n = ([], false, a) ∧ allStopped a = false ∧
        tget (fun _ => none) (getVat a (phys s n)).churn.curves i = some c ∧ ∀ q, q ≠ phys s n →
          (getVat a q).churn.curves = (getVat t q).churn.curves ∧ (getVat a q).churn.reserved = (getVat t q).churn.reserved := by
      rcases hh n (List.mem_cons_self ..) with h | h
      · have hheld : entryHeld t (phys s n) i = true := by simp [entryHeld, h]
        exact ⟨t, by simp only [curveStep, tryCurve, hheld, if_true], ha, h, fun _ _ => ⟨rfl, rfl⟩⟩
      · obtain ⟨a, hr, hrest⟩ := tryCurve_loaded ha h hc
        exact ⟨a, by simp only [curveStep, hr], hrest⟩
    obtain ⟨a, hstep, haa, hset, hother⟩ := hone
    obtain ⟨t', ht, hall, hkeep⟩ := ih a haa fun m hm => by
      by_cases hq : phys s m = phys s n
      · exact .inl (hq ▸ hset)
      · obtain ⟨hcurves, hres⟩ := hother _ hq
        simpa only [entryHeld, hcurves, hres] using hh m (List.mem_cons_of_mem _ hm)
    refine ⟨t', by rw [List.foldl_cons, hstep, ht], fun m hm => ?_, fun q hq => hkeep q ?_⟩
    · rcases List.mem_cons.1 hm with rfl | hm
      · exact hkeep _ hset
      · exact hall m hm
    · by_cases hp : q = phys s n
      · exact hp ▸ hset
      · rw [(hother q hp).1, hq]

end Sys2Proof.Machine
end

section
/-!
PROOFS. Settles O32: signature, MAC, PIN, curve and random commands complete.
-/
namespace Sys2Proof.Machine

variable {s t u w : State} {p : Pail} {d : Doorbell} {r : Request} {v k tk n : Nat}

theorem complete_store (s : State) (p : Nat) (seq : BitVec 16) (r : Response) : (complete s p seq r).store = s.store := rfl

/-! ### SIG.VERIFY (R130) -/

/-- The key and the digest of SIG.VERIFY's body. -/
def verifyKey (r : Request) : Bytes := slice r.body 16 (u16 r.body 6)
def verifyDigest (r : Request) : Bytes := sha256 (slice r.body (16 + u16 r.body 6) (u16 r.body 8))
def verifySig (r : Request) : Bytes := slice r.body (16 + u16 r.body 6 + u16 r.body 8) (u16 r.body 10)

theorem sigVerify_stored {key : KeySlot} {mat : Bytes} (hb : byteAt r.body 0 = 0) (hk : needKey s d r (u16 r.body 4) 1 = .ok key)
    (hs : schemeFits (byteAt r.body 1) key.type = true) (hu : chargeUse s key = (true, u)) (ho : OpensTo s v (u16 r.body 4) key mat)
    (hf : Fed s v (openBits key)) (hsize : byteAt r.body 1 ≠ 3 → beNat key.pub % 2 = 1 ∧ bitLen (beNat key.pub) = 8 * key.pub.length) :
    ∃ w, EnginesRan u w v ∧ (getReg w (R.CHN_OPS v)).toNat = min 0xFFFF ((getReg u (R.CHN_OPS v)).toNat +
        b2n (decide (byteAt r.body 1 = 3) || decide (beNat (verifySig r) < beNat key.pub))) ∧
      sigVerify s v k d r = okWith w r
        [BitVec.ofNat 8 (b2n (verifies1 (byteAt r.body 1) (storeCurve s key.curve) key.pub (verifyDigest r) (verifySig r)))] := by
  obtain ⟨a, ea, hops, ha⟩ := withKey_chnOps (charged_fed hu hf) (charged_opens hu ho)
  obtain ⟨w, ew, hcount, hw⟩ := sigCheck_counts (s := a) (v := v) (k := k) (r := r) (curve := key.curve) (digest := verifyDigest r)
    (sig := verifySig r) hsize
  rw [hops] at hcount
  refine ⟨w, ea.trans ew, hcount, ?_⟩
  simp only [sigVerify, hb, hk, hs, if_true, Bool.not_true, Bool.false_eq_true, if_false, withCharge_charged hu, ha]
  refine (hw ..).trans ?_
  rw [((chargeUse_records hu).trans ea.records).storeCurve]
theorem sigVerify_modulus (hb : byteAt r.body 0 ≠ 0) (h3 : byteAt r.body 1 ≠ 3) :
    sigVerify s v k d r = sigCheck s s v k r (byteAt r.body 1) 0 (verifyKey r) (verifyDigest r) (verifySig r) := by
  simp only [sigVerify, hb, h3, if_false]
  rfl
theorem sigVerify_point {c : Curve} {q : Nat × Nat} (hb : byteAt r.body 0 ≠ 0) (h3 : byteAt r.body 1 = 3)
    (hc : storeCurve s (byteAt r.body 2) = some c) (hq : pointOf c (verifyKey r) = some q) :
    sigVerify s v k d r = sigCheck s s v k r (byteAt r.body 1) (byteAt r.body 2) (verifyKey r) (verifyDigest r) (verifySig r) := by
  have hsome : (pointOf c (slice r.body 16 (u16 r.body 6))).isNone = false := by
    rw [show pointOf c (slice r.body 16 (u16 r.body 6)) = some q from hq]
    rfl
  simp only [sigVerify, hb, h3, hc, hsome, if_false, if_true, Bool.false_eq_true]
  rfl
theorem sigVerify_noCurve (hb : byteAt r.body 0 ≠ 0) (h3 : byteAt r.body 1 = 3) (hc : storeCurve s (byteAt r.body 2) = none) :
    sigVerify s v k d r = failed s sNOT_FOUND r := by
  simp only [sigVerify, hb, h3, hc, if_false, if_true]

/-! ### An RSA signature -/

/-- The two outcomes of an RSA signature: its passes differ by the material itself, or it is answered. -/
theorem answers_rsaSigned {h m x : Nat} {mat : Bytes} {y w : State} {z : BitVec 32} (ht : TakenCell s p 0x0501 d r v k tk)
    (ew : EnginesRan u w v) (ey : EnginesRan u y v) (hp : sigSign s v k d r false =
      if rsaDiffers mat h m x then failed (mismatchRecord y v k 0x11 z) sFAULT_DETECTED r
      else okWith w r (signatureBody (rsaPrivate mat h m))) :
    Answers (.sigSign p false) s fun t => if rsaDiffers mat h m x = true then Differed t u 0x11 p v k tk d r
      else ∃ w, EnginesRan u w v ∧ CellDone t w p v k tk d r (respond sOK r.command (signatureBody (rsaPrivate mat h m))) := by
  cases hd : rsaDiffers mat h m x with
  | true =>
    rw [hd] at hp
    exact answers_serveCell rfl ht hp (differed_intro ey)
  | false =>
    rw [hd] at hp
    exact answers_serveCell rfl ht hp ⟨w, ew, rfl⟩

/-! ### A check value -/

theorem exec_mac (verify : Bool) (p : Pail) (m : Bool) (s : State) : exec (if verify then .macVerify p m else .macGenerate p m) s =
    .next (serveCell s p.val (if verify then 0x0602 else 0x0601) fun s v k d r => macCommand s p.val v k d r verify m) := by
  cases verify with
  | false => rfl
  | true => rfl
/-- The two outcomes of MAC work that is run twice where the request asks it. -/
theorem answers_macOver {verify : Bool} (m : Bool) {type : Nat} {key data : Bytes}
    (ht : TakenCell s p (if verify then 0x0602 else 0x0601) d r v k tk) (hp : macCommand s p.val v k d r verify m =
      if bit r.flags 2 && m then failed (macMismatch w v k) sINTERNAL r else okWith w r (macFound r verify type key data)) (ew : EnginesRan u w v) :
    Answers (if verify then .macVerify p m else .macGenerate p m) s fun t =>
      if bit r.flags 2 = true ∧ m = true then MacDiffered t u p v k tk d r
      else ∃ w, EnginesRan u w v ∧ CellDone t w p v k tk d r (respond sOK r.command (macFound r verify type key data)) := by
  cases hm : bit r.flags 2 && m with
  | true =>
    rw [hm] at hp
    exact answers_serveCell (exec_mac verify p m s) ht hp (by rw [if_pos (Bool.and_eq_true_iff.1 hm)]; exact macDiffered_intro ew)
  | false =>
    rw [hm] at hp
    have hnot : ¬ (bit r.flags 2 = true ∧ m = true) := fun h => by simp [h] at hm
    exact answers_serveCell (exec_mac verify p m s) ht hp (by rw [if_neg hnot]; exact ⟨w, ew, rfl⟩)

/-! ### CURVE.LOAD -/

theorem curveTaken_iff : ((storeCurve s (byteAt r.body 0)).isSome ||
      (poweredVats s).any fun n => entryHeld s (phys s n) (byteAt r.body 0)) = true ↔
    storeCurve s (byteAt r.body 0) ≠ none ∨ ∃ n ∈ poweredVats s, entryHeld s (phys s n) (byteAt r.body 0) = true := by
  simp [Option.isSome_iff_ne_none]
/-- The entries that no churn holds. -/
theorem entries_free (h : ¬ (storeCurve s (byteAt r.body 0) ≠ none ∨ ∃ n ∈ poweredVats s, entryHeld s (phys s n) (byteAt r.body 0) = true)) :
    ∀ n ∈ poweredVats s, entryHeld s (phys s n) (byteAt r.body 0) = false := fun n hn =>
  Bool.eq_false_iff.2 fun hh => h (.inr ⟨n, hn, hh⟩)
theorem curveLoad_stopped {vats : List Nat} (hne : vats ≠ []) (hh : ∀ n ∈ vats, entryHeld s (phys s n) (byteAt r.body 0) = false)
    (ha : allStopped s = true) (hf : fieldOk (curveOfBody r.body) = true) (hb : s.central.bits < 16 * (curveOfBody r.body).words)
    (hv : ∀ n ∈ vats, (getVat s (phys s n)).noise.state = 3) : ∃ t, settled t = settled s ∧
      curveLoaded r vats (vats.foldl (curveStep s (byteAt r.body 0) (curveOfBody r.body)) ([], false, s)) = failed t sINTERNAL r := by
  obtain ⟨n, l, rfl⟩ := List.exists_cons_of_ne_nil hne
  have hn := List.mem_cons_self (a := n) (l := l)
  have hstop := curveChecks_stopped ha hf hb (hv n hn)
  have hfirst : (curveStep s (byteAt r.body 0) (curveOfBody r.body) ([], false, s) n).2.1 = true := by
    rcases hc : curveChecks s (phys s n) (curveOfBody r.body) with ⟨res, a⟩
    rw [hc] at hstop
    replace hstop : res = .stopped := hstop
    subst hstop
    simp only [curveStep, tryCurve, hh n hn, Bool.false_eq_true, if_false, hc]
  refine ⟨_, settled_curveSteps s (byteAt r.body 0) (curveOfBody r.body) (n :: l) ([], false, s), ?_⟩
  exact if_pos (curveSteps_stopped s _ _ l _ hfirst)
theorem curveLoad_refused {vats : List Nat} {e : Nat} (hne : vats ≠ []) (hh : ∀ n ∈ vats, entryHeld s (phys s n) (byteAt r.body 0) = false)
    (ha : allStopped s = false) (hc : CurveRefused (curveOfBody r.body) e) : ∃ t, settled t = settled s ∧
      curveLoaded r vats (vats.foldl (curveStep s (byteAt r.body 0) (curveOfBody r.body)) ([], false, s)) =
        failed t sBAD_PARAMETER r ((0x0F + e) * 65536 + curveField (curveOfBody r.body).bytes e) := by
  obtain ⟨t, ht⟩ := curveSteps_refused ha hc vats [] s rfl hh
  have hset := settled_curveSteps s (byteAt r.body 0) (curveOfBody r.body) vats ([], false, s)
  rw [ht] at hset
  refine ⟨t, hset, ?_⟩
  obtain ⟨n, l, rfl⟩ := List.exists_cons_of_ne_nil hne
  rw [ht]
  simp [curveLoaded]
theorem curveLoad_loaded {vats : List Nat} (hne : vats ≠ []) (hh : ∀ n ∈ vats, entryHeld s (phys s n) (byteAt r.body 0) = false)
    (ha : allStopped s = false) (hc : ∀ bases, curveStart (curveOfBody r.body) bases = none ∧ curveRest (curveOfBody r.body) bases = none) :
    ∃ t, settled t = settled s ∧ (∀ n ∈ vats, tget (fun _ => none) (getVat t (phys s n)).churn.curves (byteAt r.body 0) = some (curveOfBody r.body)) ∧
      curveLoaded r vats (vats.foldl (curveStep s (byteAt r.body 0) (curveOfBody r.body)) ([], false, s)) =
        okWith { t with store := { t.store with curves := tset (fun _ => none) t.store.curves (byteAt r.body 0) (some (curveOfBody r.body)) } } r [] := by
  obtain ⟨t, ht, hall, -⟩ := curveSteps_loaded (i := byteAt r.body 0) hc vats s ha fun n hn => .inr (hh n hn)
  have hset := settled_curveSteps s (byteAt r.body 0) (curveOfBody r.body) vats ([], false, s)
  rw [ht] at hset
  have hlen : ¬ 0 = vats.length := fun h => hne (List.length_eq_zero_iff.1 h.symm)
  refine ⟨t, hset, hall, ?_⟩
  rw [ht]
  simp only [curveLoaded, List.length_nil, hlen, if_false, Bool.false_eq_true]
  rfl

/-! ### The statement -/

/-- Settles O32: each clause carries out the command with the equation of its program (`sigSign_rsa`, `sigCheck_counts`, `kaEcdh_opened`,
`macOver_found`, `pinTranslate_sealed`, `keyTranslate_translated`, `readRandom_served` and their like). -/
theorem cryptoCommandsComplete : Obligations.CryptoCommandsComplete := by
  intro s p d r v k tk
  dsimp only
  refine ⟨fun key mat u ht hk hs hu ho => ⟨fun hb hp hf => ?_, fun hb hp hf => ?_, fun c hb hc hm hf => ?_, fun c hb hc hm hf m => ?_⟩,
    fun ht => ⟨fun key mat u hb hk hs hu ho hf hz => ?_, fun hb h3 hz => ?_, fun c q hb h3 hc hq => ?_, fun hb h3 hc => ?_⟩,
    fun key c mat q out u ht hk hty hbit hc hq hs hu ho hm h1 h6 hf => ?_,
    fun ht => ⟨fun htaken => ?_, fun hfree hne ha hf hb hst => ?_, fun hfree hne ha hc => ?_, fun e hfree hne ha hc => ?_⟩,
    fun verify ht => ⟨fun e o m hr => ?_, fun hr => ⟨fun type key u x h1 hspec hf m => ?_, fun ch m h1 hd hu hch => ?_, fun ch m h1 hd hi he => ?_,
      fun ch type key u x h1 hd hi he hn hspec hf m => ?_⟩⟩,
    fun ki ko u w mi mo ht hki hko fi fo hi ho oi oo hf => ⟨fun pin hp => ?_, fun hp m => ?_⟩,
    fun ki ko u w mi mo ht hki hko fi fo hi ho oi oo => ⟨fun type curve usage mat he hf => ?_, fun e o he hf m => ?_⟩,
    fun ht => ⟨fun hs => ?_, fun hs ha => ?_, fun hs ha => ?_⟩⟩
  · have h3 : byteAt r.body 2 ≠ 3 := by omega
    have h1 : byteAt r.body 2 ≠ 1 := by omega
    obtain ⟨salt, x, w, y, z, -, ew, ey, hx⟩ := sigSign_rsa (k := k) hk hs h3 hu ho hp (by rw [if_neg h1]; exact hf)
    rw [show rsaEncoded r (rsaHalf key.type) salt = beNat (pkcs1Encode (signedDigest r) (2 * rsaHalf key.type)) by rw [rsaEncoded, if_neg h1]] at hx
    obtain ⟨t, hex, hP⟩ := answers_rsaSigned ht ew ey (hx false)
    exact ⟨⟨t, hex, x, hP⟩, answers_serveCell rfl ht (hx true) (differed_intro ey)⟩
  · have h3 : byteAt r.body 2 ≠ 3 := by omega
    obtain ⟨salt, x, w, y, z, hl, ew, ey, hx⟩ := sigSign_rsa (k := k) hk hs h3 hu ho hp (by
      rw [if_pos hb, List.sum_append, ← Nat.add_assoc]
      exact hf)
    rw [show rsaEncoded r (rsaHalf key.type) salt = beNat (pssEncode (signedDigest r) salt (16 * rsaHalf key.type)) by rw [rsaEncoded, if_pos hb]] at hx
    obtain ⟨t, hex, hP⟩ := answers_rsaSigned ht ew ey (hx false)
    exact ⟨⟨t, hex, salt, hl, x, hP⟩, answers_serveCell rfl ht (hx true) (differed_intro ey)⟩
  · obtain ⟨⟨w, ew, hsig⟩, y, z, ey, hdiff⟩ := sigSign_ecdsa (k := k) hk hs hb hc hu ho hm hf
    refine ⟨?_, answers_serveCell rfl ht hdiff (differed_intro ey)⟩
    rcases hsig with ⟨nonce, x, y, hn, hx, hprog⟩ | hprog
    · exact answers_serveCell rfl ht hprog ⟨w, ew, .inl ⟨nonce, x, y, hn, hx, rfl⟩⟩
    · exact answers_serveCell rfl ht hprog ⟨w, ew, .inr rfl⟩
  · obtain ⟨w, ew, hw⟩ := sigSign_range (k := k) hk hs hb hc hu ho hm hf
    exact answers_serveCell rfl ht (hw m) ⟨w, ew, rfl⟩
  · obtain ⟨w, ew, hops, hw⟩ := sigVerify_stored (k := k) hb hk hs hu ho hf hz
    exact answers_serveCell rfl ht hw ⟨w, ew, hops, rfl⟩
  · obtain ⟨w, ew, hops, hw⟩ := sigCheck_counts (s := s) (v := v) (k := k) (r := r) (curve := 0) (digest := verifyDigest r) (sig := verifySig r) hz
    exact answers_serveCell rfl ht ((sigVerify_modulus hb h3).trans (hw s)) ⟨w, ew, hops, rfl⟩
  · obtain ⟨w, ew, hops, hw⟩ := sigCheck_counts (s := s) (v := v) (k := k) (r := r) (scheme := byteAt r.body 1) (curve := byteAt r.body 2)
      (pub := verifyKey r) (digest := verifyDigest r) (sig := verifySig r) (fun h => absurd h3 h)
    exact answers_serveCell rfl ht ((sigVerify_point hb h3 hc hq).trans (hw s)) ⟨w, ew, hops, rfl⟩
  · exact answers_serveCell rfl ht (sigVerify_noCurve hb h3 hc) rfl
  · obtain ⟨w, y, z, ew, fw, ey, hw⟩ := kaEcdh_opened (k := k) (n := twiceBits (kdfBlocks (byteAt r.body 8) 1 (8 * keyBytesOf (byteAt r.body 2))) +
      storeBits (keyBytesOf (byteAt r.body 2))) hk hty hbit hc hq hs hu ho hm (hf.mono (by omega))
    refine ⟨?_, answers_serveCell rfl ht (hw .churn) (differed_intro ey)⟩
    split
    · next x y hec =>
      obtain ⟨a, b, ea, eb, hx⟩ := agreedKey_stored (k := k) (r := r) out hec (ew.root.2 (charged_root hu ho.root)) fw
      exact ⟨answers_serveCell rfl ht ((hw .agree).trans (hx s false)) ⟨b, ew.trans eb, rfl⟩,
        answers_serveCell rfl ht ((hw .mac).trans (hx s true)) (macDiffered_intro (ew.trans ea))⟩
    · next hec => exact answers_serveCell rfl ht ((hw .agree).trans (agreedKey_infinity hec s false)) ⟨w, ew, rfl⟩
  · exact answers_serve (exec_curveLoad p s) ht (if_pos (curveTaken_iff.2 htaken)) rfl
  · obtain ⟨t, hset, hprog⟩ := curveLoad_stopped (r := r) hne (entries_free hfree) ha hf hb hst
    exact answers_serve (exec_curveLoad p s) ht ((if_neg (mt curveTaken_iff.1 hfree)).trans hprog)
      ⟨completed_of_parlour (parlour_of_settled hset) _, (complete_store ..).trans (store_of_settled hset)⟩
  · obtain ⟨t, hset, hall, hprog⟩ := curveLoad_loaded (r := r) hne (entries_free hfree) ha hc
    exact answers_serve (exec_curveLoad p s) ht ((if_neg (mt curveTaken_iff.1 hfree)).trans hprog)
      ⟨tget_tset_same (fun _ => none) t.store.curves (byteAt r.body 0) (some (curveOfBody r.body)),
        completed_of_parlour (parlour_of_settled hset) _, hall⟩
  · obtain ⟨t, hset, hprog⟩ := curveLoad_refused (r := r) hne (entries_free hfree) ha hc
    exact answers_serve (exec_curveLoad p s) ht ((if_neg (mt curveTaken_iff.1 hfree)).trans hprog)
      ⟨completed_of_parlour (parlour_of_settled hset) _, (complete_store ..).trans (store_of_settled hset)⟩
  · exact answers_serveCell (exec_mac verify p m s) ht (macCommand_refused p.val hr m) rfl
  · obtain ⟨w, ew, hw⟩ := macOver_found (k := k) (data := slice r.body 48 (u32 r.body 44)) verify hspec hf
    exact answers_macOver m ht (((macCommand_of_fits p.val hr m).trans (withMacData_inline h1 _)).trans (hw s m)) ew
  · exact answers_serveCell_on (exec_mac verify p m s) ht ((macCommand_of_fits p.val hr m).trans (withMacData_starts h1 hd hu hch _)) rfl
  · exact answers_serveCell (exec_mac verify p m s) ht ((macCommand_of_fits p.val hr m).trans (withMacData_fails h1 hd hi he _)) rfl
  · obtain ⟨w, ew, hw⟩ := macOver_found (k := k) (data := memBytes s dmaBuffer (u32 r.body 44)) verify hspec (fed_endMacDma hf)
    exact answers_macOver m ht (((macCommand_of_fits p.val hr m).trans (withMacData_buffer h1 hd hi he hn _)).trans (hw s m)) ew
  · obtain ⟨x, fill, ex, hl, hlt, hx⟩ := pinTranslate_sealed (k := k) hki hko fi fo hi ho oi oo hp hf
    exact ⟨answers_serveCell rfl ht (hx false) ⟨x, fill, ex, hl, hlt, rfl⟩, answers_serveCell rfl ht (hx true) (macDiffered_intro ex)⟩
  · obtain ⟨x, ex, hx⟩ := pinTranslate_noPin (k := k) hki hko fi fo hi ho oi oo hp (hf.mono (by omega))
    exact answers_serveCell rfl ht (hx m) ⟨x, ex, rfl⟩
  · obtain ⟨x, y, ex, ey, hx⟩ := keyTranslate_translated (k := k) hki hko fi fo hi ho oi oo he hf
    exact ⟨answers_serveCell rfl ht (hx false) ⟨x, ex, rfl⟩, answers_serveCell rfl ht (hx true) (macDiffered_intro ey)⟩
  · obtain ⟨x, ex, hx⟩ := keyTranslate_refused (k := k) hki hko fi fo hi ho oi oo he hf
    exact answers_serveCell rfl ht (hx m) ⟨x, ex, rfl⟩
  · obtain ⟨b, t, hb, hl, hbits, hset⟩ := readRandom_served hs
    exact answers_serve rfl ht (by simp only [hb]; rfl) ⟨b, hl, completed_of_parlour (parlour_of_settled hset) _, hbits⟩
  · exact answers_serve rfl ht (by simp only [readRandom_stopped hs ha]; rfl)
      (completed_of_parlour (parlour_of_settled (settled_softBatch ..)) _)
  · exact idles_serve rfl ht (by simp only [readRandom_waits hs ha])

end Sys2Proof.Machine
end

section
/-!
PROOFS. Towards O33: custodian sessions (R139, R140).
-/
namespace Sys2Proof.Machine

variable {s t u w : State} {p : Pail} {d : Doorbell} {r : Request} {v k tk n : Nat} {m : Bool}

/-! ### CUS.BEGIN (R139) -/

theorem softBatch_fw (s : State) (n : Nat) : (softBatch s n).2.fw = s.fw := by
  have hread : ∀ s, (softRead s).2.fw = s.fw := fun s => by
    unfold softRead
    split
    · rfl
    · rfl
  have hall := foldl_keeps (fun q : List (BitVec 16) × State × Bool => q.2.1.fw) softStep (fun q _ => hread q.2.1)
    (List.range ((n + 1) / 2)) ([], s, false)
  simp only [softBatch_eq]
  split
  · exact hall
  · exact hall
/-- A session begins only where no more than three stand, and an import only where bank 2 has room for its key (R139, R262). -/
def SessionRoom (s : State) (r : Request) : Prop :=
  s.fw.quorums.length < 4 ∧ (byteAt r.body 0 = 2 → unitsLeft s (keyBytesOf (byteAt r.body 2)) = true)
theorem sessionRoom_iff : ¬ SessionRoom s r ↔
    4 ≤ s.fw.quorums.length ∨ (byteAt r.body 0 = 2 ∧ unitsLeft s (keyBytesOf (byteAt r.body 2)) = false) := by
  rw [SessionRoom, not_and_or, Nat.not_lt, Classical.not_imp, Bool.not_eq_true]
/-- The session that begins with 64 random bytes x and the bits n of its ephemeral key. -/
def newSession (s : State) (r : Request) (x : Bytes) (n : Nat) : Quorum :=
  let priv := n % (p256.n - 1) + 1
  { id := s.fw.nextId, part := r.part, purpose := byteAt r.body 0, type := byteAt r.body 2, usage := BitVec.ofNat 16 (u16 r.body 4),
    slot := BitVec.ofNat 16 (u16 r.body 6), target := slice r.body 8 32, challenge := x.take 32, priv := priv,
    point := (pointBytes p256 (ecMul p256 priv (basePoint p256))).drop 1, ends := s.bat.timeBase.toNat + sessionTime, got := [] }
theorem newSession_priv (s : State) (r : Request) (x : Bytes) (n : Nat) : 1 ≤ (newSession s r x n).priv ∧ (newSession s r x n).priv < p256.n := by
  have hn : 2 ≤ p256.n := by decide
  have hlt : n % (p256.n - 1) < p256.n - 1 := Nat.mod_lt _ (by omega)
  show 1 ≤ n % (p256.n - 1) + 1 ∧ n % (p256.n - 1) + 1 < p256.n
  omega

/-! ### A contribution (R140) -/

theorem EnginesRan.withFw (h : EnginesRan s t v) (f : Firmware) : EnginesRan { s with fw := f } { t with fw := f } v := by
  obtain ⟨⟨_, _, _, rfl⟩, hregs, hvats, hvat⟩ := h
  exact ⟨⟨_, _, _, rfl⟩, hregs, hvats, hvat⟩
theorem EnginesRan.fw (h : EnginesRan s t v) : t.fw = s.fw := h.records.2.2.2
/-- A churn job that draws nothing ends OK whatever the vat's queue holds. -/
theorem withChurn_drawless (s : State) (v k : Nat) : ∃ w, EnginesRan s w v ∧ (∀ n, Fed s v n → Fed w v n) ∧
    ∀ s0 op r f, withChurn s0 s v k op [] false true r f = f w := by
  refine ⟨countReg (churnTurn s v k) (R.CHN_OPS v) 0xFFFF, (chnOps_counted s k true).1, fun n h => (churnTurn_fed k h).2, fun s0 op r f => rfl⟩

/-- Whether a card's signature over the session's data verifies under a custodian's key. -/
def answerGood (q : Quorum) (c : Bytes × Bytes) (answer : Bytes) : Bool :=
  ecdsaVerify p256 (beNat (c.2.take 32)) (beNat (c.2.drop 32)) (beNat (sha256 (cardData q)))
    (beNat ((slice answer 2 64).take 32)) (beNat ((slice answer 2 64).drop 32))
/-- A session with one more contribution. -/
def gotMore (q : Quorum) (id x : Bytes) : Quorum := { q with got := q.got ++ [(id, x)] }
/-- Firmware's memory with that session in place of the one before. -/
def countedFw (s : State) (q : Quorum) (id x : Bytes) : Firmware :=
  { s.fw with quorums := s.fw.quorums.map fun y => if y.id = q.id then gotMore q id x else y }
/-- Firmware's memory without a session. -/
def goneFw (s : State) (q : Quorum) : Firmware := { s.fw with quorums := s.fw.quorums.filter fun y => y.id != q.id }
/-- A session that ends leaves the same sessions whether or not its last contribution was counted first. -/
theorem gone_of_counted (f : Firmware) (q : Quorum) (id x : Bytes) :
    (f.quorums.map fun y => if y.id = q.id then gotMore q id x else y).filter (fun y => y.id != q.id) = f.quorums.filter fun y => y.id != q.id := by
  induction f.quorums with
  | nil => rfl
  | cons y l ih =>
    by_cases hy : y.id = q.id
    · simp [hy, show (gotMore q id x).id = q.id from rfl, ih]
    · simp [hy, ih]

section
variable {pol : Policy} {q : Quorum} {answer : Bytes} {c : Bytes × Bytes}

theorem contribute_unknown (h : pol.custodians.find? (fun x => x.1 == answer.take 2) = none) :
    contribute s v k r pol q answer m = failed s sNO_AUTHORITY r := by
  simp only [contribute, h]
variable (hc : pol.custodians.find? (fun x => x.1 == answer.take 2) = some c)
include hc

theorem contribute_bad (hg : answerGood q c answer = false) (s : State) (v k : Nat) : ∃ w, EnginesRan s w v ∧
    ∀ m, contribute s v k r pol q answer m = failed w sNO_AUTHORITY r := by
  obtain ⟨w, ew, -, hw⟩ := withChurn_drawless s v k
  refine ⟨w, ew, fun m => ?_⟩
  rw [answerGood] at hg
  simp only [contribute, hc, hw, hg, Bool.not_false, if_true]
theorem contribute_again (hg : answerGood q c answer = true) (hd : q.got.any (fun g => g.1 == answer.take 2) = true) (s : State) (v k : Nat) :
    ∃ w, EnginesRan s w v ∧ ∀ m, contribute s v k r pol q answer m = failed w sEXISTS r := by
  obtain ⟨w, ew, -, hw⟩ := withChurn_drawless s v k
  refine ⟨w, ew, fun m => ?_⟩
  rw [answerGood] at hg
  simp only [contribute, hc, hw, hg, hd, Bool.not_true, Bool.false_eq_true, if_false, if_true]
/-- A contribution counted: the session with it, and what follows once there are enough. -/
theorem contribute_counts {x : Bytes} (hg : answerGood q c answer = true) (hd : q.got.any (fun g => g.1 == answer.take 2) = false)
    (hx : componentOf q c.2 (answer.drop 66) = some x) (hf : Fed s v ((if q.purpose = 1 then [] else allDraws 0x23 0 p256).sum + n) ∨ q.purpose = 1) :
    ∃ w, EnginesRan s w v ∧ (q.purpose ≠ 1 → Fed w v n) ∧
      (q.got.length + 1 < pol.m → ∀ m, contribute s v k r pol q answer m =
        okWith { w with fw := countedFw s q (answer.take 2) x } r (cardBody (answer.take 2) (q.got.length + 1) pol.m 0 0 [])) ∧
      (pol.m ≤ q.got.length + 1 → ∀ m, contribute s v k r pol q answer m =
        quorumDone s { w with fw := countedFw s q (answer.take 2) x } v k r (gotMore q (answer.take 2) x) (answer.take 2) pol.m m) := by
  obtain ⟨a, ea, fa, ha⟩ := withChurn_drawless s v k
  have hsecond : ∃ b, EnginesRan a b v ∧ (q.purpose ≠ 1 → Fed b v n) ∧ ∀ s0 op r f,
      withChurn s0 a v k op (if q.purpose = 1 then [] else allDraws 0x23 0 p256) false true r f = f b := by
    by_cases hp : q.purpose = 1
    · obtain ⟨b, eb, -, hb⟩ := withChurn_drawless a v k
      exact ⟨b, eb, fun h => absurd hp h, by rw [if_pos hp]; exact hb⟩
    · obtain ⟨b, eb, fb, hb⟩ := withChurn_fed (l := if q.purpose = 1 then [] else allDraws 0x23 0 p256) (n := n) k true ((fa _ (hf.resolve_right hp)).mono (by omega))
      exact ⟨b, eb, fun _ => fb, hb⟩
  obtain ⟨b, eb, fb, hb⟩ := hsecond
  rw [answerGood] at hg
  have hlen : (q.got ++ [(answer.take 2, x)]).length = q.got.length + 1 := by simp
  have hfw : b.fw = s.fw := (ea.trans eb).fw
  refine ⟨b, ea.trans eb, fb, fun hlt m => ?_, fun hle m => ?_⟩
  · simp only [contribute, hc, ha, hg, hd, hb, hx, hlen, Nat.not_le.2 hlt, Bool.not_true, Bool.false_eq_true, if_false, hfw]
    rfl
  · simp only [contribute, hc, ha, hg, hd, hb, hx, hlen, hle, Bool.not_true, Bool.false_eq_true, if_false, if_true, hfw]
    rfl
end

section
variable {q : Quorum} {id x : Bytes}

/-- The session's last contribution counted and the session ended. -/
theorem dropQuorum_counted (hw : EnginesRan s w v) :
    EnginesRan { s with fw := goneFw s q } (dropQuorum { w with fw := countedFw s q id x } (gotMore q id x).id) v := by
  have hdrop : dropQuorum { w with fw := countedFw s q id x } (gotMore q id x).id = { w with fw := goneFw s q } := by
    show { w with fw := { s.fw with quorums := _ } } = { w with fw := { s.fw with quorums := _ } }
    rw [← gone_of_counted s.fw q id x]
    rfl
  rw [hdrop]
  exact hw.withFw _
theorem quorumDone_ticket (hp : q.purpose = 1) (hw : EnginesRan s w v) (s0 : State) (need : Nat) : ∃ t,
    EnginesRan { s with fw := { goneFw s q with qtickets := s.fw.qtickets ++ [⟨s.fw.nextId, q.target, q.ends⟩], nextId := s.fw.nextId + 1 } } t v ∧
    ∀ m, quorumDone s0 { w with fw := countedFw s q id x } v k r (gotMore q id x) id need m =
      okWith t r (cardBody id need need s.fw.nextId 0 []) := by
  have hgone := dropQuorum_counted (q := q) (id := id) (x := x) hw
  have hfw := hgone.fw
  have hpurpose : (gotMore q id x).purpose = 1 := hp
  refine ⟨_, hgone.withFw _, fun m => ?_⟩
  simp only [quorumDone, hpurpose, if_true, hfw]
  rfl
theorem quorumDone_key {slot : Nat} (hp : q.purpose ≠ 1) (hw : EnginesRan s w v)
    (hs : pickSlot { s with fw := goneFw s q } q.slot.toNat (keyBytesOf q.type) = .ok slot) (hr : HasOwnerRoot s v)
    (hf : Fed w v (storeBits ((gotMore q id x).got.foldl (fun y g => xorB y g.2) (zeros (keyBytesOf q.type))).length)) (s0 : State) (need : Nat) :
    let key := (gotMore q id x).got.foldl (fun y g => xorB y g.2) (zeros (keyBytesOf q.type))
    ∃ a b, EnginesRan { s with fw := goneFw s q } a v ∧ EnginesRan { s with fw := goneFw s q } b v ∧
      ∀ m, quorumDone s0 { w with fw := countedFw s q id x } v k r (gotMore q id x) id need m =
        if m then failed (macMismatch a v k) sINTERNAL r
        else okWith (storeKey b slot q.type 0 q.part q.usage 0xFFFF key []) r (cardBody id need need 0 slot (kcvOf q.type key)) := by
  intro key
  have hgone := dropQuorum_counted (q := q) (id := id) (x := x) hw
  have hroot : HasOwnerRoot { s with fw := goneFw s q } v := hr
  have hfed : Fed (dropQuorum { w with fw := countedFw s q id x } (gotMore q id x).id) v (0 + storeBits key.length) := by
    rw [Nat.zero_add]
    exact hf
  obtain ⟨a, b, ea, eb, -, hb⟩ := withStore_fed (type := q.type) (m := key) (hgone.root.2 hroot) hfed
  have hslot : pickSlot (dropQuorum { w with fw := countedFw s q id x } (gotMore q id x).id) (gotMore q id x).slot.toNat
      (keyBytesOf (gotMore q id x).type) = .ok slot := by
    rw [hgone.records.pickSlot]
    exact hs
  have hpurpose : (gotMore q id x).purpose ≠ 1 := hp
  refine ⟨a, b, hgone.trans ea, hgone.trans eb, fun m => ?_⟩
  simp only [quorumDone, hpurpose, if_false, hslot]
  exact hb ..
end

end Sys2Proof.Machine
end

section
/-!
PROOFS. Towards O33: configuration records, calibration, the fault record and the state of the tamper sources (R141, R142, R147, R505, R506,
R521).
-/
namespace Sys2Proof.Machine

variable {s t u w : State} {p : Nat} {d : Doorbell} {r : Request} {n item index : Nat}

/-! ### CFG.SET (R141) -/

theorem getCfg_setCfg_same (s : State) (item index : Nat) (x : Option Bytes) : getCfg (setCfg s item index x) item index = x := tget_tset_same ..
theorem getCfg_setCfg_other (s : State) {it ix : Nat} (x : Option Bytes) (h : cfgKey it ix ≠ cfgKey item index) :
    getCfg (setCfg s item index x) it ix = getCfg s it ix := tget_tset_other _ _ _ h
/-- A record without a fuse, put into force, reaches neither the store nor the Parlour. -/
theorem applyTamperRecord_keeps {b : Bytes} (h : byteAt b 4 ≠ 0xD5) :
    (applyTamperRecord s index b).store = s.store ∧ (applyTamperRecord s index b).parlour = s.parlour := by
  simp only [applyTamperRecord, if_neg h]
  exact ⟨rfl, rfl⟩
theorem applyRecord_keeps {b : Bytes} (h : ¬ (item = 1 ∧ byteAt b 4 = 0xD5)) :
    (applyRecord s item index b).store = s.store ∧ (applyRecord s item index b).parlour = s.parlour := by
  unfold applyRecord
  split
  · exact applyTamperRecord_keeps fun hb => h ⟨rfl, hb⟩
  · exact ⟨rfl, rfl⟩
  · exact ⟨rfl, rfl⟩
  · exact ⟨rfl, rfl⟩

section
variable (hw : ¬ (u16 r.body 0 = 1 ∧ (p, u16 r.body 2) ∈ s.fw.fuseWait))
include hw

theorem cfgSet_missing (he : cfgExists (u16 r.body 0) (u16 r.body 2) = false) : cfgSet s p r = failed s sNOT_FOUND r := by
  simp only [cfgSet, if_neg hw, he, Bool.not_false, if_true]
theorem cfgSet_badLength (he : cfgExists (u16 r.body 0) (u16 r.body 2) = true) (hl : cfgLengthOk (u16 r.body 0) (r.body.drop 8) = false) :
    cfgSet s p r = failed s sBAD_LENGTH r := by
  simp only [cfgSet, if_neg hw, he, hl, Bool.not_true, Bool.false_eq_true, Bool.not_false, if_true, if_false]
variable (he : cfgExists (u16 r.body 0) (u16 r.body 2) = true) (hl : cfgLengthOk (u16 r.body 0) (r.body.drop 8) = true)
  (hr : (cfgRules s (u16 r.body 0) (u16 r.body 2) (r.body.drop 8)).all (·.1) = true)
include he hl hr

theorem cfgSet_stored (hf : ¬ (u16 r.body 0 = 1 ∧ byteAt (r.body.drop 8) 4 = 0xD5)) : cfgSet s p r =
    okWith (applyRecord (setCfg s (u16 r.body 0) (u16 r.body 2) (some (storedRecord (u16 r.body 0) (r.body.drop 8)))) (u16 r.body 0) (u16 r.body 2)
      (r.body.drop 8)) r [] := by
  have hrules : (cfgRules s (u16 r.body 0) (u16 r.body 2) (r.body.drop 8)).find? (fun q => !q.1) = none := by simpa using hr
  have hfuse : ∀ b : Bool, ¬ (u16 r.body 0 = 1 ∧ byteAt (r.body.drop 8) 4 = 0xD5 ∧ b = true) := fun b h => hf ⟨h.1, h.2.1⟩
  simp only [cfgSet, if_neg hw, he, hl, hrules, if_neg (hfuse _), if_neg hf, Bool.not_true, Bool.false_eq_true, if_false]
variable (h1 : u16 r.body 0 = 1) (hb : byteAt (r.body.drop 8) 4 = 0xD5)
include h1 hb

theorem cfgSet_ticket {x : Nat} (hx : r.auth = .ticket x) : cfgSet s p r = failed s sNO_AUTHORITY r := by
  have hm : (p, u16 r.body 2) ∉ s.fw.fuseWait := fun h => hw ⟨h1, h⟩
  rw [h1] at he hl hr
  have hrules : (cfgRules s 1 (u16 r.body 2) (r.body.drop 8)).find? (fun q => !q.1) = none := by simpa using hr
  simp only [cfgSet, h1, hm, he, hl, hrules, hx, hb, Bool.not_true, Bool.false_eq_true, if_false, and_false, and_self, if_true]
theorem cfgSet_fuse (hx : ∀ x, r.auth ≠ .ticket x) : cfgSet s p r =
    (let u := setCfg s 1 (u16 r.body 2) (some (storedRecord 1 (r.body.drop 8)))
     { writeTmpFuse u (BitVec.ofNat 16 (0xD500 + u16 r.body 2)) with fw := { u.fw with fuseWait := u.fw.fuseWait ++ [(p, u16 r.body 2)] } }, none) := by
  have hm : (p, u16 r.body 2) ∉ s.fw.fuseWait := fun h => hw ⟨h1, h⟩
  rw [h1] at he hl hr
  have hrules : (cfgRules s 1 (u16 r.body 2) (r.body.drop 8)).find? (fun q => !q.1) = none := by simpa using hr
  cases ha : r.auth with
  | ticket x => exact absurd ha (hx x)
  | _ => simp only [cfgSet, h1, hm, he, hl, hrules, ha, hb, Bool.not_true, Bool.false_eq_true, if_false, and_false, and_self, if_true]
end
theorem cfgSet_waiting (h1 : u16 r.body 0 = 1) (hm : (p, u16 r.body 2) ∈ s.fw.fuseWait) : cfgSet s p r = fuseSet s p r := by
  simp only [cfgSet, h1, hm, and_self, if_true]

/-! ### CAL.SET (R142, R521) -/

/-- An offset within its bound is stored in the register as it is; the detectors it moves settle again. -/
theorem setOffset_frame {x : BitVec 16} (h : clampOffset (calBound s item) x = x) :
    ∃ m b, setOffset s item x = { s with calOffsets := tset (fun _ => 0) s.calOffsets item x, tmp := m, bat := b } := by
  have hsrc : ∀ (l : List Nat) (s : State), ∃ m, l.foldl (fun s i => setSrc s i { getSrc s i with settling := true }) s = { s with tmp := m } := by
    intro l
    induction l with
    | nil => exact fun s => ⟨s.tmp, rfl⟩
    | cons i l ih =>
      intro s
      obtain ⟨m, hm⟩ := ih (setSrc s i { getSrc s i with settling := true })
      exact ⟨m, hm⟩
  simp only [setOffset, h, if_true]
  obtain ⟨m, hm⟩ := hsrc (calSources item) { s with calOffsets := tset (fun _ => 0) s.calOffsets item x }
  rw [hm]
  split
  · exact ⟨m, _, rfl⟩
  · exact ⟨m, s.bat, rfl⟩
theorem writeTune_frame (s : State) : ∃ g e t, writeTune s = { s with regs := g, evc := e, tag := t } := by
  simp only [writeTune]
  split
  · exact ⟨_, _, _, rfl⟩
  · unfold putRecord
    simp only
    split
    · unfold tagEvent
      split
      · obtain ⟨g, e, h⟩ := eventBit_frame (s := s) R.TAG_EVENT 7 (512 + 7)
        exact ⟨g, e, s.tag, h⟩
      · exact ⟨_, _, _, rfl⟩
    · exact ⟨_, _, _, rfl⟩
/-- An offset of the owner within its bound, stored and in force; the trims of a vat's clock become due. -/
def offsetSet (s : State) (item : Nat) (x : BitVec 16) : State :=
  let s := { s with store := { s.store with cal := tset (fun _ => none) s.store.cal item (some x) } }
  let s := setOffset s item x
  let s := if 0x0100 ≤ item ∧ item - 0x0100 < 34 then
      { s with fw := { s.fw with calDue := (item - 0x0100) :: s.fw.calDue.erase (item - 0x0100) } } else s
  if item = 0x0400 then writeTune s else s
theorem offsetSet_sets {x : BitVec 16} (h : clampOffset (calBound s item) x = x) :
    tget (fun _ => none) (offsetSet s item x).store.cal item = some x ∧ calOffset (offsetSet s item x) item = x ∧
      (offsetSet s item x).parlour = s.parlour := by
  obtain ⟨m, b, hset⟩ := setOffset_frame (s := { s with store := { s.store with cal := tset (fun _ => none) s.store.cal item (some x) } }) h
  have hout : ∀ t : State, t.store.cal = tset (fun _ => none) s.store.cal item (some x) → t.calOffsets = tset (fun _ => 0) s.calOffsets item x →
      t.parlour = s.parlour → tget (fun _ => none) t.store.cal item = some x ∧ calOffset t item = x ∧ t.parlour = s.parlour :=
    fun t hc ho hp => ⟨by rw [hc, tget_tset_same], by rw [calOffset, ho, tget_tset_same], hp⟩
  simp only [offsetSet, hset]
  split
  · obtain ⟨g, e, t, ht⟩ := writeTune_frame _
    rw [ht]
    split
    · exact hout _ rfl rfl rfl
    · exact hout _ rfl rfl rfl
  · split
    · exact hout _ rfl rfl rfl
    · exact hout _ rfl rfl rfl

/-! ### TMP.STATUS -/

/-- A list of blocks of k bytes, and the block at a place in it. -/
theorem flatMap_blocks_length {α β : Type} {k : Nat} {f : α → List β} (h : ∀ x, (f x).length = k) (l : List α) : (l.flatMap f).length = k * l.length := by
  induction l with
  | nil => rfl
  | cons x l ih => rw [List.flatMap_cons, List.length_append, h, ih, List.length_cons, Nat.mul_succ, Nat.add_comm]
theorem flatMap_block {α β : Type} {k : Nat} {f : α → List β} (h : ∀ x, (f x).length = k) (l : List α) :
    ∀ i (hi : i < l.length), ((l.flatMap f).drop (k * i)).take k = f l[i] := by
  induction l with
  | nil => exact fun i hi => absurd hi (Nat.not_lt_zero i)
  | cons x l ih =>
    intro i hi
    cases i with
    | zero => rw [List.flatMap_cons, Nat.mul_zero, List.drop_zero, List.take_left' (h x), List.getElem_cons_zero]
    | succ i =>
      rw [List.flatMap_cons, Nat.mul_succ, Nat.add_comm, ← List.drop_drop, List.drop_left' (h x), ih i (Nat.lt_of_succ_lt_succ hi),
        List.getElem_cons_succ]
/-- What TMP.STATUS says of a source. -/
def sourceStatus (s : State) (i : Nat) : Bytes :=
  [BitVec.ofNat 8 (if srcReserved i then 0 else if srcFused s i then 2 else if (getSrc s i).firing then 1 else 0),
    (getReg s (R.TMP_SRC_CFG i)).setWidth 8 &&& 0x7F] ++ leBytes 2 (evidence s i) ++ leBytes 2 (min 0xFFFF (disagreesOf s i)) ++ [0, 0]
theorem sourceStatus_length (s : State) (i : Nat) : (sourceStatus s i).length = 8 := by
  simp only [sourceStatus, List.length_append, List.length_cons, List.length_nil, leBytes_length]
theorem sourceStatus_at (s : State) {i : Nat} (h : i < 48) :
    (((List.range 48).flatMap (sourceStatus s)).drop (8 * i)).take 8 = sourceStatus s i := by
  rw [flatMap_block (sourceStatus_length s) _ i (by rwa [List.length_range]), List.getElem_range]

end Sys2Proof.Machine
end

section
/-!
PROOFS. Settles O33: CUS., CFG., CAL., FLT. and TMP. commands complete.
-/
namespace Sys2Proof.Machine

variable {s t u w : State} {p : Pail} {d : Doorbell} {r : Request} {v k tk n : Nat} {m : Bool}

/-! ### The exchange with a card (R140, R471) -/

/-- What an answer that is counted must be: a signature alone for an authorisation, else with a component behind it. -/
def AnswerFits (q : Quorum) (x : Bytes) : Prop := 66 ≤ x.length ∧ (q.purpose = 1 → x.length = 66)
theorem answerFits_iff {q : Quorum} {x : Bytes} : AnswerFits q x ↔ ¬ (x.length < 66 ∨ (q.purpose = 1 ∧ x.length ≠ 66)) := by
  rw [AnswerFits, not_or, Nat.not_lt, not_and, not_ne_iff]

section
variable {q : Quorum} {pol : Policy} (hq : findQuorum s r (u32 r.body 0) = some q) (hp : s.store.policy = some pol)
include hq hp

theorem cusCard_start_active (hd : d.card = .start) (hu : slotInUse s d (byteAt r.body 4) = false) (hs : cslState s (byteAt r.body 4) = 2) :
    cusCard s p.val v k d r m = cardStage (sendApdu s (byteAt r.body 4) (selectApdu pol)) p.val d .select := by
  simp only [cusCard, hq, hp, hd, hu, hs, Bool.false_eq_true, if_false, if_true]
theorem cusCard_start_idle (hd : d.card = .start) (hu : slotInUse s d (byteAt r.body 4) = false) (hs : cslState s (byteAt r.body 4) = 0) :
    cusCard s p.val v k d r m = cardStage (cslActivate (clearDone s (byteAt r.body 4)) (byteAt r.body 4)) p.val d .activate := by
  simp only [cusCard, hq, hp, hd, hu, hs, Bool.false_eq_true, if_false, OfNat.zero_ne_ofNat, if_true]
theorem cusCard_waits (hd : d.card ≠ .start) (he : getBit s (R.CSL_EVENT (byteAt r.body 4)) 0 = false) : cusCard s p.val v k d r m = (s, none) := by
  cases hc : d.card with
  | start => exact absurd hc hd
  | _ => simp only [cusCard, hq, hp, hc, he, Bool.not_false, if_true]
variable (he : getBit s (R.CSL_EVENT (byteAt r.body 4)) 0 = true)
include he

theorem cusCard_slotFails (hd : d.card ≠ .start) (hc : getFld s (R.CSL_RESULT (byteAt r.body 4)) 15 12 ≠ kOK) :
    cusCard s p.val v k d r m = slotFailedWith s r (getFld s (R.CSL_RESULT (byteAt r.body 4)) 15 12) := by
  cases hx : d.card with
  | start => exact absurd hx hd
  | _ => simp only [cusCard, hq, hp, hx, he, hc, Bool.not_true, Bool.false_eq_true, if_false, ne_eq, not_false_eq_true, if_true]
variable (hc : getFld s (R.CSL_RESULT (byteAt r.body 4)) 15 12 = kOK)
include hc

theorem cusCard_activated (hd : d.card = .activate) :
    cusCard s p.val v k d r m = cardStage (sendApdu s (byteAt r.body 4) (selectApdu pol)) p.val d .select := by
  simp only [cusCard, hq, hp, hd, he, hc, Bool.not_true, Bool.false_eq_true, if_false, ne_eq, not_true_eq_false]
theorem cusCard_selected {x : Bytes} (hd : d.card = .select) (ha : slotAnswer s (byteAt r.body 4) = some (x, 0x9000)) :
    cusCard s p.val v k d r m = cardStage (sendApdu s (byteAt r.body 4) (answerApdu pol q)) p.val d .answer := by
  simp only [cusCard, hq, hp, hd, he, hc, ha, Bool.not_true, Bool.false_eq_true, if_false, ne_eq, not_true_eq_false]
/-- A response too short for a status word, or with another than 0x9000. -/
theorem cusCard_noAnswer (hd : d.card = .select ∨ d.card = .answer) (ha : ∀ x, slotAnswer s (byteAt r.body 4) ≠ some (x, 0x9000)) :
    cusCard s p.val v k d r m = failed s sCARD_ERROR r := by
  rcases hd with hd | hd
  all_goals
    simp only [cusCard, hq, hp, hd, he, hc, Bool.not_true, Bool.false_eq_true, if_false, ne_eq, not_true_eq_false]
theorem cusCard_misfit {x : Bytes} (hd : d.card = .answer) (ha : slotAnswer s (byteAt r.body 4) = some (x, 0x9000)) (hf : ¬ AnswerFits q x) :
    cusCard s p.val v k d r m = failed s sCARD_ERROR r := by
  simp only [cusCard, hq, hp, hd, he, hc, ha, if_pos (not_imp_comm.1 answerFits_iff.2 hf), Bool.not_true, Bool.false_eq_true, if_false, ne_eq, not_true_eq_false]
theorem cusCard_contributes {x : Bytes} (hd : d.card = .answer) (ha : slotAnswer s (byteAt r.body 4) = some (x, 0x9000)) (hf : AnswerFits q x) :
    cusCard s p.val v k d r m = contribute s v k r pol q x m := by
  have hno : ¬ (x.length < 66 ∨ (q.purpose = 1 ∧ x.length ≠ 66)) := answerFits_iff.1 hf
  simp only [cusCard, hq, hp, hd, he, hc, ha, if_neg hno, Bool.not_true, Bool.false_eq_true, if_false, ne_eq, not_true_eq_false]
end
theorem cusCard_noSession (h : findQuorum s r (u32 r.body 0) = none) : cusCard s p.val v k d r m = failed s sNOT_FOUND r := by
  simp only [cusCard, h]
theorem componentOf_key {q : Quorum} {xy blob x : Bytes} (hp : q.purpose ≠ 1) (hx : openComponent q xy blob = some x)
    (hl : x.length = keyBytesOf q.type) : componentOf q xy blob = some x := by
  simp only [componentOf, hp, if_false, hx, Option.filter_some, hl, decide_true, if_true]

theorem complete_fw (s : State) (p : Nat) (seq : BitVec 16) (r : Response) : (complete s p seq r).fw = s.fw := rfl
theorem begun_of_settled (h : settled t = settled s) : t.fw.quorums = s.fw.quorums ∧ t.fw.nextId = s.fw.nextId ∧ t.bat = s.bat :=
  ⟨show (settled t).fw.quorums = (settled s).fw.quorums by rw [h], show (settled t).fw.nextId = (settled s).fw.nextId by rw [h],
    show (settled t).bat = (settled s).bat by rw [h]⟩
/-- The fault collector once its first record has been acknowledged (R519). -/
def released (s : State) : State :=
  { s with flt := { s.flt with first := none, overflow := false, escalated := false, overflowCount := 0, total := 0 } }
theorem writeFltAck_releases {f : FaultRec} (h : s.flt.first = some f) : writeFltAck s (f.stamp.setWidth 16) = released s := by
  simp only [writeFltAck, h, if_true]
  rfl

/-- A state in which a session has begun. -/
def begunWith (u : State) (q : Quorum) : State := { u with fw := { u.fw with quorums := u.fw.quorums ++ [q], nextId := u.fw.nextId + 1 } }
theorem begunWith_fw (u : State) (q : Quorum) : (begunWith u q).fw = { u.fw with quorums := u.fw.quorums ++ [q], nextId := u.fw.nextId + 1 } := rfl
theorem begunWith_parlour (u : State) (q : Quorum) : (begunWith u q).parlour = u.parlour := rfl
/-- The response to CUS.BEGIN. -/
def begunBody (q : Quorum) (pol : Policy) : Bytes := leBytes 4 q.id ++ q.challenge ++ q.point ++ leBytes 2 pol.m
theorem newSession_point (t : State) (r : Request) (x : Bytes) (n : Nat) : (newSession t r x n).point =
    (pointBytes p256 (ecMul p256 (newSession t r x n).priv (basePoint p256))).drop 1 := by
  simp only [newSession]
theorem newSession_challenge {x : Bytes} (hx : x.length = 64) (t : State) (r : Request) (n : Nat) : (newSession t r x n).challenge.length = 32 := by
  simp only [newSession, List.length_take, hx]
  rfl
theorem newSession_ends (t : State) (r : Request) (x : Bytes) (n : Nat) : (newSession t r x n).ends = t.bat.timeBase.toNat + 1800000000 := by
  simp only [newSession, sessionTime]

/-- What a contribution that verifies comes to, an authorisation's or an import's (R140). -/
theorem contribute_authorises {q : Quorum} {pol : Policy} {answer : Bytes} {c : Bytes × Bytes}
    (hc : pol.custodians.find? (fun x => x.1 == answer.take 2) = some c) (hg : answerGood q c answer = true)
    (hd : q.got.any (fun g => g.1 == answer.take 2) = false) (hp : q.purpose = 1) (v k : Nat) :
    (q.got.length + 1 < pol.m → ∃ w, EnginesRan { s with fw := countedFw s q (answer.take 2) [] } w v ∧
      ∀ m, contribute s v k r pol q answer m = okWith w r (cardBody (answer.take 2) (q.got.length + 1) pol.m 0 0 [])) ∧
    (pol.m ≤ q.got.length + 1 → ∃ w,
      EnginesRan { s with fw := { goneFw s q with qtickets := s.fw.qtickets ++ [⟨s.fw.nextId, q.target, q.ends⟩], nextId := s.fw.nextId + 1 } } w v ∧
      ∀ m, contribute s v k r pol q answer m = okWith w r (cardBody (answer.take 2) pol.m pol.m s.fw.nextId 0 [])) := by
  obtain ⟨a, ea, -, hfew, henough⟩ := contribute_counts (s := s) (v := v) (k := k) (r := r) (n := 0) hc hg hd (x := [])
    (by simp only [componentOf, hp, if_true]) (.inr hp)
  refine ⟨fun hlt => ⟨_, ea.withFw _, hfew hlt⟩, fun hle => ?_⟩
  obtain ⟨t, et, ht⟩ := quorumDone_ticket (k := k) (r := r) (id := answer.take 2) (x := []) hp ea s pol.m
  exact ⟨t, et, fun m => (henough hle m).trans (ht m)⟩

/-! ### The statement -/

/-- Settles O33: each clause carries out the command with the equation of its program (`cusCard_answered` and `contribute_counts`,
`cfgSet_stored`, `offsetSet_sets`, `sourceStatus_at` and their like). -/
theorem custodyConfigComplete : Obligations.CustodyConfigComplete := by
  intro s p d r v k tk
  dsimp only
  refine ⟨fun h => ?_, fun pol h hpol => ⟨fun hroom hs => ?_, fun hroom hs ha => ?_, fun hroom => ?_⟩, fun h hpol => ?_,
    fun h m => ⟨fun hq => ?_, fun q pol hq hpol => ?_⟩, fun q pol h hq hpol => ?_, fun q h hq => ?_,
    fun id q hq => ⟨fun he => ?_, fun he => ?_⟩, ⟨?_, ?_, ?_, ?_, ?_⟩, fun h => ?_, fun f h hf => ?_, fun h hf => ?_, fun h => ?_⟩
  · exact answers_serve rfl h rfl ⟨rfl, completed_of_parlour rfl _, _, rfl, rfl, rfl, rfl⟩
  · obtain ⟨x, t, hx, hl, -, hset⟩ := readRandom_served hs
    rcases hb : drawBits t 320 with ⟨n, u⟩
    have hkept : settled u = settled s := (congrArg settled (congrArg Prod.snd hb).symm).trans hset
    obtain ⟨hquorums, hnext, hbat⟩ := begun_of_settled hkept
    have hno := mt sessionRoom_iff.2 (not_not_intro hroom)
    have hpriv := newSession_priv u r x n
    have hends := newSession_ends u r x n
    rw [hbat] at hends
    refine answers_serve rfl h (w := begunWith u (newSession u r x n)) (resp := respond sOK r.command (begunBody (newSession u r x n) pol)) ?_
      ⟨newSession u r x n, ?_, hnext, rfl, rfl, newSession_challenge hl u r n, hends, rfl, hpriv.1, hpriv.2, newSession_point u r x n, ?_, ?_⟩
    · simp only [hpol, if_neg hno, hx, hb, okWith, begunWith, begunBody, newSession]
    · rw [complete_fw, begunWith_fw, hquorums]
    · rw [complete_fw, begunWith_fw, hnext]
    · exact completed_of_parlour ((begunWith_parlour ..).trans (parlour_of_settled hkept)) _
  · refine answers_serve rfl h (w := (softBatch s 64).2) ?_
      ⟨completed_of_parlour (parlour_of_settled (settled_softBatch ..)) _, (complete_fw ..).trans (softBatch_fw s 64)⟩
    have hno := mt sessionRoom_iff.2 (not_not_intro hroom)
    simp only [hpol, if_neg hno, readRandom_stopped hs ha]
    rfl
  · refine answers_serve rfl h ?_ rfl
    have hfull := sessionRoom_iff.1 hroom
    simp only [hpol, if_pos hfull]
    rfl
  · exact answers_serve rfl h (by simp only [hpol]; rfl) rfl
  · exact answers_serveCell rfl h (cusCard_noSession hq) rfl
  · refine ⟨fun hd hu => ⟨fun hst => ?_, fun hst => ?_⟩, fun hd he => ?_, fun hd he hc => ?_, fun hd he hc => ?_, fun x hd he hc ha => ?_,
      fun hd he hc ha => ?_, fun answer hd he hc ha => ⟨fun hf => ?_, fun hf hn => ?_, fun c hf hcust => ⟨fun hg => ?_, fun hg hag => ?_,
        fun hg hag hone => ?_, fun x hg hag hone hx hlen hfed => ⟨fun hlt => ?_, fun slot hle hslot h1 h6 hr => ?_⟩⟩⟩⟩
    · exact answers_serveCell_on rfl h (cusCard_start_active hq hpol hd hu hst) rfl
    · exact answers_serveCell_on rfl h (cusCard_start_idle hq hpol hd hu hst) rfl
    · exact idles_serveCell rfl h (cusCard_waits hq hpol hd he)
    · exact answers_serveCell rfl h (cusCard_slotFails hq hpol he hd hc) rfl
    · exact answers_serveCell_on rfl h (cusCard_activated hq hpol he hc hd) rfl
    · exact answers_serveCell_on rfl h (cusCard_selected hq hpol he hc hd ha) rfl
    · exact answers_serveCell rfl h (cusCard_noAnswer hq hpol he hc hd ha) rfl
    · exact answers_serveCell rfl h (cusCard_misfit hq hpol he hc hd ha hf) rfl
    · exact answers_serveCell rfl h ((cusCard_contributes hq hpol he hc hd ha hf).trans (contribute_unknown hn)) rfl
    all_goals have hprog := cusCard_contributes (p := p) (v := v) (k := k) (m := m) hq hpol he hc hd ha hf
    · obtain ⟨w, ew, hw⟩ := contribute_bad (r := r) hcust hg s v k
      exact answers_serveCell rfl h (hprog.trans (hw m)) ⟨w, ew, rfl⟩
    · obtain ⟨w, ew, hw⟩ := contribute_again (r := r) hcust hg hag s v k
      exact answers_serveCell rfl h (hprog.trans (hw m)) ⟨w, ew, rfl⟩
    · obtain ⟨hfew, henough⟩ := contribute_authorises (s := s) (r := r) hcust hg hag hone v k
      refine ⟨fun hlt => ?_, fun hle => ?_⟩
      · obtain ⟨w, ew, hw⟩ := hfew hlt
        exact answers_serveCell rfl h (hprog.trans (hw m)) ⟨w, ew, rfl⟩
      · obtain ⟨w, ew, hw⟩ := henough hle
        exact answers_serveCell rfl h (hprog.trans (hw m)) ⟨w, ew, rfl⟩
    all_goals
      obtain ⟨a, ea, fa, hfew, henough⟩ := contribute_counts (k := k) (r := r) hcust hg hag (componentOf_key hone hx hlen)
        (.inl (by rw [if_neg hone]; exact hfed))
    · exact answers_serveCell rfl h (hprog.trans (hfew hlt m)) ⟨_, ea.withFw _, rfl⟩
    · obtain ⟨b, c', eb, ec, hb⟩ := quorumDone_key (k := k) (r := r) (id := answer.take 2) (x := x) hone ea hslot hr (fa hone) s pol.m
      have hdone := hprog.trans ((henough hle m).trans (hb m))
      cases m with
      | true => exact answers_serveCell rfl h hdone (macDiffered_intro eb)
      | false => exact answers_serveCell rfl h hdone ⟨c', ec, rfl⟩
  · exact answers_serve rfl h (by simp only [hq, hpol]; rfl) rfl
  · exact answers_serve rfl h (w := dropQuorum s q.id) (by simp only [hq]; rfl) ⟨rfl, completed_of_parlour rfl _⟩
  · refine ⟨dropQuorum s q.id, ?_, rfl⟩
    show execSessionTimeout id s = _
    simp only [execSessionTimeout, hq, he, if_true]
  · show execSessionTimeout id s = _
    simp only [execSessionTimeout, hq, Nat.not_le.2 he, if_false]
  · exact fun h => ⟨fun he => answers_serve rfl h (by simp only [he]; rfl) rfl, fun he => answers_serve rfl h (by simp only [he]; rfl) rfl⟩
  · intro h h1 hm
    refine ⟨fun hf => idles_serve rfl h ?_, fun hf => ?_⟩
    · rw [cfgSet_waiting h1 hm, fuseSet, hf]
      rfl
    · exact answers_serve rfl h (w := applyTamperRecord _ (u16 r.body 2) ((r.body.drop 8).set 4 0))
        ((cfgSet_waiting h1 hm).trans (by rw [fuseSet, hf]; rfl)) ⟨_, rfl, rfl⟩
  · intro h hw
    have hwait : ¬ (u16 r.body 0 = 1 ∧ (p.val, u16 r.body 2) ∈ s.fw.fuseWait) := fun hx => hw hx.1 hx.2
    refine ⟨fun he hl hr => ⟨fun hf => ?_, fun h1 hb hx => ?_, fun x h1 hb hx => ?_⟩, fun he => ?_, fun he hl => ?_⟩
    · obtain ⟨hstore, hparlour⟩ := applyRecord_keeps (s := setCfg s (u16 r.body 0) (u16 r.body 2) (some (storedRecord (u16 r.body 0) (r.body.drop 8))))
        (index := u16 r.body 2) hf
      have hget : ∀ it ix, getCfg (applyRecord (setCfg s (u16 r.body 0) (u16 r.body 2) (some (storedRecord (u16 r.body 0) (r.body.drop 8))))
          (u16 r.body 0) (u16 r.body 2) (r.body.drop 8)) it ix =
          getCfg (setCfg s (u16 r.body 0) (u16 r.body 2) (some (storedRecord (u16 r.body 0) (r.body.drop 8)))) it ix := fun it ix => by
        rw [getCfg, hstore, getCfg]
      exact answers_serve rfl h (cfgSet_stored hwait he hl hr hf) ⟨(hget ..).trans (getCfg_setCfg_same ..), completed_of_parlour hparlour _,
        fun it ix hk => (hget it ix).trans (getCfg_setCfg_other _ _ hk)⟩
    · exact answers_serve_on rfl h (cfgSet_fuse hwait he hl hr h1 hb hx) rfl
    · exact answers_serve rfl h (cfgSet_ticket hwait he hl hr h1 hb hx) rfl
    · exact answers_serve rfl h (cfgSet_missing hwait he) rfl
    · exact answers_serve rfl h (cfgSet_badLength hwait he hl) rfl
  · refine fun h => ⟨fun hi => answers_serve rfl h ?_ rfl, fun hi => answers_serve rfl h ?_ rfl⟩
    · have hno : (calOtp s (u16 r.body 0)).isNone = false := by simpa using hi
      simp only [hno]
      rfl
    · simp only [hi]
      rfl
  · refine fun h hi => ⟨fun hx => ?_, fun hx => ?_⟩
    · obtain ⟨hcal, hoff, hpar⟩ := offsetSet_sets hx
      refine answers_serve rfl h (w := offsetSet s (u16 r.body 0) (BitVec.ofNat 16 (u16 r.body 2))) ?_
        ⟨congrArg (Option.getD · 0) hcal, hoff, completed_of_parlour hpar _, hcal⟩
      have hno : (calOtp s (u16 r.body 0)).isNone = false := by simpa using hi
      simp only [hno, hx, ne_eq, not_true_eq_false, if_false, Bool.false_eq_true]
      rfl
    · refine answers_serve rfl h ?_ rfl
      have hno : (calOtp s (u16 r.body 0)).isNone = false := by simpa using hi
      simp only [hno, hx, ne_eq, not_false_eq_true, if_false, if_true, Bool.false_eq_true]
      rfl
  · exact answers_serve rfl h rfl rfl
  · refine ⟨fun he => ?_, fun he => answers_serve rfl h (by simp only [hf, he, if_false]; rfl) rfl⟩
    exact answers_serve rfl h (w := released s) (by simp only [hf, he, if_true, writeFltAck_releases hf]; rfl)
      ⟨rfl, rfl, rfl, rfl, rfl, completed_of_parlour rfl _⟩
  · exact answers_serve rfl h (by simp only [hf]; rfl) rfl
  · refine answers_serve rfl h rfl ⟨(List.range 48).flatMap (sourceStatus s), ?_, rfl, fun i hi => sourceStatus_at s hi⟩
    rw [flatMap_blocks_length (sourceStatus_length s), List.length_range]

end Sys2Proof.Machine
end

section
/-!
PROOFS. Tickets that are moved, held or admitted change the queues, the cells and the doorbells that wait, and of the registers only the
results of the deque engines: the states of the vats, the remap, VAT_CTRL and VAT_CELL_RUN stand.
-/
namespace Sys2Proof.Machine

variable {s t : State}

/-- The remap, the states of the vats, the VAT.QUIESCE commands that wait, and VAT_CTRL and VAT_CELL_RUN of every position. -/
def posture (s : State) : Tbl Nat × Tbl Nat × List (Nat × Nat) × (Nat → BitVec 16) × (Nat → BitVec 16) :=
  (s.remap, s.fw.vatState, s.fw.quiesce, fun p => getReg s (R.VAT_CTRL p), fun p => getReg s (R.VAT_CELL_RUN p))

section
variable (h : posture t = posture s)
include h

theorem vatStateOf_of_posture (n : Nat) : vatStateOf t n = vatStateOf s n := by
  have hv : t.fw.vatState = s.fw.vatState := congrArg (·.2.1) h
  rw [vatStateOf, vatStateOf, hv]
theorem quiesce_of_posture : t.fw.quiesce = s.fw.quiesce := congrArg (·.2.2.1) h
theorem cellRun_of_posture (p : Nat) : getReg t (R.VAT_CELL_RUN p) = getReg s (R.VAT_CELL_RUN p) := congrArg (·.2.2.2.2 p) h
theorem admits_of_posture (p : Nat) : admits t p = admits s p := congrArg (bit · 4) (congrArg (·.2.2.2.1 p) h)
end

/-! ### Deques -/

@[simp] theorem posture_modVat (p : Nat) (f : Vat → Vat) : posture (modVat s p f) = posture s := rfl
@[simp] theorem posture_modCell (k : Nat) (f : Cell → Cell) : posture (modCell s k f) = posture s := rfl
@[simp] theorem posture_modPail (p : Nat) (f : PailState → PailState) : posture (modPail s p f) = posture s := rfl
@[simp] theorem posture_setDeque (p k : Nat) (l : List Nat) : posture (setDeque s p k l) = posture s := rfl
@[simp] theorem posture_writeMem (a : Nat) (w : Word) : posture (writeMem s a w) = posture s := rfl
@[simp] theorem posture_writeMems (a : Nat) (ws : List Word) : posture (writeMems s a ws) = posture s := by
  induction ws generalizing s a with
  | nil => rfl
  | cons w ws ih => exact ih (a + 1)
@[simp] theorem posture_setVoided (p t : Nat) (on : Bool) : posture (setVoided s p t on) = posture s := rfl
@[simp] theorem posture_endGeneration (slot : Nat) : posture (endGeneration s slot) = posture s := rfl
@[simp] theorem posture_countAdmission (p : Nat) (left : Bool) : posture (countAdmission s p left) = posture s := rfl
@[simp] theorem posture_setResult (p : Nat) (valid full : Bool) (t : Nat) : posture (setResult s p valid full t) = posture s := by
  have hctrl (q : Nat) : R.VAT_CTRL q ≠ R.VAT_DQ_RESULT p := by unfold R.VAT_CTRL R.VAT_DQ_RESULT; omega
  have hrun (q : Nat) : R.VAT_CELL_RUN q ≠ R.VAT_DQ_RESULT p := by unfold R.VAT_CELL_RUN R.VAT_DQ_RESULT; omega
  simp only [posture, setResult, getReg_setReg_other _ _ (hctrl _), getReg_setReg_other _ _ (hrun _)]
  rfl
theorem posture_giveTicket (p k : Nat) (x : Option Nat) : posture (giveTicket s p k x) = posture s := by
  unfold giveTicket
  dsimp only
  split
  · rfl
  · rfl
theorem posture_dequeTake (p k : Nat) : posture (dequeTake s p k).2 = posture s := by
  unfold dequeTake
  dsimp only
  split
  · rfl
  split
  · rfl
  split
  · rfl
  · rfl
theorem posture_serveWaiter (p k : Nat) : posture (serveWaiter p s k) = posture s := by
  have htake := posture_dequeTake (s := s) p k
  unfold serveWaiter
  split
  · next u hu => rwa [hu] at htake
  · next x u hu =>
    rw [hu] at htake
    exact (posture_giveTicket ..).trans htake
@[simp] theorem posture_serveWaiters (p : Nat) : posture (serveWaiters s p) = posture s :=
  foldl_keeps posture _ (fun _ k => posture_serveWaiter p k) _ s
@[simp] theorem posture_dqPush (p k t : Nat) : posture (dqPush s p k t) = posture s := by
  simp only [dqPush]
  split
  · exact posture_setResult ..
  · simp
@[simp] theorem posture_dropTicket (p t : Nat) : posture (dropTicket s p t) = posture s := by
  simp only [dropTicket, posture_modVat]
  refine foldl_keeps posture _ (fun s k => ?_) _ _
  split
  · rfl
  · rfl

/-! ### Tickets that leave a vat -/

@[simp] theorem posture_modTicketDoorbell (p t : Nat) (f : Doorbell → Doorbell) : posture (modTicketDoorbell s p t f) = posture s := by
  unfold modTicketDoorbell
  split
  · rfl
  · rfl
@[simp] theorem posture_rehome (p t n k : Nat) : posture (rehome s p t n k) = posture s := by
  simp only [rehome, posture_writeMem, posture_writeMems]
@[simp] theorem posture_holdTicket (p t : Nat) : posture (holdTicket s p t) = posture s := by
  simp only [holdTicket, posture_dropTicket, posture_modTicketDoorbell]
  split
  · rfl
  · rfl
theorem posture_moveOut (p t : Nat) : posture (moveOut p s t) = posture s := by
  simp only [moveOut]
  split
  · exact posture_holdTicket ..
  split
  · split
    · simp
    · exact posture_holdTicket ..
  · exact posture_holdTicket ..
@[simp] theorem posture_drainUnpinned (p : Nat) : posture (drainUnpinned s p) = posture s := by
  simp only [drainUnpinned, posture_setResult]
  exact foldl_keeps posture _ (fun _ _ => foldl_keeps posture _ (fun _ t => posture_moveOut p t) _ _) _ _

/-! ### Tickets that are admitted -/

theorem posture_pushTicket (n k : Nat) (ws : List Word) : posture (pushTicket s n k ws) = posture s := by
  unfold pushTicket
  extract_lets p
  split
  · rfl
  · exact (posture_dqPush ..).trans ((posture_writeMems ..).trans (posture_setVoided ..))
theorem posture_admitTicket (w : Waiting) : posture (admitTicket s w) = posture s := by
  unfold admitTicket
  split
  · rfl
  split
  · exact (posture_pushTicket ..).trans ((posture_modPail ..).trans (posture_writeMems ..))
  · exact (posture_pushTicket ..).trans rfl
theorem posture_admitNext (h : admitNext s = some t) : posture t = posture s := by
  simp only [admitNext] at h
  split at h
  · cases h
  · obtain ⟨w, -, rfl⟩ := Option.map_eq_some_iff.1 h
    exact (posture_admitTicket w).trans (posture_countAdmission ..)
theorem posture_admitUpTo (n : Nat) : posture (admitUpTo n s) = posture s := by
  induction n generalizing s with
  | zero => rfl
  | succ n ih =>
    unfold admitUpTo
    split
    · rfl
    · next u hu => exact ih.trans (posture_admitNext hu)
@[simp] theorem posture_admitWaiting : posture (admitWaiting s) = posture s := posture_admitUpTo _

end Sys2Proof.Machine
end

section
/-!
PROOFS. What VAT. commands do to a vat but for a retirement: it is quiesced, its waiting VAT.QUIESCE ends, the loader starts, its clock is
trimmed, and it runs again.
-/
namespace Sys2Proof.Machine

variable {s t u : State} {p : Pail} {d : Doorbell} {r : Request}

/-! ### What firmware keeps -/

theorem vatState_of_settled (h : settled t = settled s) : t.fw.vatState = s.fw.vatState := by
  show (settled t).fw.vatState = (settled s).fw.vatState
  rw [h]
theorem vatStateOf_of_settled (h : settled t = settled s) (n : Nat) : vatStateOf t n = vatStateOf s n := by
  rw [vatStateOf, vatStateOf, vatState_of_settled h]
theorem quiesce_of_settled (h : settled t = settled s) : t.fw.quiesce = s.fw.quiesce := by
  show (settled t).fw.quiesce = (settled s).fw.quiesce
  rw [h]
theorem reload_of_settled (h : settled t = settled s) : t.fw.reload = s.fw.reload := by
  show (settled t).fw.reload = (settled s).fw.reload
  rw [h]
theorem vatStateOf_setVatState_same (s : State) (n v : Nat) : vatStateOf (setVatState s n v) n = v := tget_tset_same ..
theorem vatStateOf_setVatState_other (s : State) {n m : Nat} (v : Nat) (h : m ≠ n) : vatStateOf (setVatState s n v) m = vatStateOf s m :=
  tget_tset_other _ _ _ h
theorem vatCommandRuns_iff (s : State) (n : Nat) : vatCommandRuns s n = true ↔
    s.fw.reload.any (fun x => x.2 == n) = true ∨ s.fw.trims.any (fun x => decide (x.vat = n)) = true := Bool.or_eq_true_iff

/-! ### Requests that the supervisor finds -/

theorem findTaken_congr (hh : supHalted t = supHalted s) (hp : t.parlour = s.parlour) : findTaken t = findTaken s := by
  funext p c
  simp only [findTaken, hh, getPail, hp]
theorem completeCmd_taken {p c : Nat} (h : findTaken s p c = some (d, r)) (resp : Response) : completeCmd s p c resp = complete s p d.seq resp := by
  simp only [completeCmd, h]
theorem completeCmd_frame (s : State) (p c : Nat) (resp : Response) : ∃ q, completeCmd s p c resp = { s with parlour := q } := by
  unfold completeCmd
  split
  · exact ⟨_, rfl⟩
  · exact ⟨_, rfl⟩
/-- A state in which a VAT.QUIESCE waits no longer. -/
def unquiesced (s : State) (q : Nat × Nat) : State := { s with fw := { s.fw with quiesce := s.fw.quiesce.erase q } }
theorem endQuiesce_taken {p n : Nat} (hq : s.fw.quiesce.find? (fun x => x.2 == n) = some (p, n)) (ht : findTaken s p 0x0B02 = some (d, r))
    (status : Nat) : endQuiesce s n status = complete (unquiesced s (p, n)) p d.seq (respond status 0x0B02 []) := by
  simp only [endQuiesce, hq]
  exact completeCmd_taken (s := unquiesced s (p, n)) ht _

/-! ### Cells that are stopped and started (R325) -/

theorem stopWaiting_regs (s : State) (k : Nat) : (stopWaiting s k).regs = s.regs := by
  unfold stopWaiting
  split
  · rfl
  · rfl
  · rfl
theorem settled_stopWaiting (k : Nat) : settled (stopWaiting s k) = settled s := by
  unfold stopWaiting
  split
  · rfl
  · rfl
  · rfl
theorem modCell_halted {f : Cell → Cell} (hf : ∀ c, (f c).halted = c.halted) (s : State) (k j : Nat) :
    (getCell (modCell s k f) j).halted = (getCell s j).halted := by
  by_cases hj : j = k
  · rw [hj, modCell, getCell_setCell_same, hf]
  · rw [modCell, getCell_setCell_other _ _ hj]
theorem stopWaiting_supHalted (s : State) (k : Nat) : supHalted (stopWaiting s k) = supHalted s := by
  unfold stopWaiting
  split
  · rfl
  · rfl
  · exact modCell_halted (f := fun c => { c with wait := .none }) (fun _ => rfl) s k supKey
theorem writeCellRun_regs (s : State) (p : Nat) (v : BitVec 16) : (writeCellRun s p v).regs = (setReg s (R.VAT_CELL_RUN p) v).regs := by
  refine (foldl_keeps State.regs _ (fun s k => stopWaiting_regs s _) _ _).trans ?_
  split
  · rfl
  · rfl
@[simp] theorem settled_writeCellRun (p : Nat) (v : BitVec 16) : settled (writeCellRun s p v) = settled s := by
  refine (foldl_keeps settled _ (fun s k => settled_stopWaiting _) _ _).trans ?_
  split
  · rfl
  · rfl
theorem writeCellRun_supHalted (s : State) (p : Nat) (v : BitVec 16) : supHalted (writeCellRun s p v) = supHalted s := by
  refine (foldl_keeps supHalted _ (fun s k => stopWaiting_supHalted s _) _ _).trans ?_
  split
  · rfl
  · rfl
theorem getReg_writeCellRun_same (s : State) (p : Nat) (v : BitVec 16) : getReg (writeCellRun s p v) (R.VAT_CELL_RUN p) = v := by
  rw [getReg, writeCellRun_regs]
  exact getReg_setReg_same ..
theorem getReg_writeCellRun_other (s : State) {p w : Nat} (v : BitVec 16) (h : w ≠ R.VAT_CELL_RUN p) : getReg (writeCellRun s p v) w = getReg s w := by
  rw [getReg, writeCellRun_regs]
  exact getReg_setReg_other _ _ h
theorem quiesced_stops (s : State) (n : Nat) : vatStateOf (quiesced s n) n = 2 ∧ getReg (quiesced s n) (R.VAT_CELL_RUN (phys s n)) = 0 ∧
    (quiesced s n).fw.quiesce = s.fw.quiesce ∧ (quiesced s n).parlour = s.parlour ∧ supHalted (quiesced s n) = supHalted s := by
  have hset : settled (writeCellRun s (phys s n) 0) = settled s := settled_writeCellRun ..
  have hrun := getReg_writeCellRun_same s (phys s n) 0
  have hhalt := writeCellRun_supHalted s (phys s n) 0
  unfold quiesced
  generalize writeCellRun s (phys s n) 0 = w at *
  exact ⟨vatStateOf_setVatState_same .., hrun, (quiesce_of_settled hset :), (parlour_of_settled hset :), hhalt⟩

/-! ### VAT.QUIESCE (R144, R212) -/

/-- An ACTIVE vat that admits no more, and QUIESCING. -/
def shutting (s : State) (n : Nat) : State := setVatState (setBit s (R.VAT_CTRL (phys s n)) 4 false) n 1
/-- Its unpinned tickets are moved, and the command is noted. -/
def closing (s : State) (p n : Nat) : State :=
  let u := admitWaiting (drainUnpinned (shutting s n) (phys (shutting s n) n))
  { u with fw := { u.fw with quiesce := u.fw.quiesce ++ [(p, n)] } }
theorem closing_closes (s : State) (p n : Nat) : vatStateOf (closing s p n) n = 1 ∧ admits (closing s p n) (phys s n) = false ∧
    (closing s p n).fw.quiesce = s.fw.quiesce ++ [(p, n)] := by
  have h : posture (admitWaiting (drainUnpinned (shutting s n) (phys (shutting s n) n))) = posture (shutting s n) := by simp
  unfold closing
  generalize admitWaiting (drainUnpinned (shutting s n) (phys (shutting s n) n)) = u at h ⊢
  refine ⟨(vatStateOf_of_posture h n).trans (vatStateOf_setVatState_same ..), (admits_of_posture h _).trans ?_, ?_⟩
  · exact getBit_setBit_same s _ 4 false (by decide)
  · exact congrArg (· ++ [(p, n)]) (quiesce_of_posture h : u.fw.quiesce = (shutting s n).fw.quiesce)
/-- DRAINED is shown, if it was not yet. -/
def drainedShown (s : State) (p : Nat) : State :=
  if (getVat s p).drainedSeen then s else raiseVat (modVat s p (fun v => { v with drainedSeen := true })) p 3
theorem settled_drainedShown (q : Nat) : settled (drainedShown s q) = settled s := by
  unfold drainedShown
  split
  · rfl
  · simp
theorem drainedShown_supHalted (s : State) (q : Nat) : supHalted (drainedShown s q) = supHalted s := by
  simp only [drainedShown, raiseVat]
  split
  · rfl
  split
  · rfl
  · rfl
theorem execDrained_drained {vat : VatId} (hd : drained s (phys s vat.val) = true) (h1 : vatStateOf s vat.val = 1) :
    execDrained vat s = .next (endQuiesce (quiesced (drainedShown s (phys s vat.val)) vat.val) vat.val sOK) := by
  have hv : vatStateOf (drainedShown s (phys s vat.val)) vat.val = 1 :=
    (vatStateOf_of_settled (settled_drainedShown _) _).trans h1
  unfold drainedShown at hv ⊢
  simp only [execDrained, hd, Bool.not_true, Bool.false_eq_true, if_false, hv, if_true]

/-- The state in which DRAINED ends the command (R212). -/
theorem drained_shown {vat : VatId} (hd : drained s (phys s vat.val) = true) (h1 : vatStateOf s vat.val = 1) :
    ∃ w, execDrained vat s = .next (endQuiesce w vat.val sOK) ∧ vatStateOf w vat.val = 2 ∧ w.fw.quiesce = s.fw.quiesce ∧
      w.parlour = s.parlour ∧ findTaken w = findTaken s := by
  have hset := settled_drainedShown (s := s) (phys s vat.val)
  have hhalt := drainedShown_supHalted s (phys s vat.val)
  obtain ⟨hst, -, hqu, hparl, hq⟩ := quiesced_stops (drainedShown s (phys s vat.val)) vat.val
  have hp := hparl.trans (parlour_of_settled hset)
  exact ⟨_, execDrained_drained hd h1, hst, hqu.trans (quiesce_of_settled hset), hp, findTaken_congr (hq.trans hhalt) hp⟩

/-! ### VAT.RELOAD (R145, R191, R192) -/

theorem settled_dropCauses (q : Nat) : settled (dropCauses s q) = settled s := by
  unfold dropCauses
  exact foldl_keeps settled _ (fun _ _ => settled_modCell ..) _ _
@[simp] theorem settled_abandonAll (q : Nat) : settled (abandonAll s q) = settled s := by
  simp only [abandonAll]
  split
  · split
    · simp
    · simp
  · split
    · simp
    · simp
@[simp] theorem settled_writeLoadCtrl (q : Nat) (v : BitVec 16) : settled (writeLoadCtrl s q v) = settled s := by
  simp only [writeLoadCtrl]
  split
  · rfl
  split
  · simp
  split
  · simp
  split
  · simp
  · exact (settled_modVat ..).trans ((settled_abandonAll _).trans (settled_dropCauses _))
theorem settled_startLoad (q i : Nat) : settled (startLoad s q i) = settled s := settled_writeLoadCtrl ..

/-- The loader has started, and the command is noted. -/
def loadNoted (s : State) (p n image : Nat) : State :=
  let u := startLoad s (phys s n) image
  { u with fw := { u.fw with reload := u.fw.reload ++ [(p, n)] } }

/-! ### VAT.TRIM (R214) -/

/-- The clock of the vat at a position is stopped, on a new code, behind a boundary in HOLD. -/
def trimming (s : State) (q : Nat) (code : BitVec 10) : State := setTrim (setFld s (R.VAT_CTRL q) 3 2 1) q code
theorem trimming_holds (s : State) (q : Nat) (code : BitVec 10) :
    boundary (trimming s q code) q = 1 ∧ (getVat (trimming s q code) q).clkStable = false :=
  ⟨getFld_setFld_same s _ 3 2 1 (by decide) (by decide), congrArg Vat.clkStable (getVat_setVat_same ..)⟩
/-- The trim of logical vat n to a frequency has begun, on a code the choice of which is free, and the command is noted (log entry 27). -/
def trimNoted (s : State) (p n mhz : Nat) : State :=
  let u := trimming (draw16 s).2 (phys s n) ((draw16 s).1.setWidth 10)
  { u with fw := { u.fw with trims := u.fw.trims ++ [⟨p, n, mhz, (getVat s (phys s n)).trim⟩] } }
theorem trimNoted_holds (s : State) (p n mhz : Nat) :
    (trimNoted s p n mhz).fw.trims = s.fw.trims ++ [⟨p, n, mhz, (getVat s (phys s n)).trim⟩] ∧
    boundary (trimNoted s p n mhz) (phys s n) = 1 ∧ (getVat (trimNoted s p n mhz) (phys s n)).clkStable = false := by
  obtain ⟨hb, hc⟩ := trimming_holds (draw16 s).2 (phys s n) ((draw16 s).1.setWidth 10)
  exact ⟨rfl, hb, hc⟩
/-- The boundary of the vat at a position is OPEN and its clock runs, on a code. -/
def trimmed (s : State) (tr : Trim) (q : Nat) (code : BitVec 10) : State :=
  modVat (setFld { s with fw := { s.fw with trims := s.fw.trims.erase tr } } (R.VAT_CTRL q) 3 2 0) q
    (fun u => { u with trim := code, clkStable := true })
theorem trimmed_runs (s : State) (tr : Trim) (q : Nat) (code : BitVec 10) : boundary (trimmed s tr q code) q = 0 ∧
    (getVat (trimmed s tr q code) q).clkStable = true ∧ (getVat (trimmed s tr q code) q).trim = code := by
  unfold trimmed
  generalize ({ s with fw := { s.fw with trims := s.fw.trims.erase tr } } : State) = u
  have hv := getVat_setVat_same (setFld u (R.VAT_CTRL q) 3 2 0) q
  refine ⟨getFld_setFld_same u _ 3 2 0 (by decide) (by decide), ?_, ?_⟩
  · rw [modVat, hv]
  · rw [modVat, hv]
/-- A measurement within 1 % keeps the code, another restores the old one (R214). -/
theorem execTrimMeasurementEnd_at {vat : VatId} {khz : BitVec 32} {tr : Trim} (h : s.fw.trims.find? (fun x => x.vat == vat.val) = some tr)
    {good : Bool} (hg : (decide (tr.mhz * 990 ≤ khz.toNat) && decide (khz.toNat ≤ tr.mhz * 1010)) = good) :
    execTrimMeasurementEnd vat khz s =
      .next (completeCmd (trimmed s tr (phys s vat.val) (if good then (getVat s (phys s vat.val)).trim else tr.old)) tr.pail 0x0B04
        (respond (if good then sOK else sINTERNAL) 0x0B04 [])) := by
  unfold execTrimMeasurementEnd
  rw [h]
  dsimp only
  rw [hg]
  cases good with
  | true => rfl
  | false => rfl

/-! ### VAT.RESUME (R142, R215) -/

theorem activate_opens (s : State) (n : Nat) : vatStateOf (activate s n) n = 0 ∧ admits (activate s n) (phys s n) = true ∧
    getReg (activate s n) (R.VAT_CELL_RUN (phys s n)) = ~~~(getReg s (R.VAT_CELL_HALTED (phys s n))) := by
  have hctrl : R.VAT_CTRL (phys s n) ≠ R.VAT_CELL_RUN (phys s n) := by unfold R.VAT_CTRL R.VAT_CELL_RUN; omega
  have hhalt : R.VAT_CELL_HALTED (phys s n) ≠ R.VAT_CTRL (phys s n) := by unfold R.VAT_CTRL R.VAT_CELL_HALTED; omega
  refine ⟨?_, ?_, ?_⟩
  · exact (vatStateOf_of_settled (s := setBit (setVatState s n 0) (R.VAT_CTRL (phys s n)) 4 true) (settled_writeCellRun ..) n).trans
      (vatStateOf_setVatState_same ..)
  · exact (congrArg (bit · 4) (getReg_writeCellRun_other _ _ hctrl)).trans (getBit_setBit_same _ _ 4 true (by decide))
  · exact (getReg_writeCellRun_same ..).trans (congrArg (~~~ ·) (getReg_setBit_other _ 4 true hhalt))
/-- A vat that is resumed: an offset set since takes effect. -/
def tuned (s : State) (n : Nat) : State := if n ∈ s.fw.calDue then setTrim s (phys s n) (trimFromCal s n) else s
/-- A vat that is resumed, with the tickets it takes then. -/
def resumed (s : State) (n : Nat) : State :=
  admitWaiting (activate { tuned s n with fw := { (tuned s n).fw with calDue := (tuned s n).fw.calDue.erase n } } n)
theorem tuned_frame (s : State) (n : Nat) : ∃ v, tuned s n = { s with vats := v } := by
  unfold tuned
  split
  · exact ⟨_, rfl⟩
  · exact ⟨_, rfl⟩

theorem resumed_opens (s : State) (n : Nat) : vatStateOf (resumed s n) n = 0 ∧ admits (resumed s n) (phys s n) = true ∧
    getReg (resumed s n) (R.VAT_CELL_RUN (phys s n)) = ~~~(getReg s (R.VAT_CELL_HALTED (phys s n))) := by
  obtain ⟨v, hv⟩ := tuned_frame s n
  unfold resumed
  generalize hu : ({ tuned s n with fw := _ } : State) = u
  have hp : phys u = phys s := by rw [← hu, hv]; rfl
  have hr (w : Nat) : getReg u w = getReg s w := by rw [← hu, hv]; rfl
  obtain ⟨hst, had, hrun⟩ := activate_opens u n
  have hpost : posture (admitWaiting (activate u n)) = posture (activate u n) := posture_admitWaiting
  rw [hp] at had hrun
  rw [hr] at hrun
  exact ⟨(vatStateOf_of_posture hpost n).trans hst, (admits_of_posture hpost _).trans had, (cellRun_of_posture hpost _).trans hrun⟩

end Sys2Proof.Machine
end

section
/-!
PROOFS. How a vat is powered down, and how VAT.RETIRE puts a spare in its place (R146, R216).
-/
namespace Sys2Proof.Machine

variable {s t u : State}

/-! ### VAT_CTRL (R186, R221) -/

theorem tget_tclear_other {α : Type} (d : Nat → α) (m : Tbl α) {lo hi k : Nat} (h : k < lo ∨ hi ≤ k) : tget d (tclear m lo hi) k = tget d m k := by
  induction m with
  | nil => rfl
  | cons q rest ih =>
    unfold tclear at ih ⊢
    by_cases hq : lo ≤ q.1 ∧ q.1 < hi
    · have hk : q.1 ≠ k := by omega
      simp only [List.filter_cons, hq, decide_true, Bool.and_self, Bool.not_true, Bool.false_eq_true, if_false, tget, hk, ih]
    · have hb : (!(decide (lo ≤ q.1) && decide (q.1 < hi))) = true := by simpa [imp_iff_not_or] using hq
      simp only [List.filter_cons, hb, if_true, tget, ih]
theorem getReg_vatOff (s : State) (p : Nat) : getReg (vatOff s p) (R.VAT_CTRL p) = getReg s (R.VAT_CTRL p) := by
  have h (b : Nat) (m : Tbl (BitVec 16)) (hb : b ≤ 0x30400000) : tget regReset (tclear m (b + 0x1000 + p * 0x1000) (b + 0x2000 + p * 0x1000))
      (R.VAT_CTRL p) = tget regReset m (R.VAT_CTRL p) := tget_tclear_other _ _ (.inr (by unfold R.VAT_CTRL; omega))
  exact (h _ _ (by decide)).trans ((h _ _ (by decide)).trans (h _ _ (by decide)))
/-- What VAT_CTRL holds after a write over its old settings. -/
def ctrlWritten (old v : BitVec 16) : BitVec 16 :=
  BitVec.ofNat 16 (b2n (bit v 4) * 16 + min 2 (fld v 3 2) * 4 + b2n (bit v 1 || (bit old 1 && decide (fld old 3 2 = 0))) * 2 +
    b2n (bit v 0 || (bit old 0 && !bit v 0 && (decide (fld old 3 2 ≠ 2) || bit old 1))))
theorem getReg_writeVatCtrl (s : State) (p : Nat) (v : BitVec 16) :
    getReg (writeVatCtrl s p v) (R.VAT_CTRL p) = ctrlWritten (getReg s (R.VAT_CTRL p)) v := by
  simp only [writeVatCtrl]
  split
  · exact getReg_setReg_same ..
  split
  · exact (getReg_vatOff ..).trans (getReg_setReg_same ..)
  · exact getReg_setReg_same ..
theorem b2n_le (b : Bool) : b2n b ≤ 1 := by cases b <;> decide
theorem fld_ctrlWritten (old v : BitVec 16) : fld (ctrlWritten old v) 3 2 = min 2 (fld v 3 2) := by
  unfold ctrlWritten
  have ha := b2n_le (bit v 4)
  have hb := b2n_le (bit v 1 || (bit old 1 && decide (fld old 3 2 = 0)))
  have hc := b2n_le (bit v 0 || (bit old 0 && !bit v 0 && (decide (fld old 3 2 ≠ 2) || bit old 1)))
  generalize b2n (bit v 4) = a at *
  generalize b2n (bit v 1 || _) = b at *
  generalize b2n (bit v 0 || _) = c at *
  generalize fld v 3 2 = m
  rw [fld, BitVec.toNat_ofNat]
  omega
/-- Over a CLOSED boundary the write with POWER alone set stops the clock. -/
theorem ctrlWritten_closed {old : BitVec 16} (h : fld old 3 2 = 2) : ctrlWritten old 0x0009 = 0x0009 := by
  simp only [ctrlWritten, h]
  generalize bit old 0 = a
  generalize bit old 1 = b
  revert a b
  decide
/-- Closed first, then without a clock, and then without power: each write stands when the next is made. -/
theorem powerDown_ctrl (s : State) (p : Nat) : getReg (powerDown s p) (R.VAT_CTRL p) = 0x0008 := by
  have hclosed : fld (ctrlWritten (getReg s (R.VAT_CTRL p)) (putFld (getReg s (R.VAT_CTRL p) &&& 0x000F) 3 2 2)) 3 2 = 2 := by
    rw [fld_ctrlWritten, fld_putFld_same _ _ _ _ (by decide) (by decide)]
    rfl
  simp only [powerDown, getReg_writeVatCtrl, ctrlWritten_closed hclosed]
  decide
theorem powerDown_unpowered (s : State) (p : Nat) : powered (powerDown s p) p = false := by
  rw [powered, getBit, powerDown_ctrl]
  decide

/-! ### What is kept -/

theorem settled_modNoise (p : Nat) (f : Noise → Noise) : settled (modNoise s p f) = settled s := rfl
@[simp] theorem settled_vatOff (p : Nat) : settled (vatOff s p) = settled s := rfl
@[simp] theorem settled_writeVatCtrl (p : Nat) (v : BitVec 16) : settled (writeVatCtrl s p v) = settled s := by
  simp only [writeVatCtrl]
  generalize hx : setReg _ (R.VAT_CTRL p) _ = x
  have hkeep : settled x = settled s := by
    rw [← hx, settled_setReg]
    split
    · exact settled_fault ..
    · rfl
  split
  · rw [settled_modNoise, settled_modVat, hkeep]
  split
  · rw [settled_vatOff, settled_modVat, hkeep]
  · exact hkeep
@[simp] theorem settled_powerDown (p : Nat) : settled (powerDown s p) = settled s := by simp only [powerDown, settled_writeVatCtrl]
@[simp] theorem settled_setRegs (w : Nat) (vs : List (BitVec 16)) : settled (setRegs s w vs) = settled s := by
  induction vs generalizing s w with
  | nil => rfl
  | cons v vs ih => exact ih (w + 1)
theorem settled_loaderPart (p n off : Nat) (ws : List Word) : settled (loaderPart s p n off ws) = settled s := by
  unfold loaderPart
  split
  · simp
  · simp
theorem settled_loaderWrite (p n off size : Nat) (ws : List Word) : settled (loaderWrite s p n off size ws) = settled s := by
  unfold loaderWrite
  split
  · exact foldl_keeps settled _ (fun _ _ => settled_loaderPart ..) _ _
  · exact (settled_writeMems ..).trans rfl
theorem settled_loadCell (p n entry evb k : Nat) (code dat : List (BitVec 16)) : settled (loadCell p n entry evb code dat s k) = settled s :=
  (settled_setCell ..).trans ((settled_loaderPart ..).trans ((settled_loaderWrite ..).trans (settled_loaderWrite ..)))
@[simp] theorem settled_runLoader (p a : Nat) : settled (runLoader s p a) = settled s := by
  simp only [runLoader, settled_modVat, settled_setReg, settled_setRegs, settled_loaderWrite]
  exact foldl_keeps settled _ (fun _ _ => settled_loadCell ..) _ _
@[simp] theorem settled_loadRoots (p : Nat) : settled (loadRoots s p) = settled s := rfl
theorem settled_lateRoots (p : Nat) : settled (lateRoots s p) = settled s := by
  unfold lateRoots
  split
  · rfl
  · rfl
theorem settled_chnKatEnd (p : Nat) (pass : Bool) : settled (chnKatEnd s p pass) = settled s := by
  simp only [chnKatEnd]
  split
  · split
    · simp
    · simp
  · rfl
theorem settled_macKatEnd (p : Nat) (pass : Bool) : settled (macKatEnd s p pass) = settled s := by
  simp only [macKatEnd]
  split
  · split
    · simp
    · simp
  · rfl
theorem settled_writeChnKat (p : Nat) (v : BitVec 16) : settled (writeChnKat s p v) = settled s := by
  simp only [writeChnKat]
  split
  · rfl
  · rfl
theorem settled_writeMacKat (p : Nat) (v : BitVec 16) : settled (writeMacKat s p v) = settled s := by
  simp only [writeMacKat]
  split
  · rfl
  · rfl
theorem settled_draw16 (s : State) : settled (draw16 s).2 = settled s := rfl
theorem settled_spareTests (p : Nat) (ok : Bool) : settled (spareTests s p ok) = settled s := by
  have h : settled (writeMacKat (writeChnKat (lateRoots (writeVatCtrl s p 0x000B) p) p 0x8000) p 0x8000) = settled s := by
    rw [settled_writeMacKat, settled_writeChnKat, settled_lateRoots, settled_writeVatCtrl]
  simp only [spareTests]
  split
  · rw [settled_macKatEnd, settled_chnKatEnd, h]
  · rw [settled_macKatEnd, settled_chnKatEnd, settled_draw16, h]

end Sys2Proof.Machine
end

section
/-!
PROOFS. VAT.RETIRE with a spare (R216): the spare's vat, loaded and with the curves put back, takes the retired vat's number.
-/
namespace Sys2Proof.Machine

variable {s t u : State} {n x : Nat}

/-- A state with other states of its vats. -/
def withVatStates (s : State) (l : Tbl Nat) : State := { s with fw := { s.fw with vatState := l } }
theorem settled_withVatStates (s : State) (l : Tbl Nat) : settled (withVatStates s l) = withVatStates (settled s) l := rfl
/-- All that putting the curves into the churn of vat n again can have changed of what firmware keeps: the vat's own state, and not even
that where no curve is stored (R240). -/
def CurvesRestored (s t : State) (n : Nat) : Prop :=
  ∃ l, settled t = settled (withVatStates s l) ∧
    (∀ m, m ≠ n → tget (fun _ => (0 : Nat)) l m = vatStateOf s m) ∧ (s.store.curves = [] → l = s.fw.vatState)

theorem CurvesRestored.of_settled (h : settled t = settled s) : CurvesRestored s t n := ⟨s.fw.vatState, h, fun _ _ => rfl, fun _ => rfl⟩
theorem CurvesRestored.keeps (h : CurvesRestored s t n) (hu : settled u = settled t) : CurvesRestored s u n := by
  obtain ⟨l, hl, hm, hc⟩ := h
  exact ⟨l, hu.trans hl, hm, hc⟩
theorem settled_setVatState (s : State) (n v : Nat) : settled (setVatState s n v) = setVatState (settled s) n v := rfl
theorem CurvesRestored.halted (h : CurvesRestored s t n) (hne : s.store.curves ≠ []) : CurvesRestored s (setVatState t n 5) n := by
  obtain ⟨l, hl, hm, -⟩ := h
  refine ⟨tset (fun _ => (0 : Nat)) l n 5, ?_, fun m hmn => (tget_tset_other _ _ _ hmn).trans (hm m hmn), fun hc => absurd hc hne⟩
  rw [settled_setVatState, hl]
  rfl
theorem settled_curveFaulty (s : State) (n : Nat) : settled (curveFaulty s n) = settled (setVatState s n 5) :=
  (settled_fault ..).trans (settled_setBit ..)
theorem restoreCurves_restored (s : State) (n : Nat) : CurvesRestored s (restoreCurves s n) n := by
  refine List.foldlRecOn s.store.curves _ (motive := (CurvesRestored s · n)) (.of_settled rfl) fun t ht q hq => ?_
  have hne : s.store.curves ≠ [] := List.ne_nil_of_mem hq
  split
  · exact ht
  · next c _ =>
    have htry := settled_tryCurve (s := t) (phys t n) q.1 c
    split
    · next w hw =>
      rw [hw] at htry
      exact ((ht.keeps htry).halted hne).keeps (settled_curveFaulty ..)
    · next w hw =>
      rw [hw] at htry
      exact ht.keeps htry

theorem CurvesRestored.of_base (h : settled u = settled s) (hr : CurvesRestored u t n) : CurvesRestored s t n := by
  obtain ⟨l, hl, hm, hc⟩ := hr
  have hbase : settled (withVatStates u l) = settled (withVatStates s l) := by rw [settled_withVatStates, h, settled_withVatStates]
  exact ⟨l, hl.trans hbase, fun m hmn => (hm m hmn).trans (vatStateOf_of_settled h m), fun hs =>
    (hc ((congrArg Store.curves (store_of_settled h)).trans hs)).trans (vatState_of_settled h)⟩

/-! ### The spare takes the number (R187, R216) -/

/-- What firmware notes of the vat that has logical number n from now on. -/
def noted (s : State) (n : Nat) (image : Tbl Nat) : State := { s with fw := { s.fw with vatImage := image, vatBad := s.fw.vatBad.erase n } }
/-- Logical vats n and x have exchanged their positions, n is QUIESCED, or HALTED where a curve was refused, and x is RETIRED. -/
def replaced (s : State) (n x : Nat) (image : Tbl Nat) : State :=
  noted (setVatState (setVatState (swapRemap s n x) n (if vatStateOf s x = 5 then 5 else 2)) x 3) n image
theorem settled_noted (s : State) (n : Nat) (image : Tbl Nat) : settled (noted s n image) = noted (settled s) n image := rfl
theorem retireTo_replaces (s : State) (n x : Nat) :
    ∃ z image, CurvesRestored s z x ∧ settled (retireTo s n x) = settled (replaced z n x image) := by
  unfold retireTo
  extract_lets pl pv image t u old z y raiseTo y' w halted v v'
  have ht : CurvesRestored s t x := .of_base ((settled_runLoader ..).trans (settled_abandonAll _)) (restoreCurves_restored _ x)
  clear_value t
  have hu : settled u = settled t := (settled_modVat ..).trans (settled_loadRoots _)
  clear_value u
  have hz : settled z = settled u := settled_powerDown _
  clear_value z
  have hy : settled y' = settled y := foldl_keeps settled _ (fun _ _ => settled_modMac ..) _ _
  clear_value y'
  have hw : settled w = settled y := (settled_setFld ..).trans hy
  have hhalt : vatStateOf w x = vatStateOf z x := vatStateOf_of_settled hw x
  clear_value w
  have hv' : settled v' = settled v := by
    show settled (if n = 0 then setBit v (R.MAC_CFG pv) 0 true else v) = settled v
    split
    · exact settled_setBit ..
    · rfl
  have hv : settled v = settled (setVatState (setVatState y n (if vatStateOf z x = 5 then 5 else 2)) x 3) := by
    show settled (setVatState (setVatState w n (if halted then 5 else 2)) x 3) = _
    have hh : (if halted then 5 else 2) = if vatStateOf z x = 5 then 5 else 2 := by
      simp only [halted, decide_eq_true_eq, hhalt]
    rw [hh, settled_setVatState, settled_setVatState, hw]
    rfl
  clear_value v' v
  refine ⟨z, tset (fun _ => (0 : Nat)) v'.fw.vatImage n image, ht.keeps (hz.trans hu), ?_⟩
  show settled (noted v' n _) = settled (noted _ n _)
  rw [settled_noted, settled_noted, hv'.trans hv]

theorem parlour_of_restored {z : State} (h : CurvesRestored s z x) : z.parlour = s.parlour := by
  obtain ⟨l, hl, -, -⟩ := h
  exact (parlour_of_settled hl).trans (rfl : (withVatStates s l).parlour = s.parlour)
theorem phys_of_restored {z : State} (h : CurvesRestored s z x) : phys z = phys s := by
  obtain ⟨l, hl, -, -⟩ := h
  exact (phys_of_settled hl).trans (rfl : phys (withVatStates s l) = phys s)
theorem vatStateOf_replaced (s : State) (h : x ≠ n) (image : Tbl Nat) :
    vatStateOf (replaced s n x image) n = (if vatStateOf s x = 5 then 5 else 2) ∧ vatStateOf (replaced s n x image) x = 3 := by
  have hnoted (u : State) (m : Nat) : vatStateOf (noted u n image) m = vatStateOf u m := rfl
  rw [replaced, hnoted, hnoted, vatStateOf_setVatState_same, vatStateOf_setVatState_other _ _ h.symm, vatStateOf_setVatState_same]
  exact ⟨rfl, rfl⟩
theorem vatBad_of_settled (h : settled t = settled s) : t.fw.vatBad = s.fw.vatBad := by
  show (settled t).fw.vatBad = (settled s).fw.vatBad
  rw [h]
theorem phys_swapRemap (s : State) {a b : Nat} (h : b ≠ a) : phys (swapRemap s a b) a = phys s b ∧ phys (swapRemap s a b) b = phys s a := by
  have hlt (k : Nat) : phys s k % 34 = phys s k := Nat.mod_mod ..
  refine ⟨?_, ?_⟩
  · show tget (fun k => k) (tset (fun k => k) (tset (fun k => k) s.remap a (phys s b)) b (phys s a)) a % 34 = phys s b
    rw [tget_tset_other _ _ _ h.symm, tget_tset_same, hlt]
  · show tget (fun k => k) (tset (fun k => k) (tset (fun k => k) s.remap a (phys s b)) b (phys s a)) b % 34 = phys s a
    rw [tget_tset_same, hlt]
/-- What a retirement with a spare leaves (R216). -/
theorem retireTo_outcome (hs : settled t = settled s) (hx : x ≠ n) (h4 : vatStateOf s x = 4) :
    (vatStateOf (retireTo t n x) n = 2 ∨ vatStateOf (retireTo t n x) n = 5) ∧
    (s.store.curves = [] → vatStateOf (retireTo t n x) n = 2) ∧ vatStateOf (retireTo t n x) x = 3 ∧
    phys (retireTo t n x) n = phys s x ∧ phys (retireTo t n x) x = phys s n ∧ (retireTo t n x).fw.vatBad = s.fw.vatBad.erase n ∧
    (retireTo t n x).parlour = s.parlour := by
  obtain ⟨z, image, hz, hr⟩ := retireTo_replaces t n x
  replace hz : CurvesRestored s z x := hz.of_base hs
  obtain ⟨hrn, hrx⟩ := vatStateOf_replaced z hx image
  have hn : vatStateOf (retireTo t n x) n = if vatStateOf z x = 5 then 5 else 2 := (vatStateOf_of_settled hr n).trans hrn
  obtain ⟨hpn, hpx⟩ := phys_swapRemap z hx
  have hphys : phys (retireTo t n x) = phys (swapRemap z n x) := (phys_of_settled hr).trans (rfl : phys (replaced z n x image) = _)
  refine ⟨?_, fun hc => ?_, ?_, ?_, ?_, ?_, ?_⟩
  · rw [hn]
    split
    · exact .inr rfl
    · exact .inl rfl
  · obtain ⟨l, hl, -, hnone⟩ := hz
    have hzx : vatStateOf z x = 4 := by
      rw [vatStateOf_of_settled hl x, vatStateOf, hnone hc]
      exact h4
    rw [hn, if_neg (by omega)]
  · exact (vatStateOf_of_settled hr x).trans hrx
  · rw [hphys, hpn, phys_of_restored hz]
  · rw [hphys, hpx, phys_of_restored hz]
  · obtain ⟨l, hl, -, -⟩ := hz
    exact (vatBad_of_settled hr).trans (congrArg (·.erase n) (vatBad_of_settled hl))
  · have hz' : (replaced z n x image).parlour = s.parlour := parlour_of_restored (z := z) hz
    exact (parlour_of_settled hr).trans hz'
/-- The remap record is stored as it stands (R218). -/
def recorded (s : State) : State := setCfg s 8 0 (some (remapRecord s))
/-- A vat without a spare is powered down and RETIRED (R146). -/
def retiredAlone (s : State) (n : Nat) : State := setVatState (powerDown s (phys s n)) n 3
theorem retiredAlone_retired (s : State) (n : Nat) :
    vatStateOf (recorded (retiredAlone s n)) n = 3 ∧ powered (recorded (retiredAlone s n)) (phys s n) = false ∧
      (recorded (retiredAlone s n)).parlour = s.parlour := by
  have hoff := powerDown_unpowered s (phys s n)
  have hparl : (powerDown s (phys s n)).parlour = s.parlour := parlour_of_settled (settled_powerDown _)
  unfold retiredAlone
  generalize powerDown s (phys s n) = w at *
  exact ⟨vatStateOf_setVatState_same .., hoff, hparl⟩
theorem spareOf_spare (h : spareOf s = some x) : vatStateOf s x = 4 := by
  simpa using List.find?_some h
theorem remapRecord_congr (hp : phys t = phys s) (hv : vatStateOf t = vatStateOf s) : remapRecord t = remapRecord s := by
  simp only [remapRecord, hp, hv]
theorem recorded_record (s : State) (p : Nat) (seq : BitVec 16) (resp : Response) :
    getCfg (complete (recorded s) p seq resp) 8 0 = some (remapRecord (complete (recorded s) p seq resp)) := by
  have hrec : remapRecord (complete (recorded s) p seq resp) = remapRecord s := remapRecord_congr rfl rfl
  rw [hrec]
  exact getCfg_setCfg_same s 8 0 _

end Sys2Proof.Machine
end

section
/-!
PROOFS. VAT. commands (R142 to R146, R211 to R219): the status is read, vats are quiesced, reloaded, trimmed, retired and resumed.
-/
namespace Sys2Proof.Machine

variable {s : State} {p : Pail} {d : Doorbell} {r : Request}

theorem vatFree_iff {n : Nat} (hl : s.fw.reload.any (fun x => x.2 == n) = false) (ht : s.fw.trims.any (fun x => decide (x.vat = n)) = false) :
    ¬ (vatStateOf s n ≠ 2 ∨ vatCommandRuns s n = true) ↔ vatStateOf s n = 2 := by
  simp [vatCommandRuns_iff, hl, ht]
/-- When VAT.RELOAD, VAT.TRIM and VAT.RETIRE are refused. -/
theorem vatRefused_iff (s : State) (n : Nat) : (vatStateOf s n ≠ 2 ∨ vatCommandRuns s n = true) ↔
    (vatStateOf s n ≠ 2 ∨ s.fw.reload.any (fun x => x.2 == n) = true ∨ s.fw.trims.any (fun x => decide (x.vat = n)) = true) := by
  rw [vatCommandRuns_iff]

theorem vatStateOf_complete (s : State) (p n : Nat) (seq : BitVec 16) (x : Response) : vatStateOf (complete s p seq x) n = vatStateOf s n := rfl
theorem getReg_complete (s : State) (p w : Nat) (seq : BitVec 16) (x : Response) : getReg (complete s p seq x) w = getReg s w := rfl
theorem admits_complete (s : State) (p q : Nat) (seq : BitVec 16) (x : Response) : admits (complete s p seq x) q = admits s q := rfl
theorem powered_complete (s : State) (p q : Nat) (seq : BitVec 16) (x : Response) : powered (complete s p seq x) q = powered s q := rfl

/-- A trim's command ends with the outcome of the measurement. -/
theorem answers_trimEnd {vat : VatId} {khz : BitVec 32} {tr : Trim} (htr : s.fw.trims.find? (fun x => x.vat == vat.val) = some tr)
    {good : Bool} (hg : (decide (tr.mhz * 990 ≤ khz.toNat) && decide (khz.toNat ≤ tr.mhz * 1010)) = good) :
    Answers (.trimMeasurementEnd vat khz) s fun t => t.fw.trims = s.fw.trims.erase tr ∧ boundary t (phys s vat.val) = 0 ∧
      (getVat t (phys s vat.val)).clkStable = true ∧
      (getVat t (phys s vat.val)).trim = (if good then (getVat s (phys s vat.val)).trim else tr.old) ∧
      (p.val = tr.pail → Taken s p 0x0B04 d r → Completed s t p d (respond (if good then sOK else sINTERNAL) 0x0B04 [])) := by
  refine ⟨_, execTrimMeasurementEnd_at htr hg, ?_⟩
  generalize (if good then (getVat s (phys s vat.val)).trim else tr.old) = code
  generalize respond (if good then sOK else sINTERNAL) 0x0B04 [] = resp
  obtain ⟨hb, hc, ht⟩ := trimmed_runs s tr (phys s vat.val) code
  have hfw : (trimmed s tr (phys s vat.val) code).fw.trims = s.fw.trims.erase tr := rfl
  have htaken : findTaken (trimmed s tr (phys s vat.val) code) = findTaken s := findTaken_congr rfl rfl
  have hparl : (trimmed s tr (phys s vat.val) code).parlour = s.parlour := rfl
  generalize trimmed s tr (phys s vat.val) code = w at *
  have hdone (hp : p.val = tr.pail) (h : Taken s p 0x0B04 d r) : Completed s (completeCmd w tr.pail 0x0B04 resp) p d resp := by
    rw [← hp, completeCmd_taken (by rw [htaken]; exact h)]
    exact completed_of_parlour hparl _
  obtain ⟨q, hq⟩ := completeCmd_frame w tr.pail 0x0B04 resp
  rw [hq] at hdone ⊢
  exact ⟨hfw, hb, hc, ht, hdone⟩

/-! ### VAT.RETIRE (R146, R216) -/

section
variable (h : Taken s p 0x0B05 d r) (hfit : ¬ (vatStateOf s (vatArg r) ≠ 2 ∨ vatCommandRuns s (vatArg r) = true))
include h hfit

/-- Without a spare the vat is powered down. -/
theorem answers_retireAlone (kat : Bool) (hswap : s.swap = none) (hspare : spareOf s = none) (h24 : 24 ≤ activeVats s - 1) :
    Answers (.vatRetire p kat) s fun t => vatStateOf t (vatArg r) = 3 ∧ powered t (phys s (vatArg r)) = false ∧
      getCfg t 8 0 = some (remapRecord t) ∧ Completed s t p d (respond sOK r.command [0xFF]) := by
  obtain ⟨hret, hoff, hparl⟩ := retiredAlone_retired s (vatArg r)
  have hleft : ¬ activeVats s - 1 < 24 := Nat.not_lt.2 h24
  refine answers_serve (w := recorded (retiredAlone s (vatArg r))) (resp := respond sOK r.command [0xFF]) rfl h ?_
    ⟨(vatStateOf_complete ..).trans hret, (powered_complete ..).trans hoff, recorded_record .., completed_of_parlour hparl _⟩
  simp only [hfit, if_false, hspare, Option.isSome_none, Bool.false_eq_true, hleft, hswap]
  rfl

variable {x : Nat} (h2 : vatStateOf s (vatArg r) = 2) (hswap : s.swap = none) (hspare : spareOf s = some x) (h24 : 24 ≤ activeVats s)
include h2 hswap hspare h24

/-- A spare that passes its tests takes the vat's number. -/
theorem answers_retireTo : Answers (.vatRetire p true) s fun t =>
    (vatStateOf t (vatArg r) = 2 ∨ vatStateOf t (vatArg r) = 5) ∧ (s.store.curves = [] → vatStateOf t (vatArg r) = 2) ∧
      vatStateOf t x = 3 ∧ phys t (vatArg r) = phys s x ∧ phys t x = phys s (vatArg r) ∧ getCfg t 8 0 = some (remapRecord t) ∧
      t.fw.vatBad = s.fw.vatBad.erase (vatArg r) ∧ Completed s t p d (respond sOK r.command [BitVec.ofNat 8 (phys s x)]) := by
  have h4 := spareOf_spare hspare
  have hx : x ≠ vatArg r := fun e => absurd (h4.symm.trans ((congrArg (vatStateOf s) e).trans h2)) (by decide)
  obtain ⟨hst, hsteady, hret, hpn, hpx, hbad, hparl⟩ := retireTo_outcome (settled_spareTests (phys s x) true) hx h4
  refine answers_serve (w := recorded (retireTo (spareTests s (phys s x) true) (vatArg r) x))
    (resp := respond sOK r.command [BitVec.ofNat 8 (phys s x)]) rfl h ?_ ?_
  · simp only [hfit, if_false, hspare, Option.isSome_some, if_true, Nat.sub_zero, Nat.not_lt.2 h24, hswap, Option.isSome_none,
      Bool.false_eq_true, Bool.not_true]
    rfl
  · generalize retireTo (spareTests s (phys s x) true) (vatArg r) x = w at *
    exact ⟨hst, hsteady, hret, hpn, hpx, recorded_record .., hbad, completed_of_parlour hparl _⟩
/-- One that fails them is powered down again. -/
theorem answers_retireFailed : Answers (.vatRetire p false) s fun t => vatStateOf t (vatArg r) = 2 ∧ t.remap = s.remap ∧
    powered t (phys s x) = false ∧ Completed s t p d (respond sINTERNAL r.command []) := by
  have hset : settled (powerDown (spareTests s (phys s x) false) (phys s x)) = settled s := (settled_powerDown _).trans (settled_spareTests ..)
  have hoff := powerDown_unpowered (spareTests s (phys s x) false) (phys s x)
  refine answers_serve (w := powerDown (spareTests s (phys s x) false) (phys s x)) (resp := respond sINTERNAL r.command []) rfl h ?_ ?_
  · simp only [hfit, if_false, hspare, Option.isSome_some, if_true, Nat.sub_zero, Nat.not_lt.2 h24, hswap, Option.isSome_none,
      Bool.false_eq_true, Bool.not_false]
    rfl
  · generalize powerDown (spareTests s (phys s x) false) (phys s x) = w at *
    exact ⟨(vatStateOf_of_settled hset _).trans h2, (remap_of_settled hset :), hoff, completed_of_parlour (parlour_of_settled hset) _⟩
end

/-- Settles O34: what moves or admits tickets leaves the vats' states and settings (`posture`), what stops, loads, tests or powers a vat
leaves what firmware keeps (`settled`), and a retirement exchanges two positions (`retireTo_outcome`). -/
theorem vatCommandsComplete : Obligations.VatCommandsComplete := by
  intro s p d r
  dsimp only
  refine ⟨fun khz h => ?_, fun h => ⟨fun hm => ?_, fun hm h0 => ?_, fun hm h5 => ?_, fun hm h0 h5 => ?_⟩, fun vat h1 hq h => ?_,
    fun h => ⟨fun hm => ?_, fun hm h2 hl ht => ⟨fun hi ho => ?_, fun hi ho => ?_, fun hi => ?_⟩, fun hm hno => ?_⟩,
    fun h => ⟨fun hm => ?_, fun hm h2 ht hl => ?_, fun hm hno => ?_⟩, fun vat khz tr htr => ⟨fun hlo hhi => ?_, fun hoff => ?_⟩,
    fun h => ?_, fun h => ⟨fun h2 hb hl ht => ?_, fun hno => ?_⟩⟩
  · exact answers_serve rfl h rfl rfl
  · exact answers_serve_on rfl h (if_pos hm) rfl
  · refine answers_serve_on (w := closing s p.val (u16 r.body 0)) rfl h ?_ (closing_closes ..)
    simp only [vatArg, hm, if_false, h0, OfNat.zero_ne_ofNat, ne_eq, not_true_eq_false, closing, shutting]
  · obtain ⟨hst, hreg, -, hparl, -⟩ := quiesced_stops s (u16 r.body 0)
    refine answers_serve (w := quiesced s (u16 r.body 0)) rfl h ?_
      ⟨(vatStateOf_complete ..).trans hst, (getReg_complete ..).trans hreg, completed_of_parlour hparl _⟩
    simp only [vatArg, hm, h5, if_false, if_true]
    rfl
  · refine answers_serve rfl h ?_ rfl
    simp only [vatArg, hm, h5, h0, if_false, if_true, ne_eq, not_false_eq_true]
    rfl
  · refine ⟨fun hd => ?_, fun hd => ?_, ?_⟩
    · obtain ⟨w, hw, hst, hqu, hparl, htaken⟩ := drained_shown hd h1
      have hfind := endQuiesce_taken (n := vat.val) (s := w) (by rw [hqu]; exact hq) (by rw [htaken]; exact h) sOK
      refine ⟨_, hw.trans (congrArg _ hfind), (vatStateOf_complete ..).trans hst, congrArg (List.erase · (p.val, vat.val)) hqu, ?_⟩
      exact completed_of_parlour hparl _
    · refine ⟨drainUnpinned s (phys s vat.val), ?_, rfl⟩
      show execDrained vat s = _
      simp only [execDrained, hd, h1, Bool.not_false, if_true]
    · refine ⟨_, (if_pos h1).trans (congrArg _ (endQuiesce_taken hq h sPARTIAL)), (vatStateOf_complete ..).trans h1, rfl, ?_⟩
      exact completed_of_parlour rfl _
  · exact idles_serve rfl h (if_pos hm)
  · have hfit := (vatFree_iff hl ht).2 h2
    have hset : settled (startLoad s (phys s (u16 r.body 0)) (u16 r.body 2)) = settled s := settled_startLoad ..
    refine answers_serve_on (w := loadNoted s p.val (u16 r.body 0) (u16 r.body 2)) rfl h ?_ ?_
    · simp only [vatArg, hm, if_false, hfit, hi, Bool.not_true, Bool.false_eq_true, phys_of_settled hset, ho, loadNoted]
    · rw [loadNoted, reload_of_settled hset]
  · have hfit := (vatFree_iff hl ht).2 h2
    have hset : settled (startLoad s (phys s (u16 r.body 0)) (u16 r.body 2)) = settled s := settled_startLoad ..
    refine answers_serve (w := startLoad s (phys s (u16 r.body 0)) (u16 r.body 2)) rfl h ?_ (completed_of_parlour (parlour_of_settled hset) _)
    simp only [vatArg, hm, if_false, hfit, hi, Bool.not_true, Bool.false_eq_true, phys_of_settled hset, ho, if_true]
    rfl
  · refine answers_serve rfl h ?_ rfl
    simp only [vatArg, hm, if_false, (vatFree_iff hl ht).2 h2, hi, Bool.not_false, if_true]
    rfl
  · exact answers_serve rfl h ((if_neg hm).trans (if_pos ((vatRefused_iff ..).2 hno))) rfl
  · exact idles_serve rfl h (if_pos hm)
  · refine answers_serve_on (w := trimNoted s p.val (u16 r.body 0) (u16 r.body 2)) rfl h ?_ (trimNoted_holds ..)
    have hmine : (s.fw.trims.any fun x => decide (x.pail = p.val) && decide (x.vat = vatArg r)) = false := hm
    have hfit : ¬ (vatStateOf s (vatArg r) ≠ 2 ∨ vatCommandRuns s (vatArg r) = true) := (vatFree_iff hl ht).2 h2
    simp only [hmine, Bool.false_eq_true, if_false, hfit]
    rfl
  · refine answers_serve rfl h ?_ rfl
    have hno' : vatStateOf s (u16 r.body 0) ≠ 2 ∨ vatCommandRuns s (u16 r.body 0) = true := (vatRefused_iff ..).2 (hno.imp_right Or.symm)
    exact (if_neg (Bool.eq_false_iff.1 hm)).trans (if_pos hno')
  · have hgood : (decide (tr.mhz * 990 ≤ khz.toNat) && decide (khz.toNat ≤ tr.mhz * 1010)) = true := by simp [hlo, hhi]
    exact answers_trimEnd htr hgood
  · have hbad : (decide (tr.mhz * 990 ≤ khz.toNat) && decide (khz.toNat ≤ tr.mhz * 1010)) = false := by
      simpa using fun hlo => by omega
    exact answers_trimEnd htr hbad
  · refine ⟨fun kat hno => ?_, fun kat hmay hswap h24 => ?_, fun kat hmay hswap hspare h24 => ?_, fun kat hmay hspare hfew => ?_,
      fun x kat hmay hspare hfew => ?_, fun x hmay hswap hspare h24 => ?_⟩
    · refine answers_serve rfl h ?_ rfl
      have hno' : vatStateOf s (u16 r.body 0) ≠ 2 ∨ vatCommandRuns s (u16 r.body 0) = true := by
        rw [vatRefused_iff]
        simpa only [not_and_or, Bool.not_eq_false, ne_eq] using hno
      exact if_pos hno'
    all_goals
      obtain ⟨h2, hl, ht⟩ := hmay
      have hfit : ¬ (vatStateOf s (vatArg r) ≠ 2 ∨ vatCommandRuns s (vatArg r) = true) := (vatFree_iff hl ht).2 h2
    · refine idles_serve rfl h ?_
      simp only [hfit, if_false, Nat.not_lt.2 h24, hswap, if_true]
    · exact answers_retireAlone h hfit kat hswap hspare h24
    · refine answers_serve rfl h ?_ rfl
      simp only [hfit, if_false, hspare, Option.isSome_none, Bool.false_eq_true, hfew, if_true]
      rfl
    · refine answers_serve rfl h ?_ rfl
      simp only [hfit, if_false, hspare, Option.isSome_some, Nat.sub_zero, hfew, if_true]
      rfl
    · exact ⟨answers_retireTo h hfit h2 hswap hspare h24, answers_retireFailed h hfit h2 hswap hspare h24⟩
  · have hfree : ¬ (vatStateOf s (u16 r.body 0) ≠ 2 ∨ u16 r.body 0 ∈ s.fw.vatBad ∨ vatCommandRuns s (u16 r.body 0) = true) := by
      have := (vatFree_iff hl ht).2 h2
      tauto
    obtain ⟨hst, had, hrun⟩ := resumed_opens s (u16 r.body 0)
    refine answers_serve (w := resumed s (u16 r.body 0)) rfl h ?_
      ⟨rfl, (vatStateOf_complete ..).trans hst, (admits_complete ..).trans had, (getReg_complete ..).trans hrun⟩
    simp only [vatArg, hfree, if_false]
    rfl
  · refine answers_serve rfl h ?_ rfl
    have hno' : vatStateOf s (u16 r.body 0) ≠ 2 ∨ u16 r.body 0 ∈ s.fw.vatBad ∨ vatCommandRuns s (u16 r.body 0) = true := by
      rw [vatCommandRuns_iff]
      exact hno
    simp only [vatArg, hno', if_true]
    rfl

end Sys2Proof.Machine
end
